-- ==== Sys2Proof/Word.lean ====
section
/-!
DEFINITION. The plain word types of the model: bytes and lines of bytes.
-/

namespace Sys2Proof

/-- One byte, as packets, registers and records carry it (R3). -/
abbrev Byte := BitVec 8

/-- A run of bytes, lowest address first (R3). -/
abbrev Bytes := List Byte

end Sys2Proof
end

