-- ==== Sys2Proof/Syntax.lean ====
section
/-!
DEFINITION. The commands of the block: one constructor per row of spec/opcode_table.json, with the operands that
the outside world, a link partner, a host, the manager, a sensor or the wires bring to that step.
-/

namespace Sys2Proof

/-- The transports of R308. A hierarchy mailbox names its agent. -/
inductive Transport where
  | boot
  | i3cA
  | i3cB
  | mailbox (agent : Nat)
  deriving DecidableEq, Repr

/-- A vendor request as it arrives: the endpoint ID it came from, the fields of the 16-byte header of R311, and the
bytes after the header. The opcode is the command's own. -/
structure Req where
  eid : Nat := 0
  session : Nat := 255
  alive : Nat := 0
  flags : Nat := 0
  rsv : Nat := 0
  plen : Nat := 0
  epoch : Nat := 0
  crc : Nat := 0
  payload : Bytes := []
  deriving DecidableEq, Repr

/-- MetaValue of a CXL.mem message; `noOp` stands for MetaField No-Op (R92). -/
inductive Meta where
  | a
  | s
  | i
  | noOp
  deriving DecidableEq, Repr

/-- The snoop responses of R116. -/
inductive BiRsp where
  | i
  | s
  | e
  deriving DecidableEq, Repr

/-- The S2M completions of R93; `none` is a message without one. -/
inductive Cmp where
  | none
  | cmp
  | cmpS
  | cmpE
  deriving DecidableEq, Repr

/-- An HDM decoder as a host programs it (R182): base and size of its host physical range, interleave ways and granularity, and the grotto
DPA it skips before its own. Size 0 takes no address. -/
structure Hdm where
  base : Nat := 0
  size : Nat := 0
  ways : Nat := 1
  gran : Nat := 256
  skip : Nat := 0
  deriving DecidableEq, Repr

/-- Whose bus a configuration request names (R158): the upstream port's, the internal bus of the vPPBs, or a vPPB's secondary bus. -/
inductive BusSel where
  | upstream
  | internal
  | secondary
  deriving DecidableEq, Repr

/-- A register of configuration space (R4, R150, R244): a 4-byte register by its offset, or one of those whose effect the spec describes: the
addresses at which the service function's BARs stand, Bus Master Enable, the max payload size, MSI-X control (bit 0 enable, bit 1 function
mask; of the management function, bit 0 is MSI enable), the AER registers, error reporting, ACS, and slot status. -/
inductive CfgReg where
  | dword (off : Nat)
  | bar0
  | bar2
  | busMaster
  | maxPayload
  | msixCtl
  | aerStatus
  | aerMask
  | aerHeader
  | errCtl
  | acs
  | slotStatus
  deriving DecidableEq, Repr

/-- What the rule store shows at a guard's check (R216). -/
inductive RuleFault where
  | none
  | corrected (rule : Nat)
  | uncorrectable (rule : Nat)
  deriving DecidableEq, Repr

/-- The messages a partner may bring to a port (R92, R156, R205): the CXL.mem requests, a host's back-invalidate responses and `BIConflict`, CXL.io,
CXL.cache requests by their kind, and CXL.cache responses and data. -/
inductive HostOp where
  | memRd (m : Meta)
  | memRdData
  | memInv (m : Meta)
  | memWr (m : Meta)
  | memWrPtl (m : Meta)
  | memClnEvct
  | memOther
  | biRsp (r : BiRsp)
  | biConflict
  | ioRead
  | ioWrite
  | ioAtomic
  | ioCfg
  | ioMsg
  | ioCpl
  | cacheRead
  | cacheOwn
  | cacheWrite
  | cacheOther
  | cacheRsp
  deriving DecidableEq, Repr

/-- A request at an ingress port: message, vPPB and carried address, length, tag, requester ID, data, the poison mark, whether the link or a
fault cut the packet after its first cell (R84), and the SPID and DPID of a PBR message (R169, R205, R206). A configuration request names bus,
device, function and register (R158); a write into a grotto's decoders says which it programs, and how (R182); `store` is what the rule store
shows at the check (R216). -/
structure HostReq where
  op : HostOp
  vppb : Nat := 0
  addr : Nat := 0
  len : Nat := 64
  tag : Nat := 0
  requester : Nat := 0
  data : Bytes := []
  poison : Bool := false
  cut : Bool := false
  spid : Nat := 0
  dpid : Nat := 0
  bus : BusSel := .secondary
  dev : Nat := 0
  fn : Nat := 0
  reg : CfgReg := .dword 0
  hdm : Option (Nat × Hdm) := none
  store : RuleFault := .none
  deriving DecidableEq, Repr

/-- What the arrays show at a lookup (R100, R109, R129, R130): no error, a corrected entry error at a way, an
uncorrectable codeword at a way (with which codewords are still good), the same with the shadow lost too, one bad
stash copy, or both. -/
inductive LookupFault where
  | none
  | corrected (way : Nat)
  | uncorrectable (way : Nat) (good0 good1 : Bool)
  | shadowLost (way : Nat)
  | stashCopy
  | stashBoth
  deriving DecidableEq, Repr

/-- What link training found (R131, R149, R154, R166, R171): partner version and device type codes of `PORT_STATE`,
the protocols offered, the flit modes and highest rate offered, the lanes and rate the link settled at, reversal, the capacity in
256 MiB units a memory device reports at enumeration, and the transmitter coefficients the partner last asked of each logical lane
during equalisation (R142). -/
structure Partner where
  version : Nat := 2
  devType : Nat := 0
  io : Bool := true
  mem : Bool := false
  cache : Bool := false
  bi : Bool := false
  pbr : Bool := false
  flitModes : Nat := 1
  maxRate : Nat := 6
  rate : Nat := 6
  lanes : Nat := 2
  reversed : Bool := false
  capacity : Nat := 0
  coefs : List (Int × Int × Int) := []
  deriving DecidableEq, Repr

/-- What a link that comes back through Recovery settles at beside its rate (R143, R149): its lanes, and whether it has equalised anew. -/
structure Retrain where
  lanes : Nat := 16
  equalised : Bool := false
  deriving DecidableEq, Repr

/-- A gallery's fill of a slot (R41, R84): the gallery, and the cells that are read from their queue with an ECC or parity fault, as (column, place in
the fill of its passage). -/
structure SlotFill where
  gal : Nat
  bad : List (Nat × Nat) := []
  deriving DecidableEq, Repr

/-- A read of a passage receive buffer (R56, R84): the passage's column, and whether the cell shows an ECC or parity fault. -/
structure RxRead where
  col : Nat
  bad : Bool := false
  deriving DecidableEq, Repr

/-- A back-invalidate response with what the arrays show when it is served (R95, R100, R129). -/
structure SnoopAnswer where
  rsp : BiRsp
  fault : LookupFault := .none
  deriving DecidableEq, Repr

/-- A partner's margin request (R147): its lane, and whether it asks for the capabilities. -/
structure MarginAsk where
  lane : Nat
  report : Bool := false
  deriving DecidableEq, Repr

/-- A check slot as an operation finds it (R261): its number, and whether its context shows an uncorrectable error. -/
structure CtxAt where
  slot : Nat
  lost : Bool := false
  deriving DecidableEq, Repr

/-- The data of a device's reply (R164): its bytes, none where it carries no data, and the poison mark. -/
structure ReplyData where
  bytes : Bytes := []
  poison : Bool := false
  deriving DecidableEq, Repr

/-- What the link brings to one flit boundary (R223, R225, R234): which classes have link credit (bit per class code of R35), the boundary's
place after the present drip in units of 1/3200 drip, the flit count N of a packet that could start, as the packer computes it, with the N of
each queue whose head has another, whether the flits under way leave a slot unused here, and an error met in sending. -/
structure PickIn where
  credit : Nat := 127
  frac : Nat := 0
  flits : Nat := 1
  each : List (Nat × Nat) := []
  slot : Bool := true
  uncorr : Bool := false
  deriving DecidableEq, Repr

/-- The commands: one constructor per row of spec/opcode_table.json. Vendor commands carry their transport and request. -/
inductive Instr where
  /-- `COLD_RESET_ASSERT` (R293): PWR_OK or COLD_RST_N going low resets the processors, the data plane, the slots and the time master, and invalidates the kept image. -/
  | coldResetAssert (pwrOk : Bool)
  /-- `COLD_RESET_RELEASE` (R385): At the effective release of cold reset, every drip counter starts at 0, the schedule starts and the ROM enters ROM_INIT. -/
  | coldResetRelease (bootSel : Nat)
  /-- `MGMT_RESET_ASSERT` (R293): MGMT_RST_N going low makes the bridge drain the posted writes it has accepted, resets both clusters and loses every session and stage. -/
  | mgmtResetAssert
  /-- `MGMT_RESET_RELEASE` (R330): Release of a management reset restarts both clusters from ROM while the data plane, E and H stay unchanged. -/
  | mgmtResetRelease
  /-- `THERMAL_TRIP` (R390): A sensor reading of 118 °C or more drives THERM_TRIP_N low and enters internal cold reset within 10 µs. -/
  | thermalTrip (die temp : Nat)
  /-- `MONITOR_SAMPLE` (R354): Every 100 µs the monitors test die temperature and the mean of each rail, and raise EV_THERMAL as needed. -/
  | monitorSample (temps rails : List Nat)
  /-- `REF_CLOCK_LOST` (R16): Loss of the selected system reference switches to the other reference with phase build-out, or enters holdover. -/
  | refClockLost (ref : Nat)
  /-- `REF_GOOD_TIMER` (R16): A reference that has been good for 1 s is returned to under revertive or forced mode. -/
  | refGoodTimer (ref : Nat)
  /-- `MASTER_SPLIT` (R15): The two counters of the time master disagree; the master keeps the healthy counter and raises EV_TIME_UNSURE. -/
  | masterSplit (bad : Nat)
  /-- `BEACON_SEND` (R17): Every 1,024 drips the time master sends a beacon on both distribution trees. -/
  | beaconSend
  /-- `BEACON_RECEIVED` (R17): An island checks a beacon copy and slews out its phase error by at most 1/64 drip. -/
  | beaconReceived (island beacon at64 : Nat) (crcOk : Bool) (phase : Int)
  /-- `BEACON_MISSED` (R17): No good beacon copy has arrived by compensated count B + 32, and the island's miss count rises. -/
  | beaconMissed (island beacon : Nat)
  /-- `RECALIBRATION_START` (R20): Firmware starts recalibration of an unsure island after it has received 16 consecutive good beacons. -/
  | recalibrationStart (island : Nat)
  /-- `CALIBRATION_END` (R20): Recalibration of an island ends; the island is sure again and EV_TIME_UNSURE with cause ISLAND_SURE is raised. -/
  | calibrationEnd (island delay : Nat)
  /-- `ARM_MESSAGE` (R27): An island receives an arm message for drip T, arms and acknowledges it. -/
  | armMessage (arm island : Nat)
  /-- `LAUNCH_DECIDE` (R27): At T − 512 the master checks the acknowledgements and sends a cancel if any is missing. -/
  | launchDecide (arm : Nat)
  /-- `LAUNCH` (R27): At drip T every armed island that received no cancel performs the action on one edge. -/
  | launch (arm : Nat)
  /-- `PPS_EDGE` (R29): A follower measures a TIME_PPS_IN edge against its own count and trims its reference. -/
  | ppsEdge (at16 : Nat)
  /-- `PPS_MISSING` (R29): After 3 consecutive missing pulses the follower enters holdover with cause PPS_LOST. -/
  | ppsMissing
  /-- `PPS_OUT_PULSE` (R28): A leader, or a repeating follower, drives TIME_PPS_OUT high for 80,000 drips at every multiple of 800,000,000. -/
  | ppsOutPulse
  /-- `SLOT_BOUNDARY` (R41): At each slot start a gallery fills each outbound passage with up to 168 cells toward the gallery the schedule names. -/
  | slotBoundary (r : SlotFill)
  /-- `ROTATION_BOUNDARY` (R44): At a rotation boundary a gallery applies changes to the columns it uses. -/
  | rotationBoundary (g : Nat)
  /-- `COLUMN_CROSSBAR_CHANGE` (R39): A column changes its crossbar from slot n to slot n + 1. -/
  | columnCrossbarChange (c : Nat) (agree : Bool)
  /-- `COLUMN_DRAIN_END` (R45): At B + 112 the column is OFFLINE for that gallery, unacknowledged cells are replayed and EV_COLUMN_OFFLINE is raised. -/
  | columnDrainEnd (g c : Nat)
  /-- `PROBING_END` (R46): After 64 rotations of clean probing the return of the column is armed. -/
  | probingEnd (c : Nat)
  /-- `ADMISSION_TIMEOUT` (R46): An admission whose return has not launched within 200 µs fails with cause ADMIT_FAILED. -/
  | admissionTimeout (c : Nat)
  /-- `CELL_ARRIVAL` (R54): A whole cell arrives at a gallery passage end, is checked and is stored in the receive buffer. -/
  | cellArrival (g c mask : Nat)
  /-- `ACK_TIMER` (R54): An ACK is sent 32 drips after the earliest unacknowledged cell of a stream was received. -/
  | ackTimer (g c i : Nat)
  /-- `ACK_RECEIVED` (R55): A valid ACK frees the replay entries of its stream up to ACK_SEQ; a bad one kills the passage. -/
  | ackReceived (g c m seq check : Nat)
  /-- `ACK_TIMEOUT` (R59): The oldest replay entry is unacknowledged 256 drips after launch, and the outbound passage dies. -/
  | ackTimeout (g c : Nat)
  /-- `RECEIVE_BUFFER_RELEASE` (R56): A cell of a ready class leaves a passage receive buffer toward the resequencer once it is admitted. -/
  | receiveBufferRelease (g : Nat) (c : RxRead)
  /-- `ADVERT` (R42): An ADVERT sideband word arrives and updates relay permission and the hold-off mask toward its sender. -/
  | advert (g c m relayOpen xoff : Nat)
  /-- `FLOW` (R57): A FLOW sideband word arrives, and the sender honours its XOFF mask for cells not yet started. -/
  | flow (g c m xoff : Nat)
  /-- `GRANT_SEND` (R58): After a class has been held off for 27 drips, the receiver sends a GRANT for a slot at least 4 slots ahead. -/
  | grantSend (g c cls : Nat)
  /-- `GRANT` (R58): A GRANT arrives and lets its sender place up to GCOUNT cells of the class in the named slot. -/
  | grant (g c m cls count slot : Nat)
  /-- `GRANT_EXPIRY` (R58): An unused grant expires at slot start + 28 drips. -/
  | grantExpiry (g c cls slot : Nat)
  /-- `NOTICE` (R52): A NOTICE sideband word, or a notice from the beacon trees, tells a sequencer of a dead passage, an untrusted column or an unsure gallery. -/
  | notice (g code num : Nat)
  /-- `PASSAGE_ERROR` (R60): A passage end detects a parity, marker, header or sideband error; the passage dies, KILL is sent and NOTICE goes out. -/
  | passageError (p endp cause lane : Nat)
  /-- `FORWARDED_CLOCK_LOST` (R59): A forwarded-clock lane shows no edge for 4 lane-word periods, and the passage dies with cause CLOCK. -/
  | forwardedClockLost (p endp lane : Nat)
  /-- `KILL` (R60): Receipt of a KILL lane word makes the far end treat the passage as dead and discard what it received. -/
  | kill (p endp : Nat)
  /-- `PASSAGE_DRAIN_END` (R64): At B + 112 of a TEST drain, the passage dies with cause COMMANDED and the pattern test begins. -/
  | passageDrainEnd (p : Nat)
  /-- `PASSAGE_TEST_END` (R64): The lane pattern test ends, and EV_PASSAGE_DEAD with cause TEST_ENDED is raised. -/
  | passageTestEnd (p errors outMask inMask : Nat)
  /-- `PASSAGE_ADMIT_END` (R65): A passage admission ends alive or failed, and the ADMIT reply is sent. -/
  | passageAdmitEnd (p result errors : Nat)
  /-- `RESEQ_HOLE_TIMEOUT` (R81): A hole open for 1,600 drips is skipped for ECHO, or reported once with EV_RESEQ_HOLE for a lossless class. -/
  | reseqHoleTimeout (g srcGal srcPort cls : Nat)
  /-- `RD_SHARED` (R93): A slice looks up a RdShared request and serves it, snoops or defers it, as the state table gives. -/
  | rdShared (g sl : Nat) (f : LookupFault)
  /-- `RD_ANY` (R93): A slice looks up a RdAny request and handles it as the state table gives. -/
  | rdAny (g sl : Nat) (f : LookupFault)
  /-- `RD_OWN` (R93): A slice looks up a RdOwn request, invalidates other holders and grants E. -/
  | rdOwn (g sl : Nat) (f : LookupFault)
  /-- `INV_OWN` (R93): A slice looks up an InvOwn request and grants M without data. -/
  | invOwn (g sl : Nat) (f : LookupFault)
  /-- `RD_CUR` (R93): A slice looks up a RdCur request and returns current data without recording the requester. -/
  | rdCur (g sl : Nat) (f : LookupFault)
  /-- `WRITE` (R93): A slice looks up a Write and writes the device or merges the data into the stash. -/
  | writeReq (g sl : Nat) (f : LookupFault)
  /-- `EVICT` (R93): A slice looks up an Evict and removes the evicting agent from the entry. -/
  | evict (g sl : Nat) (f : LookupFault)
  /-- `RETRY` (R118): A due deferred request is looked up again; a set-queue request takes the way reserved to it. -/
  | retry (g sl : Nat) (f : LookupFault)
  /-- `BIRSP` (R95): A snoop response arrives on the snoop-answer path and may complete the transaction and set the next state. -/
  | birsp (g sl agent key : Nat) (a : SnoopAnswer)
  /-- `BICONFLICT` (R119): A BIConflict arrives, and BIConflictAck is sent at once or right after the pending reply. -/
  | biconflict (g sl agent key : Nat)
  /-- `SNOOP_PATH_WRITE` (R116): A Write or Evict of a snooped agent is served on the snoop-answer path, to the device or captured into the stash. -/
  | snoopPathWrite (g sl : Nat)
  /-- `DEVICE_ACCESS_COMPLETE` (R93): A device read or write issued by a slice completes or times out, and may end the transaction. -/
  | deviceAccessComplete (id : Nat) (ok : Bool) (data : Bytes) (poison : Bool)
  /-- `SNOOP_TIMER_CHECK` (R121): Every 1,024 drips a slice declares lost the snoops unanswered for BI_TIMEOUT_US, poisons owned lines and raises EV_BI_TIMEOUT. -/
  | snoopTimerCheck (g sl : Nat)
  /-- `DISCARD_REPORT` (R186): A slice receives a report that a grant reply was discarded at a USP egress, and undoes the grant. -/
  | discardReport (g sl agent key : Nat)
  /-- `FENCE_SWEEP_STEP` (R124): A fence sweep takes one set every four slice cycles, poisons the fenced agent's owned lines and clears its sharer bits. -/
  | fenceSweepStep (g sl agent set : Nat)
  /-- `FENCE_SWEEP_END` (R127): The sweeps end in every gallery, and EV_HOST_LINES_LOST is raised. -/
  | fenceSweepEnd (agent : Nat)
  /-- `POINTER_STORE_PASS` (R105): A slice's pointer store passes its start-up self-test, and the slice enters pointer mode. -/
  | pointerStorePass (g sl : Nat)
  /-- `FULL_ARRAY_SELF_TEST_END` (R105): A full array self-test ends; a pass starts conversion to full mode, and a failure starts a migration or recovery pointer mode. -/
  | fullArraySelfTestEnd (g sl : Nat) (pass : Bool)
  /-- `CONVERSION_STEP` (R104): A slice moves one set between the pointer store and the full array. -/
  | conversionStep (g sl : Nat)
  /-- `CONVERSION_END` (R105): A conversion ends, and EV_DIR_POINTER_MODE is raised. -/
  | conversionEnd (g sl : Nat)
  /-- `MIGRATION_SET_COPY` (R106): Once all ways of set P are BMig, they are copied to the target, P advances and held requests are forwarded. -/
  | migrationSetCopy (g : Nat)
  /-- `MIGRATION_END` (R106): At P = 65,536 the slice map names the target, and EV_SLICE_SPARED is raised. -/
  | migrationEnd (g : Nat)
  /-- `ECC_INTERVAL_END` (R109): A one-second interval ends, and a new count of slice errors begins. -/
  | eccIntervalEnd (g sl : Nat)
  /-- `SLICE_TEST_END` (R112): A DIR_SLICE_TEST finishes, and the slice becomes SPARE or FAILED, or converts back. -/
  | sliceTestEnd (g sl : Nat) (pass : Bool) (failArray failAddr : Nat)
  /-- `LINK_UP` (R166): A port reports DL_Active with the protocols its role requires, comes up and raises EV_LINK_UP. -/
  | linkUp (port : Nat) (p : Partner)
  /-- `LINK_DOWN` (R166): A port goes down on Detect, Disabled, Hot Reset or DL_Down, and its queued packets are handled under R392. -/
  | linkDown (port cause : Nat)
  /-- `PACKET_AT_DOWN_PORT` (R392): A packet that reaches the egress of a down port is redirected, answered or discarded according to the port's role. -/
  | packetAtDownPort (port : Nat)
  /-- `LANE_REFCLK_LOST` (R134): A lost LANE_REFCLK moves its 32 lanes to the internal reference; COMMON ports go down. -/
  | laneRefclkLost (j : Nat)
  /-- `LANE_REFCLK_GOOD` (R134): A lost LANE_REFCLK has been good for 1 s, and its COMMON ports may retrain. -/
  | laneRefclkGood (j : Nat)
  /-- `ADAPTATION_UPDATE` (R142): Every 1,024 drips the taps move by one unit under sign-sign LMS; the CTLE moves at most every 65,536 drips. -/
  | adaptationUpdate (lane : Nat) (dirs : List Int) (ctleDir : Int)
  /-- `TAP_PINNED` (R144): A tap that has been at its limit for 1 s raises EV_LINK_DEGRADED with cause TAP_PINNED. -/
  | tapPinned (lane tap : Nat)
  /-- `IDLE_TIMER_EXPIRY` (R146): The port's egress queues have been empty for its idle timer, and it enters L1, L1.1 or L1.2. -/
  | idleTimerExpiry (port target : Nat)
  /-- `LOW_POWER_EXIT_COMPLETE` (R145): The link reaches L0 on every lane, and the saved taps resume. -/
  | lowPowerExitComplete (port rate : Nat) (t : Retrain)
  /-- `PARTNER_MARGIN_REQUEST` (R147): A partner's lane margining request is served, or waits for a running LANE_MARGIN measurement. -/
  | partnerMarginRequest (q : MarginAsk)
  /-- `MARGIN_MEASUREMENT_END` (R148): A LANE_MARGIN measurement ends or is aborted, and its reply is sent. -/
  | marginMeasurementEnd (lane bits errors : Nat)
  /-- `DEV_TIMEOUT` (R164): A CXL.mem request to a Type 3 device has no reply within T_dev and is handled as unreachable. -/
  | devTimeout (port id : Nat)
  /-- `INGRESS_DECODE` (R204): A request is decoded at ingress: window and grotto map, generation stamp, and the guard's span check. -/
  | ingressDecode (port : Nat) (q : HostReq)
  /-- `GUARD_RESTORE_END` (R216): Firmware finishes rewriting a faulted guard from the copy store, and the guard reopens with EV_GUARD_FAULT cause RESTORED. -/
  | guardRestoreEnd (port : Nat) (copyOk : Bool)
  /-- `EGRESS_ENQUEUE` (R226): A packet enters its fair-stage queue and receives its start and finish tags. -/
  | egressEnqueue (port : Nat)
  /-- `EGRESS_PICK` (R227): On a flit boundary the scheduler picks from the strict stage or the eligible fair queue with the smallest tags. -/
  | egressPick (port : Nat) (i : PickIn)
  /-- `GATE_ENTRY_CHANGE` (R233): At an entry boundary the gate masks change, and a replacing list takes effect at its cycle start. -/
  | gateEntryChange (port : Nat)
  /-- `DOORBELL` (R249): A write to an endpoint's DOORBELL sends the contents of its send window as an Echo message through the steps of R249. -/
  | doorbell (agent ep win usp : Nat)
  /-- `ECHO_DELIVERY_PICK` (R252): The home island picks the highest-priority eligible head message, checks it and writes it into the receive ring. -/
  | echoDeliveryPick (g ep prio : Nat)
  /-- `INT_DELAY_EXPIRY` (R254): The oldest uninterrupted delivery is INT_DELAY × 1,024 drips old, and the vector is sent. -/
  | intDelayExpiry (agent ep : Nat)
  /-- `RING_WRITE_ACK` (R253): The USP's data link layer acknowledges every write of a delivered message, and the island releases it. -/
  | ringWriteAck (g : Nat)
  /-- `RING_RP_WRITE` (R246): A host write of RING_RP frees ring space; it is ignored when it would exceed N. -/
  | ringRpWrite (agent ep value : Nat)
  /-- `RING_EN_WRITE` (R246): A write that sets RING_EN resets RING_WP and RING_RP, or is ignored for a bad SIZE_LOG. -/
  | ringEnWrite (agent ep value : Nat)
  /-- `REGISTER_WRITE` (R4): A write to a register without behaviour of its own sets its RW fields under the access codes. -/
  | registerWrite (agent bar off size value : Nat)
  /-- `FEED` (R265): A write to a slot's FEED window feeds its bytes to the context, or sets BAD_FEED. -/
  | feed (agent : Nat) (slot : CtxAt) (off : Nat) (bytes : Bytes)
  /-- `START` (R268): OP START resets RUNNING to the init value and clears COUNT, RESULT and ERR. -/
  | startOp (agent : Nat) (slot : CtxAt)
  /-- `SEAL` (R268): OP SEAL feeds the alive byte, forms a long or short seal into SEAL_OUT and advances X. -/
  | sealOp (agent : Nat) (slot : CtxAt) (short : Bool)
  /-- `VERIFY` (R269): OP VERIFY checks SEAL_IN and sets RESULT to OK, CRC_BAD, REPEAT or GAP. -/
  | verifyOp (agent : Nat) (slot : CtxAt) (short : Bool)
  /-- `SCAN` (R270): OP SCAN starts reading SCAN_LINES lines of a grotto into the context. -/
  | scanOp (agent slot : Nat)
  /-- `SCAN_LINE_ARRIVAL` (R270): A scan read returns and its line is fed, or the scan ends on an error or after the last line. -/
  | scanLineArrival (agent : Nat) (slot : CtxAt)
  /-- `DRAIN_END` (R188): The generation's count reaches 0 and its sweep has ended, so the drain ends and EV_GROTTO_DRAINED is raised. -/
  | drainEnd (grotto gen : Nat)
  /-- `DRAIN_TIMEOUT` (R188): A drain reaches D + DRAIN_MS × 800,000 and ends whatever the count, and the generation is held. -/
  | drainTimeout (grotto gen : Nat)
  /-- `RECALL_SWEEP_STEP` (R188): A recall sweep takes one set every four slice cycles and sends BISnpInv to the grotto's agent for lines it holds. -/
  | recallSweepStep (grotto g sl set : Nat)
  /-- `RECALL_SWEEP_END` (R188): A recall sweep ends; a GROTTO_RECALL completes with EV_GROTTO_DRAINED cause RECALLED. -/
  | recallSweepEnd (grotto : Nat)
  /-- `GENERATION_HOLD_EXPIRY` (R187): A generation held after a drain timeout may be issued again 16,000,000 drips later. -/
  | generationHoldExpiry (grotto gen : Nat)
  /-- `SANITIZE_END` (R196): A sanitise run ends done, setting CLEAN, or FAILED. -/
  | sanitizeEnd (win : Nat) (ok : Bool)
  /-- `TWIN_WRITE_COMPLETE` (R191): A copy of a twin write completes, and the hold-buffer line and Cmp follow TWIN_ACK. -/
  | twinWriteComplete (g id copy : Nat) (ok : Bool)
  /-- `RESYNC_BLOCK` (R193): A resync copies one 4 KiB block from the survivor and advances P. -/
  | resyncBlock (win ext : Nat)
  /-- `RESYNC_END` (R193): An extent's resync ends and it is TWINNED; when none is left, EV_TWIN_RESYNCED is raised. -/
  | resyncEnd (win ext : Nat)
  /-- `WINDOW_REMOVE_SWEEP_END` (R195): The sweep and hold-buffer lines of a removed window are done, and its extents are freed. -/
  | windowRemoveSweepEnd (win : Nat)
  /-- `SLOT_LOOP_SAMPLE` (R275): Every 800 drips VIN and VOUT are sampled and I_allowed is recomputed for the regulation loop. -/
  | slotLoopSample (slot vin vout cur : Nat)
  /-- `FAULT_TIMER_EXPIRY` (R276): The fault timer reaches T_FAULT, and the slot trips with cause OVERCURRENT. -/
  | faultTimerExpiry (slot : Nat)
  /-- `FAULT_TIMER_CLEAR` (R276): The slot has been out of limit for 1 ms without a break, and its fault timer is cleared. -/
  | faultTimerClear (slot : Nat)
  /-- `FAST_TRIP` (R277): V_SNS above twice the limit for 160 drips trips the slot with cause SHORT and a 1 A gate pull-down. -/
  | fastTrip (slot cur : Nat)
  /-- `POWER_GOOD` (R278): The slot has been out of limit near VIN for 1 ms; it becomes ON and raises EV_SLOT_POWER_GOOD. -/
  | powerGood (slot : Nat)
  /-- `WARN_LEAD_END` (R279): WARN_LEAD_MS has passed in WARN_OFF; the gate turns off and the slot is OFF. -/
  | warnLeadEnd (slot : Nat)
  /-- `COOLDOWN_END` (R281): The cool-down ends, and the slot goes to EMPTY, RAMPING, OFF or LOCKED, or retries. -/
  | cooldownEnd (slot : Nat)
  /-- `PRESENCE_DEBOUNCED` (R282): SLOT_PRSNT_N has held a new level for 100 ms, and presence changes. -/
  | presenceDebounced (slot : Nat)
  /-- `SLOT_REMOVED` (R282): A powered slot sees presence high for 1 ms and trips at once with cause REMOVED. -/
  | slotRemoved (slot : Nat)
  /-- `FET_SHORT` (R283): VOUT stays near VIN for 100 ms after gate-off; the slot is LOCKED until cold reset. -/
  | fetShort (slot : Nat)
  /-- `BUS_SAMPLE` (R284): Every 800 drips an input bus is sampled for warning level, slope and undervoltage. -/
  | busSample (bus mv : Nat)
  /-- `BUS_WARNING_CLEAR` (R284): The bus has stayed at or above 11.4 V for 1 ms, and its warning clears. -/
  | busWarningClear (bus : Nat)
  /-- `ROM_INIT_END` (R299): ROM self-tests end, and the ROM goes to VERIFYING, LOADER or HALTED. -/
  | romInitEnd (passA passB keptOk : Bool)
  /-- `RECEIVE_TIMEOUT` (R299): RECEIVING has had no loader command for 10 s and returns to LOADER. -/
  | receiveTimeout
  /-- `VERIFY_END` (R301): Verification of the image ends and goes to FUSING, STARTING or LOADER. -/
  | verifyEnd (eccOk : Bool)
  /-- `FUSE_BIT` (R302): One fuse bit is blown and read back, or the boot ends with FUSE after three attempts. -/
  | fuseBit (readsBack : Bool)
  /-- `STARTING_END` (R299): Sections are copied and islands calibrated, and the firmware state becomes RUNNING. -/
  | startingEnd
  /-- `BRIDGE_READ_TIMEOUT` (R297): A near-to-far read not completed in 100 µs returns all ones and releases the near bus. -/
  | bridgeReadTimeout (id : Nat)
  /-- `HEARTBEAT` (R340): A cluster writes its heartbeat register in the watchdog. -/
  | heartbeat (cluster : Nat)
  /-- `HEARTBEAT_INTERVAL_END` (R340): A 1 ms interval ends; a fifth consecutive miss fails the cluster. -/
  | heartbeatIntervalEnd
  /-- `CLUSTER_SELF_REPORT` (R340): A cluster reports an uncorrectable SRAM error or asks to be failed. -/
  | clusterSelfReport (cluster : Nat) (ecc : Bool)
  /-- `STANDBY_READY` (R343): A restarted cluster becomes standby, and EV_MP_TAKEOVER cause STANDBY_READY is raised. -/
  | standbyReady (cluster : Nat)
  /-- `BOTH_RESTARTED` (R344): The first restarted cluster reaches RUNNING, takes the token and replays the journal. -/
  | bothRestarted (cluster : Nat)
  /-- `GALLERY_LOST_DECLARE` (R337): A gallery without live passages or sure core for 1 ms, or with its supply out of range, is declared lost. -/
  | galleryLostDeclare (g : Nat)
  /-- `GALLERY_LOST_HOLE_CLOSE` (R338): 20 µs after the declaration, lossless holes still open are closed by skipping. -/
  | galleryLostHoleClose (g srcGal srcPort cls : Nat)
  /-- `EVENT_RECORD_ARRIVAL` (R350): An event record enters the queue with the next sequence number, or is dropped into EV_EVENT_LOST. -/
  | eventRecordArrival (i : Nat)
  /-- `EVENT_NOTICE` (R351): At most once per 1 ms, an IBI and an MSI notify that new records have entered. -/
  | eventNotice
  /-- `SESSION_IDLE_TIMEOUT` (R320): A session with no request passing step 6 for IDLE_S seconds closes. -/
  | sessionIdleTimeout (n : Nat)
  /-- `COMMIT_SHADOWS_POSTED` (R326): Every shadow write of an accepted commit is posted, and the time master arms the launch. -/
  | commitShadowsPosted
  /-- `COMMIT_LATE_CANCEL` (R327): Shadow writes not all posted by T − 1,024 cancel the commit with CANCELLED_LATE. -/
  | commitLateCancel
  /-- `LANTERN_FRAME` (R356): Island 289 sends a 256-byte frame holding up to seven waiting trace records. -/
  | lanternFrame
  /-- `TRACE_RECORD_AGE_DROP` (R360): A trace record still unsent 8,000 drips after its DRIP is dropped and counted. -/
  | traceRecordAgeDrop
  /-- `COUNTER_SWEEP` (R363): At each multiple of SWEEP_PERIOD every counter is latched on the island's edge. -/
  | counterSweep
  /-- `SWEEP_COMPLETE` (R363): All latched values have arrived and the sweep becomes readable; an unfinished sweep is abandoned. -/
  | sweepComplete
  /-- `COUNTER_WRAP` (R366): A programmable counter wraps, sets WRAPPED and may raise EV_COUNTER_WRAP and freeze all counters of the gallery. -/
  | counterWrap (g k skid : Nat)
  /-- `SAMPLE_END` (R367): A sampled request finishes, and its record goes into the ring and onto Lantern. -/
  | sampleEnd (g id port : Nat)
  /-- `LOOPBACK_END` (R346): A PORT_LOOPBACK test ends, and EV_LINK_DEGRADED cause LOOPBACK_ENDED is raised. -/
  | loopbackEnd (port bits : Nat) (errors : List Nat) (aborted : Bool)
  /-- `SESSION_OPEN` (R321): Command that opens a session, or grants or revokes hierarchy-mailbox observers. -/
  | sessionOpen (t : Transport) (r : Req)
  /-- `SESSION_CLOSE` (R322): Command that closes the session after its reply. -/
  | sessionClose (t : Transport) (r : Req)
  /-- `MGMT_RESET` (R331): Command that resets the management plane and replies with E and H. -/
  | mgmtReset (t : Transport) (r : Req)
  /-- `GET_IDENTITY` (R332): Command that returns the vendor ID, device ID, serial, versions and boot state. -/
  | getIdentity (t : Transport) (r : Req)
  /-- `GET_EPOCH` (R329): Command that returns the epoch, digest and commit status. -/
  | getEpoch (t : Transport) (r : Req)
  /-- `STAGE_BEGIN` (R324): Command that opens a stage in an OWNER session. -/
  | stageBegin (t : Transport) (r : Req)
  /-- `STAGE_ABORT` (R324): Command that discards the session's stage. -/
  | stageAbort (t : Transport) (r : Req)
  /-- `COMMIT` (R325): Command that checks the stage again and arms it for launch as an epoch. -/
  | commit (t : Transport) (r : Req)
  /-- `PORT_CONFIG` (R170): Staged command that sets a bundle's role, width, rate, modes and settings. -/
  | portConfig (t : Transport) (r : Req)
  /-- `PORT_STATE` (R171): Command that reports a port's configuration and present state. -/
  | portState (t : Transport) (r : Req)
  /-- `PORT_ENABLE` (R172): Immediate command that disables or enables a bundle. -/
  | portEnable (t : Transport) (r : Req)
  /-- `LANE_EQ_TABLE_LOAD` (R140): Command that loads up to 16 equalisation entries, all or nothing. -/
  | laneEqTableLoad (t : Transport) (r : Req)
  /-- `LANE_MARGIN` (R148): Command that queries a lane or runs a timing or voltage margin measurement. -/
  | laneMargin (t : Transport) (r : Req)
  /-- `HIER_CREATE` (R173): Staged command that creates a hierarchy with its USPs and vPPBs. -/
  | hierCreate (t : Transport) (r : Req)
  /-- `HIER_DESTROY` (R174): Staged command that destroys a hierarchy and frees its agent ID. -/
  | hierDestroy (t : Transport) (r : Req)
  /-- `GROTTO_CREATE` (R198): Staged command that creates, redefines or deletes an UNBOUND grotto. -/
  | grottoCreate (t : Transport) (r : Req)
  /-- `GROTTO_BIND` (R199): Staged command that binds a grotto to a vPPB with a new generation. -/
  | grottoBind (t : Transport) (r : Req)
  /-- `GROTTO_UNBIND` (R200): Staged command that unbinds a grotto and starts its drain. -/
  | grottoUnbind (t : Transport) (r : Req)
  /-- `GROTTO_RECALL` (R201): Immediate command that runs the recall sweep on a BOUND grotto. -/
  | grottoRecall (t : Transport) (r : Req)
  /-- `GROTTO_STATE` (R202): Command that reports a grotto's state, generations and counts. -/
  | grottoState (t : Transport) (r : Req)
  /-- `WINDOW_DEFINE` (R194): Staged command that defines a window and its extents. -/
  | windowDefine (t : Transport) (r : Req)
  /-- `WINDOW_REMOVE` (R195): Staged command that removes a window and sweeps its extents. -/
  | windowRemove (t : Transport) (r : Req)
  /-- `WINDOW_SANITIZE` (R196): Command that queries or starts a sanitise of a window. -/
  | windowSanitize (t : Transport) (r : Req)
  /-- `WINDOW_RESYNC` (R197): Command that queries or starts a resync of a twinned window. -/
  | windowResync (t : Transport) (r : Req)
  /-- `GUARD_RULE_SET` (R217): Command that stages a guard rule or reports a committed one. -/
  | guardRuleSet (t : Transport) (r : Req)
  /-- `GUARD_RULE_CLEAR` (R218): Staged command that clears one or every unsealed rule of a guard. -/
  | guardRuleClear (t : Transport) (r : Req)
  /-- `GUARD_VIOLATION_READ` (R219): Command that reports a guard's violation record. -/
  | guardViolationRead (t : Transport) (r : Req)
  /-- `GUARD_VIOLATION_CLEAR` (R220): Immediate command that empties the violation record and returns it. -/
  | guardViolationClear (t : Transport) (r : Req)
  /-- `SCHED_QUEUE_SET` (R238): Command that stages queue shares and shapers, queue maps or class exponents, or reports a queue. -/
  | schedQueueSet (t : Transport) (r : Req)
  /-- `GATE_LIST_SET` (R240): Staged command that replaces a bundle's gate control list. -/
  | gateListSet (t : Transport) (r : Req)
  /-- `POLICER_SET` (R259): Command that stages or reports an endpoint's policer. -/
  | policerSet (t : Transport) (r : Req)
  /-- `WRED_PROFILE_SET` (R260): Command that stages or reports a WRED profile. -/
  | wredProfileSet (t : Transport) (r : Req)
  /-- `ECHO_ENDPOINT_SET` (R258): Command that stages or reports an Echo endpoint's settings and counts. -/
  | echoEndpointSet (t : Transport) (r : Req)
  /-- `CHECK_CONTEXT_ASSIGN` (R272): Command that assigns, releases or reports a check-value slot's context. -/
  | checkContextAssign (t : Transport) (r : Req)
  /-- `DIR_MODE` (R111): Command that queries a slice, changes its mode, migrates it, or stages the back-invalidate timeout. -/
  | dirMode (t : Transport) (r : Req)
  /-- `DIR_SLICE_TEST` (R112): Command that queries or starts a slice test. -/
  | dirSliceTest (t : Transport) (r : Req)
  /-- `DIR_STATS` (R113): Command that reports a slice's counts at one drip. -/
  | dirStats (t : Transport) (r : Req)
  /-- `EVENT_READ` (R352): Command that reads event records and optionally retires earlier ones. -/
  | eventRead (t : Transport) (r : Req)
  /-- `EVENT_MASK` (R353): Command that sets or reports an event suppression entry. -/
  | eventMask (t : Transport) (r : Req)
  /-- `COLUMN_STATE` (R47): Command that queries, drains or admits a column. -/
  | columnState (t : Transport) (r : Req)
  /-- `PASSAGE_TEST` (R63): Command that queries, tests or admits a passage. -/
  | passageTest (t : Transport) (r : Req)
  /-- `PORT_LOOPBACK` (R346): Command that queries, starts a near or far loopback test, or stops one. -/
  | portLoopback (t : Transport) (r : Req)
  /-- `SLOT_CONFIG` (R287): Command that sets or reports a slot's electrical parameters and enable. -/
  | slotConfig (t : Transport) (r : Req)
  /-- `SLOT_POWER` (R288): Command that turns a slot on or off, clears a lock or sets its attention indicator. -/
  | slotPower (t : Transport) (r : Req)
  /-- `SLOT_STATE` (R289): Command that reports a slot's state and measurements. -/
  | slotState (t : Transport) (r : Req)
  /-- `TRACE_CONFIG` (R369): Staged command that enables Lantern and replaces its filters. -/
  | traceConfig (t : Transport) (r : Req)
  /-- `COUNTER_CONFIG` (R370): Staged command that sets the sweep period or a gallery's programmable counters. -/
  | counterConfig (t : Transport) (r : Req)
  /-- `COUNTER_SNAPSHOT` (R372): Command that returns counter values of the readable sweep. -/
  | counterSnapshot (t : Transport) (r : Req)
  /-- `SAMPLE_CONFIG` (R371): Staged command that sets a gallery's request sampler. -/
  | sampleConfig (t : Transport) (r : Req)
  /-- `TIME_CONFIG` (R31): Immediate command that sets reference mode, PPS role and parameters, or requests a load. -/
  | timeConfig (t : Transport) (r : Req)
  /-- `TIME_READ` (R32): Command that reports the drip count, time state and an island's state. -/
  | timeRead (t : Transport) (r : Req)
  /-- `FW_INFO` (R306): Command that reports boot state, image, fuses and processor status. -/
  | fwInfo (t : Transport) (r : Req)
  /-- `LOAD_BEGIN` (R303): Loader command that checks an image header and enters RECEIVING. -/
  | loadBegin (t : Transport) (r : Req)
  /-- `LOAD_DATA` (R304): Loader command that stores and hashes the next piece of the image. -/
  | loadData (t : Transport) (r : Req)
  /-- `LOAD_END` (R305): Loader command that verifies and fuses the image and starts it. -/
  | loadEnd (t : Transport) (r : Req)
  /-- `IDENTIFY` (R310): FM API Identify command. -/
  | identify (t : Transport)
  /-- `BACKGROUND_OPERATION_STATUS` (R310): FM API command that always reports no background operation. -/
  | backgroundOperationStatus (t : Transport)
  /-- `GET_RESPONSE_MESSAGE_LIMIT` (R310): FM API command that reports the response message limit. -/
  | getResponseMessageLimit (t : Transport)
  /-- `SET_RESPONSE_MESSAGE_LIMIT` (R310): FM API command that sets the limit for FM API replies. -/
  | setResponseMessageLimit (t : Transport) (limit : Nat)
  /-- `IDENTIFY_SWITCH_DEVICE` (R310): FM API command that reports 512 ports and one VCS per hierarchy. -/
  | identifySwitchDevice (t : Transport)
  /-- `GET_PHYSICAL_PORT_STATE` (R310): FM API command that reports physical ports 0–511. -/
  | getPhysicalPortState (t : Transport) (ports : List Nat)
  /-- `GET_VIRTUAL_CXL_SWITCH_INFO` (R310): FM API command that reports a VCS, whose ID is the agent ID. -/
  | getVirtualCxlSwitchInfo (t : Transport) (vcs : Nat)
  /-- `PHYSICAL_PORT_CONTROL` (R310): FM API command answered Unsupported. -/
  | physicalPortControl (t : Transport)
  /-- `SEND_PPB_CXL_IO_CONFIG_REQUEST` (R310): FM API command answered Unsupported. -/
  | sendPpbCxlIoConfigRequest (t : Transport)
  /-- `BIND_VPPB` (R310): FM API command answered Unsupported. -/
  | bindVppb (t : Transport)
  /-- `UNBIND_VPPB` (R310): FM API command answered Unsupported. -/
  | unbindVppb (t : Transport)
  /-- `GENERATE_AER_EVENT` (R310): FM API command answered Unsupported. -/
  | generateAerEvent (t : Transport)
  /-- `SET_ENDPOINT_ID` (R308): MCTP control message that assigns the transport's endpoint ID. -/
  | setEndpointId (t : Transport) (eid : Nat)
  /-- `GET_ENDPOINT_ID` (R308): MCTP control message that reports the endpoint ID. -/
  | getEndpointId (t : Transport)
  /-- `GET_MCTP_VERSION_SUPPORT` (R308): MCTP control message that reports the supported MCTP versions. -/
  | getMctpVersionSupport (t : Transport) (msgType : Nat)
  /-- `GET_MESSAGE_TYPE_SUPPORT` (R308): MCTP control message that reports the supported message types. -/
  | getMessageTypeSupport (t : Transport)
  /-- `GET_VENDOR_DEFINED_MESSAGE_SUPPORT` (R308): MCTP control message that reports vendor-defined message support. -/
  | getVendorDefinedMessageSupport (t : Transport) (sel : Nat)
  /-- `IDENTIFY_MEMORY_DEVICE` (R182): Grotto mailbox command that identifies the memory device. -/
  | identifyMemoryDevice (grotto : Nat)
  /-- `GET_PARTITION_INFO` (R182): Grotto mailbox command that reports partition information. -/
  | getPartitionInfo (grotto : Nat)
  /-- `GET_EVENT_RECORDS` (R182): Grotto mailbox command that reads the grotto's event log. -/
  | getEventRecords (grotto log : Nat)
  /-- `CLEAR_EVENT_RECORDS` (R182): Grotto mailbox command that clears event records. -/
  | clearEventRecords (grotto log : Nat) (handles : List Nat)
  /-- `GET_EVENT_INTERRUPT_POLICY` (R182): Grotto mailbox command that reports the event interrupt policy. -/
  | getEventInterruptPolicy (grotto : Nat)
  /-- `SET_EVENT_INTERRUPT_POLICY` (R182): Grotto mailbox command that sets the event interrupt policy. -/
  | setEventInterruptPolicy (grotto policy : Nat)
  /-- `SYS_REFCLK_RESTORED` (R16): A lost SYS_REFCLK_A or SYS_REFCLK_B shows edges within frequency again, its good bit is set and its 1 s good timer starts. -/
  | sysRefclkRestored (ref : Nat)
  /-- `LANE_REFCLK_RESTORED` (R134): A lost LANE_REFCLK[j] becomes good again, starting the 1 s wait before its COMMON ports retrain. -/
  | laneRefclkRestored (j : Nat)
  /-- `SLOT_PRSNT_N_CHANGE` (R282): The SLOT_PRSNT_N land changes level, updating the raw presence flag and starting the 100 ms debounce and, for a powered slot, the 1 ms removal timer. -/
  | slotPrsntNChange (slot : Nat) (high : Bool)
  /-- `DEVICE_REPLY` (R164): A CXL.mem reply arrives from a memory device on a DSP and is matched to its request, or is discarded and counted as late. -/
  | deviceReply (port id : Nat) (c : Cmp) (d : ReplyData)
  /-- `UNDEFINED_OPCODE_REQUEST` (R333): A vendor request arrives whose opcode lies outside the index, or which fails step 1 of R314, and is answered BAD_OPCODE or discarded and counted. -/
  | undefinedOpcodeRequest (t : Transport) (op : Nat) (r : Req)
  /-- `UNSUPPORTED_FM_API_COMMAND` (R310): An FM API command not listed in the table arrives and is answered with return code Unsupported. -/
  | unsupportedFmApiCommand (t : Transport) (op : Nat)
  /-- `UNSUPPORTED_MAILBOX_COMMAND` (R182): A grotto mailbox command other than the six supported ones arrives and returns Unsupported. -/
  | unsupportedMailboxCommand (grotto op : Nat)
  /-- `SETDASA` (R308): The I3C controller assigns a dynamic address to I3C_A or I3C_B at its static address 6Ah or 6Bh. -/
  | setdasa (t : Transport) (addr : Nat)
  /-- `VID_CODE_VALID` (R382): Within 2 ms of VDD_M and VDD_IO entering range, the switch drives each gallery's fused code on VID_Gg[2:0]. -/
  | vidCodeValid
  /-- `KEPT_IMAGE_UNCORRECTABLE` (R291): An uncorrectable error in the kept-image SRAM clears its valid tag while running firmware keeps running. -/
  | keptImageUncorrectable
  /-- `LINK_STATE_CHANGE` (R145): The link enters Recovery, L0p or a low-power state, or starts an exit from one, at the partner's initiative or on errors, saving or resuming taps. -/
  | linkStateChange (port state rate : Nat) (t : Retrain)
  /-- `WINDOW_SWEEP_STEP` (R195): The removal sweep of a SHARED window takes one set, writes its stash lines to the device and frees the window's entries. -/
  | windowSweepStep (win g sl set : Nat)
  deriving DecidableEq, Repr

end Sys2Proof
end

