-- ==== Sys2Proof/Decode.lean ====
section
/-!
DEFINITION. The host's word decoder. spec/opcode_table.json gives the rows no bits: a command is no word, so no word spells
one.
-/

namespace Sys2Proof

/-- No row of the table has bits, so no word spells a command. -/
def decodeTableWord (_nbits _w : Nat) : Option Instr :=
  none

end Sys2Proof
end

