-- ==== Sys2Proof/Machine/Bits.lean ====
section
/-!
DEFINITION. Little-endian fields (R3), bit fields, the cyclic redundancy checks of R36, R52, R54, R263 and R311, and the
LFSR of R251.
-/

namespace Sys2Proof.Machine

/-- The number a run of bytes spells, byte 0 lowest (R3). -/
def leNat : Bytes → Nat
  | [] => 0
  | b :: bs => b.toNat + 256 * leNat bs

/-- `n` bytes holding `v`, byte 0 lowest; higher bits of `v` are dropped (R3). -/
def leBytes : Nat → Nat → Bytes
  | 0, _ => []
  | n + 1, v => BitVec.ofNat 8 v :: leBytes n (v / 256)

/-- The `size`-byte field at `off` of a payload, unsigned; bytes past the end read 0. -/
def fieldAt (bs : Bytes) (off size : Nat) : Nat :=
  leNat ((bs.drop off).take size)

/-- One byte of a payload as a number. -/
def byteAt (bs : Bytes) (off : Nat) : Nat :=
  fieldAt bs off 1

/-- A signed field of `size` bytes. -/
def sfieldAt (bs : Bytes) (off size : Nat) : Int :=
  let v := fieldAt bs off size
  if v < 2 ^ (8 * size - 1) then (v : Int) else (v : Int) - (2 ^ (8 * size) : Nat)

/-- A signed number as `n` bytes in two's complement. -/
def leInt (n : Nat) (v : Int) : Bytes :=
  leBytes n (v % ((2 ^ (8 * n) : Nat) : Int)).toNat

/-- Bits [hi:lo] of a number. -/
def bitsOf (v hi lo : Nat) : Nat :=
  v / 2 ^ lo % 2 ^ (hi + 1 - lo)

/-- One bit of a number. -/
def bitOf (v i : Nat) : Bool :=
  v.testBit i

/-- 0 or 1. -/
def bit (b : Bool) : Nat :=
  if b then 1 else 0

/-- `v` with bit `i` set. -/
def setBit (v i : Nat) : Nat :=
  if v.testBit i then v else v + 2 ^ i

/-- `v` with bit `i` clear. -/
def clrBit (v i : Nat) : Nat :=
  if v.testBit i then v - 2 ^ i else v

/-- How many of the lowest `n` bits are set. -/
def popcount : Nat → Nat → Nat
  | 0, _ => 0
  | n + 1, v => bit (v.testBit n) + popcount n v

/-- The places below `n` of the bits set in `v`, rising. -/
def bitList (n v : Nat) : List Nat :=
  (List.range n).filter (fun i => v.testBit i)

/-- Every one of the bytes is zero (R5). -/
def allZero (bs : Bytes) : Bool :=
  bs.all (fun b => b == 0)

/-- A count that stops at `2^w - 1`. -/
def sat (w v : Nat) : Nat :=
  min v (2 ^ w - 1)

/-- One bit step of a CRC register shifting left. -/
def crcLeft (w poly : Nat) : Nat → Nat → Nat
  | 0, r => r
  | n + 1, r =>
    let r' := 2 * r % 2 ^ w
    crcLeft w poly n (if r.testBit (w - 1) then r' ^^^ poly else r')

/-- One bit step of a CRC register shifting right, for reflected algorithms. -/
def crcRight (rpoly : Nat) : Nat → Nat → Nat
  | 0, r => r
  | n + 1, r => crcRight rpoly n (if r.testBit 0 then (r / 2) ^^^ rpoly else r / 2)

/-- Feed one byte, top bit first, to a CRC of width `w`. -/
def crcFeed (w poly r : Nat) (b : Byte) : Nat :=
  crcLeft w poly 8 (r ^^^ (b.toNat * 2 ^ (w - 8)))

/-- Feed one byte to a reflected CRC. -/
def crcFeedR (rpoly r : Nat) (b : Byte) : Nat :=
  crcRight rpoly 8 (r ^^^ b.toNat)

/-- CRC-16, polynomial 8BB7h, initial value 0 (R36, R54), over bytes in ascending order. -/
def crc16 (bs : Bytes) : Nat :=
  bs.foldl (crcFeed 16 0x8BB7) 0

/-- CRC-8, polynomial 07h, initial value 0 (R52). -/
def crc8 (bs : Bytes) : Nat :=
  bs.foldl (crcFeed 8 0x07) 0

/-- CRC-32C (R263, R311, R356). -/
def crc32c (bs : Bytes) : Nat :=
  (bs.foldl (crcFeedR 0x82F63B78) 0xFFFFFFFF) ^^^ 0xFFFFFFFF

/-- Width of each algorithm of R263. -/
def algWidth : Nat → Nat
  | 0 => 16
  | 3 => 64
  | _ => 32

/-- The register before the first byte (R263). -/
def algInit : Nat → Nat
  | 1 => 0xFFFFFFFF
  | 2 => 0xFFFFFFFF
  | _ => 0

/-- The final XOR (R263). -/
def algXorOut : Nat → Nat
  | 1 => 0xFFFFFFFF
  | 2 => 0xFFFFFFFF
  | _ => 0

/-- Feed one byte to the running register of an algorithm (R263). -/
def algFeed (alg r : Nat) (b : Byte) : Nat :=
  match alg with
  | 0 => crcFeed 16 0x8BB7 r b
  | 1 => crcFeedR 0xEDB88320 r b
  | 2 => crcFeedR 0x82F63B78 r b
  | _ => crcFeed 64 0x42F0E1EBA9EA3693 r b

/-- Feed bytes in ascending address order (R263). -/
def algFeeds (alg r : Nat) (bs : Bytes) : Nat :=
  bs.foldl (algFeed alg) r

/-- The check value: the running register XOR the final XOR (R263). -/
def algCheck (alg r : Nat) : Nat :=
  r ^^^ algXorOut alg

/-- One step of the 16-bit Fibonacci LFSR with taps 16, 14, 13 and 11 (R251). -/
def lfsrNext (r : Nat) : Nat :=
  let b := ((r ^^^ (r / 4) ^^^ (r / 8) ^^^ (r / 32)) % 2)
  r / 2 + b * 2 ^ 15

/-- Replace the first element that satisfies `p`. -/
def replaceFirst {α : Type} (p : α → Bool) (f : α → α) : List α → List α
  | [] => []
  | x :: xs => if p x then f x :: xs else x :: replaceFirst p f xs

/-- Remove the first element that satisfies `p`. -/
def removeFirst {α : Type} (p : α → Bool) : List α → List α
  | [] => []
  | x :: xs => if p x then xs else x :: removeFirst p xs

/-- Overwrite bytes from an offset, inside the length already there. -/
def spliceAt (bs : Bytes) (off : Nat) (new : Bytes) : Bytes :=
  (bs.take off ++ new ++ bs.drop (off + new.length)).take bs.length

end Sys2Proof.Machine
end

