-- ==== Sys2Proof/Config.lean ====
section
/-!
DEFINITION. What one part fixes and the spec leaves to it: fuses, the voltage codes, the ROM version, and the FREE VALUES. Every
constant is opaque: nothing in Lean can see a value of it, so a theorem holds for every value.
-/

namespace Sys2Proof.Config

/-- The free values. DESIGN CHOICE, log 2: a step that needs a value the spec does not state applies this to the
counter `State.free` and advances the counter. -/
opaque freeNat : Nat → Nat

/-- The check bits of the switch's ECC codes over a value of so many data bits: the spec names the codes and gives their width, not
their matrices. Log 159. -/
opaque checkBits : Nat → Nat → Nat

/-- Where in its near store a gallery's counter snapshot lands, and its length in bytes: the spec gives no layout. Log 174. -/
opaque snapshotAt : Nat → Nat

/-- Length in bytes of a gallery's counter snapshot. Log 174. -/
opaque snapshotLen : Nat → Nat

/-- Where in an island's register blocks the shadow writes of a commit go. Log 174. -/
opaque shadowAt : Nat → Nat

/-- The burst of island writes of an immediate command, by opcode and payload: island, address and length. The spec does not list the writes.
Log 25. -/
opaque commandWrites : Nat → List (BitVec 8) → Nat × Nat × Nat

/-- The reset value of a 4-byte configuration register: by kind of function (0 upstream bridge, 1 service function, 2 vPPB, 3 grotto
function, 4 management function) and offset. The spec gives no layout. Log 165. -/
opaque cfgReset : Nat → Nat → Nat

/-- The bits of a 4-byte configuration register that a write changes, by the same kind and offset. Log 165. -/
opaque cfgMask : Nat → Nat → Nat

/-- OTP `KEY_HASH0`..`KEY_HASH3` as manufactured (R292). Log 3. -/
opaque keyHash : Nat → BitVec 384

/-- OTP `KEY_REVOKED` [3:0] at the cold reset the model starts from (R292). Log 3. -/
opaque keyRevoked : BitVec 4

/-- OTP `ROLLBACK_FUSES` at the cold reset the model starts from (R292). Log 3. -/
opaque rollbackFuses : BitVec 64

/-- OTP `SERIAL` (R292). Log 3. -/
opaque serial : BitVec 64

/-- The boot ROM version that `FW_INFO` reports (R306). Log 3. -/
opaque romVersion : BitVec 16

/-- The fused voltage code of each gallery, of which R382 gives the range 0-6. Log 3. -/
opaque vidCode : Nat → Fin 7

end Sys2Proof.Config
end

