-- ==== Sys2Proof/Machine/Tbl.lean ====
section
/-!
DEFINITION. Sparse tables: a list of keys and values in one canonical form, keys strictly rising and no entry equal to
the table's default, so that equal tables are equal data.
-/

namespace Sys2Proof.Machine

/-- A sparse table over `Nat` keys. -/
abbrev Tbl (α : Type) := List (Nat × α)

/-- Read a key; an unlisted key reads as the default. -/
def tget {α : Type} (d : α) : Tbl α → Nat → α
  | [], _ => d
  | (k', v) :: t, k => if k = k' then v else tget d t k

/-- Write a key, keeping the canonical form: writing the default removes the entry. -/
def tput {α : Type} [DecidableEq α] (d : α) : Tbl α → Nat → α → Tbl α
  | [], k, v => if v = d then [] else [(k, v)]
  | (k', v') :: t, k, v =>
    if v = d then
      if k' = k then tput d t k v else (k', v') :: tput d t k v
    else if k < k' then (k, v) :: (k', v') :: t
    else if k = k' then (k, v) :: t
    else (k', v') :: tput d t k v

/-- Change the value at a key. -/
def tmod {α : Type} [DecidableEq α] (d : α) (t : Tbl α) (k : Nat) (f : α → α) : Tbl α :=
  tput d t k (f (tget d t k))

/-- The canonical form. -/
def twf {α : Type} [DecidableEq α] (d : α) : Tbl α → Bool
  | [] => true
  | [(_, v)] => decide (v ≠ d)
  | (k, v) :: (k', v') :: t => decide (k < k') && decide (v ≠ d) && twf d ((k', v') :: t)

end Sys2Proof.Machine
end

