-- ==== Sys2Proof/Machine/State.lean ====
section
/-!
DEFINITION. The state of the MF-5120: every register, table, queue, counter, mode and pin the spec names, as plain data,
with the values of reset as the structures' defaults, and the queue of waiting commands.
-/

namespace Sys2Proof.Machine

/-! ## Drip time and clock islands (02) -/

/-- `ISLAND_STATE` of `TIME_READ` (R32). -/
inductive IslandSt where
  | sure
  | unsure
  | calibrating
  | poweredDown
  deriving DecidableEq, Repr

/-- One clock island (R13, R17, R19, R20, R32). `phase`, `cal` and `slew` are in 1/64 drip. `unsure` holds from the loss of time
until the end of the recalibration that makes the island sure again (R20); `since` is the drip of the last change of `st`. -/
structure Island where
  st : IslandSt := .sure
  unsure : Bool := false
  missed : Nat := 0
  fails : Nat := 0
  goodRun : Nat := 0
  phase : Int := 0
  cal : Nat := 0
  slew : Int := 0
  judged : Nat := 0
  since : Nat := 0
  deriving DecidableEq, Repr

/-- One system reference input and its monitor (R16). -/
structure RefIn where
  good : Bool := true
  goodSince : Nat := 0
  deriving DecidableEq, Repr

/-- What an action armed under R27 does at its drip. -/
inductive ArmKind where
  | commit
  | columnDrain (c : Nat)
  | columnReturn (c : Nat)
  | passageDrain (p : Nat)
  | passageReturn (p : Nat)
  | timeLoad (delta : Nat)
  | homeMove (agent gal : Nat)
  deriving DecidableEq, Repr

/-- An action the time master has armed for drip `at` (R27). `acked` holds the islands whose acknowledgement came by T - 512. -/
structure Arm where
  id : Nat
  kind : ArmKind
  at_ : Nat
  islands : List Nat := []
  acked : List Nat := []
  decided : Bool := false
  deriving DecidableEq, Repr

/-- The time base. `drip` is the count every island keeps; `elapsed` counts the same drips but is never stepped by a load
(R30: durations in progress run on elapsed cycles). `skip` holds the first and last count that the last load passed over. `ppsError`
is in 1/16 drip, `freqTrim` in parts per billion. -/
structure TimeSt where
  drip : Nat := 0
  elapsed : Nat := 0
  skip : Option (Nat × Nat) := none
  refA : RefIn := {}
  refB : RefIn := {}
  sel : Nat := 0
  holdover : Bool := false
  refMode : Nat := 0
  ppsRole : Nat := 0
  ppsInDelay : Nat := 0
  slewLimit : Nat := 50
  load : Option Nat := none
  ppsAligned : Bool := false
  ppsHold : Bool := false
  ppsMissing : Nat := 0
  ppsError : Int := 0
  freqTrim : Int := 0
  splitBad : Option Nat := none
  lastBeacon : Nat := 0
  islands : Tbl Island := []
  arms : List Arm := []
  nextArm : Nat := 0
  refusals : Nat := 0
  deriving DecidableEq, Repr

/-! ## Packets and cells (03, 05) -/

/-- What a packet carries. -/
inductive PktKind where
  | memReq
  | devReq
  | memRsp
  | snoop
  | conflictAck
  | ioPosted
  | ioNonPosted
  | ioCpl
  | cacheReq
  | cacheRsp
  | echo
  | ringWrite
  | msi
  | probe
  | biRsp
  | biConflict
  deriving DecidableEq, Repr

/-- The back-invalidate snoops of R93. -/
inductive SnpKind where
  | inv
  | data
  | cur
  deriving DecidableEq, Repr

/-- How much of a packet its destination has: all of it; its first cell, so that a long CXL.io packet begins (R85); the rest of one begun. -/
inductive Stage where
  | whole
  | begun
  | ended
  deriving DecidableEq, Repr

/-- One packet inside the switch: its routing (R34), the message it carries, and its data. `usp` is the bundle whose
request it is or answers, `key` the directory key of R87, `fa` the fabric address, `id` the transaction the switch matches a device reply by,
`vppb` the vPPB a host's message names (255 none), `rid` its requester ID, `bad` the tail mark of R84, `st` the status of a CXL.io completion (0 successful, 1 UR, 4 CA), `hdr` the header bits of its first cell, once handed on. -/
structure Pkt where
  kind : PktKind := .memReq
  cls : Nat := 0
  srcGal : Nat := 0
  srcPort : Nat := 0
  dstGal : Nat := 0
  dstPort : Nat := 0
  agent : Nat := 0
  grotto : Nat := 0
  gen : Nat := 0
  gv : Bool := false
  prio : Nat := 0
  op : HostOp := .memOther
  cmp : Cmp := .none
  snp : SnpKind := .inv
  rsp : BiRsp := .i
  hasData : Bool := false
  usp : Nat := 0
  tag : Nat := 0
  key : Nat := 0
  fa : Nat := 0
  addr : Nat := 0
  len : Nat := 64
  data : Bytes := []
  poison : Bool := false
  bad : Bool := false
  cells : Nat := 1
  id : Nat := 0
  sys : Bool := false
  st : Nat := 0
  hdr : Nat := 0
  stage : Stage := .whole
  vppb : Nat := 255
  rid : Nat := 0
  deriving DecidableEq, Repr

/-- One 80-byte cell: the header fields of R34 that a hop may change, and the packet it is a part of (the header's other
fields are the packet's). `idx` is its place in the packet, `ord` its place in the source gallery's order of queueing
(in the destination gallery's order of arrival, once there), `drop` a cell of an `ECHO` packet refused by R74, `fault` a cell on which an ECC or
parity error was found (R84). -/
structure Cell where
  pkt : Pkt := {}
  idx : Nat := 0
  seq : Nat := 0
  first : Bool := true
  last : Bool := true
  len : Nat := 64
  relay : Bool := false
  via : Nat := 0
  tail : Bool := false
  launch : Nat := 0
  replay : Bool := false
  ord : Nat := 0
  drop : Bool := false
  fault : Bool := false
  deriving DecidableEq, Repr

/-! ## The rotation core and passages (03, 04, 05) -/

/-- `STATE` of `COLUMN_STATE` (R47). -/
inductive ColSt where
  | inUse
  | draining
  | offline
  | calibrating
  | probing
  deriving DecidableEq, Repr

/-- One column (R44-R48). `untrusted` is the cause a sequencer has learned, 0 for none; `drainAsked` an accepted `DRAIN`
not yet launched; `outCause` the cause of its present leaving; `slotN` the slot whose crossbar it holds; `carry` the slots
that carry a cell and are not yet over. -/
structure Col where
  st : ColSt := .inUse
  lastCause : Nat := 0
  changeDrip : Nat := 0
  cells : Nat := 0
  untrusted : Nat := 0
  outCause : Nat := 0
  drainAsked : Bool := false
  probeStart : Nat := 0
  probeBad : Bool := false
  cleanEnd : Option Nat := none
  slotN : Nat := 0
  carry : List Nat := []
  slotsUsed : Nat := 0
  slotsIdle : Nat := 0
  sbRouted : Nat := 0
  deriving DecidableEq, Repr

/-- A gallery's use of one column (R44, R45): in use, told to stop (learned at a drip), draining from boundary `b`, or off. -/
inductive UseSt where
  | used
  | stopping (learned : Nat)
  | draining (b : Nat)
  | off
  deriving DecidableEq, Repr

/-- `STATE` of `PASSAGE_TEST` (R65). -/
inductive PasSt where
  | alive
  | draining (b : Nat)
  | dead
  | testing
  | admitting
  deriving DecidableEq, Repr

/-- An entry of a replay buffer (R55): stream destination, number, running check, launch time in 1/24 drip, the cell. -/
structure ReplayEnt where
  m : Nat
  num : Nat
  check : Nat
  at24 : Nat
  hop2 : Bool
  cell : Cell
  deriving DecidableEq, Repr

/-- The sending end of a stream (R53, R55). `acked` is the last acknowledged number plus one. -/
structure StreamOut where
  next : Nat := 0
  acked : Nat := 0
  check : Nat := 0
  deriving DecidableEq, Repr

/-- The receiving end of a stream (R53, R54): cells received, running check, cells unacknowledged, and when the earliest of
them was received. -/
structure StreamIn where
  count : Nat := 0
  check : Nat := 0
  unacked : Nat := 0
  firstAt : Nat := 0
  stopped : Bool := false
  deriving DecidableEq, Repr

/-- A grant of R58. -/
structure Grant where
  peer : Nat
  cls : Nat
  count : Nat
  slot : Nat
  deriving DecidableEq, Repr

/-- A cell held in a passage receive buffer (R56): its hop sender and whether it sits in its class reserve. -/
structure RxCell where
  cell : Cell
  reserve : Bool
  deriving DecidableEq, Repr

/-- An admission or test of a passage in progress, with the session whose reply waits (R64, R65):
`forColumn` a part of a column's admission, `wasAlive` of a passage that had stayed alive, `armed` its return is armed, `returned` it
has launched. -/
structure PasOp where
  started : Nat := 0
  pattern : Nat := 0
  blocks : Nat := 0
  session : Option Nat := none
  forColumn : Bool := false
  wasAlive : Bool := false
  armed : Bool := false
  returned : Bool := false
  deriving DecidableEq, Repr

/-- A cell placed in the present slot and not yet started (R38, R57): the stream's destination, the slot, its start in 1/24 drip, whether
it is on its second hop, whether a grant placed it. -/
structure Planned where
  m : Nat
  slot : Nat
  at24 : Nat
  hop2 : Bool
  granted : Bool
  cell : Cell
  deriving DecidableEq, Repr

/-- One passage `Gg-Cc`, both directions (R50-R66). `plan` holds the cells of the present slot not yet started; `deskew` is the lane
deskew set at the last admission (R51); `galDead` and `colDead` say that the gallery end and the column end discard what they receive
(R60). -/
structure Pas where
  st : PasSt := .alive
  lastCause : Nat := 0
  deathDrip : Nat := 0
  replayed : Nat := 0
  testErrors : Nat := 0
  errOut : Nat := 0
  errIn : Nat := 0
  replay : List ReplayEnt := []
  plan : List Planned := []
  deskew : Nat := 0
  galDead : Bool := false
  colDead : Bool := false
  outs : Tbl StreamOut := []
  ins : Tbl StreamIn := []
  rx : List RxCell := []
  xoff : Nat := 0
  heldSince : Tbl Nat := []
  sharedOver : Bool := false
  classOver : Nat := 0
  peerXoff : Tbl Nat := []
  grantsOut : List Grant := []
  grantsIn : List Grant := []
  testAsked : Option PasOp := none
  op : PasOp := {}
  noticed : Nat := 0
  ctr : Tbl Nat := []
  deriving DecidableEq, Repr

/-- A cell on its way through a column (R39): sent by `i` on column `c` toward `m`, arriving at `at24` (1/24 drip). -/
structure Flight where
  i : Nat
  c : Nat
  m : Nat
  slot : Nat
  at24 : Nat
  cell : Cell
  deriving DecidableEq, Repr

/-- One flow at its resequencer (R78-R82): E, the held cells of window and overflow by number, the cells handed on of a packet still
incomplete, and the open hole. `skip` discards the rest of a packet given up in a hole; `started` says that the incomplete packet has begun at
its egress (R85). -/
structure Flow where
  e : Nat := 0
  held : List Cell := []
  part : List Cell := []
  hole : Option (Nat × Nat) := none
  reported : Bool := false
  skip : Bool := false
  started : Bool := false
  deriving DecidableEq, Repr

/-- One gallery's core: queues, relay permissions, resequencer, buffer accounting and sequencer (R41-R43, R67-R82, R336). `peerUnsure`
and `peerSupply` are the galleries its sequencer has been told of by notices 05h and 06h (R52), `discarded` the cells it has discarded under R36; `outWait` holds the packets formed
inside the gallery that wait for room (R69). -/
structure Gal where
  voq : Tbl (List Cell) := []
  relayQ : Tbl (List Cell) := []
  relayPtr : Nat := 0
  relayOpen : Nat := 255
  relayRx : Tbl Nat := []
  skipped : Tbl Nat := []
  flowSeq : Tbl Nat := []
  flows : Tbl Flow := []
  egOcc : Tbl Nat := []
  voqOcc : Tbl Nat := []
  relayOcc : Tbl Nat := []
  admitted : Tbl Nat := []
  nextOrd : Nat := 0
  nextArr : Nat := 0
  ioHeld : List (Pkt × Nat) := []
  uses : Tbl UseSt := []
  stopped : Bool := false
  resumeAt : Option Nat := none
  unsureSince : Option Nat := none
  noPasSince : Option Nat := none
  supplyBad : Bool := false
  lost : Option Nat := none
  egIn : Tbl (List Pkt) := []
  ctr : Tbl Nat := []
  lastSlot : Option Nat := none
  peerUnsure : Nat := 0
  peerSupply : Nat := 0
  discarded : Nat := 0
  outWait : List Pkt := []
  deriving DecidableEq, Repr

/-- The rotation core with its galleries, columns and passages. -/
structure CoreSt where
  gals : Tbl Gal := []
  cols : Tbl Col := []
  pas : Tbl Pas := []
  flights : List Flight := []
  deriving DecidableEq, Repr

/-! ## The coherence directory (06, 07) -/

/-- Stable directory states (R91). A transient entry carries its transaction record. -/
inductive DSt where
  | i
  | s
  | e
  | m
  | o
  deriving DecidableEq, Repr

/-- The request types of R92, in table order. -/
inductive ReqKind where
  | rdShared
  | rdAny
  | rdOwn
  | invOwn
  | rdCur
  | write
  | evict
  deriving DecidableEq, Repr

/-- Kinds of transient state (R91). -/
inductive BKind where
  | rd
  | own
  | evict
  | mig
  deriving DecidableEq, Repr

/-- A host request as a home slice holds it (R92, R114). A partial write's bytes begin at `off` in the line. `beforeSnoop` marks a
Write or Evict moved from the intake list when its sender was snooped (R116). `cells` are the cells it still charges to its memory port's
egress queue: none once the slice has accepted it (R68). -/
structure SliceReq where
  kind : ReqKind := .rdShared
  key : Nat := 0
  agent : Nat := 0
  metaS : Bool := false
  partWrite : Bool := false
  off : Nat := 0
  data : Bytes := []
  poison : Bool := false
  tag : Nat := 0
  usp : Nat := 0
  grotto : Nat := 0
  gen : Nat := 0
  gv : Bool := false
  fa : Nat := 0
  cells : Nat := 1
  beforeSnoop : Bool := false
  deriving DecidableEq, Repr

/-- One snoop of a transaction (R93, R95, R121): when it was sent, on elapsed drips and on the drip count, and the timeout
in force then (R111). -/
structure Snoop where
  agent : Nat
  kind : SnpKind
  sentAt : Nat
  sentDrip : Nat
  limit : Nat
  answer : Option BiRsp := none
  lost : Bool := false
  deriving DecidableEq, Repr

/-- Why an entry is being evicted (R96, R100, R104, R129): for a way, for a conversion, to recover the entry, because both
copies of its stash line are lost, or because its window was removed (R195). -/
inductive EvictWhy where
  | victim
  | convert
  | recover
  | stashLost
  | removed
  deriving DecidableEq, Repr

/-- A transaction record (R90, R93): why the entry is transient, the request it serves (for an eviction, the request the way
goes to), its snoops, the device accesses it waits for, the data gathered for the requester, and what completing it needs. -/
structure Txn where
  kind : BKind := .rd
  why : EvictWhy := .victim
  req : Option SliceReq := none
  snoops : List Snoop := []
  accs : List Nat := []
  data : Option Bytes := none
  poison : Bool := false
  issued : Bool := false
  wroteBack : Bool := false
  blind : Bool := false
  /-- An uncorrectable codeword was met while transient: which codewords are still good (R129). -/
  recover : Option (Bool × Bool) := none
  freeAfter : Bool := false
  /-- A snoop write-back was kept in the stash, pinned, because its device is unreachable (R101). -/
  kept : Bool := false
  lostWith : Bool := false
  undo : List Nat := []
  /-- The fenced agents whose sweep met the entry transient (R124). -/
  late : List Nat := []
  acks : List Nat := []
  deriving DecidableEq, Repr

/-- One way of a set, in the full array or the pointer store (R90, R102): a way that is not listed is free. `key` holds what
`TAG` and the set give (R88), `sharers` has bit a set for agent a. A request that allocates nothing keeps its transaction in a
way numbered 100 or more, which is no way of the array. -/
structure Entry where
  way : Nat
  key : Nat := 0
  st : DSt := .i
  owner : Nat := 0
  sharers : Nat := 0
  bcast : Bool := false
  stash : Bool := false
  lru : Nat := 0
  txn : Option Txn := none
  deriving DecidableEq, Repr

/-- One entry of the tag shadow (R128): the way it copies, `TAG`, `STATE`, `OWNER` or `PTR0`, `STASH`, and the check bits. -/
structure Shadow where
  way : Nat
  tag : Nat := 0
  st : DSt := .i
  transient : Bool := false
  owner : Nat := 0
  stash : Bool := false
  ecc : Nat := 0
  deriving DecidableEq, Repr

/-- One stash line (R97, R101): way, the key whose logical slice and tag are its stash tag, data, recency stamp, and the pin
with its order. -/
structure StashLine where
  way : Nat
  key : Nat
  data : Bytes := []
  poison : Bool := false
  lru : Nat := 0
  pinned : Option Nat := none
  deriving DecidableEq, Repr

/-- `ROLE` of R110. -/
inductive SliceRole where
  | active
  | spare
  | failed
  | testing
  deriving DecidableEq, Repr

/-- `MODE` of R111; `down` until the pointer store passes at start-up (R105). -/
inductive SliceMode where
  | full
  | pointer
  | toFull (set : Nat)
  | toPointer (set : Nat)
  | down
  deriving DecidableEq, Repr

/-- A deferred request in the retry queue (R117, R118). -/
structure RetryEnt where
  req : SliceReq
  reserved : Bool
  onSet : Bool
  due : Bool := false
  way : Option Nat := none
  deriving DecidableEq, Repr

/-- A back-invalidate response on the snoop-answer path (R116): its sender and line, and the response, none for a `BIConflict`. -/
structure Answer where
  agent : Nat
  key : Nat
  rsp : Option BiRsp
  deriving DecidableEq, Repr

/-- The counts of `DIR_STATS` and stray messages (R94, R113). -/
structure DirCounts where
  lookups : Nat := 0
  hits : Nat := 0
  evictions : Nat := 0
  snoops : Nat := 0
  bcastSnoops : Nat := 0
  stashFills : Nat := 0
  stashWb : Nat := 0
  retries : Nat := 0
  corrected : Nat := 0
  uncorrected : Nat := 0
  strayEvict : Nat := 0
  strayRsp : Nat := 0
  deriving DecidableEq, Repr

/-- One physical slice (R89-R90, R105, R111-R118). -/
structure Slice where
  mode : SliceMode := .down
  modeCause : Nat := 1
  role : SliceRole := .active
  change : Nat := 0
  tie : Nat := 0
  intake : List SliceReq := []
  paused : List Nat := []
  retry : List RetryEnt := []
  retryRun : Nat := 0
  snoopPath : List SliceReq := []
  answers : List Answer := []
  counts : DirCounts := {}
  ivCorr : Nat := 0
  ivUncorr : Nat := 0
  ivIndex : Nat := 0
  testRes : Nat := 0
  testArray : Nat := 0
  testAddr : Nat := 0
  testEnd : Nat := 0
  fullPassed : Bool := false
  testPending : Bool := false
  evictedByConv : Nat := 0
  held : List SliceReq := []
  fullTested : Bool := false
  deriving DecidableEq, Repr

/-- A running migration of a gallery (R106). -/
structure Mig where
  src : Nat
  dst : Nat
  p : Nat := 0
  cause : Nat := 3
  held : List SliceReq := []
  deriving DecidableEq, Repr

/-- The fence of an agent (R123-R125): trigger, cause, and what its sweeps did. `sweep` holds the next set of each slice. -/
structure Fence where
  on : Bool := false
  trigger : Nat := 0
  cause : Nat := 1
  sweeping : Bool := false
  sweep : Tbl Nat := []
  poisoned : Nat := 0
  cleared : Nat := 0
  undone : Nat := 0
  deriving DecidableEq, Repr

/-- What waits for a device access: an entry's transaction, nothing, the writer of a Write taken on the snoop-answer path
(R116), a copy of a twin write in a gallery's hold buffer (R191), a line of a resync read from the survivor or written to the lost copy (R193), or
a sanitise (R196). -/
inductive AccUse where
  | txn
  | nothing
  | owed (r : SliceReq) (ack : Bool)
  | copy (g tid c : Nat)
  | resyncRead (win ext off : Nat)
  | resyncWrite (win ext off : Nat)
  | sanitise (win ext copy : Nat)
  deriving DecidableEq, Repr

/-- A device access that a slice or the switch has issued (R93, R164, R224): the slice and key it is for, its packet, and the
copy it goes to (0 for an untwinned window). -/
structure DevAcc where
  id : Nat
  g : Nat := 0
  sl : Nat := 0
  key : Nat := 0
  write : Bool := false
  copy : Nat := 0
  use : AccUse := .nothing
  pkt : Pkt := {}
  deriving DecidableEq, Repr

/-- A grant reply discarded at an egress, on its way to the sending slice as a report (R123, R186). -/
structure Report where
  g : Nat
  sl : Nat
  agent : Nat
  key : Nat
  deriving DecidableEq, Repr

/-- The directory of all galleries. Stores are keyed by (9g + s, set); the stash by (g, set). -/
structure DirSt where
  slices : Tbl Slice := [(8, { role := .spare }), (17, { role := .spare }), (26, { role := .spare }),
    (35, { role := .spare }), (44, { role := .spare }), (53, { role := .spare }), (62, { role := .spare }),
    (71, { role := .spare })]
  full : Tbl (List Entry) := []
  ptr : Tbl (List Entry) := []
  /-- The tag shadows of the full arrays and of the pointer stores (R128). -/
  shFull : Tbl (List Shadow) := []
  shPtr : Tbl (List Shadow) := []
  stash : Tbl (List StashLine) := []
  blind : Tbl Bool := []
  map : Tbl Nat := []
  migs : Tbl (Option Mig) := []
  fences : Tbl Fence := []
  accs : List DevAcc := []
  nextAcc : Nat := 1
  stamp : Nat := 0
  reports : List Report := []
  deriving DecidableEq, Repr

/-! ## Lanes and ports (08, 09) -/

/-- `LINK` of `PORT_STATE` (R171), with the low-power states of R145. -/
inductive LinkSt where
  | down
  | training
  | l0
  | l0p
  | l1
  | l11
  | l12
  | recovery
  | disabled
  | held
  deriving DecidableEq, Repr

/-- A CXL.mem request outstanding at a DSP (R164). -/
structure DevOut where
  id : Nat
  sentAt : Nat
  pkt : Pkt
  deriving DecidableEq, Repr

/-- A packet in the quad island that waits for admission, with the elapsed drip it came (R72). -/
structure Waiting where
  at_ : Nat
  pkt : Pkt
  deriving DecidableEq, Repr

/-- A cell of a packet whose bytes are still arriving, with the elapsed drip its 64 bytes are there (R83). -/
structure Forming where
  due : Nat
  cell : Cell
  deriving DecidableEq, Repr

/-- One bundle's link (R164, R166, R171, R172), with the packets that wait in its quad island and the cells still to be formed. -/
structure Port where
  enabled : Bool := true
  link : LinkSt := .down
  rate : Nat := 255
  lanes : Nat := 0
  flit : Nat := 0
  partner : Partner := {}
  known : Bool := false
  lastDown : Nat := 0
  dropped : Nat := 0
  change : Nat := 0
  retries : Nat := 0
  late : Nat := 0
  emptySince : Nat := 0
  exiting : Bool := false
  clkreq : Bool := false
  outs : List DevOut := []
  toInterval : Option Nat := none
  slow : Bool := false
  /-- How often an L0p link has halved its width (R145). -/
  narrow : Nat := 0
  /-- The floating taps are to be placed again when the link is in L0, after L1.1 or L1.2 (R142). -/
  refloat : Bool := false
  capacity : Option Nat := none
  /-- Bytes of the device that its decoder, programmed by the switch, maps from DPA 0 on (R163). -/
  decoded : Nat := 0
  l0At : Nat := 0
  waiting : List Waiting := []
  forming : List Forming := []
  ctr : Tbl Nat := []
  deriving DecidableEq, Repr

/-- One adaptation value of a lane: DFE taps 1-10 then floating taps A and B (R142, R144). -/
structure Tap where
  val : Int := 0
  pinnedSince : Option Nat := none
  raised : Bool := false
  deriving DecidableEq, Repr

/-- The saved receiver values of one rate (R143). -/
structure Saved where
  ctle : Nat := 16
  taps : List Int := []
  posA : Nat := 0
  posB : Nat := 0
  deriving DecidableEq, Repr

/-- A margin measurement on a lane (R148); `aborted` once the lane has left L0. -/
structure Margin where
  session : Option Nat := none
  action : Nat := 0
  eye : Nat := 0
  offset : Int := 0
  dwell : Nat := 0
  aborted : Bool := false
  deriving DecidableEq, Repr

/-- The starting point of a lane's transmitter: a preset, or coefficients in units of 1/FS (R138, R141, R142). -/
inductive Tx where
  | preset (n : Nat)
  | coefs (m2 m1 p1 : Int)
  deriving DecidableEq, Repr

/-- One physical lane (R134, R137, R141-R148): `winLo` and `winHi` are the floating-tap window of its last equalisation, `skew` its skew
as measured at the last entry to L0 from Detect or Recovery. -/
structure Lane where
  ctle : Nat := 16
  ctleAt : Nat := 0
  taps : List Tap := []
  posA : Nat := 0
  posB : Nat := 0
  saved : Tbl Saved := []
  internal : Bool := false
  tx : Tx := .preset 4
  winLo : Nat := 11
  winHi : Nat := 40
  skew : Nat := 0
  lastUpd : Nat := 0
  margin : Option Margin := none
  partnerMargin : Bool := false
  partnerWaits : Bool := false
  deriving DecidableEq, Repr

/-- An equalisation entry (R138, R139). Signed values are held as integers. -/
structure EqEnt where
  txMode : Nat := 0
  preset : Nat := 4
  cM2 : Int := 0
  cM1 : Int := 0
  cP1 : Int := 0
  ctleStart : Nat := 16
  ctleMin : Nat := 0
  ctleMax : Nat := 31
  freeze : Nat := 0
  floatLo : Nat := 11
  floatHi : Nat := 40
  seeds : List Int := [0, 0, 0, 0, 0, 0, 0, 0, 0, 0]
  fSeeds : List Int := [0, 0]
  limits : List Nat := [127, 127, 127, 127, 127, 127, 127, 127, 127, 127]
  fLimit : Nat := 127
  deriving DecidableEq, Repr

/-- One `LANE_REFCLK` input (R134). -/
structure RefClk where
  good : Bool := true
  lost : Bool := false
  goodSince : Nat := 0
  deriving DecidableEq, Repr

/-- The last `PORT_LOOPBACK` of a bundle (R346); `start` is the elapsed drip at which it began. -/
structure Loop where
  st : Nat := 0
  mode : Nat := 0
  lanes : Nat := 0
  rate : Nat := 0
  bits : Nat := 0
  errors : List Nat := []
  endDrip : Nat := 0
  pattern : Nat := 0
  blocks : Nat := 0
  start : Nat := 0
  deriving DecidableEq, Repr

/-- A TLP header as AER logs it (R167, R212). -/
structure Tlp where
  op : HostOp
  requester : Nat
  tag : Nat
  addr : Nat
  len : Nat
  deriving DecidableEq, Repr

/-- Configuration space of one function as one USP shows it (R150, R158): 4-byte registers as last written, by offset; where the service
function's BARs stand; Bus Master Enable, the max payload size's code and MSI-X control (log 175); AER status, mask and header log; error
reporting; and a presence change not yet cleared. The mask's value at reset is PRESUMED, log 167. -/
structure FnCfg where
  regs : Tbl Nat := []
  bar0 : Option Nat := none
  bar2 : Option Nat := none
  busMaster : Bool := false
  mpsCode : Nat := 0
  msixOn : Bool := false
  msixMask : Bool := false
  aerStatus : Nat := 0
  aerMask : Nat := 4194304
  header : Option Tlp := none
  errEn : Bool := false
  presChg : Bool := false
  deriving DecidableEq, Repr

/-- Ports and lanes. -/
structure PortSt where
  ports : Tbl Port := []
  lanes : Tbl Lane := []
  eq : Tbl (Option EqEnt) := []
  refclks : Tbl RefClk := []
  loops : Tbl Loop := []
  /-- Functions by 256 × USP + function number (R158): bridge 0, service function 1, vPPB v 2 + v, the grotto below it 66 + v, the
  management function 130. -/
  fns : Tbl FnCfg := []
  deriving DecidableEq, Repr

/-! ## Egress scheduling (12) -/

/-- A packet in the fair stage with its tags (R226). -/
structure FairPkt where
  pkt : Pkt
  s : Nat
  f : Nat
  seq : Nat
  deriving DecidableEq, Repr

/-- One fair-stage queue's run-time state (R226, R231, R236). -/
structure FairQ where
  pkts : List FairPkt := []
  fLast : Nat := 0
  tokens : Int := 0
  tokAt : Nat := 0
  stalled : Bool := false
  failSince : Option Nat := none
  deriving DecidableEq, Repr

/-- A gate control list in force or armed (R232, R235): anchor, guard, and entries as (drips, mask). -/
structure GateList where
  base : Nat := 0
  guard : Nat := 0
  entries : List (Nat × Nat) := []
  deriving DecidableEq, Repr

/-- A packet that began before its last cell came, as it was picked (R85). -/
structure Sending where
  pkt : Pkt
  flits : Nat
  uncorr : Bool
  deriving DecidableEq, Repr

/-- One bundle's egress scheduler (R222-R237). `seq` numbers the packets of the fair stage in the order of tagging; `busy` is when a fair packet's flits end, in 1/3200 elapsed drip; `armed` holds
the lists on their way into force, each with its drip X of R232; `none` is a removal. -/
structure Sched where
  v : Nat := 0
  strictRun : Nat := 0
  mrsp : List Pkt := []
  msnp : List Pkt := []
  plain : List Pkt := []
  queues : Tbl FairQ := []
  seq : Nat := 0
  busy : Nat := 0
  sending : List Sending := []
  gate : Option GateList := none
  armed : List (Option GateList × Nat) := []
  deriving DecidableEq, Repr

/-! ## Windows and grottos (10) -/

/-- Grotto states (R183). -/
inductive GrSt where
  | unbound
  | binding
  | bound
  | draining
  deriving DecidableEq, Repr

/-- A live generation of a grotto (R184, R185, R188). -/
structure LiveGen where
  gen : Nat
  count : Nat := 0
  draining : Bool := false
  drainAt : Nat := 0
  deadline : Nat := 0
  sweepDone : Bool := true
  vppb : Nat := 255
  deriving DecidableEq, Repr

/-- A record of a grotto's event log (R167, R182). -/
structure LogRec where
  handle : Nat
  kind : Nat
  addr : Nat
  deriving DecidableEq, Repr

/-- One grotto's run-time state (R182-R189, R201, R202). -/
structure GrRt where
  st : GrSt := .unbound
  vppb : Nat := 255
  gen : Nat := 0
  gens : List LiveGen := []
  holds : List (Nat × Nat) := []
  late : Nat := 0
  change : Nat := 0
  drainMs : Nat := 10
  sanitise : Bool := false
  sanWins : List Nat := []
  sanLeft : List Nat := []
  oldGen : Nat := 0
  recallOn : Bool := false
  /-- The vPPB under which the agent knows the grotto a recall sweep of an unbind empties (R188). -/
  recallVppb : Nat := 255
  recallCmd : Bool := false
  recalled : Nat := 0
  sweep : Tbl Nat := []
  log : List LogRec := []
  nextHandle : Nat := 1
  policy : Nat := 0
  present : Bool := false
  hdm : Tbl Hdm := []
  deriving DecidableEq, Repr

/-- State of one extent of a twinned window (R192, R193). `lost` is 0 none, 1 primary, 2 twin, 3 both. -/
structure ExtRt where
  lost : Nat := 0
  resync : Bool := false
  p : Nat := 0
  /-- Lines of block P that have been copied (R193). -/
  done : Nat := 0
  deriving DecidableEq, Repr

/-- One window's run-time state (R189, R192-R197). Extents are keyed 16 × segment + way. -/
structure WinRt where
  clean : Bool := false
  lastAgent : Nat := 65535
  sanSt : Nat := 0
  sanChange : Nat := 0
  /-- Lines written of each extent and copy, keyed 2 × extent + copy - 1 (R196). -/
  sanPos : Tbl Nat := []
  sanFill : Nat := 0
  sanGrotto : Option Nat := none
  exts : Tbl ExtRt := []
  resyncRate : Nat := 0
  /-- Extents that resyncs have made `TWINNED` since the window was last free of `DEGRADED` ones. -/
  resynced : List Nat := []
  copied : Nat := 0
  raised : List Nat := []
  deriving DecidableEq, Repr

/-- A twin write in the hold buffer of the primary's gallery (R191). Copy states: 0 outstanding, 1 complete, 2 unreachable. -/
structure TwinWr where
  id : Nat
  pkt : Pkt
  win : Nat
  ext : Nat
  c1 : Nat := 0
  c2 : Nat := 0
  replied : Bool := false
  acc : Option Nat := none
  left : Bool := false
  deriving DecidableEq, Repr

/-- One segment of a window (R177, R194): length in 256 MiB units, primary ways and twin ways as (bundle, DPA unit). -/
structure Seg where
  units : Nat
  ways : List (Nat × Nat)
  twins : List (Nat × Nat)
  deriving DecidableEq, Repr

/-- A window (R177, R194). `fresh` marks one that a stage defines. -/
structure WinCfg where
  live : Bool := false
  fresh : Bool := false
  shared : Bool := false
  twinned : Bool := false
  assumeClean : Bool := false
  waysLog : Nat := 0
  gran : Nat := 0
  twinAck : Nat := 0
  base : Nat := 0
  export_ : Nat := 65535
  segs : List Seg := []
  deriving DecidableEq, Repr

/-- A removed window whose extents are still being swept (R195): its definition, the state of its extents, and the next set of
each slice. -/
structure Removed where
  win : Nat
  cfg : WinCfg
  exts : Tbl ExtRt := []
  sweep : Tbl Nat := []
  deriving DecidableEq, Repr

/-- Windows and grottos at run time, with the hold buffers and the twin writes that wait for them, keyed by gallery. -/
structure MemSt where
  grottos : Tbl GrRt := []
  wins : Tbl WinRt := []
  removed : List Removed := []
  twins : Tbl (List TwinWr) := []
  twinWait : Tbl (List Pkt) := []
  nextTwin : Nat := 1
  deriving DecidableEq, Repr

/-! ## Port guards (11) -/

/-- A guard rule (R207). Pages are 4 KiB pages; `ecc` is the code over bits [111:0]. -/
structure Rule where
  base : Nat := 0
  end_ : Nat := 0
  valid : Bool := false
  space : Nat := 0
  rd : Bool := false
  wr : Bool := false
  at_ : Bool := false
  sealed : Bool := false
  change : Nat := 0
  ecc : Nat := 0
  deriving DecidableEq, Repr

/-- A guard's committed rule set and `CLOSED` bits (R207, R208). -/
structure GuardCfg where
  rules : Tbl Rule := []
  closedF : Bool := false
  closedP : Bool := false
  deriving DecidableEq, Repr

/-- A violation record (R214, R219). -/
structure Viol where
  valid : Bool := false
  reason : Nat := 0
  kind : Nat := 0
  flags : Nat := 0
  need : Nat := 0
  rule : Nat := 0
  count : Nat := 0
  requester : Nat := 0
  length : Nat := 0
  addr : Nat := 0
  failPage : Nat := 0
  drip : Nat := 0
  lastDrip : Nat := 0
  deriving DecidableEq, Repr

/-- One guard's run-time state beside its committed rules (R214-R216). -/
structure GuardRt where
  viol : Viol := {}
  fault : Bool := false
  faultAt : Nat := 0
  copyLost : Bool := false
  deriving DecidableEq, Repr

/-! ## Echo and check-value engines (13, 14) -/

/-- A message in an Echo delivery queue or being written (R248-R253). -/
structure EchoMsg where
  bytes : Bytes := []
  units : Nat := 1
  prio : Nat := 0
  src : Nat := 0
  dst : Nat := 0
  yellow : Bool := false
  deriving DecidableEq, Repr

/-- One Echo endpoint: registers of R245, policer and WRED state, queue and counts (R250-R258). -/
structure Endp where
  ringBase : Nat := 0
  sizeLog : Nat := 0
  ringEn : Bool := false
  intEn : Bool := false
  wp : Nat := 0
  rp : Nat := 0
  shadow : Nat := 0
  intCount : Nat := 1
  intDelay : Nat := 0
  rxDelivered : Nat := 0
  wins : Tbl (Tbl Nat) := []
  tc : Nat := 0
  tp : Nat := 0
  tokAt : Nat := 0
  avg : Int := 0
  queue : List EchoMsg := []
  sinceInt : Nat := 0
  oldest : Option Nat := none
  via : Option Nat := none
  txSent : Nat := 0
  txDropped : Nat := 0
  rxDropped : Nat := 0
  deriving DecidableEq, Repr

/-- A delivered message whose writes await link acknowledgement (R253): its number in the island, its endpoint, the USP that carries
it, its writes as address and bytes, and how many of them have not left. -/
structure Unacked where
  id : Nat
  ep : Nat
  usp : Nat
  writes : List (Nat × Bytes)
  left : Nat
  deriving DecidableEq, Repr

/-- A message that has passed its policer and waits in the home island for its seal, since a scan runs in its slot, or behind such a message of
its endpoint (R256, R267, R271). -/
structure HeldMsg where
  ep : Nat
  dst : Nat
  prio : Nat
  slot : Option Nat
  msg : Bytes
  deriving DecidableEq, Repr

/-- One service island (R251-R254, R257). -/
structure Island26 where
  lfsr : Nat := 0xACE1
  lastServed : Nat := 4095
  nextMsg : Nat := 1
  unacked : List Unacked := []
  pickedAt : Option Nat := none
  held : List HeldMsg := []
  sump : Tbl Nat := []
  deriving DecidableEq, Repr

/-- MSI-X table entry of a service function (R244): message address, data, mask bit, pending bit. -/
structure MsixEnt where
  addr : Nat := 0
  data : Nat := 0
  masked : Bool := true
  pend : Bool := false
  deriving DecidableEq, Repr

/-- Echo at run time. -/
structure EchoSt where
  endps : Tbl Endp := []
  isls : Tbl Island26 := []
  msix : Tbl MsixEnt := []
  deriving DecidableEq, Repr

/-- How a scan read ended (R270). -/
inductive ScanLine where
  | data (bytes : Bytes)
  | unreachable
  | guard
  | poison
  deriving DecidableEq, Repr

/-- A write to a slot's registers (R264-R268): feeding bytes, a register, an operation, or one that found the context uncorrectable (R261). -/
inductive SlotWr where
  | feed (bytes : Bytes)
  | badFeed
  | reg (off size value : Nat)
  | start
  | seal (short : Bool)
  | verify (short : Bool)
  | scan
  | lost
  deriving DecidableEq, Repr

/-- A check-value context as its slot's registers show it (R261, R264, R270). `arrived` holds the scan reads that have ended and
are not yet fed, `waiting` the writes that wait for the scan (R266). -/
structure Ctx where
  running : Nat := 0
  alive : Nat := 0
  count : Nat := 0
  result : Nat := 0
  err : Nat := 0
  busy : Bool := false
  seen : Nat := 0
  outLo : Nat := 0
  outHi : Nat := 0
  inLo : Nat := 0
  inHi : Nat := 0
  scanDpa : Nat := 0
  scanGrotto : Nat := 0
  scanLines : Nat := 0
  scanNext : Nat := 0
  scanIssued : Nat := 0
  scanSeq : Nat := 0
  arrived : List (Nat × ScanLine) := []
  waiting : List SlotWr := []
  deriving DecidableEq, Repr

/-! ## Slot power (15) -/

/-- Slot states (R279). -/
inductive SlotSt where
  | unconfigured
  | empty
  | off
  | ramping
  | on
  | warnOff
  | cooldown
  | locked
  deriving DecidableEq, Repr

/-- The values of `SLOT_CONFIG` (R287). -/
structure SlotCfg where
  enable : Bool := false
  autoOn : Bool := false
  inBus : Nat := 0
  rShunt : Nat := 20
  iLim : Nat := 20
  pFold : Nat := 20
  tFault : Nat := 50
  retryMax : Nat := 0
  warnLead : Nat := 0
  port : Nat := 65535
  deriving DecidableEq, Repr

/-- One slot controller (R273-R290). Voltages in 10 mV, current in 10 mA; times are elapsed drips. `cfg` is `none` until the
first `SLOT_CONFIG` `SET`. `timer` is the fault timer up to `limSince`; `clearAt` is when the slot last left limit, `goodSince` since
when it meets power good, `offAt` when the gate turned off with VOUT still at VIN (R283). -/
structure Slot where
  cfg : Option SlotCfg := none
  st : SlotSt := .unconfigured
  present : Bool := false
  rawHigh : Bool := true
  rawSince : Nat := 0
  vin : Nat := 0
  vout : Nat := 0
  cur : Nat := 0
  allowed : Nat := 0
  inLimit : Bool := false
  limSince : Nat := 0
  timer : Nat := 0
  clearAt : Option Nat := none
  goodSince : Option Nat := none
  onAt : Nat := 0
  offAt : Option Nat := none
  warnAt : Nat := 0
  coolEnd : Nat := 0
  coolLen : Nat := 0
  retries : Nat := 0
  fresh : Bool := false
  removedInCool : Bool := false
  offInCool : Bool := false
  fetShort : Bool := false
  lastTrip : Nat := 0
  lastOn : Nat := 0
  presChanges : Nat := 0
  change : Nat := 0
  attn : Nat := 0
  deriving DecidableEq, Repr

/-- One input bus (R284), in millivolts. `hist` holds the last 16 samples, newest first. -/
structure Bus where
  mv : Nat := 0
  hist : List Nat := []
  warn : Bool := false
  under : Bool := false
  okSince : Option Nat := none
  deriving DecidableEq, Repr

/-- The slot power controllers. -/
structure PowerSt where
  slots : Tbl Slot := []
  buses : Tbl Bus := []
  deriving DecidableEq, Repr

/-! ## Management die (16, 18) -/

/-- Boot states (R299). -/
inductive Boot where
  | romInit
  | loader
  | receiving
  | verifying
  | fusing
  | starting
  | running
  | halted
  deriving DecidableEq, Repr

/-- One management cluster under the watchdog (R340-R344). -/
inductive ClSt where
  | rom
  | active
  | standby
  | failed
  deriving DecidableEq, Repr

/-- A cluster's watchdog record. -/
structure Cluster where
  st : ClSt := .rom
  beat : Bool := false
  missed : Nat := 0
  failures : List Nat := []
  deriving DecidableEq, Repr

/-- The ROM's command context on one transport (R300, R316). -/
structure RomSess where
  last : Option Nat := none
  cached : Bytes := []
  waiting : Bool := false
  deriving DecidableEq, Repr

/-- A piece of a burst of posted writes on its way over the management bridge (R294, R298): direction, die, island, address and length, the
drip of its posting, and when its last byte has entered the link, in fifths of an elapsed drip; `jrn` is the journal record it belongs to, 0 for none. -/
structure Xfer where
  outbound : Bool
  die : Nat
  isl : Nat
  addr : Nat
  len : Nat
  posted : Nat
  ends : Nat
  jrn : Nat := 0
  deriving DecidableEq, Repr

/-- An incomplete record of the journal (R342): its number and the burst it lists, by island, address and length. -/
structure JRec where
  id : Nat
  isl : Nat
  addr : Nat
  len : Nat
  deriving DecidableEq, Repr

/-- The management die (R291-R307, R340-R344). `keptEcc` marks a kept image lost to an uncorrectable error, `hbInterval` the number of
the heartbeat interval that is running, `keyHash` the OTP words `KEY_HASH0`..`KEY_HASH3` (R292). -/
structure MgmtSt where
  boot : Boot := .romInit
  bootAt : Nat := 0
  bootPort : Nat := 0
  source : Nat := 0
  kept : Bytes := []
  keptValid : Bool := false
  fromKept : Bool := false
  keptEcc : Bool := false
  rxTransport : Nat := 0
  rxLen : Nat := 0
  lastFail : Nat := 0
  starts : Nat := 0
  bridgeTo : Nat := 0
  loadDrip : Nat := 0
  runDrip : Nat := 0
  digest : Bytes := []
  keyRevoked : Nat := Config.keyRevoked.toNat
  rollback : Nat := Config.rollbackFuses.toNat
  fusePlan : List Nat := []
  fuseTries : Nat := 0
  rom : Tbl RomSess := []
  loadEnd : Option (Transport × Req) := none
  token : Nat := 0
  cl : Tbl Cluster := []
  hbInterval : Nat := 0
  bothDown : Bool := false
  mgmtRst : Bool := false
  coldRst : Bool := false
  resetWait : Option (Transport × Req) := none
  closedByReset : Nat := 0
  abortedByReset : Nat := 0
  keyHash : List Nat := (List.range 4).map (fun k => (Config.keyHash k).toNat)
  /-- Posted writes on their way over the bridge, in the order posted (R294, R298). -/
  bridge : List Xfer := []
  /-- The guard copy store's two banks (R216, R291). -/
  guardBank0 : Tbl GuardCfg := []
  guardBank1 : Tbl GuardCfg := []
  /-- The journal's incomplete records, in the order written, and the number of the next (R342). -/
  journal : List JRec := []
  nextRec : Nat := 1
  deriving DecidableEq, Repr

/-! ## Command protocol (17) -/

/-- One session (R316, R319-R321). `cached` is the cached last reply; `ran` whether it has executed anything since it opened. -/
structure Sess where
  transport : Transport
  eid : Nat
  priv : Nat
  idleS : Nat
  tag : Nat
  last : Nat
  openAlive : Nat
  cached : Bytes := []
  ran : Bool := false
  busy : Bool := false
  lastAt : Nat := 0
  deriving DecidableEq, Repr

/-- A staged command (R323), with the objects it names as (kind, number), and the fabric range of a window. -/
structure Staged where
  op : Nat
  payload : Bytes
  objs : List (Nat × Nat) := []
  range : Option (Nat × Nat) := none
  deriving DecidableEq, Repr

/-- The armed or accepted commit (R326). -/
structure Commit where
  session : Nat
  cmds : List Staged
  asked : Nat
  at_ : Nat
  posted : Bool := false
  arm : Option Nat := none
  closed : Bool := false
  deriving DecidableEq, Repr

/-- Sessions, stages and the epoch record (R320-R330). -/
structure ProtoSt where
  sessions : Tbl (Option Sess) := []
  stages : Tbl (Option (List Staged)) := []
  grants : List Nat := []
  commit : Option Commit := none
  epoch : Nat := 0
  digest : Bytes := List.replicate 48 0
  epochDrip : Nat := 0
  lastOutcome : Nat := 255
  discarded : Nat := 0
  eids : Tbl Nat := []
  i3cAddr : Tbl Nat := []
  fmLimit : Nat := 0
  committedOnce : Bool := false
  deriving DecidableEq, Repr

/-! ## The committed configuration -/

/-- `PORT_CONFIG` (R170). `role` 5 marks a port absorbed by another bundle. -/
structure PortCfg where
  role : Nat := 0
  width : Nat := 0
  maxRate : Nat := 0
  flitModes : Nat := 0
  clocking : Nat := 0
  lp : Nat := 0
  idleUs : Nat := 0
  devTo : Nat := 20
  localPbr : Nat := 0
  peerPbr : Nat := 0
  passAgent : Nat := 65535
  passVppb : Nat := 0
  deriving DecidableEq, Repr

/-- A hierarchy (R158, R173, R243). `home` is its home gallery, `homePort` the bundle that stands for `USP[0]`; `fresh` marks one that a
stage creates. -/
structure HierCfg where
  live : Bool := false
  fresh : Bool := false
  usps : List Nat := []
  vppbs : Nat := 0
  home : Nat := 0
  homePort : Nat := 0
  homeless : Bool := false
  deriving DecidableEq, Repr

/-- A grotto's committed definition and binding (R181, R198, R199). In a stage's view, `fresh` marks a grotto that the stage creates,
`rebound` one that it binds and `unbinding` one that it unbinds. -/
structure GrCfg where
  live : Bool := false
  fresh : Bool := false
  rebound : Bool := false
  unbinding : Bool := false
  agent : Nat := 0
  wins : List (Nat × Nat) := []
  bound : Bool := false
  vppb : Nat := 255
  sanitise : Bool := false
  drainMs : Nat := 10
  deriving DecidableEq, Repr

/-- A fair-stage queue's settings (R238). -/
structure QCfg where
  share : Nat := 1
  rate : Nat := 0
  burst : Nat := 0
  deriving DecidableEq, Repr

/-- A bundle's scheduler settings (R224, R238); `map` holds `QUEUE_MAP` entries plus one, unlisted entries at reset value. -/
structure SchedCfg where
  queues : Tbl QCfg := []
  map : Tbl Nat := []
  sysQ : Nat := 63
  gate : Option GateList := none
  deriving DecidableEq, Repr

/-- `ECHO_ENDPOINT_SET` and `POLICER_SET` (R258, R259). -/
structure EndpCfg where
  enable : Bool := false
  domain : Nat := 0
  green : Nat := 0
  yellow : Nat := 1
  weight : Nat := 9
  cir : Nat := 0
  pir : Nat := 0
  cbs : Nat := 0
  pbs : Nat := 0
  deriving DecidableEq, Repr

/-- `WRED_PROFILE_SET` (R260). -/
structure WredCfg where
  minTh : Nat := 1024
  maxTh : Nat := 4096
  maxP : Nat := 128
  deriving DecidableEq, Repr

/-- `CHECK_CONTEXT_ASSIGN` (R272). -/
structure CheckCfg where
  assigned : Bool := false
  alg : Nat := 0
  mode : Nat := 0
  engine : Nat := 0
  ctx : Nat := 0
  change : Nat := 0
  deriving DecidableEq, Repr

/-- A trace filter (R359, R369). -/
structure Filter where
  type : Nat
  galMask : Nat
  classMask : Nat
  pointMask : Nat
  lo : Nat
  hi : Nat
  agent : Nat
  kindMask : Nat
  sampleLog : Nat
  deriving DecidableEq, Repr

/-- A programmable counter's settings (R365, R370). -/
structure ProgCfg where
  select : Nat := 0
  mode : Nat := 0
  wrapEvent : Bool := false
  freezeAll : Bool := false
  qual : Nat := 0
  deriving DecidableEq, Repr

/-- A gallery's sampler (R371). -/
structure SampCfg where
  enable : Bool := false
  kindMask : Nat := 0
  lo : Nat := 0
  hi : Nat := 0
  agent : Nat := 65535
  period : Nat := 0
  deriving DecidableEq, Repr

/-- Everything an epoch commits. Check slots are keyed 32 × agent + slot, exponents by gallery. -/
structure Cfg where
  ports : Tbl PortCfg := []
  hiers : Tbl HierCfg := []
  grottos : Tbl GrCfg := []
  wins : Tbl WinCfg := []
  guards : Tbl GuardCfg := []
  scheds : Tbl SchedCfg := []
  alpha : Tbl (List Int) := []
  endps : Tbl EndpCfg := []
  wred : Tbl WredCfg := [(0, { minTh := 4096, maxTh := 8192, maxP := 64 })]
  checks : Tbl CheckCfg := []
  biTimeout : Nat := 1000
  traceOn : Bool := false
  filters : List Filter := []
  sweep : Nat := 800000
  progs : Tbl (List ProgCfg) := []
  samps : Tbl SampCfg := []
  deriving DecidableEq, Repr

/-! ## Events, Lantern and counters (18, 19) -/

/-- An event record (R347), with the island that raised it. -/
structure EvRec where
  source : Nat
  code : Nat
  sev : Nat
  unsure : Bool := false
  drip : Nat := 0
  epoch : Nat := 0
  data : Bytes := []
  isl : Nat := 0
  born : Nat := 0
  deriving DecidableEq, Repr

/-- A suppression entry (R353). -/
structure MaskEnt where
  code : Nat := 0
  sevMask : Nat := 0
  lo : Nat := 0
  hi : Nat := 0
  suppressed : Nat := 0
  deriving DecidableEq, Repr

/-- A notice that records have entered the queue (R351): the in-band interrupts sent on `I3C_A` and `I3C_B`, each with its mandatory data byte,
and MSI vector 0 of the management function. -/
structure Notice where
  i3cA : Bool
  i3cB : Bool
  msi : Bool
  mdb : Nat := 0x45
  deriving DecidableEq, Repr

/-- The event path: records raised and not yet arrived, the queue with its sequence numbers, and notices (R350-R353); `heldBack` are the
management die's records that wait for firmware (R344). -/
structure EvSt where
  inbound : List EvRec := []
  queue : List (Nat × EvRec) := []
  nextSeq : Nat := 0
  lostOpen : Bool := false
  masks : Tbl MaskEnt := []
  newSince : Bool := false
  lastNotice : Option Nat := none
  notices : List Notice := []
  heldBack : List EvRec := []
  deriving DecidableEq, Repr

/-- A trace record waiting for Lantern (R357, R360): the die whose queue holds it, its drip, its 32 bytes, and the elapsed
drip it was queued, from which its age runs. -/
structure Trace where
  die : Nat
  drip : Nat
  bytes : Bytes
  born : Nat := 0
  deriving DecidableEq, Repr

/-- A gallery's programmable counters (R365, R366): counts, the drip at which each last stepped past 2^48 - 1, wrapped and frozen bits. -/
structure Prog where
  counts : Tbl Nat := []
  wrapAt : Tbl Nat := []
  wrapped : Nat := 0
  frozen : Nat := 0
  levels : Nat := 0
  deriving DecidableEq, Repr

/-- A sample in flight (R367, R368): its number, the request it follows (ingress bundle, tag, protocol), the record's first 24 bytes with the drip of
decode, what its stages have stamped so far as offsets by stage, and whether it has ended. -/
structure SampRun where
  id : Nat
  port : Nat
  tag : Nat
  proto : Nat
  head : Bytes
  start : Nat
  stamps : Tbl Nat := []
  flags : Nat := 0
  deferrals : Nat := 0
  home : Nat := 255
  prior : Nat := 255
  ended : Bool := false
  deriving DecidableEq, Repr

/-- A sampler at run time (R367): matches seen in the present period, whether a sample is due, samples taken, samples in flight, and the ring, newest first. -/
structure Samp where
  seen : Nat := 0
  due : Bool := false
  taken : Nat := 0
  flying : List SampRun := []
  ring : List Bytes := []
  deriving DecidableEq, Repr

/-- Lantern, counters and sampling. A sweep is kept as its drip and its latched values, keyed by block, instance and index. `edge` holds
the counters as the present drip found them, taken at every drip a sweep may name (R26, R363); `scramblers` each output lane's register of the
last 58 bits sent (R355). -/
structure LanSt where
  frameSeq : Nat := 0
  frames : Nat := 0
  sent : Nat := 0
  dropped : Nat := 0
  dropDie : Tbl Nat := []
  traces : List Trace := []
  matches_ : Tbl Nat := []
  progs : Tbl Prog := []
  samps : Tbl Samp := []
  readable : Option (Nat × Tbl Nat × List Nat) := none
  latched : Option (Nat × Tbl Nat × List Nat) := none
  edge : Option (Nat × Tbl Nat) := none
  scramblers : Tbl Nat := []
  deriving DecidableEq, Repr

/-! ## Pins and what leaves the part -/

/-- Lands the switch drives or samples that no other field holds (R382, R385, R387, R390). -/
structure PinSt where
  pwrOk : Bool := true
  coldRstN : Bool := true
  mgmtRstN : Bool := true
  thermTripN : Bool := true
  ppsOutUntil : Option Nat := none
  vidValid : Bool := true
  die : List Int := []
  rails : List Nat := []
  hot : Nat := 0
  railBad : Nat := 0
  deriving DecidableEq, Repr

/-- A reply packet (R312), with the transport and endpoint it goes to. -/
structure Reply where
  transport : Transport
  eid : Nat
  bytes : Bytes
  deriving DecidableEq, Repr

/-- A reply of a standard interface whose encoding another standard gives (R182, R308, R310): interface 0 FM API, 1 MCTP
control, 2 grotto mailbox; object; opcode; return code (0 success, 1 unsupported, 2 refused); the values the spec states. -/
structure ExtReply where
  iface : Nat
  obj : Nat
  op : Nat
  rc : Nat
  vals : List Nat
  deriving DecidableEq, Repr

/-- A sideband word sent (R52): type, sender, column, receiver (8 all), its body fields, and the drip it was put out. -/
structure SbWord where
  type : Nat
  from_ : Nat
  col : Nat
  dest : Nat
  body : List Nat
  at_ : Nat := 0
  deriving DecidableEq, Repr

/-- A 64b/66b block on a Lantern lane (R355): whether it is a control block, and its 64 bits after scrambling, the first sent lowest. -/
structure LineBlock where
  lane : Nat
  control : Bool
  bits : Nat
  deriving DecidableEq, Repr

/-- What has left the part's lands, oldest first; `kills` are the passages and ends whose 64 `KILL` lane words have been sent (R60). -/
structure OutSt where
  replies : List Reply := []
  ext : List ExtReply := []
  toPort : List (Nat × Pkt) := []
  lantern : List Bytes := []
  lanternCtl : List Bytes := []
  lanternLine : List LineBlock := []
  sideband : List SbWord := []
  hotplug : List (Nat × Nat × Bool) := []
  beacons : Nat := 0
  kills : List (Nat × Nat) := []
  marginCaps : Tbl (List Nat) := []
  aer : List (Nat × Nat) := []
  deriving DecidableEq, Repr

/-! ## The machine -/

/-- Why a step stops. No meaning of this model faults: the type names the one stop the step function itself can make. -/
inductive Fault where
  /-- Raised by nobody: the part has no fault a step could stop with (R1-R392 give every step an effect). Safe. -/
  | unreachable
  deriving DecidableEq, Repr

/-- Why a command has no meaning. -/
inductive Refusal where
  /-- Raised by `exec` for a command whose meaning is not written. Safe. -/
  | notModelled (mnemonic : String)
  deriving DecidableEq, Repr

/-- The whole block. -/
structure State where
  time : TimeSt := {}
  core : CoreSt := {}
  dir : DirSt := {}
  port : PortSt := {}
  sched : Tbl Sched := []
  mem : MemSt := {}
  guard : Tbl GuardRt := []
  echo : EchoSt := {}
  check : Tbl Ctx := []
  power : PowerSt := {}
  mgmt : MgmtSt := {}
  proto : ProtoSt := {}
  cfg : Cfg := {}
  ev : EvSt := {}
  lan : LanSt := {}
  pin : PinSt := {}
  out : OutSt := {}
  free : Nat := 0
  pending : List Instr := []
  deriving DecidableEq, Repr

/-- The machine at the effective release of cold reset (R6, R15, R293, R385), with `BOOT_SEL` 0: drip 0, the ROM in
`ROM_INIT`, every port `UNUSED` but the boot port, every slot `UNCONFIGURED`, every table empty. Values the spec does not
state are in logs 3 and 4. -/
def State.reset : State := {}

end Sys2Proof.Machine
end

