-- ==== Sys2Proof/Machine/Ops.lean ====
section
/-!
DEFINITION. The named operations over the state: accessors of each table, numbering (R2, R13), raising events (R347),
free values, and what leaves the part.
-/

namespace Sys2Proof.Machine

/-! ## Numbering (R2, R13) -/

/-- Gallery of a port (R2). -/
def galOf (port : Nat) : Nat :=
  port / 64

/-- Local number of a port (R2). -/
def localOf (port : Nat) : Nat :=
  port % 64

/-- Island of a port's quad (R2, R13). -/
def quadIsl (port : Nat) : Nat :=
  31 * (port / 64) + port % 64 / 4

/-- Gallery core island (R13). -/
def coreIsl (g : Nat) : Nat :=
  31 * g + 16

/-- Slice island (R13). -/
def sliceIsl (g sl : Nat) : Nat :=
  31 * g + 17 + sl

/-- Service island (R13). -/
def svcIsl (g : Nat) : Nat :=
  31 * g + 26

/-- Gallery end of a passage (R13). -/
def pasIslG (g c : Nat) : Nat :=
  31 * g + 27 + c

/-- Column core (R13). -/
def colIsl (c : Nat) : Nat :=
  248 + 9 * c

/-- Column end of a passage (R13). -/
def pasIslC (g c : Nat) : Nat :=
  248 + 9 * c + 1 + g

/-- The nine islands of a column (R13). -/
def colIslands (c : Nat) : List Nat :=
  (List.range 9).map (fun k => 248 + 9 * c + k)

/-- The gallery whose tables an island holds. -/
def islandGal (i : Nat) : Option Nat :=
  if i < 248 then some (i / 31) else none

/-- Management islands, the time master among them (R13). -/
def isMgmtIsl (i : Nat) : Bool :=
  decide (284 ≤ i) && decide (i ≤ 289)

/-! ## Accessors -/

/-- The present drip count. -/
def State.drip (s : State) : Nat :=
  s.time.drip

/-- Drips counted since cold reset, never stepped. -/
def State.now (s : State) : Nat :=
  s.time.elapsed

/-- An island. -/
def State.isl (s : State) (i : Nat) : Island :=
  tget {} s.time.islands i

/-- Change an island. -/
def State.modIsl (s : State) (i : Nat) (f : Island → Island) : State :=
  { s with time := { s.time with islands := tmod {} s.time.islands i f } }

/-- The island is sure; the time master always is (R19). -/
def State.sure (s : State) (i : Nat) : Bool :=
  i == 284 || (s.isl i).st == .sure

/-- The island is time-unsure: until it has been recalibrated (R20). -/
def State.unsure (s : State) (i : Nat) : Bool :=
  i != 284 && (s.isl i).unsure

/-- A gallery. -/
def State.gal (s : State) (g : Nat) : Gal :=
  tget {} s.core.gals g

/-- Change a gallery. -/
def State.modGal (s : State) (g : Nat) (f : Gal → Gal) : State :=
  { s with core := { s.core with gals := tmod {} s.core.gals g f } }

/-- A column. -/
def State.col (s : State) (c : Nat) : Col :=
  tget {} s.core.cols c

/-- Change a column. -/
def State.modCol (s : State) (c : Nat) (f : Col → Col) : State :=
  { s with core := { s.core with cols := tmod {} s.core.cols c f } }

/-- A passage, numbered 4g + c. -/
def State.pas (s : State) (p : Nat) : Pas :=
  tget {} s.core.pas p

/-- Change a passage. -/
def State.modPas (s : State) (p : Nat) (f : Pas → Pas) : State :=
  { s with core := { s.core with pas := tmod {} s.core.pas p f } }

/-- A physical slice. -/
def State.slice (s : State) (g sl : Nat) : Slice :=
  tget {} s.dir.slices (9 * g + sl)

/-- Change a slice. -/
def State.modSlice (s : State) (g sl : Nat) (f : Slice → Slice) : State :=
  { s with dir := { s.dir with slices := tmod {} s.dir.slices (9 * g + sl) f } }

/-- A fence. -/
def State.fence (s : State) (a : Nat) : Fence :=
  tget {} s.dir.fences a

/-- Change a fence. -/
def State.modFence (s : State) (a : Nat) (f : Fence → Fence) : State :=
  { s with dir := { s.dir with fences := tmod {} s.dir.fences a f } }

/-- A bundle's link. -/
def State.prt (s : State) (b : Nat) : Port :=
  tget {} s.port.ports b

/-- Key of a function of a USP (R158). -/
def fnKey (usp f : Nat) : Nat :=
  256 * usp + f

/-- Configuration space of a function. -/
def State.fn (s : State) (usp f : Nat) : FnCfg :=
  tget {} s.port.fns (fnKey usp f)

/-- Change the configuration space of a function. -/
def State.modFn (s : State) (usp f : Nat) (h : FnCfg → FnCfg) : State :=
  { s with port := { s.port with fns := tmod {} s.port.fns (fnKey usp f) h } }

/-- The agent of a packet that is no hierarchy's. -/
def noAgent : Nat :=
  65535

/-- Change a bundle's link. -/
def State.modPrt (s : State) (b : Nat) (f : Port → Port) : State :=
  { s with port := { s.port with ports := tmod {} s.port.ports b f } }

/-- A lane. -/
def State.lane (s : State) (m : Nat) : Lane :=
  tget {} s.port.lanes m

/-- Change a lane. -/
def State.modLane (s : State) (m : Nat) (f : Lane → Lane) : State :=
  { s with port := { s.port with lanes := tmod {} s.port.lanes m f } }

/-- A lane reference input. -/
def State.refclk (s : State) (j : Nat) : RefClk :=
  tget {} s.port.refclks j

/-- Change a lane reference input. -/
def State.modRefclk (s : State) (j : Nat) (f : RefClk → RefClk) : State :=
  { s with port := { s.port with refclks := tmod {} s.port.refclks j f } }

/-- A bundle's last loopback test. -/
def State.loop (s : State) (b : Nat) : Loop :=
  tget {} s.port.loops b

/-- Change a bundle's loopback test. -/
def State.modLoop (s : State) (b : Nat) (f : Loop → Loop) : State :=
  { s with port := { s.port with loops := tmod {} s.port.loops b f } }

/-- A bundle's scheduler. -/
def State.sch (s : State) (b : Nat) : Sched :=
  tget {} s.sched b

/-- Change a bundle's scheduler. -/
def State.modSch (s : State) (b : Nat) (f : Sched → Sched) : State :=
  { s with sched := tmod {} s.sched b f }

/-- A grotto at run time. -/
def State.gr (s : State) (n : Nat) : GrRt :=
  tget {} s.mem.grottos n

/-- Change a grotto at run time. -/
def State.modGr (s : State) (n : Nat) (f : GrRt → GrRt) : State :=
  { s with mem := { s.mem with grottos := tmod {} s.mem.grottos n f } }

/-- A window at run time. -/
def State.win (s : State) (w : Nat) : WinRt :=
  tget {} s.mem.wins w

/-- Change a window at run time. -/
def State.modWin (s : State) (w : Nat) (f : WinRt → WinRt) : State :=
  { s with mem := { s.mem with wins := tmod {} s.mem.wins w f } }

/-- A guard at run time. -/
def State.grd (s : State) (b : Nat) : GuardRt :=
  tget {} s.guard b

/-- Change a guard at run time. -/
def State.modGrd (s : State) (b : Nat) (f : GuardRt → GuardRt) : State :=
  { s with guard := tmod {} s.guard b f }

/-- An Echo endpoint. -/
def State.endp (s : State) (e : Nat) : Endp :=
  tget {} s.echo.endps e

/-- Change an Echo endpoint. -/
def State.modEndp (s : State) (e : Nat) (f : Endp → Endp) : State :=
  { s with echo := { s.echo with endps := tmod {} s.echo.endps e f } }

/-- A service island. -/
def State.svc (s : State) (g : Nat) : Island26 :=
  tget {} s.echo.isls g

/-- Change a service island. -/
def State.modSvc (s : State) (g : Nat) (f : Island26 → Island26) : State :=
  { s with echo := { s.echo with isls := tmod {} s.echo.isls g f } }

/-- The context behind slot `h` of agent `a`. -/
def State.ctx (s : State) (a h : Nat) : Ctx :=
  tget {} s.check (32 * a + h)

/-- Change a context. -/
def State.modCtx (s : State) (a h : Nat) (f : Ctx → Ctx) : State :=
  { s with check := tmod {} s.check (32 * a + h) f }

/-- A slot controller. -/
def State.slot (s : State) (n : Nat) : Slot :=
  tget {} s.power.slots n

/-- Change a slot controller. -/
def State.modSlot (s : State) (n : Nat) (f : Slot → Slot) : State :=
  { s with power := { s.power with slots := tmod {} s.power.slots n f } }

/-- An input bus. -/
def State.bus (s : State) (b : Nat) : Bus :=
  tget {} s.power.buses b

/-- Change an input bus. -/
def State.modBus (s : State) (b : Nat) (f : Bus → Bus) : State :=
  { s with power := { s.power with buses := tmod {} s.power.buses b f } }

/-- A management cluster, 0 MP-A and 1 MP-B. -/
def State.cluster (s : State) (n : Nat) : Cluster :=
  tget {} s.mgmt.cl n

/-- Change a cluster. -/
def State.modCluster (s : State) (n : Nat) (f : Cluster → Cluster) : State :=
  { s with mgmt := { s.mgmt with cl := tmod {} s.mgmt.cl n f } }

/-- An open session. -/
def State.sess (s : State) (n : Nat) : Option Sess :=
  tget none s.proto.sessions n

/-- Write a session. -/
def State.setSess (s : State) (n : Nat) (v : Option Sess) : State :=
  { s with proto := { s.proto with sessions := tput none s.proto.sessions n v } }

/-- A session's stage. -/
def State.stage (s : State) (n : Nat) : Option (List Staged) :=
  tget none s.proto.stages n

/-- Write a session's stage. -/
def State.setStage (s : State) (n : Nat) (v : Option (List Staged)) : State :=
  { s with proto := { s.proto with stages := tput none s.proto.stages n v } }

/-! ## The committed configuration -/

/-- A port's settings in a configuration. -/
def Cfg.port (c : Cfg) (b : Nat) : PortCfg :=
  tget {} c.ports b

/-- A hierarchy in a configuration. -/
def Cfg.hier (c : Cfg) (a : Nat) : HierCfg :=
  tget {} c.hiers a

/-- A grotto in a configuration. -/
def Cfg.gr (c : Cfg) (n : Nat) : GrCfg :=
  tget {} c.grottos n

/-- A window in a configuration. -/
def Cfg.win (c : Cfg) (w : Nat) : WinCfg :=
  tget {} c.wins w

/-- A guard in a configuration. -/
def Cfg.grd (c : Cfg) (b : Nat) : GuardCfg :=
  tget {} c.guards b

/-- A scheduler in a configuration. -/
def Cfg.sch (c : Cfg) (b : Nat) : SchedCfg :=
  tget {} c.scheds b

/-- A queue's settings. -/
def Cfg.queue (c : Cfg) (b q : Nat) : QCfg :=
  tget {} (c.sch b).queues q

/-- An endpoint in a configuration. -/
def Cfg.endp (c : Cfg) (e : Nat) : EndpCfg :=
  tget {} c.endps e

/-- A WRED profile in a configuration. -/
def Cfg.prof (c : Cfg) (p : Nat) : WredCfg :=
  tget {} c.wred p

/-- A check slot in a configuration. -/
def Cfg.check (c : Cfg) (a h : Nat) : CheckCfg :=
  tget {} c.checks (32 * a + h)

/-- The class exponents k of a gallery, with the reset values of R71. -/
def Cfg.alphas (c : Cfg) (g : Nat) : List Int :=
  match tget [] c.alpha g with
  | [] => [0, 1, 1, -1, -2, 0, -3]
  | l => l

/-- The role code of a port (R151): `BOOT` for the boot port, 5 for an absorbed port. -/
def roleIn (s : State) (c : Cfg) (b : Nat) : Nat :=
  if b == s.mgmt.bootPort then 4 else (c.port b).role

/-- The role of a port in force. -/
def State.role (s : State) (b : Nat) : Nat :=
  roleIn s s.cfg b

/-- Ports of a bundle of width code `w` (R152). -/
def widthPorts (w : Nat) : Nat :=
  2 ^ w

/-- Lanes of a width code. -/
def widthLanes (w : Nat) : Nat :=
  2 * 2 ^ w

/-- The bundle a port belongs to in a configuration: the highest aligned bundle name at or below it that covers it. -/
def bundleOf (c : Cfg) (port : Nat) : Nat :=
  match [0, 1, 2, 3].find? (fun w =>
      let b := port / 2 ^ w * 2 ^ w
      (c.port b).role != 5 && decide (port < b + widthPorts (c.port b).width)) with
  | some w => port / 2 ^ w * 2 ^ w
  | none => port

/-- The port names a bundle: any port that is not absorbed by another (R152). -/
def isBundle (s : State) (c : Cfg) (b : Nat) : Bool :=
  decide (b < 512) && roleIn s c b != 5

/-- A Type 3 DSP, not in pass-through (R163). -/
def isType3 (c : Cfg) (b : Nat) : Bool :=
  (c.port b).role == 2 && (c.port b).passAgent == 65535

/-- A bundle whose guard acts (R204). -/
def isGuarded (c : Cfg) (b : Nat) : Bool :=
  (c.port b).role == 1 || (c.port b).role == 3 || ((c.port b).role == 2 && (c.port b).passAgent != 65535)

/-- The agent whose hierarchy lists a USP. -/
def uspAgent (c : Cfg) (b : Nat) : Option Nat :=
  ((c.hiers.find? (fun h => h.2.live && h.2.usps.contains b))).map (·.1)

/-! ## Link state (R166) -/

/-- The link counts as up: Recovery and every low-power state are up (R166). -/
def linkUp : LinkSt → Bool
  | .l0 => true
  | .l0p => true
  | .l1 => true
  | .l11 => true
  | .l12 => true
  | .recovery => true
  | _ => false

/-- A bundle is up. A port of a lost gallery is down (R338). -/
def State.up (s : State) (b : Nat) : Bool :=
  linkUp (s.prt b).link && (s.gal (galOf b)).lost.isNone

/-- The first USP of a hierarchy's list that is up (R160). -/
def firstLive (s : State) (a : Nat) : Option Nat :=
  (s.cfg.hier a).usps.find? s.up

/-! ## Events (R334, R347, R348) -/

/-- `EV_LINK_UP` and the other event codes of R348. -/
def evLinkUp : Nat := 0x001
def evLinkDown : Nat := 0x002
def evLinkDegraded : Nat := 0x003
def evGuardViolation : Nat := 0x010
def evGuardFault : Nat := 0x011
def evPassageDead : Nat := 0x020
def evColumnOffline : Nat := 0x021
def evColumnOnline : Nat := 0x022
def evReseqHole : Nat := 0x023
def evSliceEcc : Nat := 0x030
def evSliceSpared : Nat := 0x031
def evDirPointerMode : Nat := 0x032
def evBiTimeout : Nat := 0x033
def evHostLinesLost : Nat := 0x034
def evGrottoDrained : Nat := 0x040
def evGrottoBound : Nat := 0x041
def evTwinDegraded : Nat := 0x042
def evTwinResynced : Nat := 0x043
def evPostedWriteFailed : Nat := 0x044
def evSlotTrip : Nat := 0x050
def evSlotRetry : Nat := 0x051
def evSlotPowerGood : Nat := 0x052
def evInputWarn : Nat := 0x053
def evMpTakeover : Nat := 0x060
def evTimeUnsure : Nat := 0x061
def evEpochCommitted : Nat := 0x062
def evEventLost : Nat := 0x063
def evCounterWrap : Nat := 0x064
def evThermal : Nat := 0x065

/-- The codes of R348. -/
def evCodes : List Nat :=
  [0x001, 0x002, 0x003, 0x010, 0x011, 0x020, 0x021, 0x022, 0x023, 0x030, 0x031, 0x032, 0x033, 0x034] ++
    [0x040, 0x041, 0x042, 0x043, 0x044, 0x050, 0x051, 0x052, 0x053, 0x060, 0x061, 0x062, 0x063, 0x064, 0x065]

/-- Data bytes 0-15 of an event: bytes 0-7 as given, padded with zeros, then the drip in bytes 8-15. -/
def evData (head : Bytes) (drip : Nat) : Bytes :=
  (head ++ List.replicate 8 0).take 8 ++ leBytes 8 drip

/-- Firmware runs on at least one cluster. -/
def firmwareUp (s : State) : Bool :=
  s.mgmt.boot == .running && !s.mgmt.bothDown && !s.mgmt.mgmtRst && !s.mgmt.coldRst

/-- Raise a record of drip `drip` (R347, R348). Those of the processors' own sources wait while no firmware runs (R344). -/
def raiseAt (s : State) (drip source code sev island : Nat) (data : Bytes) : State :=
  let r : EvRec :=
    { source := source, code := code, sev := sev, unsure := s.unsure island, drip := drip,
      epoch := s.proto.epoch, data := data, isl := island, born := s.now }
  { s with ev :=
    if decide (1556 ≤ source) && decide (source ≤ 1571) && !firmwareUp s then { s.ev with heldBack := s.ev.heldBack ++ [r] }
    else { s.ev with inbound := s.ev.inbound ++ [r] } }

/-- Raise an event from an island: the record enters the bridge's inbound event class (R294, R347, R350). -/
def raise (s : State) (source code sev island : Nat) (data : Bytes) : State :=
  raiseAt s s.drip source code sev island data

/-- Firmware runs again: what waited for it is raised (R344). -/
def raiseHeld (s : State) : State :=
  { s with ev := { s.ev with inbound := s.ev.inbound ++ s.ev.heldBack, heldBack := [] } }

/-- The MSI-X table of a hierarchy as at reset. -/
def resetMsix (s : State) (a : Nat) : State :=
  { s with echo := { s.echo with msix := s.echo.msix.filter (fun e => e.1 / 16 != a) } }

/-- Raise a time-base event (R33). -/
def raiseTime (s : State) (source cause sev island drip : Nat) : State :=
  raise s source evTimeUnsure sev 284 (evData (leBytes 1 cause ++ leBytes 1 0 ++ leBytes 2 island) drip)

/-- The class of R21's row for an unsure island: 2 degraded for a quad, 3 visible for a gallery core, 1 masked otherwise. -/
def unsureSev (i : Nat) : Nat :=
  if i < 248 then
    if i % 31 < 16 then 2 else if i % 31 = 16 then 3 else 1
  else 1

/-! ## Free values -/

/-- Take the next free value (log 2). -/
def draw (s : State) : Nat × State :=
  (Config.freeNat s.free, { s with free := s.free + 1 })

/-! ## What leaves the part -/

/-- Send a packet out of a port. -/
def toPort (s : State) (b : Nat) (p : Pkt) : State :=
  { s with out := { s.out with toPort := s.out.toPort ++ [(b, p)] } }

/-- Bits [55:8] of a sideband word, by its type (R52). -/
def sbBody (w : SbWord) : Nat :=
  let f := fun (i width lo : Nat) => w.body.getD i 0 % 2 ^ width * 2 ^ (lo - 8)
  match w.type with
  | 1 => f 0 16 8 + f 1 16 24
  | 2 => f 0 8 8 + f 1 7 16
  | 3 => f 0 7 8
  | 4 => f 0 3 8 + f 1 7 11 + f 2 16 18
  | 5 => f 0 8 8 + f 1 8 16 + f 2 32 24
  | _ => 0

/-- The 64 bits of a sideband word, `SB_CRC` over bits [55:0] on top (R52). -/
def sbWord64 (w : SbWord) : Nat :=
  let low := w.type % 16 + w.dest % 16 * 2 ^ 4 + sbBody w * 2 ^ 8
  low + crc8 (leBytes 7 low) * 2 ^ 56

/-- The order in which words that wait together go: `NOTICE`, `FLOW`, `ACK`, `ADVERT`, `GRANT` (R52). -/
def sbRank (w : SbWord) : Nat :=
  match w.type with
  | 5 => 0
  | 3 => 1
  | 1 => 2
  | 2 => 3
  | 4 => 4
  | _ => 5

/-- Put a word among those sent: before the first of lower rank that waits with it, put out on the same drip for the same passage. -/
def sbInsert (w : SbWord) : List SbWord → List SbWord
  | [] => [w]
  | x :: xs =>
    if x.at_ == w.at_ && x.from_ == w.from_ && x.col == w.col && decide (sbRank w < sbRank x) then w :: x :: xs
    else x :: sbInsert w xs

/-- Send a sideband word (R52), counted by the column that routes it (R364, block 3). -/
def sendSb (s : State) (w : SbWord) : State :=
  let s := if w.col < 4 then s.modCol w.col (fun c => { c with sbRouted := (c.sbRouted + 1) % 2 ^ 64 }) else s
  { s with out := { s.out with sideband := sbInsert { w with at_ := s.now } s.out.sideband } }

/-- The 64 `KILL` lane words of end `endp` of a passage leave on every outbound data lane (R60). -/
def sendKill (s : State) (p endp : Nat) : State :=
  { s with out := { s.out with kills := s.out.kills ++ [(p, endp)] } }

/-- Cells a column has carried since cold reset: those that have left it, and those past its crossbar, which a cell reaches 10 drips
after its launch and 10 before its arrival (R39, R47). -/
def carried (s : State) (c : Nat) : Nat :=
  ((s.col c).cells + (s.core.flights.filter (fun f => f.c == c && decide (f.at24 ≤ 24 * s.now + 263))).length) % 2 ^ 64

/-- An armed action is to be performed on this edge: its drip is the present count, or one that a load passed over on this edge
(R22, R30). -/
def launchHere (s : State) (a : Arm) : Bool :=
  a.at_ == s.drip || (match s.time.skip with
    | some (lo, hi) => s.drip == hi && decide (lo ≤ a.at_) && decide (a.at_ ≤ hi)
    | none => false)

/-- A decided action waits to be performed on this edge, before boundaries, gate entries and snapshots (R23). -/
def launchWaits (s : State) : Bool :=
  s.time.arms.any (fun a => a.decided && launchHere s a)

/-- A function's `ERR_NONFATAL` message leaves on a USP (R167, R212). -/
def errNonfatal (s : State) (usp f : Nat) : State :=
  { s with out := { s.out with aer := s.out.aer ++ [(usp, f)] } }

/-- A reply of a standard interface (R182, R308, R310). -/
def extReply (s : State) (iface obj op rc : Nat) (vals : List Nat) : State :=
  { s with out := { s.out with ext := s.out.ext ++ [{ iface := iface, obj := obj, op := op, rc := rc, vals := vals }] } }

/-- Add one to a counter of a port (R364, block 1). -/
def countPort (s : State) (b i n : Nat) : State :=
  s.modPrt b (fun p => { p with ctr := tmod 0 p.ctr i (fun v => (v + n) % 2 ^ 64) })

/-- A partner's message of `n` payload bytes has arrived at a port. How many flits it took, and how many link-layer retries, the
spec does not state: free values (log 2). -/
def rxMsg (s : State) (b n : Nat) : State :=
  let (flits, s) := draw s
  let (retries, s) := draw s
  let s := countPort (countPort (countPort s b 0 flits) b 2 1) b 4 n
  s.modPrt b (fun p => { p with retries := sat 32 (p.retries + retries) })

/-- A message that a port discards is counted in `LATE_REPLIES` (R171). -/
def countLate (s : State) (b : Nat) : State :=
  s.modPrt b (fun p => { p with late := sat 32 (p.late + 1) })

/-- Add to a counter of a passage (R364, block 2). -/
def countPas (s : State) (p i n : Nat) : State :=
  s.modPas p (fun q => { q with ctr := tmod 0 q.ctr i (fun v => (v + n) % 2 ^ 64) })

/-- Add to a counter of a gallery (R364, block 4). -/
def countGal (s : State) (g i n : Nat) : State :=
  s.modGal g (fun q => { q with ctr := tmod 0 q.ctr i (fun v => (v + n) % 2 ^ 64) })

/-- Fold an operation over a list of keys. -/
def forEach {α : Type} (l : List α) (s : State) (f : State → α → State) : State :=
  l.foldl f s

/-- A next state. -/
abbrev Out := Host.Outcome State Fault Refusal

/-- The command happened: the machine goes on. -/
def ok (s : State) : Out :=
  .next s

/-- A command that arrives when its condition does not hold changes nothing (log 5). -/
def due (c : Bool) (s t : State) : Out :=
  .next (if c then t else s)

end Sys2Proof.Machine
end

