-- ==== Sys2Proof/Machine/Bridge.lean ====
section
/-!
DEFINITION. The management bridge's posted writes (R293-R298): bursts cut at 4 KiB boundaries, each die's link in each direction, and what is
still on its way.
-/

namespace Sys2Proof.Machine

/-- The die of an island: its gallery, else its column's, else the management die. -/
def islandDie (i : Nat) : Nat :=
  match islandGal i with
  | some g => g
  | none => if i < 284 then 8 + (i - 248) / 9 else 12

/-- A burst cut at every 4 KiB address boundary, in address order (R298). `n` bounds the pieces. -/
def cutBurst : Nat → Nat → Nat → List (Nat × Nat)
  | 0, _, _ => []
  | n + 1, a, l =>
    if l == 0 then []
    else
      let k := min l (4096 - a % 4096)
      (a, k) :: cutBurst n (a + k) (l - k)

/-- The pieces of a burst. -/
def pieceList (a l : Nat) : List (Nat × Nat) :=
  cutBurst (l / 4096 + 2) a l

/-- When a die's link in one direction is free again, in fifths of a drip. -/
def linkFree (s : State) (outbound : Bool) (die : Nat) : Nat :=
  (s.mgmt.bridge.filter (fun x => x.outbound == outbound && x.die == die)).foldl (fun t x => max t x.ends) (5 * s.now)

/-- Post one transfer: 6.4 drips for each 64 bytes, behind what its link still carries (R293, R295). -/
def postPiece (outbound : Bool) (i jrn : Nat) (s : State) (p : Nat × Nat) : State :=
  let x : Xfer := { outbound := outbound, die := islandDie i, isl := i, addr := p.1, len := p.2, posted := s.drip,
                    ends := linkFree s outbound (islandDie i) + 32 * ((p.2 + 63) / 64), jrn := jrn }
  { s with mgmt := { s.mgmt with bridge := s.mgmt.bridge ++ [x] } }

/-- Post a burst of `l` bytes at an address of an island's register blocks, or from the island into a near store. -/
def postBurst (s : State) (outbound : Bool) (i a l : Nat) : State :=
  forEach (pieceList a l) s (postPiece outbound i 0)

/-- A transfer has crossed: 96 drips behind its last byte. -/
def crossed (s : State) (x : Xfer) : Bool :=
  decide (x.ends + 480 ≤ 5 * s.now)

/-- What has crossed is delivered. A journal record is complete, and goes, when the last of its writes is acknowledged while firmware runs to mark
it (R342). -/
def drainBridge (s : State) : State :=
  if s.mgmt.bridge.isEmpty then s
  else
    let left := s.mgmt.bridge.filter (fun x => !crossed s x)
    { s with mgmt := { s.mgmt with
      bridge := left
      journal := if firmwareUp s then s.mgmt.journal.filter (fun r => left.any (fun x => x.jrn == r.id)) else s.mgmt.journal } }

/-- Posted data of a die that an event raised at drip `d` may not pass (R295). -/
def dataAhead (s : State) (die d : Nat) : Bool :=
  s.mgmt.bridge.any (fun x => !x.outbound && x.die == die && decide (x.posted ≤ d))

/-- The outbound buffers hold a write for one of some islands (R295). -/
def writesFor (s : State) (is : List Nat) : Bool :=
  s.mgmt.bridge.any (fun x => x.outbound && is.contains x.isl)

/-- A management reset: what the bridge has accepted outbound is still delivered, what was on its way in is lost (R293). -/
def resetBridge (s : State) : State :=
  { s with mgmt := { s.mgmt with bridge := s.mgmt.bridge.filter (·.outbound) } }

/-! ## The journal (R342) -/

/-- Immediate commands whose effect firmware writes into islands of the other dies. -/
def islandOps : List Nat :=
  [0xC022, 0xC023, 0xC024, 0xC035, 0xC042, 0xC043, 0xC053, 0xC080, 0xC081, 0xC092, 0xC093, 0xC094]

/-- A command is immediate and writes islands: a staged form, `DIR_MODE` action 4, writes none before its commit (R111). -/
def immediate (op : Nat) (p : Bytes) : Bool :=
  islandOps.contains op && !(op == 0xC080 && byteAt p 2 == 4)

/-- The writes that a record lists are posted. -/
def postRecord (s : State) (r : JRec) : State :=
  forEach (pieceList r.addr r.len) s (postPiece true r.isl r.id)

/-- An immediate command that is not refused is put in the journal, and its writes are posted (log 25). -/
def journalled (s : State) (op : Nat) (p : Bytes) : State :=
  if !immediate op p then s
  else
    let w := Config.commandWrites op p
    let r : JRec := { id := s.mgmt.nextRec, isl := w.1 % 284, addr := w.2.1, len := w.2.2 }
    postRecord { s with mgmt := { s.mgmt with journal := s.mgmt.journal ++ [r], nextRec := r.id + 1 } } r

/-- After a takeover or a management reset the writes of every incomplete record are posted again (R342). -/
def replayJournal (s : State) : State :=
  forEach s.mgmt.journal s postRecord

end Sys2Proof.Machine
end

