-- ==== Sys2Proof/Machine/Flags.lean ====
section
/-!
DEFINITION. The status codes of replies, and which one answers when several refusal conditions hold (R314, R318).
-/

namespace Sys2Proof.Machine

/-! ## Status codes (R318) -/

def stOk : Nat := 0x00
def stPending : Nat := 0x01
def stRepeat : Nat := 0x02
def stSequence : Nat := 0x03
def stBadCrc : Nat := 0x04
def stBadOpcode : Nat := 0x05
def stBadParam : Nat := 0x06
def stNoSession : Nat := 0x07
def stBusy : Nat := 0x08
def stConflict : Nat := 0x09
def stOverlap : Nat := 0x0A
def stNoResource : Nat := 0x0B
def stEpoch : Nat := 0x0C
def stSealed : Nat := 0x0D
def stNotInState : Nat := 0x0E
def stTimeout : Nat := 0x0F
def stAuthFail : Nat := 0x10
def stDenied : Nat := 0x11

/-- The order in which step 10 answers the statuses that apply (R314). -/
def refusalOrder : List Nat :=
  [stBusy, stBadParam, stNotInState, stOverlap, stSealed, stConflict, stNoResource, stAuthFail, stTimeout]

/-- The status of a set of refusal conditions: the first in the order of R314 with a condition that holds, `OK` if none. -/
def refusalOf (cs : List (Nat × Bool)) : Nat :=
  match refusalOrder.find? (fun st => cs.any (fun c => c.1 == st && c.2)) with
  | some st => st
  | none => stOk

end Sys2Proof.Machine
end

