-- ==== Sys2Proof/Machine/Protocol.lean ====
section
/-!
DEFINITION. The vendor packet: request and reply headers, the ten steps of R314 with the ROM's differences (R300),
sessions (R319-R321), and the order of refusals.
-/

namespace Sys2Proof.Machine

/-! ## Opcodes (R333) -/

/-- The opcodes of the index. -/
def opcodes : List Nat :=
  [0xC000, 0xC001, 0xC002, 0xC003, 0xC004, 0xC010, 0xC011, 0xC012, 0xC020, 0xC021, 0xC022, 0xC023, 0xC024, 0xC030,
    0xC031, 0xC032, 0xC033, 0xC034, 0xC035, 0xC036, 0xC040, 0xC041, 0xC042, 0xC043] ++
  [0xC050, 0xC051, 0xC052, 0xC053, 0xC060, 0xC061, 0xC062, 0xC063, 0xC070, 0xC071, 0xC080, 0xC081, 0xC082, 0xC090,
    0xC091, 0xC092, 0xC093, 0xC094, 0xC0A0, 0xC0A1, 0xC0A2, 0xC0B0, 0xC0B1, 0xC0B2, 0xC0B3, 0xC0C0, 0xC0C1, 0xC0D0,
    0xC0F0, 0xC0F1, 0xC0F2]

/-- The loader commands (R303-R305). -/
def isLoaderOp (op : Nat) : Bool :=
  op == 0xC0F0 || op == 0xC0F1 || op == 0xC0F2

/-- What the ROM answers in states 0-5 (R300). -/
def isRomOp (op : Nat) : Bool :=
  op == 0xC003 || op == 0xC0D0 || isLoaderOp op

/-- The commands `SESSION` FFh may carry (R315). -/
def isFreeOp (op : Nat) : Bool :=
  op == 0xC000 || op == 0xC002 || op == 0xC003 || op == 0xC004 || op == 0xC0D0

/-! ## Packets (R311, R312) -/

/-- A request's bytes with the CRC field taken as 0 (R311). -/
def reqBytes (op : Nat) (r : Req) : Bytes :=
  leBytes 2 op ++ leBytes 1 r.session ++ leBytes 1 r.alive ++ leBytes 1 r.flags ++ leBytes 1 r.rsv ++
    leBytes 2 r.plen ++ leBytes 4 r.epoch ++ leBytes 4 0 ++ r.payload

/-- A reply's bytes with its CRC (R312). -/
def replyBytes (op session alive status epoch : Nat) (payload : Bytes) : Bytes :=
  let head := leBytes 2 op ++ leBytes 1 session ++ leBytes 1 alive ++ leBytes 2 status ++ leBytes 2 payload.length ++
    leBytes 4 epoch
  head ++ leBytes 4 (crc32c (head ++ leBytes 4 0 ++ payload)) ++ payload

/-- Boot states 0-5, in which the ROM answers (R299, R300). -/
def inRom (s : State) : Bool :=
  match s.mgmt.boot with
  | .romInit => true
  | .loader => true
  | .receiving => true
  | .verifying => true
  | .fusing => true
  | .starting => true
  | .running => false
  | .halted => false

/-- Both clusters are left failed (R343, R344). -/
def leftFailed (s : State) : Bool :=
  s.mgmt.bothDown && (s.cluster 0).st == .failed && (s.cluster 1).st == .failed

/-- Whether anything answers: not in `HALTED`, not while a reset input is low, not once both clusters are left failed (R308,
R293, R344). While both restart, the ROM answers. -/
def answering (s : State) : Bool :=
  !(s.mgmt.boot == .halted) && !s.mgmt.coldRst && !s.mgmt.mgmtRst && !leftFailed s

/-- Number of a transport, by which the ROM keeps its contexts: boot port 1, `I3C_A` 2, `I3C_B` 3 as in `SOURCE` (R306). -/
def transportNo : Transport → Nat
  | .boot => 1
  | .i3cA => 2
  | .i3cB => 3
  | .mailbox a => 4 + a

/-- The agent of a hierarchy mailbox. -/
def mailboxAgent : Transport → Option Nat
  | .mailbox a => some a
  | _ => none

/-- A hierarchy mailbox whose agent holds no grant (R308, R321). -/
def ungranted (s : State) (t : Transport) : Bool :=
  match mailboxAgent t with
  | some a => !s.proto.grants.contains a
  | none => false

/-- The epoch a reply carries: the committed epoch, 0 from the ROM (R300, R312). -/
def replyEpoch (s : State) : Nat :=
  if inRom s then 0 else s.proto.epoch

/-- Send a reply packet. -/
def sendReply (s : State) (t : Transport) (eid : Nat) (bytes : Bytes) : State :=
  { s with out := { s.out with replies := s.out.replies ++ [{ transport := t, eid := eid, bytes := bytes }] } }

/-- Answer a request without touching any session. -/
def answer (s : State) (op : Nat) (t : Transport) (r : Req) (status : Nat) (payload : Bytes) : State :=
  sendReply s t r.eid (replyBytes op r.session r.alive status (replyEpoch s) payload)

/-! ## Sessions -/

/-- Change an open session. -/
def modSess (s : State) (n : Nat) (f : Sess → Sess) : State :=
  match s.sess n with
  | some x => s.setSess n (some (f x))
  | none => s

/-- How many sessions are free. -/
def sessionsFree (s : State) : Nat :=
  ((List.range 8).filter (fun n => (s.sess n).isNone)).length

/-- The lowest free session. -/
def lowestFree (s : State) : Option Nat :=
  (List.range 8).find? (fun n => (s.sess n).isNone)

/-- A waiting reply of a closed session is sent to nobody. -/
def forgetWaits (s : State) (n : Nat) : State :=
  let s := forEach (s.port.lanes.map (·.1)) s (fun s k => s.modLane k (fun l =>
    { l with margin := l.margin.map (fun m => if m.session == some n then { m with session := none } else m) }))
  forEach (s.core.pas.map (·.1)) s (fun s k => s.modPas k (fun p =>
    if p.op.session == some n then { p with op := { p.op with session := none } } else p))

/-- Close a session: its open stage is discarded, unless its commit is armed, which goes on (R320, R326). -/
def closeSession (s : State) (n : Nat) : State :=
  let s := forgetWaits s n
  let p := { s.proto with
    sessions := tput none s.proto.sessions n none
    stages := tput none s.proto.stages n none
    commit := s.proto.commit.map (fun c => if c.session == n then { c with closed := true } else c) }
  { s with proto := p }

/-- The commit of this session is armed (R326). -/
def commitArmedIn (s : State) (n : Nat) : Bool :=
  match s.proto.commit with
  | some c => c.session == n && !c.closed
  | none => false

/-- A commit of any session is armed. -/
def commitArmed (s : State) : Bool :=
  s.proto.commit.isSome

/-! ## What a command body answers -/

/-- The outcome of a command's own work: a reply with its status, a reply that waits on longer work (R317), or the opening
of a session. -/
inductive Res where
  | reply (s : State) (status : Nat) (payload : Bytes)
  | wait (s : State)
  | opened (s : State) (n : Nat) (payload : Bytes)

/-- A refusal: nothing changes and no payload (R312). -/
def Res.refuse (s : State) (status : Nat) : Res :=
  .reply s status []

/-- Run `go` if no refusal condition holds, else refuse (R314 step 10). -/
def guarded (s : State) (cs : List (Nat × Bool)) (go : Res) : Res :=
  match refusalOf cs with
  | 0 => go
  | st => .refuse s st

/-- Who may run a command (R319): anybody, an `OWNER`, or an `OWNER` or `SLOT` session. -/
inductive Need where
  | any
  | owner
  | slot
  deriving DecidableEq, Repr

/-- A privilege code permits a need; `none` is a request with `SESSION` FFh. -/
def permits (need : Need) (priv : Option Nat) : Bool :=
  match need with
  | .any => true
  | .owner => priv == some 0
  | .slot => priv == some 0 || priv == some 2

/-! ## The steps of R314 -/

/-- Step 1. -/
def lengthOk (r : Req) : Bool :=
  decide (r.plen = r.payload.length) && decide (r.plen ≤ 16392)

/-- Step 2. -/
def crcOk (op : Nat) (r : Req) : Bool :=
  crc32c (reqBytes op r) == r.crc

/-- Step 7. -/
def headerOk (r : Req) : Bool :=
  r.rsv == 0 && decide (r.flags ≤ 1) && (r.flags == 1 || r.epoch == 0)

/-- Step 8 (R313). -/
def epochOk (s : State) (r : Req) : Bool :=
  r.flags % 2 == 0 || r.epoch == s.proto.epoch

/-- An `OPEN` with `SESSION` FFh that repeats the one that opened a session which has executed nothing since (R321). -/
def repeatedOpen (s : State) (op : Nat) (t : Transport) (r : Req) : Option Sess :=
  if op == 0xC000 && decide (r.payload.length = 16) && byteAt r.payload 0 == 0 then
    ((List.range 8).filterMap (fun n => s.sess n)).find? (fun x =>
      x.transport == t && x.eid == r.eid && x.tag == fieldAt r.payload 8 8 && x.priv == byteAt r.payload 1 &&
        x.openAlive == r.alive && !x.ran)
  else none

/-- The end of a request in an open session: the reply is cached with its `ALIVE` (R314). -/
def finishSession (op : Nat) (t : Transport) (r : Req) (n : Nat) : Res → State
  | .reply s status payload =>
    let b := replyBytes op r.session r.alive status s.proto.epoch payload
    sendReply (modSess s n (fun x => { x with cached := b, last := r.alive, ran := true, busy := false })) t r.eid b
  | .wait s => modSess s n (fun x => { x with last := r.alive, ran := true, busy := true })
  | .opened s _ payload =>
    let b := replyBytes op r.session r.alive stOk s.proto.epoch payload
    sendReply (modSess s n (fun x => { x with cached := b, last := r.alive, ran := true, busy := false })) t r.eid b

/-- The end of a request with `SESSION` FFh: nothing is cached, but an `OPEN` is its session's last reply (R321). -/
def finishFree (op : Nat) (t : Transport) (r : Req) : Res → State
  | .reply s status payload => answer s op t r status payload
  | .wait s => s
  | .opened s n payload =>
    let b := replyBytes op n r.alive stOk s.proto.epoch payload
    sendReply (modSess s n (fun x => { x with cached := b })) t r.eid b

/-- Steps 4-10 of a request with `SESSION` FFh while firmware runs (R315). -/
def runFree (op : Nat) (t : Transport) (r : Req) (allow : Option Nat → Bool) (body : State → Option Nat → Res) (s : State) : State :=
  match isFreeOp op, repeatedOpen s op t r with
  | false, _ => answer s op t r stNoSession []
  | true, some x => answer s op t r stRepeat x.cached
  | true, none =>
    if !headerOk r then answer s op t r stBadParam []
    else if !epochOk s r then answer s op t r stEpoch []
    else if !allow none then answer s op t r stDenied []
    else finishFree op t r (body s none)

/-- What a command does is journalled, unless it is refused or a query (R342). -/
def Res.journal (op : Nat) (query : Bool) (p : Bytes) : Res → Res
  | .reply s st b => .reply (if !query && (st == stOk || st == stPending) then journalled s op p else s) st b
  | .wait s => .wait (if query then s else journalled s op p)
  | .opened s n b => .opened s n b

/-- Steps 4-10 of a request that names a session while firmware runs. -/
def runSession (op : Nat) (t : Transport) (r : Req) (allow : Option Nat → Bool) (body : State → Option Nat → Res) (s : State) : State :=
  match (if r.session < 8 then s.sess r.session else none) with
  | none => answer s op t r stNoSession []
  | some x =>
    if !(x.transport == t) || !(x.eid == r.eid) then answer s op t r stNoSession []
    else if x.busy then answer s op t r stBusy []
    else if r.alive == x.last then answer s op t r stRepeat x.cached
    else if !(r.alive == (x.last + 1) % 256) then
      sendReply s t r.eid (replyBytes op r.session x.last stSequence (replyEpoch s) [])
    else
      let s := modSess s r.session (fun x => { x with lastAt := s.now })
      finishSession op t r r.session
        (if !headerOk r then .refuse s stBadParam
         else if !epochOk s r then .refuse s stEpoch
         else if !allow (some x.priv) then .refuse s stDenied
         else (body s (some r.session)).journal op (allow (some 1)) r.payload)

/-- The ROM's context on a transport. -/
def romSess (s : State) (t : Transport) : RomSess :=
  tget {} s.mgmt.rom (transportNo t)

/-- Change the ROM's context on a transport. -/
def modRom (s : State) (t : Transport) (f : RomSess → RomSess) : State :=
  { s with mgmt := { s.mgmt with rom := tmod {} s.mgmt.rom (transportNo t) f } }

/-- The end of a request to the ROM: cached per transport (R300). -/
def finishRom (op : Nat) (t : Transport) (r : Req) : Res → State
  | .reply s status payload =>
    let b := replyBytes op r.session r.alive status 0 payload
    sendReply (modRom s t (fun x => { x with cached := b, last := some r.alive, waiting := false })) t r.eid b
  | .wait s => modRom s t (fun x => { x with last := some r.alive, waiting := true })
  | .opened s _ _ => s

/-- Steps 4-10 of a request to the ROM (R300). -/
def runRom (op : Nat) (t : Transport) (r : Req) (body : State → Option Nat → Res) (s : State) : State :=
  let x := romSess s t
  if !(r.session == 0) then answer s op t r stNoSession []
  else if x.waiting then answer s op t r stBusy []
  else if x.last == some r.alive then answer s op t r stRepeat x.cached
  else
    match x.last with
    | some l =>
      if r.alive == (l + 1) % 256 then
        finishRom op t r
          (if !headerOk r || !(r.epoch == 0) then .refuse s stBadParam
           else if !epochOk s r then .refuse s stEpoch
           else body s none)
      else sendReply s t r.eid (replyBytes op r.session l stSequence 0 [])
    | none =>
      finishRom op t r
        (if !headerOk r || !(r.epoch == 0) then .refuse s stBadParam
         else if !epochOk s r then .refuse s stEpoch
         else body s none)

/-- A loader command begins the 10 s of `RECEIVING` anew, whatever its answer (R299). -/
def noteLoader (op : Nat) (s : State) : State :=
  if isLoaderOp op && s.mgmt.boot == .receiving then { s with mgmt := { s.mgmt with bootAt := s.now } } else s

/-- Steps 1-3, with the mailbox rule of R308, then the rest of R314. A hierarchy mailbox exists only in `RUNNING`. -/
def vendor (op : Nat) (t : Transport) (r : Req) (allow : Option Nat → Bool) (body : State → Option Nat → Res) (s : State) : State :=
  if !answering s || (inRom s && (mailboxAgent t).isSome) then s
  else if !lengthOk r then
    { s with proto := { s.proto with discarded := sat 32 (s.proto.discarded + 1) } }
  else if !crcOk op r then answer s op t r stBadCrc []
  else if ungranted s t then answer s op t r stDenied []
  else if !opcodes.contains op then answer s op t r stBadOpcode []
  else if inRom s then
    if isRomOp op then runRom op t r body (noteLoader op s) else answer s op t r stNotInState []
  else if isLoaderOp op then answer s op t r stNotInState []
  else if r.session == 255 then runFree op t r allow body s
  else runSession op t r allow body s

/-- A vendor command as a step. -/
def vendorCmd (op : Nat) (t : Transport) (r : Req) (allow : Option Nat → Bool) (body : State → Option Nat → Res) (s : State) : Out :=
  .next (vendor op t r allow body s)

/-- Send the reply that waited on longer work (R317) in a session: the reply is cached and the session takes commands
again. -/
def lateReply (s : State) (n op status : Nat) (payload : Bytes) : State :=
  match s.sess n with
  | none => s
  | some x =>
    let b := replyBytes op n x.last status s.proto.epoch payload
    sendReply (s.setSess n (some { x with cached := b, busy := false })) x.transport x.eid b

/-! ## Shapes shared by command bodies -/

/-- The privilege of a mixed command whose `ACTION` byte is at `off`: only its query actions are open to any session (R314,
R333). A payload too short to hold `ACTION` names no query. -/
def mixed (off : Nat) (queries : List Nat) (r : Req) : Option Nat → Bool :=
  permits (if decide (off < r.payload.length) && queries.contains (byteAt r.payload off) then .any else .owner)

/-- A payload's length differs from the one given. -/
def badLen (p : Bytes) (n : Nat) : Bool :=
  decide (p.length ≠ n)

/-- Some byte of `[off, off + n)` is not zero (R5). -/
def nonZero (p : Bytes) (off n : Nat) : Bool :=
  !(fieldAt p off n == 0)

/-- A run of zero bytes. -/
def zeros (n : Nat) : Bytes :=
  List.replicate n 0

end Sys2Proof.Machine
end

