-- ==== Sys2Proof/Machine/Functions.lean ====
section
/-!
DEFINITION. The functions a host sees: their configuration space (R4, R150, R153, R158), errors in AER (R167, R212), presence changes
(R150), and the HDM decoders of a grotto (R182).
-/

namespace Sys2Proof.Machine

/-! ## Functions (R153, R158) -/

/-- The management function of the `BOOT` port. -/
def mgmtFn : Nat :=
  130

/-- Kind of a function: 0 upstream bridge, 1 service function, 2 vPPB, 3 grotto function, 4 management function. -/
def fnKind (f : Nat) : Nat :=
  if f < 2 then f else if f < 66 then 2 else if f < mgmtFn then 3 else 4

/-- The function that a configuration request names by bus, device and function (R158). Without a hierarchy there is the bridge alone
(R162). -/
def fnOf (h : HierCfg) (q : HostReq) : Option Nat :=
  match q.bus with
  | .upstream => if q.dev == 0 && (q.fn == 0 || (q.fn == 1 && h.live)) then some q.fn else none
  | .internal => if q.fn < 2 && 2 * q.dev + q.fn < h.vppbs then some (2 + 2 * q.dev + q.fn) else none
  | .secondary => if q.dev == 0 && q.fn == 0 && q.vppb < h.vppbs then some (66 + q.vppb) else none

/-! ## Configuration space (R4, R150) -/

/-- Bits of `a` under a mask, and of `b` elsewhere. -/
def underMask (m a b : Nat) : Nat :=
  (a &&& m) ||| (b &&& (m ^^^ 4294967295))

/-- What a register that has not been written stands at in the table: no 4-byte value. -/
def unwritten : Nat :=
  2 ^ 32

/-- A 4-byte register: as last written where a write changes it, else its reset value (log 165). The management function carries device ID
5120h and vendor ID 1B47h (R153). -/
def cfgDword (x : FnCfg) (f off : Nat) : Nat :=
  if f == mgmtFn && off == 0 then 0x51201B47
  else
    let k := fnKind f
    let r := Config.cfgReset k off % 2 ^ 32
    let v := tget unwritten x.regs off
    if v == unwritten then r else underMask (Config.cfgMask k off % 2 ^ 32) v r

/-- A BAR as it is read: where it stands, or 0. -/
def barValue (b : Option Nat) : Nat :=
  b.getD 0

/-- What a read of a register gives: ACS of a vPPB shows P2P Request Redirect and Completion Redirect (R150), slot status the presence of
what is below and its change; `live` says that something is below. The log's TLP format is PCI Express's (log 167). -/
def cfgRead (s : State) (u f : Nat) (live : Bool) (r : CfgReg) : Nat × State :=
  let x := s.fn u f
  match r with
  | .dword off => (cfgDword x f off, s)
  | .bar0 => (if f == 1 then barValue x.bar0 else 0, s)
  | .bar2 => (if f == 1 then barValue x.bar2 else 0, s)
  | .busMaster => (bit x.busMaster, s)
  | .maxPayload => (x.mpsCode, s)
  | .msixCtl => (if f == 1 || f == mgmtFn then bit x.msixOn + 2 * bit x.msixMask else 0, s)
  | .aerStatus => (x.aerStatus, s)
  | .aerMask => (x.aerMask, s)
  | .aerHeader => if x.header.isSome then draw s else (0, s)
  | .errCtl => (bit x.errEn, s)
  | .acs => (if fnKind f == 2 then 0x0C else 0, s)
  | .slotStatus => (if fnKind f == 2 then 8 * bit x.presChg + 64 * bit live else 0, s)

/-- A BAR of `size` bytes as a host places it. -/
def placeBar (f size v : Nat) (old : Option Nat) : Option Nat :=
  if f == 1 then some (v / size * size) else old

/-- A write of a register. A clear of the last error opens the header log again. -/
def cfgWrite (s : State) (u f : Nat) (r : CfgReg) (v : Nat) : State :=
  s.modFn u f (fun x => match r with
    | .dword off => { x with regs := tput unwritten x.regs off (v % 2 ^ 32) }
    | .bar0 => { x with bar0 := placeBar f 65536 v x.bar0 }
    | .bar2 => { x with bar2 := placeBar f 131072 v x.bar2 }
    | .busMaster => { x with busMaster := bitOf v 0 }
    | .maxPayload => { x with mpsCode := v % 8 }
    | .msixCtl => { x with msixOn := bitOf v 0, msixMask := bitOf v 1 }
    | .aerStatus =>
      let st := x.aerStatus &&& (v % 2 ^ 32 ^^^ 4294967295)
      { x with aerStatus := st, header := if st == 0 then none else x.header }
    | .aerMask => { x with aerMask := v % 2 ^ 32 }
    | .aerHeader => x
    | .errCtl => { x with errEn := bitOf v 0 }
    | .acs => x
    | .slotStatus => { x with presChg := x.presChg && !bitOf v 3 })

/-- Max payload size of a function: its code is PCI Express's, 128 bytes and up, and the switch has no more than 512 (R150, log 175). -/
def maxPayload (x : FnCfg) : Nat :=
  128 * 2 ^ min x.mpsCode 2

/-- Configuration space of functions of a USP is reset. -/
def resetFns (s : State) (usp : Nat) (which : Nat → Bool) : State :=
  { s with port := { s.port with fns := s.port.fns.filter (fun e => !(e.1 / 256 == usp && which (e.1 % 256))) } }

/-! ## Errors (R150, R167, R212) -/

/-- The TLP header of a packet. -/
def tlpOf (p : Pkt) : Tlp :=
  { op := p.op, requester := p.rid, tag := p.tag, addr := p.addr, len := p.len }

/-- An error is logged in a function's AER under its bit, with the TLP header of the first one not masked, and `ERR_NONFATAL` goes to the host
where the mask and error reporting permit it (log 167). -/
def aerLog (s : State) (u f no : Nat) (h : Tlp) : State :=
  let x := s.fn u f
  let shown := !bitOf x.aerMask no
  let s := s.modFn u f (fun x => { x with
    aerStatus := x.aerStatus ||| 2 ^ no, header := if shown && x.header.isNone then some h else x.header })
  if shown && x.errEn then errNonfatal s u f else s

/-- AER bit of an ACS Violation. -/
def acsViolation : Nat :=
  21

/-- AER bit of an Uncorrectable Internal Error. -/
def internalError : Nat :=
  22

/-- An error is logged in a function of a hierarchy on each of its live USPs (R167). -/
def aerEach (s : State) (a f no : Nat) (h : Tlp) : State :=
  forEach ((s.cfg.hier a).usps.filter s.up) s (fun s u => aerLog s u f no h)

/-- The function whose AER logs the loss of a posted packet: its vPPB, or the service function for the switch's own writes (log 171), or the
bridge where the vPPB is none. -/
def lossFn (c : Cfg) (p : Pkt) : Nat :=
  match p.kind with
  | .ringWrite => 1
  | .msi => 1
  | _ => if p.vppb < (c.hier p.agent).vppbs then 2 + p.vppb else 0

/-! ## Presence (R150, R158) -/

/-- Native hot plug tells the host, on each of its USPs, that a device has come to a vPPB or gone. -/
def hotplug (s : State) (agent vppb : Nat) (present : Bool) : State :=
  let s := { s with out := { s.out with hotplug := s.out.hotplug ++ [(agent, vppb, present)] } }
  forEach (s.cfg.hier agent).usps s (fun s u => s.modFn u (2 + vppb) (fun x => { x with presChg := true }))

/-! ## HDM decoders (R182) -/

/-- Grotto DPA of a host physical address: the first decoder that takes it, each decoder's range behind those before it (PRESUMED, log 166). -/
def hdmFrom (acc : Nat) : List Hdm → Nat → Option Nat
  | [], _ => none
  | d :: ds, a =>
    let o := a - d.base
    let stride := max 1 d.gran * max 1 d.ways
    if decide (d.base ≤ a) && decide (a < d.base + d.size) then
      some (acc + d.skip + o / stride * max 1 d.gran + o % max 1 d.gran)
    else hdmFrom (acc + d.skip + d.size / max 1 d.ways) ds a

/-- Grotto DPA of a host physical address by a grotto's 8 decoders. -/
def hdmDpa (x : GrRt) (a : Nat) : Option Nat :=
  hdmFrom 0 ((List.range 8).map (tget {} x.hdm)) a

/-- A host programs decoder `i` of a grotto; every USP sees it (R158). -/
def setHdm (s : State) (n : Nat) (w : Nat × Hdm) : State :=
  if w.1 < 8 then s.modGr n (fun x => { x with hdm := tput {} x.hdm w.1 w.2 }) else s

end Sys2Proof.Machine
end

