-- ==== Sys2Proof/Machine/Cells.lean ====
section
/-!
DEFINITION. The cell header (R34), its check (R36), the schedule (R37) and the class orders (R75).
-/

namespace Sys2Proof.Machine

/-- Header bits [111:0] of a cell (R34). -/
def headerBits (c : Cell) : Nat :=
  let p := c.pkt
  p.dstGal % 8 + p.dstPort % 64 * 2 ^ 3 + p.srcGal % 8 * 2 ^ 9 + p.srcPort % 64 * 2 ^ 12 + p.cls % 8 * 2 ^ 18 +
    c.seq % 65536 * 2 ^ 21 + p.grotto % 4096 * 2 ^ 37 + p.gen % 256 * 2 ^ 49 + bit c.first * 2 ^ 57 +
    bit c.last * 2 ^ 58 + c.len % 128 * 2 ^ 59 + bit c.relay * 2 ^ 66 + c.via % 8 * 2 ^ 67 + bit c.tail * 2 ^ 70 +
    bit p.gv * 2 ^ 71 + c.launch % 65536 * 2 ^ 72 + p.prio % 8 * 2 ^ 88 + bit c.replay * 2 ^ 91 +
    p.agent % 256 * 2 ^ 92

/-- `HCHK` over header bits [111:0], taken as 14 bytes in ascending order (R34; byte order DESIGN CHOICE, log 7). -/
def hchkOf (bits : Nat) : Nat :=
  crc16 (leBytes 14 bits)

/-- The 128 header bits as sent. -/
def headerWord (c : Cell) : Nat :=
  headerBits c + hchkOf (headerBits c) * 2 ^ 112

/-- A received header word passes its check (R36). -/
def headerGood (w : Nat) : Bool :=
  hchkOf (w % 2 ^ 112) == w / 2 ^ 112 % 65536

/-! ## Lane words, beats and units (R50, R51) -/

/-- A 33-bit lane word: 32 data bits, and bit 32 set where they have an odd number of ones (R50). -/
def laneWord (d : Nat) : Nat :=
  d % 2 ^ 32 + popcount 32 d % 2 * 2 ^ 32

/-- Data of a `KILL` lane word (R60). -/
def killData : Nat :=
  0x0000FFFF

/-- Data of lane `lane` in a marker beat (R51). -/
def markerData (lane seq : Nat) : Nat :=
  lane % 256 + 0x5A * 2 ^ 8 + seq % 65536 * 2 ^ 16

/-- Beats sent by a drip, at 0.528 drip each, counted from the release of cold reset (log 154). -/
def beatNo (now : Nat) : Nat :=
  now * 125 / 66

/-- Every 2,048th beat is a marker beat (R51). -/
def isMarkerBeat (k : Nat) : Bool :=
  k % 2048 == 2047

/-- `MARK_SEQ` of the marker beat numbered `k` (R51; log 154). -/
def markSeq (k : Nat) : Nat :=
  k / 2048 % 65536

/-- The 1,024 bytes of a beat that is no marker: cell stream, then one sideband word (R51). -/
def beatBytes (stream : Bytes) (sideband : Nat) : Bytes :=
  (stream ++ List.replicate 1016 0).take 1016 ++ leBytes 8 sideband

/-- The data of lane `lane` in a beat: beat bytes 4L to 4L + 3, the first in bits [7:0] (R50). -/
def laneData (beat : Bytes) (lane : Nat) : Nat :=
  fieldAt beat (4 * lane) 4

/-- The 128 header bits of an idle unit (R51). -/
def idleHeader : Nat :=
  let bits := 0xFFF * 2 ^ 100
  bits + hchkOf bits * 2 ^ 112

/-- A unit of the cell stream: 16 header bytes and 64 payload bytes (R51). -/
def unitBytes (header : Nat) (payload : Bytes) : Bytes :=
  leBytes 16 header ++ (payload ++ List.replicate 64 0).take 64

/-- The offset k of slot `n` on column `c` (R37). -/
def slotOffset (n c : Nat) : Nat :=
  1 + (n % 7 + 2 * c) % 7

/-- The gallery that `i` sends to on column `c` in slot `n` (R37). -/
def slotDest (n c i : Nat) : Nat :=
  (i + slotOffset n c) % 8

/-- The gallery that sends to `m` on column `c` in slot `n` (R37). -/
def slotSource (n c m : Nat) : Nat :=
  (m + 8 - slotOffset n c) % 8

/-- The slot a drip lies in. -/
def slotNo (drip : Nat) : Nat :=
  drip / 8

/-- A drip is a rotation boundary (R37). -/
def isRotation (drip : Nat) : Bool :=
  drip % 56 == 0

/-- The first rotation boundary at or after a drip. -/
def nextRotation (drip : Nat) : Nat :=
  (drip + 55) / 56 * 56

/-- The order in which a gallery serves classes: `MRSP`, `IOC`, `MSNP`, `IOP`, `MREQ`, `IONP`, `ECHO` (R75). -/
def classOrder : List Nat :=
  [2, 5, 1, 3, 0, 4, 6]

/-- The classes that may be relayed (R76). -/
def relayable (cls : Nat) : Bool :=
  cls == 0 || cls == 1 || cls == 2 || cls == 6

/-- How many cells a packet takes: its data in 64-byte pieces, one cell without data (R34; DESIGN CHOICE, log 8). -/
def cellCount (p : Pkt) : Nat :=
  max 1 ((p.data.length + 63) / 64)

/-- The cells of a packet from `FLOW_SEQ` `seq` on. The one cell of a packet without data has `LEN` 64 (DESIGN CHOICE, log 150). -/
def cellsOf (p : Pkt) (seq ord : Nat) : List Cell :=
  let n := cellCount p
  (List.range n).map (fun k =>
    { pkt := p, idx := k, seq := (seq + k) % 65536, first := k == 0, last := k + 1 == n,
      len := if k + 1 == n && decide (0 < p.data.length) then (p.data.length - 1) % 64 + 1 else 64,
      tail := p.bad && k + 1 == n, ord := ord + k })

/-- Key of a flow at its destination gallery (R34, R78). -/
def flowKey (srcGal srcPort cls : Nat) : Nat :=
  (srcGal * 64 + srcPort) * 8 + cls

/-- Key of a flow's numbering at its source gallery. -/
def seqKey (srcPort dstGal cls : Nat) : Nat :=
  (srcPort * 8 + dstGal) * 8 + cls

/-- Key of a queue per (gallery or port, class). -/
def qKey (x cls : Nat) : Nat :=
  x * 8 + cls

/-- A sum over a list. -/
def sumOf {α : Type} (f : α → Nat) (l : List α) : Nat :=
  l.foldl (fun a x => a + f x) 0

end Sys2Proof.Machine
end

