-- ==== Sys2Proof/Machine/Observe.lean ====
section
/-!
DEFINITION. What the traced work tells Lantern and the programmable counters (R357-R360, R365): emitting a trace record,
and counting a pulse. Nothing here changes any other state (R362).
-/

namespace Sys2Proof.Machine

/-! ## Trace records (R357-R360) -/

/-- Records one die's trace queue holds (R360): dies 0-7 the galleries, 8-11 the columns, 12 the management die. -/
def traceRoom (die : Nat) : Nat :=
  if die < 8 then 2048 else 256

/-- Index of a die's drops in the `LANTERN` block (R364). -/
def dropIndex (die : Nat) : Nat :=
  if die < 8 then 3 + die else 11

/-- The 32 bytes of a record (R357). -/
def traceBytes (type : Nat) (redacted unsure : Bool) (part island drip : Nat) (body : Bytes) : Bytes :=
  leBytes 4 (type + bit redacted * 2 ^ 8 + bit unsure * 2 ^ 9 + part % 4 * 2 ^ 10 + island % 512 * 2 ^ 16) ++
    leBytes 8 drip ++ (body ++ List.replicate 20 0).take 20

/-- Put a record of elapsed drip `born` into its die's queue, or drop and count it (R360). -/
def queueTrace (s : State) (die drip born : Nat) (bytes : Bytes) : State :=
  if (s.lan.traces.filter (fun t => t.die == die)).length < traceRoom die then
    { s with lan := { s.lan with traces := s.lan.traces ++ [{ die := die, drip := drip, bytes := bytes, born := born }] } }
  else
    { s with lan := { s.lan with
        dropped := sat 16 (s.lan.dropped + 1)
        dropDie := tmod 0 s.lan.dropDie (dropIndex die) (fun v => (v + 1) % 2 ^ 64) } }

/-- Trace a happening by the lowest-numbered filter that matches it, at the matches its sampling keeps (R359); `unsure` is the state of
the raising island then. -/
def traceAs (s : State) (die type island drip born : Nat) (unsure : Bool) (hit : Filter → Bool) (redacted : Bool) (body : Bytes) : State :=
  if !s.cfg.traceOn then s
  else
    match (List.range s.cfg.filters.length).find? (fun i =>
        match s.cfg.filters[i]? with
        | some f => f.type == type && hit f
        | none => false) with
    | none => s
    | some i =>
      let k := die * 8 + i
      let n := tget 0 s.lan.matches_ k
      let log := (s.cfg.filters[i]?.map (·.sampleLog)).getD 0
      let s := { s with lan := { s.lan with matches_ := tput 0 s.lan.matches_ k (n + 1) } }
      if n % 2 ^ log == 0 then
        queueTrace s die drip born (traceBytes type redacted unsure 0 island drip body)
      else s

/-- Trace a happening of the present. -/
def traceHap (s : State) (die type island drip : Nat) (hit : Filter → Bool) (redacted : Bool) (body : Bytes) : State :=
  traceAs s die type island drip s.now (s.unsure island) hit redacted body

/-- A filter's agent field matches (R359). -/
def agentHit (f : Filter) (a : Nat) : Bool :=
  f.agent == 65535 || f.agent == a

/-- A `CELL` record at point `pt` in gallery `g`, of a cell with header bits `h`; `pas` is FFh for points 2 and 3 (R358). -/
def traceHeader (s : State) (g pt pas : Nat) (p : Pkt) (h : Nat) : State :=
  let inRange := fun (f : Filter) (x : Nat) => decide (f.lo ≤ x) && decide (x ≤ f.hi)
  traceHap s g 1 (coreIsl g) s.drip
    (fun f => bitOf f.pointMask pt && bitOf f.galMask g && bitOf f.classMask p.cls && agentHit f p.agent &&
      (inRange f (64 * p.srcGal + p.srcPort) || inRange f (64 * p.dstGal + p.dstPort)))
    false (leBytes 14 h ++ leBytes 1 pt ++ leBytes 1 pas)

/-- A `CELL` record of a cell. -/
def traceCell (s : State) (g pt pas : Nat) (c : Cell) : State :=
  traceHeader s g pt pas c.pkt (headerBits c)

/-! ## Samples in flight (R367, R368) -/

/-- The protocol of a message: 0 CXL.mem, 1 CXL.io, 2 CXL.cache; none for what neither asks nor answers (R156). -/
def opProto : HostOp → Option Nat
  | .memRd _ => some 0
  | .memRdData => some 0
  | .memInv _ => some 0
  | .memWr _ => some 0
  | .memWrPtl _ => some 0
  | .memClnEvct => some 0
  | .memOther => some 0
  | .biRsp _ => none
  | .biConflict => none
  | .ioRead => some 1
  | .ioWrite => some 1
  | .ioAtomic => some 1
  | .ioCfg => some 1
  | .ioMsg => some 1
  | .ioCpl => some 1
  | .cacheRead => some 2
  | .cacheOwn => some 2
  | .cacheWrite => some 2
  | .cacheOther => some 2
  | .cacheRsp => some 2

/-- The protocol of a kind of R205. -/
def kindProto (k : Nat) : Nat :=
  if k < 5 then 0 else if k < 8 then 1 else 2

/-- What a packet is to a sampled request: 0 the request, 1 its reply, none neither. -/
def sampleRole (p : Pkt) : Option Nat :=
  match p.kind with
  | .memReq => some 0
  | .devReq => if p.sys then none else some 0
  | .ioPosted => some 0
  | .ioNonPosted => if p.sys then none else some 0
  | .cacheReq => some 0
  | .memRsp => some 1
  | .ioCpl => some 1
  | .cacheRsp => some 1
  | _ => none

/-- Record something of the sample in flight that follows the request of a bundle, tag and protocol in gallery `g`. A scan's reads are known
by their tags alone. -/
def noteRunIn (s : State) (g port tag proto : Nat) (f : SampRun → SampRun) : State :=
  let x := tget {} s.lan.samps g
  let mine := fun (r : SampRun) => (r.port == port || decide (65536 ≤ tag)) && r.tag == tag && r.proto == proto && !r.ended
  if x.flying.any mine then
    { s with lan := { s.lan with samps := tput {} s.lan.samps g { x with flying := replaceFirst mine f x.flying } } }
  else s

/-- Record something of the sample in flight that follows a request. -/
def noteRun (s : State) (port tag proto : Nat) (f : SampRun → SampRun) : State :=
  if tag < 65536 then noteRunIn s (galOf port) port tag proto f
  else forEach (List.range 8) s (fun s g => noteRunIn s g port tag proto f)

/-- Record something of the sample that follows a packet's request. -/
def notePkt (s : State) (p : Pkt) (f : SampRun → SampRun) : State :=
  match sampleRole p, opProto p.op with
  | some 0, some k => noteRun s p.usp p.tag k f
  | some _, some k => noteRun s (64 * p.dstGal + p.dstPort) p.tag k f
  | _, _ => s

/-- Stamp stage `i`, once (R368). -/
def stampRun (s : State) (i : Nat) (r : SampRun) : SampRun :=
  if (r.stamps.any (fun e => e.1 == i)) then r else { r with stamps := tput 0xFFFFFFFF r.stamps i (sat 32 (s.drip - r.start)) }

/-- Set a flag bit. -/
def flagRun (b : Nat) (r : SampRun) : SampRun :=
  { r with flags := setBit r.flags b }

/-- The sample ends. -/
def endRun (r : SampRun) : SampRun :=
  { r with ended := true }

/-- A packet's request passes a stage, or its reply does: `i` for the one, `j` for the other. -/
def noteStage (s : State) (p : Pkt) (i j : Nat) : State :=
  notePkt s p (stampRun s (if sampleRole p == some 0 then i else j))

/-- A request is answered as unreachable, or lost: its sample ends (R367). -/
def sampleLost (s : State) (p : Pkt) : State :=
  notePkt s p (fun r => endRun (flagRun 5 r))

/-- A cell of a sampled request or its reply is launched: the stage, and how it goes (R368; flags of either, log 181). -/
def noteLaunch (s : State) (c : Cell) (hop2 : Bool) : State :=
  notePkt s c.pkt (fun r =>
    let r := if sampleRole c.pkt == some 0 && c.first then stampRun s 0 r else r
    let r := if c.relay || hop2 then flagRun 1 r else r
    if c.replay then flagRun 2 r else r)

/-- A packet has left a port: a request for a device, or a reply, with which its sample ends; a posted write's ends as it leaves the
part (R367; DESIGN CHOICE, log 181). -/
def noteLeave (s : State) (toDevice : Bool) (p : Pkt) : State :=
  match sampleRole p with
  | some 0 =>
    let s := if toDevice then notePkt s p (stampRun s 3) else s
    if p.kind == .ioPosted then notePkt s p endRun else s
  | some _ => notePkt s p (fun r => endRun (if p.poison then flagRun 3 (stampRun s 6 r) else stampRun s 6 r))
  | none => s

/-! ## Programmable counters (R365) -/

/-- The pulse selects of R365; the others are states. -/
def isPulse (sel : Nat) : Bool :=
  [0x01, 0x02, 0x03, 0x07, 0x08, 0x09, 0x0A, 0x0B, 0x0D, 0x0F, 0x10].contains sel

/-- Add to a programmable counter unless it is frozen. A count of 2^48 or more waits for its wrap (R366). -/
def addProg (s : State) (g k n : Nat) : State :=
  let p := tget {} s.lan.progs g
  if bitOf p.frozen k then s
  else
    let v := tget 0 p.counts k
    let wraps := decide (v < 2 ^ 48) && decide (2 ^ 48 ≤ v + n)
    { s with lan := { s.lan with
        progs := tput {} s.lan.progs g { p with
          counts := tput 0 p.counts k (v + n), wrapAt := if wraps then tput 0 p.wrapAt k s.drip else p.wrapAt } } }

/-- A happening that pulse select `sel` counts occurred `n` times in gallery `g`; `qual` says which qualifiers it meets. Each
step is one edge, on which `LEVEL` adds 1 (DESIGN CHOICE, log 9). -/
def pulse (s : State) (g sel n : Nat) (qual : Nat → Bool) : State :=
  if n == 0 then s
  else
    forEach (List.range 8) s (fun s k =>
      match (tget [] s.cfg.progs g)[k]? with
      | some p =>
        if p.select == sel && qual p.qual then addProg s g k (if p.mode == 0 then n else 1) else s
      | none => s)

/-- A qualifier of a class mask in [6:0] and a gallery mask in [15:8]. -/
def classGalQual (cls gal q : Nat) : Bool :=
  bitOf q cls && bitOf q (8 + gal)

end Sys2Proof.Machine
end

