-- ==== Sys2Proof/Machine/Memory.lean ====
section
/-!
DEFINITION. Windows and grottos: decoding an address (R178, R181), the line of a directory key (R87, R88), generations and
their counts (R184-R187), a grotto becoming `BOUND` (R188, R189), the copies of a twinned extent (R192), sealed pages (R361),
and the record of a lost write (R167, R168).
-/

namespace Sys2Proof.Machine

/-- 256 MiB. -/
def unit256 : Nat := 268435456

/-! ## Windows (R177-R179) -/

/-- W of a window. -/
def WinCfg.w (c : WinCfg) : Nat :=
  2 ^ c.waysLog

/-- G of a window. -/
def WinCfg.g (c : WinCfg) : Nat :=
  if c.gran == 0 then 256 else 4096

/-- Bytes of a window. -/
def WinCfg.size (c : WinCfg) : Nat :=
  sumOf (fun s => c.w * s.units * unit256) c.segs

/-- A line's place: segment, way, offset on the device, and the bundle and DPA of each copy (512 for no twin). -/
structure Loc where
  seg : Nat
  way : Nat
  off : Nat
  port : Nat
  dpa : Nat
  tport : Nat := 512
  tdpa : Nat := 0
  deriving DecidableEq, Repr

/-- Decode an offset in a window from segment `k` on (R178). -/
def locateIn (c : WinCfg) (k : Nat) : List Seg → Nat → Option Loc
  | [], _ => none
  | s :: ss, o =>
    if o < c.w * s.units * unit256 then
      let way := o / c.g % c.w
      let off := o / (c.g * c.w) * c.g + o % c.g
      let p := s.ways.getD way (512, 0)
      let t := s.twins.getD way (512, 0)
      some { seg := k, way := way, off := off, port := p.1, dpa := p.2 * unit256 + off,
             tport := t.1, tdpa := t.2 * unit256 + off }
    else locateIn c (k + 1) ss (o - c.w * s.units * unit256)

/-- Decode an offset in a window. -/
def locate (c : WinCfg) (o : Nat) : Option Loc :=
  locateIn c 0 c.segs o

/-- The fabric address of an offset on way `way` of segment `seg`: R178 read backwards. -/
def fabricOf (c : WinCfg) (seg way off : Nat) : Nat :=
  c.base + sumOf (fun s => c.w * s.units * unit256) (c.segs.take seg) + (off / c.g * c.w + way) * c.g + off % c.g

/-- The window that holds a fabric address. -/
def winAt (c : Cfg) (fa : Nat) : Option Nat :=
  (c.wins.find? (fun e => e.2.live && decide (e.2.base ≤ fa) && decide (fa < e.2.base + e.2.size))).map (·.1)

/-- The place in a grotto of its DPA `a`: the window and the offset in it (R181). -/
def grottoAt (c : Cfg) (n a : Nat) : Option (Nat × Nat) :=
  match (c.gr n).wins.find? (fun e => decide (e.2 * unit256 ≤ a) && decide (a < e.2 * unit256 + (c.win e.1).size)) with
  | some e => some (e.1, a - e.2 * unit256)
  | none => none

/-- Capacity of a grotto in units of 256 MiB (R181). -/
def capacityOf (c : Cfg) (n : Nat) : Nat :=
  (c.gr n).wins.foldl (fun m e => max m (e.2 + (c.win e.1).size / unit256)) 0

/-- A grotto holds a SHARED window. -/
def holdsShared (c : Cfg) (n : Nat) : Bool :=
  (c.gr n).wins.any (fun e => (c.win e.1).shared)

/-! ## Lines of a device -/

/-- A device line as a window sees it: the window's number and definition, the extent, the state of its copies, its twin, and
its fabric address. -/
structure Line where
  win : Nat
  cfg : WinCfg
  ext : Nat
  st : ExtRt
  off : Nat
  tport : Nat
  tdpa : Nat
  removed : Bool

/-- The way of one segment that lies at a device address. -/
def wayAt (s : Seg) (port dpa : Nat) : Option Nat :=
  (List.range s.ways.length).find? (fun i =>
    let w := s.ways.getD i (512, 0)
    w.1 == port && decide (w.2 * unit256 ≤ dpa) && decide (dpa < (w.2 + s.units) * unit256))

/-- The line of a primary copy in one window, from segment `k` on. -/
def lineIn (n : Nat) (c : WinCfg) (exts : Tbl ExtRt) (rem : Bool) (port dpa : Nat) (k : Nat) : List Seg → Option Line
  | [] => none
  | s :: ss =>
    match wayAt s port dpa with
    | some i =>
      let w := s.ways.getD i (512, 0)
      let t := s.twins.getD i (512, 0)
      let off := dpa - w.2 * unit256
      some { win := n, cfg := c, ext := 16 * k + i, st := tget {} exts (16 * k + i), off := off, tport := t.1,
             tdpa := t.2 * unit256 + off, removed := rem }
    | none => lineIn n c exts rem port dpa (k + 1) ss

/-- The line whose primary copy lies at a device address, in a window in force or one still being swept. -/
def lineAt (s : State) (port dpa : Nat) : Option Line :=
  match s.cfg.wins.findSome? (fun e =>
      if e.2.live then lineIn e.1 e.2 (s.win e.1).exts false port dpa 0 e.2.segs else none) with
  | some l => some l
  | none => s.mem.removed.findSome? (fun r => lineIn r.win r.cfg r.exts true port dpa 0 r.cfg.segs)

/-! ## Directory keys (R87, R88) -/

/-- K of a line at a device address. -/
def keyOf (port dpa : Nat) : Nat :=
  localOf port * 2 ^ 39 + dpa / 64 % 2 ^ 39

/-- The DSP of a key in gallery `g`. -/
def keyPort (g k : Nat) : Nat :=
  64 * g + k / 2 ^ 39 % 64

/-- The DPA of a key. -/
def keyDpa (k : Nat) : Nat :=
  k % 2 ^ 39 * 64

/-- Logical slice l (R88). -/
def keySlice (k : Nat) : Nat :=
  bitsOf k 2 0 ^^^ bitsOf k 21 19 ^^^ bitsOf k 40 38

/-- Set index x (R88). -/
def keySet (k : Nat) : Nat :=
  bitsOf k 18 3 ^^^ bitsOf k 34 19

/-- `TAG` (R88). -/
def keyTag (k : Nat) : Nat :=
  bitsOf k 44 19

/-- The line of a key. -/
def keyLine (s : State) (g k : Nat) : Option Line :=
  lineAt s (keyPort g k) (keyDpa k)

/-- The fabric address of a line. -/
def lineFa (l : Line) : Nat :=
  fabricOf l.cfg (l.ext / 16) (l.ext % 16) l.off

/-! ## Reaching a device (R164, R192) -/

/-- A device is unreachable: its DSP is down, or its last access exceeded T_dev (R101, R164). -/
def unreachable (s : State) (port : Nat) : Bool :=
  !s.up port || (s.prt port).slow

/-- No copy of a line is reachable (R101). -/
def lineUnreachable (s : State) (g k : Nat) : Bool :=
  match keyLine s g k with
  | some l => if l.cfg.twinned then l.st.lost == 3 else unreachable s (keyPort g k)
  | none => unreachable s (keyPort g k)

/-! ## Sealed pages (R213, R361) -/

/-- A guard's sealed rules of a space meet pages [lo, hi]. -/
def guardSealed (c : Cfg) (b space lo hi : Nat) : Bool :=
  (c.grd b).rules.any (fun e => e.2.valid && e.2.sealed && e.2.space == space && decide (e.2.base ≤ hi) &&
    decide (lo < e.2.end_))

/-- A fabric page lies under a sealed fabric-space rule of any guard. -/
def sealedPages (c : Cfg) (lo hi : Nat) : Bool :=
  c.guards.any (fun e => guardSealed c e.1 0 lo hi)

/-! ## Lost writes (R167, R168) -/

/-- Raise `EV_POSTED_WRITE_FAILED`. -/
def postedFailed (s : State) (port cls agent addr : Nat) : State :=
  raise s port evPostedWriteFailed 3 (quadIsl port)
    (evData (leBytes 1 cls ++ leBytes 1 agent ++ leBytes 6 (addr / 4 % 2 ^ 48)) s.drip)

/-- Log a General Media event record with the Data Lost flag in a grotto's event log (R167). -/
def logLost (s : State) (n addr : Nat) : State :=
  s.modGr n (fun x => { x with
    log := x.log ++ [{ handle := x.nextHandle, kind := 1, addr := addr }], nextHandle := x.nextHandle + 1 })

/-! ## Generations (R184-R187) -/

/-- A generation is live. -/
def genLive (x : GrRt) (gen : Nat) : Bool :=
  x.gens.any (fun v => v.gen == gen)

/-- Outstanding count of a generation. -/
def genCount (x : GrRt) (gen : Nat) : Nat :=
  ((x.gens.find? (fun v => v.gen == gen)).map (·.count)).getD 0

/-- Change a live generation. -/
def modGen (s : State) (n gen : Nat) (f : LiveGen → LiveGen) : State :=
  s.modGr n (fun x => { x with gens := x.gens.map (fun v => if v.gen == gen then f v else v) })

/-- A request is stamped (R185). -/
def genAdd (s : State) (n gen : Nat) : State :=
  modGen s n gen (fun v => { v with count := v.count + 1 })

/-- The last of a request's reply and device writes has happened (R185). -/
def genSub (s : State) (n gen : Nat) : State :=
  modGen s n gen (fun v => { v with count := v.count - 1 })

/-- A twin write that answers to a reply is still outstanding: its request stays counted (R185). -/
def twinOwes (s : State) (p : Pkt) : Bool :=
  s.mem.twins.any (fun e => e.2.any (fun t => t.pkt.grotto == p.grotto && t.pkt.gen == p.gen && t.pkt.usp == p.usp &&
    t.pkt.tag == p.tag && t.pkt.agent == p.agent && t.pkt.gv && t.replied && !t.left))

/-- Mark the twin write that a reply answers: its reply has left. -/
def twinLeft (s : State) (p : Pkt) : State :=
  { s with mem := { s.mem with twins := s.mem.twins.map (fun e => (e.1, e.2.map (fun t =>
    if t.pkt.grotto == p.grotto && t.pkt.gen == p.gen && t.pkt.usp == p.usp && t.pkt.tag == p.tag &&
        t.pkt.agent == p.agent && t.pkt.gv && t.replied && !t.left then { t with left := true } else t))) } }

/-- A stamped request's final reply has left its USP egress, or been discarded. -/
def replyGone (s : State) (p : Pkt) : State :=
  let s := notePkt s p endRun
  if !p.gv then s
  else if twinOwes s p then twinLeft s p
  else genSub s p.grotto p.gen

/-! ## Binding (R183, R188, R189) -/

/-- A PRIVATE window that a bind by the grotto's agent must sanitise (R189). -/
def mustSanitise (s : State) (c : Cfg) (n w : Nat) : Bool :=
  !(c.win w).shared && !(s.win w).clean && (s.win w).lastAgent != (c.gr n).agent

/-- A packet is a device access stamped with a generation of a grotto. -/
def stamped (n gen : Nat) (p : Pkt) : Bool :=
  p.gv && p.grotto == n && p.gen == gen && (p.kind == .memReq || p.kind == .devReq)

/-- A slice's request is stamped with a generation of a grotto. -/
def stampedReq (n gen : Nat) (r : SliceReq) : Bool :=
  r.gv && r.grotto == n && r.gen == gen

/-- Some packet in the data path, from a quad island to a device, has a property. -/
def anyPkt (s : State) (f : Pkt → Bool) : Bool :=
  s.port.ports.any (fun e => e.2.outs.any (fun o => f o.pkt) || e.2.waiting.any (fun w => f w.pkt) || e.2.forming.any (fun c => f c.cell.pkt)) ||
    s.dir.accs.any (fun a => f a.pkt) ||
    s.core.gals.any (fun e => e.2.outWait.any f || e.2.egIn.any (fun q => q.2.any f) || e.2.voq.any (fun q => q.2.any (fun c => f c.pkt)) ||
      e.2.relayQ.any (fun q => q.2.any (fun c => f c.pkt)) ||
      e.2.flows.any (fun q => q.2.held.any (fun c => f c.pkt) || q.2.part.any (fun c => f c.pkt))) ||
    s.core.flights.any (fun x => f x.cell.pkt) ||
    s.core.pas.any (fun e => e.2.plan.any (fun x => f x.cell.pkt) || e.2.rx.any (fun x => f x.cell.pkt) ||
      (e.2.st != .alive && e.2.replay.any (fun x => f x.cell.pkt))) ||
    s.sched.any (fun e => e.2.plain.any f || e.2.sending.any (fun x => f x.pkt) || e.2.queues.any (fun q => q.2.pkts.any (fun p => f p.pkt))) ||
    s.mem.twins.any (fun e => e.2.any (fun t => f t.pkt)) || s.mem.twinWait.any (fun e => e.2.any f)

/-- Some request of a slice has a property. -/
def anyReq (s : State) (f : SliceReq → Bool) : Bool :=
  let held := fun (t : Tbl (List Entry)) => t.any (fun e => e.2.any (fun x => x.txn.any (fun t => t.req.any f)))
  s.dir.slices.any (fun e => e.2.intake.any f || e.2.retry.any (fun r => f r.req) || e.2.held.any f || e.2.snoopPath.any f) ||
    held s.dir.full || held s.dir.ptr

/-- Some device access stamped with generation `gen` of a grotto has neither completed nor timed out, or may still be made (R188). -/
def straggling (s : State) (n gen : Nat) : Bool :=
  anyPkt s (stamped n gen) || anyReq s (stampedReq n gen)

/-- A grotto becomes `BOUND` (R182, R183, R189, R203): its event log is reset, its PRIVATE windows record the agent, its vPPB
reports presence. -/
def becomeBound (s : State) (n : Nat) : State :=
  let c := s.cfg.gr n
  let x := s.gr n
  let s := forEach c.wins s (fun s e =>
    if (s.cfg.win e.1).shared then s
    else s.modWin e.1 (fun v => { v with clean := false, lastAgent := c.agent }))
  let s := s.modGr n (fun x => { x with
    st := .bound, change := s.drip, log := [], policy := 0, hdm := [], present := true, sanWins := [], sanLeft := [] })
  let s := forEach (s.cfg.hier c.agent).usps s (fun s u => resetFns s u (· == 66 + x.vppb))
  let s := hotplug s c.agent x.vppb true
  raise s (1300 + c.agent) evGrottoBound 0 284
    (evData (leBytes 1 0 ++ leBytes 1 x.gen ++ leBytes 2 n ++ leBytes 1 x.vppb ++ leBytes 1 x.sanWins.length) s.drip)

/-- A `BINDING` grotto becomes `BOUND` once every condition of R188 holds. -/
def bindSettle (s : State) (n : Nat) : State :=
  let x := s.gr n
  if x.st == .binding && x.gens.all (fun v => !v.draining) && x.sanLeft.isEmpty &&
      !(x.sanitise && straggling s n x.oldGen) then becomeBound s n
  else s

/-- Let every `BINDING` grotto settle. -/
def bindAll (s : State) : State :=
  forEach (s.mem.grottos.map (·.1)) s bindSettle

/-! ## Twinned extents (R192) -/

/-- Change the state of an extent. -/
def modExt (s : State) (w e : Nat) (f : ExtRt → ExtRt) : State :=
  s.modWin w (fun x => { x with exts := tmod {} x.exts e f })

/-- The extents of a window, as keys 16 × segment + way with their bundles. -/
def extents (c : WinCfg) : List (Nat × Nat × Nat) :=
  (List.range c.segs.length).flatMap (fun k =>
    match c.segs[k]? with
    | some sg => (List.range c.w).map (fun i => (16 * k + i, (sg.ways.getD i (512, 0)).1, (sg.twins.getD i (512, 0)).1))
    | none => [])

/-- Which copies of an extent lie on a bundle: 1 the primary, 2 the twin. -/
def copyOn (e : Nat × Nat × Nat) (port : Nat) : Nat :=
  if e.2.1 == port then 1 else if e.2.2 == port then 2 else 0

/-- `lost` with one more copy lost. -/
def loseCopy (lost c : Nat) : Nat :=
  lost ||| c

/-- A resync of a window has ended for an extent: when none is `DEGRADED` or `RESYNCING` any longer, `EV_TWIN_RESYNCED` is raised, from the
gallery of the lowest extent concerned (R193, R203). -/
def resyncOver (s : State) (w : Nat) : State :=
  let x := s.win w
  if x.exts.any (fun e => e.2.lost == 1 || e.2.lost == 2) then s
  else
    let es := extents (s.cfg.win w)
    let mine := fun (e : Nat × Nat × Nat) => if x.resynced.isEmpty then (tget {} x.exts e.1).lost == 3 else x.resynced.contains e.1
    let g := galOf (((es.find? mine).map (fun e => e.2.1)).getD 0)
    raise (s.modWin w (fun v => { v with resynced := [] })) (1260 + g) evTwinResynced 0 (coreIsl g)
      (evData (leBytes 1 0 ++ leBytes 1 0 ++ leBytes 2 w ++ leBytes 2 0 ++ leBytes 2 (sat 16 x.resynced.length)) s.drip)

/-- `EV_TWIN_DEGRADED`, once for a window and a lost device (R192, R203). -/
def raiseDegraded (s : State) (port w : Nat) (hit : List (Nat × Nat × Nat)) : State :=
  if (s.win w).raised.contains port then s
  else
    let s := s.modWin w (fun x => { x with raised := port :: x.raised })
    let both := hit.any (fun e => (tget {} (s.win w).exts e.1).lost == 3)
    let cause := if both then 3 else match hit.head? with
      | some e => copyOn e port
      | none => 1
    let g := galOf ((hit.head?.map (fun e => e.2.1)).getD 0)
    raise s (1260 + g) evTwinDegraded (if both then 3 else 2) (coreIsl g)
      (evData (leBytes 1 cause ++ leBytes 1 0 ++ leBytes 2 w ++ leBytes 2 port ++ leBytes 2 hit.length) s.drip)

/-- One window loses a device: its extents there become `DEGRADED` or `LOST`, and a resync of them ends (R192, R193). -/
def loseInWindow (s : State) (port w : Nat) : State :=
  let c := s.cfg.win w
  let hit := (extents c).filter (fun e => copyOn e port != 0)
  if !c.live || !c.twinned || hit.isEmpty then s
  else
    let ran := hit.any (fun e => (tget {} (s.win w).exts e.1).resync)
    let s := forEach hit s (fun s e => modExt s w e.1 (fun x =>
      { x with lost := loseCopy x.lost (copyOn e port), resync := false, p := 0, done := 0 }))
    let s := raiseDegraded s port w hit
    if ran then resyncOver s w else s

/-- A device becomes unreachable: every TWINNED window loses its copies there (R192), and a sanitise or a resync that needs it
ends with it through its own commands. -/
def loseDevice (s : State) (port : Nat) : State :=
  forEach (s.cfg.wins.map (·.1)) s (fun s w => loseInWindow s port w)

/-! ## Fences (R123, R125) -/

/-- The fence of an agent ends once its sweep has ended and no grotto of it that holds a SHARED window is `BOUND` (R125). -/
def fenceSettle (s : State) (a : Nat) : State :=
  let f := s.fence a
  if f.on && !f.sweeping &&
      !s.cfg.grottos.any (fun e => e.2.live && e.2.agent == a && (s.gr e.1).st == .bound && holdsShared s.cfg e.1) then
    s.modFence a (fun _ => {})
  else s

end Sys2Proof.Machine
end

