-- ==== Sys2Proof/Machine/Fabric.lean ====
section
/-!
DEFINITION. The rotation core's shared operations: which columns and passages are in use (R40, R44), leaving and failing
(R45, R46, R59-R61), replay, acknowledgement and hold-off (R52-R58), and the shared cell buffer (R67-R71).
-/

namespace Sys2Proof.Machine

/-! ## Passages and columns in use -/

/-- A passage is alive: until its drain ends (R64), and while its column is admitted if it had stayed alive (R46). -/
def pasAlive (s : State) (p : Nat) : Bool :=
  match (s.pas p).st with
  | .alive => true
  | .draining _ => true
  | .dead => false
  | .testing => false
  | .admitting => (s.pas p).op.wasAlive

/-- Live passages of a gallery (R66). -/
def livePas (s : State) (g : Nat) : Nat :=
  ((List.range 4).filter (fun c => pasAlive s (4 * g + c))).length

/-- `PASSAGES_ALIVE` of a column (R47). -/
def aliveMask (s : State) (c : Nat) : Nat :=
  sumOf (fun g => bit (pasAlive s (4 * g + c)) * 2 ^ g) (List.range 8)

/-- A gallery's use of a column. -/
def useOf (s : State) (g c : Nat) : UseSt :=
  tget .used (s.gal g).uses c

/-- Set a gallery's use of a column. -/
def setUse (s : State) (g c : Nat) (u : UseSt) : State :=
  s.modGal g (fun x => { x with uses := tput .used x.uses c u })

/-- A gallery places cells on a column until the boundary at which it stops (R44). -/
def usesCol (s : State) (g c : Nat) : Bool :=
  match useOf s g c with
  | .used => true
  | .stopping _ => true
  | .draining _ => false
  | .off => false

/-- At least one gallery uses the column. -/
def colInUse (s : State) (c : Nat) : Bool :=
  (List.range 8).any (fun g => usesCol s g c && (s.gal g).lost.isNone)

/-- `IN_USE_MASK` of `COLUMN_STATE` (R47). -/
def inUseMask (s : State) : Nat :=
  sumOf (fun c => bit (colInUse s c) * 2 ^ c) (List.range 4)

/-- Columns in use. -/
def colsInUse (s : State) : Nat :=
  popcount 4 (inUseMask s)

/-- Severity by columns left in use (R48). -/
def colSev (n : Nat) : Nat :=
  if 3 ≤ n then 1 else if 1 ≤ n then 2 else 3

/-- Severity by live passages left to the gallery (R66). -/
def pasSev (n : Nat) : Nat :=
  if 3 ≤ n then 1 else if 1 ≤ n then 2 else 3

/-- What a gallery has learned lets it place cells on passage `p`: alive, or dead without its knowing (R40, R60). -/
def placeOk (s : State) (i p : Nat) : Bool :=
  match (s.pas p).st with
  | .alive => true
  | .draining _ => false
  | .dead => !bitOf (s.pas p).noticed i
  | .testing => !bitOf (s.pas p).noticed i
  | .admitting => false

/-- Gallery `i` may place cells on column `c` toward `m` (R40). -/
def usable (s : State) (i c m : Nat) : Bool :=
  useOf s i c != .off && usesCol s i c && placeOk s i (4 * i + c) && placeOk s i (4 * m + c)

/-! ## Columns leaving and failing -/

/-- Change a column's `STATE` with its change drip. -/
def setColSt (s : State) (c : Nat) (st : ColSt) : State :=
  s.modCol c (fun x => if x.st == st then x else { x with st := st, changeDrip := s.drip })

/-- Raise a column event (R48), from the management die as in the example of R45. -/
def raiseCol (s : State) (c code cause sev drip : Nat) : State :=
  raise s (1256 + c) code sev 287
    (evData (leBytes 1 cause ++ leBytes 1 (colsInUse s) ++ leBytes 1 (aliveMask s c)) drip)

/-- Take an armed action out of the time master's list. -/
def disarm (s : State) (p : ArmKind → Bool) : State :=
  { s with time := { s.time with arms := s.time.arms.filter (fun a => !p a.kind) } }

/-- Arm an action for drip `at_` in some islands (R27). -/
def armFor (s : State) (kind : ArmKind) (at_ : Nat) (islands : List Nat) : State :=
  let a : Arm := { id := s.time.nextArm, kind := kind, at_ := at_, islands := islands }
  { s with time := { s.time with arms := s.time.arms ++ [a], nextArm := s.time.nextArm + 1 } }

/-- Every gallery core: the islands of an action on a column or a passage. -/
def coreIslands (s : State) : List Nat :=
  ((List.range 8).filter (fun g => (s.gal g).lost.isNone)).map coreIsl

/-- Raise `EV_PASSAGE_DEAD` (R66). -/
def raisePas (s : State) (p cause endp lane sev drip : Nat) : State :=
  let isl := match endp with
    | 0 => pasIslG (p / 4) (p % 4)
    | 1 => pasIslC (p / 4) (p % 4)
    | _ => 287
  raise s (1224 + p) evPassageDead sev isl
    (evData (leBytes 1 cause ++ leBytes 1 endp ++ leBytes 2 lane ++ leBytes 1 (livePas s (p / 4))) drip)

/-- Cells on their way are discarded; those past their column's crossbar are cells it has carried (R47, R60). -/
def dropFlights (s : State) (gone : Flight → Bool) : State :=
  let past := fun (c : Nat) => (s.core.flights.filter (fun f => gone f && f.c == c && decide (f.at24 ≤ 24 * s.now + 263))).length
  let s' := { s with core := { s.core with flights := s.core.flights.filter (fun f => !gone f) } }
  forEach ((List.range 4).filter (fun c => past c != 0)) s' (fun s' c =>
    s'.modCol c (fun x => { x with cells := (x.cells + past c) % 2 ^ 64 }))

/-- Restart the numbering of every stream through a passage (R53). -/
def restartStreams (s : State) (p : Nat) : State :=
  let g := p / 4
  let c := p % 4
  let s := s.modPas p (fun x => { x with outs := [], ins := [], replay := [] })
  let s := dropFlights s (fun f => f.c == c && (f.i == g || f.m == g))
  forEach ((List.range 8).filter (fun i => i != g)) s (fun s i => s.modPas (4 * i + c) (fun x =>
    { x with outs := tput {} x.outs g {}, ins := tput {} x.ins g {}, replay := x.replay.filter (fun e => e.m != g) }))

/-- A gallery whose last passage has died notes when (R337). -/
def noteNoPas (s : State) (g : Nat) : State :=
  if livePas s g == 0 then s.modGal g (fun x => { x with noPasSince := if x.noPasSince.isNone then some s.now else x.noPasSince })
  else s

/-- An admission of a passage fails: the passage stays dead, or becomes dead (R46, R65, R66). -/
def admitFailed (s : State) (p : Nat) : State :=
  let died := (s.pas p).op.wasAlive
  let s := s.modPas p (fun x => { x with
    st := .dead, op := {}, noticed := 255, galDead := true, colDead := true
    lastCause := if died then 0x0B else x.lastCause, deathDrip := if died then s.drip else x.deathDrip })
  noteNoPas (raisePas s p 0x0B 2 65535 (pasSev (livePas s (p / 4))) s.drip) (p / 4)

/-- A passage of a column's admission that has not finished fails with it (R46). -/
def failPart (s : State) (p : Nat) : State :=
  if (s.pas p).st == .admitting && (s.pas p).op.forColumn then admitFailed s p else s

/-- A column's admission ends with the column `OFFLINE` (R46). Passages whose part of it has not ended fail with it, also those that had
stayed alive: they are not trained (DEDUCED, log 152). -/
def failAdmission (s : State) (c : Nat) : State :=
  let s := disarm s (fun k => k == .columnReturn c)
  let s := forEach (List.range 8) s (fun s g => failPart s (4 * g + c))
  let s := setColSt (s.modCol c (fun x => { x with lastCause := 4, cleanEnd := none })) c .offline
  let s := dropFlights s (fun f => f.c == c && f.cell.pkt.cls == 7)
  raiseCol s c evColumnOffline 4 (colSev (colsInUse s)) s.drip

/-- A gallery's sequencer learns that a column cannot be trusted: it stops at the first rotation boundary at least 16 drips
later (R44). -/
def learnColumn (s : State) (g c : Nat) : State :=
  if useOf s g c == .used then setUse s g c (.stopping s.now) else s

/-- A column cannot be trusted, cause as in R48: its core sends the notice of codes 02h and 03h over its live passages; 04h
travels on the beacon trees (R52). During an admission it ends the admission (R46). -/
def columnUntrusted (s : State) (c cause : Nat) : State :=
  let s := s.modCol c (fun x => if x.untrusted == 0 then { x with untrusted := cause } else x)
  let code := if cause == 2 then 2 else if cause == 3 then 3 else 4
  let s := if cause == 5 then s
    else sendSb s { type := 5, from_ := 8 + c, col := c, dest := 8, body := [code, c, s.drip % 2 ^ 32] }
  match (s.col c).st with
  | .calibrating => failAdmission s c
  | .probing => failAdmission s c
  | _ => s

/-! ## Queues and charges -/

/-- A virtual output queue. -/
def voqOf (s : State) (g m cls : Nat) : List Cell :=
  tget [] (s.gal g).voq (qKey m cls)

/-- A gallery's relay cells in total (R42). -/
def relayTotal (x : Gal) : Nat :=
  sumOf (·.2) x.relayOcc

/-- `RELAY_OPEN` after a change of the relay counts (R42): bits clear at 12,288 in total or 2,048 for the destination, and set
again when both are below 11,264 and 1,792. -/
def reopenRelay (x : Gal) : Gal :=
  let tot := relayTotal x
  let f := fun (m : Nat) (j : Nat) =>
    let n := tget 0 x.relayOcc j
    if 12288 ≤ tot ∨ 2048 ≤ n then clrBit m j
    else if tot < 11264 ∧ n < 1792 then setBit m j else m
  { x with relayOpen := (List.range 8).foldl f x.relayOpen }

/-- Change the relay charge for destination `j`. -/
def chargeRelay (x : Gal) (j : Nat) (f : Nat → Nat) : Gal :=
  reopenRelay { x with relayOcc := tmod 0 x.relayOcc j f }

/-- Free slots in the shared part of the cell buffer (R67): what egress and virtual output queues hold above their reserves
is taken from it. -/
def freeShared (x : Gal) : Nat :=
  228288 - (sumOf (fun e => e.2 - 32) x.egOcc + sumOf (fun e => e.2 - 64) x.voqOcc)

/-- The threshold test Q < 2^k × F (R69). -/
def underThreshold (k : Int) (q f : Nat) : Bool :=
  if 0 ≤ k then decide (q < f * 2 ^ k.toNat) else decide (q * 2 ^ (-k).toNat < f)

/-- A packet of `n` cells of a class is admitted to a queue that holds `occ` cells and has `res` reserved slots (R69). -/
def admits (s : State) (g cls occ res n : Nat) : Bool :=
  let f := freeShared (s.gal g)
  let need := n - min n (res - occ)
  need == 0 || (decide (need ≤ f) && underThreshold ((s.cfg.alphas g).getD cls 0) (occ - res) f)

/-- Admission of `n` cells to a virtual output queue. -/
def admitsVoq (s : State) (g m cls n : Nat) : Bool :=
  admits s g cls (tget 0 (s.gal g).voqOcc (qKey m cls)) 64 n

/-- Admission of `n` cells to an egress queue. -/
def admitsEg (s : State) (g port cls n : Nat) : Bool :=
  admits s g cls (tget 0 (s.gal g).egOcc (qKey port cls)) 32 n

/-- Charge an egress queue (R68). -/
def chargeEg (s : State) (g port cls n : Nat) : State :=
  s.modGal g (fun x => { x with egOcc := tmod 0 x.egOcc (qKey port cls) (fun v => v + n) })

/-- Free an egress charge. -/
def freeEg (s : State) (g port cls n : Nat) : State :=
  s.modGal g (fun x => { x with egOcc := tmod 0 x.egOcc (qKey port cls) (fun v => v - n) })

/-- Charge a virtual output queue. -/
def chargeVoq (s : State) (g m cls n : Nat) : State :=
  s.modGal g (fun x => { x with voqOcc := tmod 0 x.voqOcc (qKey m cls) (fun v => v + n) })

/-- Count a refused admission: a lossless one in the gallery's counters (R364 index 20), any in select 07h. -/
def countRefused (s : State) (g cls : Nat) : State :=
  let s := if cls == 6 then s else countGal s g 20 1
  pulse s g 7 1 (fun q => bitOf q cls)

/-- Number and charge a packet of cells for the virtual output queue toward its destination, and put those that are there into it
(R68, R78, R80). -/
def enqueueCells (s : State) (g : Nat) (p : Pkt) (cs here : List Cell) : State :=
  let n := cs.length
  let qk := qKey p.dstGal p.cls
  s.modGal g (fun x => { x with
    voq := tmod [] x.voq qk (· ++ here)
    voqOcc := tmod 0 x.voqOcc qk (· + n)
    flowSeq := tmod 0 x.flowSeq (seqKey p.srcPort p.dstGal p.cls) (fun v => (v + n) % 65536)
    nextOrd := x.nextOrd + n })

/-- The cells of a packet that gallery `g` queues next in its flow. -/
def nextCells (s : State) (g : Nat) (p : Pkt) : List Cell :=
  cellsOf p (tget 0 (s.gal g).flowSeq (seqKey p.srcPort p.dstGal p.cls)) (s.gal g).nextOrd

/-- Put a whole packet's cells on the virtual output queue toward its destination. -/
def enqueueVoq (s : State) (g : Nat) (p : Pkt) : State :=
  let cs := nextCells s g p
  enqueueCells s g p cs cs

/-- Tags from here on mark the reads of scans (R270): slot key, line and scan; a host's tags lie below. -/
def scanTag (slot line seq : Nat) : Nat :=
  65536 + (slot * 2 ^ 24 + line) * 256 + seq % 256

/-- A reply to a scan read. -/
def isScan (p : Pkt) : Bool :=
  p.kind == .memRsp && decide (65536 ≤ p.tag)

/-- A scan read's reply reaches the service island of the home gallery: kept for its turn (R270), or dropped when its scan has
ended. -/
def scanReply (s : State) (p : Pkt) : State :=
  let v := p.tag - 65536
  let key := v / 2 ^ 32
  let line : ScanLine := if p.poison then (if p.data.isEmpty then .unreachable else .poison) else .data p.data
  let x := tget {} s.check key
  let s := replyGone s p
  if x.busy && x.scanSeq % 256 == v % 256 then
    { s with check := tput {} s.check key { x with arrived := x.arrived ++ [(v / 256 % 2 ^ 24, line)] } }
  else s

/-- Put a packet at the egress of a port of this gallery, in the order of hand-on, under its egress charge. A scan's reply goes
to the service island instead. -/
def arrivePort (s : State) (g : Nat) (p : Pkt) : State :=
  if isScan p then scanReply (freeEg s g p.dstPort p.cls (cellCount p)) p
  else s.modGal g (fun x => { x with egIn := tmod [] x.egIn p.dstPort (· ++ [p]) })

/-- Two packets of gallery `g` go to the same queue. -/
def sameQueue (g : Nat) (p q : Pkt) : Bool :=
  p.dstGal == q.dstGal && p.cls == q.cls && (p.dstGal != g || p.dstPort == q.dstPort)

/-- Room for a packet on its way from gallery `g` (R69). -/
def roomFor (s : State) (g : Nat) (p : Pkt) : Bool :=
  if p.dstGal == g then admitsEg s g p.dstPort p.cls (cellCount p) else admitsVoq s g p.dstGal p.cls (cellCount p)

/-- A packet may enter its queue: it is admitted, and none formed earlier in the gallery waits for the same queue. -/
def mayEnter (s : State) (g : Nat) (p : Pkt) : Bool :=
  roomFor s g p && !(s.gal g).outWait.any (sameQueue g p)

/-- A packet formed in the gallery finds no room and waits (R69, R72; where it waits: DEDUCED, log 155). -/
def waitOut (s : State) (g : Nat) (p : Pkt) : State :=
  (countRefused s g p.cls).modGal g (fun x => { x with outWait := x.outWait ++ [p] })

/-- A packet that stays in its gallery passes its flow's numbering and its resequencer at once, in order (R78). -/
def localFlow (s : State) (g : Nat) (p : Pkt) : State :=
  let n := cellCount p
  let s := noteStage (noteStage s p 0 5) p 1 5
  s.modGal g (fun x => { x with
    flowSeq := tmod 0 x.flowSeq (seqKey p.srcPort g p.cls) (fun v => (v + n) % 65536)
    flows := tmod {} x.flows (flowKey g p.srcPort p.cls) (fun v => { v with e := (v.e + n) % 65536 }) })

/-- Put an admitted packet into its queue: through local switching inside the gallery (R7), else toward the core. -/
def sendNow (s : State) (g : Nat) (p : Pkt) : State :=
  if p.dstGal == g then arrivePort (chargeEg (localFlow s g p) g p.dstPort p.cls (cellCount p)) g p else enqueueVoq s g p

/-- Send a packet from a gallery to a port of another or of its own, once it is admitted (R7, R69). -/
def sendOn (s : State) (g : Nat) (p : Pkt) : State :=
  if mayEnter s g p then sendNow s g p else waitOut s g p

/-- A packet for a port of a lost gallery, whose ports are all down: a packet for a host leaves on the first live USP of its
hierarchy (R338, R392). -/
def toLostPort (s : State) (g : Nat) (p : Pkt) : State :=
  let gone := if p.kind == .memRsp || p.kind == .ioCpl then replyGone s p else s
  if p.kind == .memRsp || p.kind == .snoop || p.kind == .conflictAck || p.kind == .cacheRsp || p.kind == .msi then
    match firstLive s p.agent with
    | some u => sendOn s g { p with dstGal := galOf u, dstPort := localOf u, usp := u }
    | none => gone
  else gone

/-- Send a packet from a gallery to a port: through local switching inside the gallery (R7), else through the core. -/
def sendToPort (s : State) (g : Nat) (p : Pkt) : State :=
  if (s.gal p.dstGal).lost.isSome && p.dstGal != g then toLostPort s g p else sendOn s g p

/-! ## Replay (R61) -/

/-- A cell goes back to the head of its queue: the relay queue on its second hop, else the virtual output queue (R57, R61). -/
def putBack (x : Gal) (hop2 : Bool) (c : Cell) : Gal :=
  let k := qKey c.pkt.dstGal c.pkt.cls
  if hop2 then { x with relayQ := tmod [] x.relayQ k (c :: ·) } else { x with voq := tmod [] x.voq k (c :: ·) }

/-- Placed cells that have not started go back to their queues in their order (R57, R60); on a live passage idle units take their
places. -/
def unplan (s : State) (p : Nat) (gone : Planned → Bool) : State :=
  let es := (s.pas p).plan.filter gone
  let s := s.modPas p (fun x => { x with plan := x.plan.filter (fun e => !gone e) })
  let s := s.modGal (p / 4) (fun x => es.foldr (fun e x => putBack x e.hop2 e.cell) x)
  if pasAlive s p then countPas s p 2 es.length else s

/-- A receiver acknowledges nothing more of a stream (R61). -/
def stopStream (t : Tbl StreamIn) (i : Nat) : Tbl StreamIn :=
  tmod {} t i (fun v => { v with stopped := true, unacked := 0 })

/-- Put replay entries back at the heads of their queues in their order, as replayed copies. -/
def replayInto (s : State) (g p : Nat) (es : List ReplayEnt) : State :=
  let n := es.length
  let s := s.modGal g (fun x => es.foldr (fun e x => putBack x e.hop2 { e.cell with replay := true }) x)
  let s := s.modPas p (fun x => { x with replayed := (x.replayed + n) % 2 ^ 64 })
  countGal (countPas s p 3 n) g 16 n

/-- Gallery `i` learns that passage `p` is dead: it starts no further cell there, replays what the passage may have lost, and forgets the
streams (R60, R61). -/
def learnDeath (s : State) (i p : Nat) : State :=
  if bitOf (s.pas p).noticed i then s
  else
    let g := p / 4
    let s := s.modPas p (fun x => { x with noticed := setBit x.noticed i })
    if i == g then
      let s := unplan s p (fun _ => true)
      let es := (s.pas p).replay
      let s := s.modPas p (fun x => { x with replay := [], outs := [], ins := (List.range 8).foldl stopStream x.ins })
      replayInto s g p es
    else
      let q := 4 * i + p % 4
      let s := unplan s q (fun e => e.m == g)
      let es := (s.pas q).replay.filter (fun e => e.m == g)
      let s := s.modPas q (fun x => { x with
        replay := x.replay.filter (fun e => e.m != g)
        outs := tput {} x.outs g {}
        ins := stopStream x.ins g })
      replayInto s i q es

/-- Every gallery learns of a death it has not yet learned of. -/
def allLearn (s : State) (p : Nat) : State :=
  forEach (List.range 8) s (fun s i => learnDeath s i p)

/-- Cells a death discards at one end as it comes there (R60): at the gallery end everything still on its way in; at the column end
what has not left the column on either side. A cell is at the crossbar 10 drips after launch. -/
def deathDiscards (s : State) (p endp : Nat) (f : Flight) : Bool :=
  let g := p / 4
  let before := decide (24 * s.now + 23 < f.at24 - 240)
  f.c == p % 4 && (if endp == 0 then f.m == g else (f.i == g || f.m == g) && before)

/-- `NOTICE` of a passage death over the other live passages of both ends (R60). -/
def noticeDeath (s : State) (p endp : Nat) : State :=
  let g := p / 4
  let body := [1, p, s.drip % 2 ^ 32]
  if endp == 1 then sendSb s { type := 5, from_ := 8 + p % 4, col := p % 4, dest := 8, body := body }
  else
    forEach ((List.range 4).filter (fun c => c != p % 4 && pasAlive s (4 * g + c))) s (fun s c =>
      sendSb s { type := 5, from_ := g, col := c, dest := 8, body := body })

/-- One end of a dead passage discards what it holds and receives (R60). -/
def endDies (s : State) (p endp : Nat) : State :=
  let s := s.modPas p (fun x => if endp == 0 then { x with galDead := true } else { x with colDead := true })
  dropFlights s (deathDiscards s p endp)

/-- A live or draining passage dies in both directions (R59, R60); at a command both ends know. A test accepted on it goes on to its
pattern (R64). -/
def killPassage (s : State) (p cause endp lane : Nat) : State :=
  let live := match (s.pas p).st with
    | .alive => true
    | .draining _ => true
    | _ => false
  if !live then s
  else
    let mask := if lane < 256 then 2 ^ lane else 0
    let s := s.modPas p (fun x => { x with
      st := if x.testAsked.isSome then .testing else .dead
      op := match x.testAsked with
        | some o => { o with started := s.now }
        | none => x.op
      testAsked := none
      lastCause := cause, deathDrip := s.drip, noticed := 0
      errOut := if endp == 1 then mask else 0
      errIn := if endp == 0 then mask else 0 })
    let s := disarm s (fun k => k == .passageDrain p)
    let s := if endp == 1 then s else endDies s p 0
    let s := if endp == 0 then s else endDies s p 1
    let s := if endp < 2 then sendKill s p endp else s
    let s := raisePas s p cause endp lane (pasSev (livePas s (p / 4))) s.drip
    let s := noticeDeath s p endp
    let s := noteNoPas s (p / 4)
    if endp == 1 then s else learnDeath s (p / 4) p

/-- A passage becomes alive, with the lane deskew its markers gave in training (R51; a value the spec does not give, log 2). -/
def revive (s : State) (p : Nat) : State :=
  let d := draw s
  (d.2.modPas p (fun x => { x with st := .alive, noticed := 0, galDead := false, colDead := false, deskew := d.1 })).modGal (p / 4)
    (fun x => { x with noPasSince := none })

/-! ## Acknowledgement and hold-off (R54-R58) -/

/-- Send an `ACK` of stream (i, c, g) from gallery `g` (R54). -/
def sendAck (s : State) (g c i : Nat) : State :=
  let p := 4 * g + c
  let v := tget {} (s.pas p).ins i
  let s := s.modPas p (fun x => { x with ins := tput {} x.ins i { v with unacked := 0 } })
  let s := countPas s p 4 1
  sendSb s { type := 1, from_ := g, col := c, dest := i, body := [(v.count + 65535) % 65536, v.check] }

/-- Cells in the shared part of a receive buffer. -/
def rxShared (x : Pas) : Nat :=
  (x.rx.filter (fun c => !c.reserve)).length

/-- Cells of a class in a part of a receive buffer. -/
def rxClass (x : Pas) (cls : Nat) (res : Bool) : Nat :=
  (x.rx.filter (fun c => c.reserve == res && c.cell.pkt.cls == cls)).length

/-- The hold-off conditions and their mask after a change of the receive buffer (R57); `heldSince` keeps, plus one, when each
class was first held off. -/
def holdOff (x : Pas) (now : Nat) : Pas :=
  let n := rxShared x
  let sh := if 3072 ≤ n then true else if n ≤ 2560 then false else x.sharedOver
  let cl := (List.range 7).foldl (fun m q =>
    let k := rxClass x q false
    if 2048 ≤ k then setBit m q else if k ≤ 1536 then clrBit m q else m) x.classOver
  let mask := if sh then 127 else cl
  let held := (List.range 7).foldl (fun t q =>
    if bitOf mask q then (if tget 0 t q == 0 then tput 0 t q (now + 1) else t) else tput 0 t q 0) x.heldSince
  { x with sharedOver := sh, classOver := cl, xoff := mask, heldSince := held }

/-- Bring the hold-off of a receive buffer up to date, and send `FLOW` on a change of its mask to the galleries that send to
this one in the present and the next slot (R52, R57). -/
def updateHoldOff (s : State) (p : Nat) : State :=
  let old := (s.pas p).xoff
  let s := s.modPas p (fun x => holdOff x s.now)
  let new := (s.pas p).xoff
  if new == old || !pasAlive s p then s
  else
    let n := slotNo s.drip
    let w := fun (m : Nat) => ({ type := 3, from_ := p / 4, col := p % 4, dest := m, body := [new] } : SbWord)
    sendSb (sendSb s (w (slotSource n (p % 4) (p / 4)))) (w (slotSource (n + 1) (p % 4) (p / 4)))

/-- Free a cell's charge when its acknowledgement arrives (R68). -/
def freeSent (x : Gal) (hop2 : Bool) (c : Cell) : Gal :=
  let p := c.pkt
  if hop2 then chargeRelay x p.dstGal (fun v => v - 1)
  else { x with voqOcc := tmod 0 x.voqOcc (qKey p.dstGal p.cls) (fun v => v - 1) }

end Sys2Proof.Machine
end

