-- ==== Sys2Proof/Machine/Devices.lean ====
section
/-!
DEFINITION. Accesses to memory devices: issuing one (R93, R164, R224), the two copies of a twinned extent and the hold buffer
(R190-R192), and the answers a requester of a PRIVATE window receives (R167).
-/

namespace Sys2Proof.Machine

/-! ## Access numbers -/

/-- A fresh number for a device access. -/
def freshAcc (s : State) : Nat × State :=
  (s.dir.nextAcc, { s with dir := { s.dir with nextAcc := s.dir.nextAcc + 1 } })

/-- An outstanding access of the switch's own. -/
def accOf (s : State) (id : Nat) : Option DevAcc :=
  s.dir.accs.find? (fun a => a.id == id)

/-- Register an access. -/
def addAcc (s : State) (a : DevAcc) : State :=
  { s with dir := { s.dir with accs := s.dir.accs ++ [a] } }

/-- Forget an access: its record, and its request wherever it still waits. -/
def dropAcc (s : State) (id : Nat) : State :=
  { s with
    dir := { s.dir with accs := s.dir.accs.filter (fun a => a.id != id) }
    port := { s.port with ports := s.port.ports.map (fun e =>
      (e.1, { e.2 with outs := e.2.outs.filter (fun o => o.id != id) })) } }

/-! ## The hold buffer (R191) -/

/-- The twin writes a gallery's hold buffer holds. -/
def twinsOf (s : State) (g : Nat) : List TwinWr :=
  tget [] s.mem.twins g

/-- Change a gallery's hold buffer. -/
def modTwins (s : State) (g : Nat) (f : List TwinWr → List TwinWr) : State :=
  { s with mem := { s.mem with twins := tmod [] s.mem.twins g f } }

/-- A twin write occupies no line of the buffer once one of its copies is unreachable (R191). -/
def twinFreed (t : TwinWr) : Bool :=
  t.c1 == 2 || t.c2 == 2

/-- Lines of a gallery's hold buffer that are occupied. -/
def twinLines (s : State) (g : Nat) : Nat :=
  ((twinsOf s g).filter (fun t => !twinFreed t)).length

/-- Two packets name one line. -/
def sameLine (p q : Pkt) : Bool :=
  p.dstGal == q.dstGal && p.dstPort == q.dstPort && p.addr / 64 == q.addr / 64

/-- Where in its line a write's bytes begin. -/
def writeOff (p : Pkt) : Nat :=
  match p.op with
  | .memWrPtl _ => p.addr % 64
  | _ => 0

/-- The writes to a line in the buffer, merged in their order, where they cover the line: data and poison (R191, log 170). -/
def twinLine (s : State) (g port dpa : Nat) : Option (Bytes × Bool) :=
  let ws := ((twinsOf s g).filter (fun t => !twinFreed t && 64 * t.pkt.dstGal + t.pkt.dstPort == port && t.pkt.addr / 64 == dpa / 64)).map (·.pkt)
  let here := fun (i : Nat) => ws.any (fun p => decide (writeOff p ≤ i) && decide (i < writeOff p + p.data.length))
  if (List.range 64).all here then
    some (ws.foldl (fun a p => if p.data.length == 64 then (p.data, p.poison) else (spliceAt a.1 (writeOff p) p.data, a.2 || p.poison))
      (List.replicate 64 0, false))
  else none

/-- The copies a host write goes to: in a resync, both below P and the survivor alone from P on; else every copy in use (R192,
R193). 1 the primary, 2 the twin, 3 both. -/
def writeCopies (l : Line) : Nat :=
  if l.st.resync && decide (l.off / 4096 < l.st.p) then 3 else 3 - l.st.lost

/-- Send a copy of a twin write, or a read, toward the device that holds it. -/
def sendCopy (s : State) (g : Nat) (p : Pkt) (l : Line) (c id : Nat) : State :=
  let q := if c == 2 then { p with dstGal := galOf l.tport, dstPort := localOf l.tport, addr := l.tdpa } else p
  sendToPort s g { q with id := id }

/-- Issue one copy of a twin write. -/
def issueCopy (s : State) (g tid : Nat) (p : Pkt) (l : Line) (c : Nat) : State :=
  let (id, s) := freshAcc s
  let q : Pkt := { p with kind := .devReq, srcGal := g, srcPort := p.dstPort }
  let s := addAcc s { id := id, g := g, write := true, copy := c, use := .copy g tid c, pkt := { q with id := id } }
  sendCopy s g q l c id

/-- Take a twin write into the hold buffer and issue its copies (R190, R191). `acc` is the slice access it serves. -/
def twinStart (s : State) (g : Nat) (p : Pkt) (l : Line) (acc : Option Nat) : State :=
  let w := writeCopies l
  let tid := s.mem.nextTwin
  let t : TwinWr := { id := tid, pkt := p, win := l.win, ext := l.ext, acc := acc, c1 := if bitOf w 0 then 0 else 2,
                      c2 := if bitOf w 1 then 0 else 2 }
  let s := { s with mem := { s.mem with nextTwin := tid + 1 } }
  let s := modTwins s g (· ++ [t])
  let s := if bitOf w 0 then issueCopy s g tid p l 1 else s
  if bitOf w 1 then issueCopy s g tid p l 2 else s

/-- The gallery's requests to twinned extents that wait, in order. -/
def twinWaiting (s : State) (g : Nat) : List Pkt :=
  tget [] s.mem.twinWait g

/-- A resync is copying the 4 KiB block of a line (R190). -/
def blockHeld (l : Line) : Bool :=
  l.st.resync && l.off / 4096 == l.st.p

/-- A write may enter the buffer, which holds 131,072 lines: there is room, and no resync copies its block (R190, R191). -/
def twinRoom (s : State) (g : Nat) (l : Line) : Bool :=
  decide (twinLines s g < 131072) && !blockHeld l

/-- A write to a twinned extent starts, or waits; it waits behind what waits for its line (R72, R190, R191). -/
def twinWrite (s : State) (g : Nat) (p : Pkt) (l : Line) (acc : Option Nat) : State :=
  if twinRoom s g l && !(twinWaiting s g).any (sameLine p) then twinStart s g p l acc
  else { s with mem := { s.mem with twinWait := tmod [] s.mem.twinWait g (· ++ [{ p with id := acc.getD p.id }]) } }

/-- A read of a twinned extent that the buffer does not serve goes to the primary, or to the twin while the primary is lost, behind what
waits for its line (R190-R192). -/
def twinRead (s : State) (g : Nat) (p : Pkt) (l : Line) (id : Nat) : State :=
  if (twinWaiting s g).any (sameLine p) then
    { s with mem := { s.mem with twinWait := tmod [] s.mem.twinWait g (· ++ [{ p with id := id }]) } }
  else sendCopy s g p l (if bitOf l.st.lost 0 then 2 else 1) id

/-! ## Accesses of a slice -/

/-- What issuing an access came to: sent under a number, answered from the hold buffer, or unreachable at once. -/
inductive Issue where
  | sent (id : Nat)
  | data (bytes : Bytes) (poison : Bool)
  | failed
  deriving DecidableEq, Repr

/-- The packet of an access to the line of key `k`: `sys` marks those without a requester (R224). -/
def accPkt (s : State) (g k : Nat) (write : Bool) (data : Bytes) (poison sys : Bool) (r : Option SliceReq) : Pkt :=
  let port := keyPort g k
  let fa := match keyLine s g k with
    | some l => lineFa l
    | none => 0
  let part := match r with
    | some q => q.partWrite
    | none => false
  let p : Pkt := { kind := .devReq, cls := 0, srcGal := g, srcPort := localOf port, dstGal := g, dstPort := localOf port,
                   key := k, addr := keyDpa k, fa := fa, hasData := write, data := data, poison := poison, sys := sys,
                   agent := noAgent, op := if write then (if part then .memWrPtl .i else .memWr .i) else .memRd .noOp }
  match r with
  | some q => { p with agent := q.agent, grotto := q.grotto, gen := q.gen, gv := q.gv, usp := q.usp, tag := q.tag }
  | none => p

/-- Issue a read of a line for an entry's transaction. -/
def issueRead (s : State) (g sl k : Nat) (r : Option SliceReq) : Issue × State :=
  let port := keyPort g k
  let p := accPkt s g k false [] false r.isNone r
  let go := fun (l : Option Line) (c : Nat) =>
    let (id, s) := freshAcc s
    let s := addAcc s { id := id, g := g, sl := sl, key := k, copy := c, use := .txn, pkt := { p with id := id } }
    (Issue.sent id, match l with
      | some l => twinRead s g p l id
      | none => sendToPort s g { p with id := id })
  match keyLine s g k with
  | some l =>
    if l.cfg.twinned then
      match (if (twinWaiting s g).any (sameLine p) then none else twinLine s g port (keyDpa k)) with
      | some q => (.data q.1 q.2, s)
      | none => if l.st.lost == 3 then (.failed, s) else go (some l) (if bitOf l.st.lost 0 then 2 else 1)
    else if s.up port then go none 0 else (.failed, s)
  | none => if s.up port then go none 0 else (.failed, s)

/-- Issue a write of a line. -/
def issueWrite (s : State) (g sl k : Nat) (data : Bytes) (poison : Bool) (r : Option SliceReq) (use : AccUse) : Issue × State :=
  let port := keyPort g k
  let p := accPkt s g k true data poison r.isNone r
  let go := fun (l : Option Line) =>
    let (id, s) := freshAcc s
    let s := addAcc s { id := id, g := g, sl := sl, key := k, write := true, use := use, pkt := { p with id := id } }
    (Issue.sent id, match l with
      | some l => twinWrite s g p l (some id)
      | none => sendToPort s g { p with id := id })
  match keyLine s g k with
  | some l =>
    if l.cfg.twinned then if l.st.lost == 3 then (.failed, s) else go (some l)
    else if s.up port then go none else (.failed, s)
  | none => if s.up port then go none else (.failed, s)

/-- A write whose data is lost: the manager's event, and for a requester's write the record in its grotto's event log (R167,
R168). -/
def lostWrite (s : State) (p : Pkt) : State :=
  let s := postedFailed s (64 * p.dstGal + p.dstPort) 0 p.agent p.fa
  if p.gv then logLost s p.grotto p.addr else s

/-- A write of the switch's own, for which nothing waits: sent, or lost. -/
def writeAway (s : State) (g sl k : Nat) (data : Bytes) (poison : Bool) : State :=
  match issueWrite s g sl k data poison none .nothing with
  | (.failed, s) => lostWrite s (accPkt s g k true data poison true none)
  | (_, s) => s

/-! ## Answers to a requester (R167) -/

/-- The reply packet to a request of a PRIVATE window, from gallery `g` and local port `src`. -/
def memReply (g src : Nat) (p : Pkt) (c : Cmp) (hasData : Bool) (data : Bytes) (poison : Bool) : Pkt :=
  { kind := .memRsp, cls := 2, srcGal := g, srcPort := src, dstGal := galOf p.usp, dstPort := localOf p.usp, agent := p.agent,
    grotto := p.grotto, gen := p.gen, gv := p.gv, cmp := c, hasData := hasData, data := data, poison := poison,
    usp := p.usp, tag := p.tag, fa := p.fa, addr := p.addr, op := p.op }

/-- A request reads memory. -/
def isRead : HostOp → Bool
  | .memRd _ => true
  | .memRdData => true
  | .memInv _ => false
  | .memWr _ => false
  | .memWrPtl _ => false
  | .memClnEvct => false
  | .memOther => true
  | .biRsp _ => false
  | .biConflict => false
  | .ioRead => true
  | .ioWrite => false
  | .ioAtomic => true
  | .ioCfg => true
  | .ioMsg => false
  | .ioCpl => false
  | .cacheRead => true
  | .cacheOwn => true
  | .cacheWrite => false
  | .cacheOther => false
  | .cacheRsp => false

/-- A CXL.mem write. -/
def isMemWrite : HostOp → Bool
  | .memWr _ => true
  | .memWrPtl _ => true
  | _ => false

/-- The completion R93's I rows give a request. -/
def rowCmp : HostOp → Cmp
  | .memRd .s => .cmpS
  | .memRd .a => .cmpE
  | .memRdData => .cmpE
  | .memInv .a => .cmpE
  | _ => .cmp

/-- 64 bytes of zeros: the payload of poisoned data, whose value nobody may use. -/
def noData : Bytes :=
  List.replicate 64 0

/-- The payload of poisoned data that stands for an unreachable device (R167). -/
def deadData : Bytes := []

/-- Count a bad or unreachable request at its ingress port (R171). -/
def countDropped (s : State) (b : Nat) : State :=
  s.modPrt b (fun p => { p with dropped := sat 16 (p.dropped + 1) })

/-- Where an unreachable device's reply comes from: the gallery and port that give up, or the ingress when that gallery is lost
(R338). -/
def replyFrom (s : State) (g src : Nat) (p : Pkt) : Nat × Nat :=
  if (s.gal g).lost.isSome then (galOf p.usp, localOf p.usp) else (g, src)

/-- The reply to a PRIVATE request whose device is unreachable (R167). -/
def failPrivate (s : State) (g src : Nat) (p : Pkt) : State :=
  let (g, src) := replyFrom s g src p
  let s := sampleLost (countDropped s p.usp) p
  if isRead p.op then sendToPort s g (memReply g src p (rowCmp p.op) true deadData true)
  else if isMemWrite p.op then sendToPort (lostWrite s p) g (memReply g src p .cmp false [] false)
  else sendToPort s g (memReply g src p (rowCmp p.op) false [] false)

/-- A PRIVATE request to an extent of a TWINNED window, in the gallery of the primary (R190, R191). -/
def twinRequest (s : State) (g : Nat) (p : Pkt) : State :=
  match lineAt s (64 * p.dstGal + p.dstPort) p.addr with
  | none => failPrivate s g p.dstPort p
  | some l =>
    if l.st.lost == 3 then failPrivate s g p.dstPort p
    else if isMemWrite p.op then twinWrite s g p l none
    else
      match (if (twinWaiting s g).any (sameLine p) then none else twinLine s g (64 * p.dstGal + p.dstPort) p.addr) with
      | some q => sendToPort s g (memReply g p.dstPort p (rowCmp p.op) true q.1 q.2)
      | none => twinRead s g { p with srcGal := g, srcPort := p.dstPort } l p.id

end Sys2Proof.Machine
end

