-- ==== Sys2Proof/Machine/Guards.lean ====
section
/-!
DEFINITION. Port guards (R204-R216, R221): the kinds of request, the span check, refusals and the violation record, the end of a
restore; and what a checked request shows to trace and samplers (R358, R359, R361, R367).
-/

namespace Sys2Proof.Machine

/-! ## Kinds (R205) -/

/-- The code of a message's kind; 0 for one that is never checked. -/
def kindOf : HostOp → Nat
  | .memRd .a => 2
  | .memRd _ => 1
  | .memRdData => 1
  | .memInv .a => 3
  | .memInv _ => 1
  | .memWr _ => 4
  | .memWrPtl _ => 4
  | .memClnEvct => 0
  | .memOther => 0
  | .biRsp _ => 0
  | .biConflict => 0
  | .ioRead => 5
  | .ioWrite => 6
  | .ioAtomic => 7
  | .ioCfg => 0
  | .ioMsg => 0
  | .ioCpl => 0
  | .cacheRead => 8
  | .cacheOwn => 9
  | .cacheWrite => 10
  | .cacheOther => 0
  | .cacheRsp => 0

/-- What a kind needs: [0] READ, [1] WRITE, [2] ATOMIC. -/
def needOf : Nat → Nat
  | 1 => 1
  | 2 => 3
  | 3 => 2
  | 4 => 2
  | 5 => 1
  | 6 => 2
  | 7 => 4
  | 8 => 1
  | 9 => 3
  | 10 => 2
  | _ => 0

/-- The length n of a span (R206): a line for CXL.mem and CXL.cache, 1 for a zero-length read, else the request's own, of at most
4,096 bytes (R150). -/
def spanLen (op : HostOp) (len : Nat) : Nat :=
  match op with
  | .ioRead => max 1 (min len 4096)
  | .ioWrite => max 1 (min len 4096)
  | .ioAtomic => max 1 (min len 4096)
  | _ => 64

/-! ## The span check (R208, R210) -/

/-- What a check came to. Reasons are those of R219: 1 `NO_MATCH`, 2 `PERMISSION`, 3 `FAULT`; `twice` marks a double match. -/
inductive Verdict where
  | pass
  | refuse (reason page rule : Nat) (start twice : Bool)
  deriving DecidableEq, Repr

/-- The permissions of a rule, as in R219's `NEED`. -/
def permsOf (r : Rule) : Nat :=
  bit r.rd + 2 * bit r.wr + 4 * bit r.at_

/-- Every permission needed is granted. -/
def grants (r : Rule) (need : Nat) : Bool :=
  (List.range 3).all (fun i => !bitOf need i || bitOf (permsOf r) i)

/-- A rule covers a page of a space. -/
def covers (r : Rule) (space page : Nat) : Bool :=
  r.valid && r.space == space && decide (r.base ≤ page) && decide (page < r.end_)

/-- One page of a check: the reason it fails (4 for a double match) and the rule. -/
def checkPage (rules : Tbl Rule) (space need page : Nat) : Option (Nat × Nat) :=
  match rules.filter (fun e => covers e.2 space page) with
  | [] => some (1, 255)
  | [e] => if grants e.2 need then none else some (2, e.1)
  | e :: _ => some (4, e.1)

/-- The pages of a check in turn. -/
def checkPages (rules : Tbl Rule) (space need lo : Nat) : List Nat → Verdict
  | [] => .pass
  | k :: ks =>
    match checkPage rules space need (lo + k) with
    | none => checkPages rules space need lo ks
    | some (4, r) => .refuse 3 (lo + k) r (decide (0 < k)) true
    | some (w, r) => .refuse w (lo + k) r (decide (0 < k)) false

/-- `CLOSED` of a space. -/
def closedIn (g : GuardCfg) (space : Nat) : Bool :=
  if space == 0 then g.closedF else g.closedP

/-- First and last page of a span. -/
def pageLo (a : Nat) : Nat :=
  a / 4096

/-- Last page of a span. -/
def pageHi (a n : Nat) : Nat :=
  (a + n - 1) / 4096

/-- Check a span (R210, R216). -/
def spanCheck (g : GuardCfg) (fault : Bool) (space a n need : Nat) : Verdict :=
  if fault then .refuse 3 (pageLo a) 255 false false
  else if !closedIn g space then .pass
  else checkPages g.rules space need (pageLo a) (List.range (pageHi a n + 1 - pageLo a))

/-! ## Refusals (R213-R216, R221) -/

/-- Raise `EV_GUARD_FAULT`. -/
def raiseFault (s : State) (b cause rule space sev : Nat) : State :=
  raise s (512 + b) evGuardFault sev (coreIsl (galOf b))
    (evData (leBytes 1 cause ++ leBytes 1 rule ++ leBytes 1 space) s.drip)

/-- Fill the violation record, or count in it (R214). -/
def recordRefusal (s : State) (b : Nat) (v : Viol) : State :=
  let s := pulse (countPort s b 7 1) (galOf b) 8 1 (fun _ => true)
  if (s.grd b).viol.valid then
    s.modGrd b (fun g => { g with viol := { g.viol with count := sat 16 (g.viol.count + 1), lastDrip := s.drip } })
  else
    let s := s.modGrd b (fun g => { g with viol := { v with valid := true, drip := s.drip } })
    raise s (512 + b) evGuardViolation 3 (coreIsl (galOf b))
      (evData (leBytes 1 v.reason ++ leBytes 1 v.kind ++ leBytes 1 v.rule ++ leBytes 1 v.flags ++ leBytes 2 v.requester) s.drip)

/-- A request as its guard sees it. -/
structure Checked where
  port : Nat
  kind : Nat
  space : Nat
  addr : Nat
  len : Nat
  requester : Nat
  agent : Nat
  grotto : Nat := 0
  gen : Nat := 0
  tag : Nat := 0
  store : RuleFault := .none
  deriving DecidableEq, Repr

/-- The verdict on a request now. -/
def verdictOf (s : State) (c : Checked) : Verdict :=
  spanCheck (s.cfg.grd c.port) (s.grd c.port).fault c.space c.addr c.len (needOf c.kind)

/-- The span of a request meets a sealed page, or a sealed port-space rule of its guard (R361). -/
def sealedSpan (s : State) (c : Checked) : Bool :=
  if c.space == 0 then sealedPages s.cfg (pageLo c.addr) (pageHi c.addr c.len)
  else guardSealed s.cfg c.port 1 (pageLo c.addr) (pageHi c.addr c.len)

/-- Trace a checked request (R358, R359, R361). -/
def traceRequest (s : State) (c : Checked) (result : Nat) : State :=
  let red := sealedSpan s c
  traceHap s (galOf c.port) 2 (coreIsl (galOf c.port)) s.drip
    (fun f => decide (f.lo ≤ c.port) && decide (c.port ≤ f.hi) && agentHit f c.agent && bitOf f.kindMask c.kind) red
    (leBytes 2 c.port ++ leBytes 1 c.kind ++ leBytes 1 c.agent ++ leBytes 2 (if red then 0 else c.grotto) ++
      leBytes 1 (if red then 0 else c.gen) ++ leBytes 1 result ++ leBytes 2 c.len ++ leBytes 2 0 ++
      leBytes 8 (if red then 0 else c.addr))

/-- The first 24 bytes of a sample record, which decode knows (R368). -/
def sampleHead (s : State) (c : Checked) : Bytes :=
  let red := sealedSpan s c
  leBytes 8 s.drip ++ leBytes 2 c.port ++ leBytes 1 c.kind ++ leBytes 1 c.agent ++ leBytes 2 (if red then 0 else c.grotto) ++
    leBytes 1 (if red then 0 else c.gen) ++ leBytes 1 (bit red) ++ leBytes 8 (if red then 0 else c.addr)

/-- A gallery's sampler sees a checked request: every `PERIOD`th match is taken while fewer than 8 are in flight (R367). -/
def sampleRequest (s : State) (c : Checked) : State :=
  let g := galOf c.port
  let f := tget {} s.cfg.samps g
  if !f.enable || !bitOf f.kindMask c.kind || decide (c.port < f.lo) || decide (f.hi < c.port) ||
      !(f.agent == 65535 || f.agent == c.agent) then s
  else
    let x := tget {} s.lan.samps g
    let due := x.due || decide (f.period ≤ x.seen + 1)
    let x := { x with seen := if f.period ≤ x.seen + 1 then 0 else x.seen + 1 }
    let x := if due && decide ((x.flying.filter (fun r => !r.ended)).length < 8) then
        { x with due := false, taken := x.taken + 1, flying := x.flying ++ [{ id := x.taken, port := c.port, tag := c.tag, proto := kindProto c.kind,
                                                                              head := sampleHead s c, start := s.drip }] }
      else { x with due := due }
    { s with lan := { s.lan with samps := tput {} s.lan.samps g x } }

/-- The rule store shows a fault at a check (R216): a corrected rule is rewritten, an uncorrectable one closes the guard. -/
def ruleFault (s : State) (c : Checked) : State :=
  let g := s.grd c.port
  let space := fun (i : Nat) => (tget {} (s.cfg.grd c.port).rules i).space
  if g.fault then s
  else
    match c.store with
    | .none => s
    | .corrected i => if i < 64 then raiseFault s c.port 1 i (space i) 0 else s
    | .uncorrectable i =>
      if i < 64 then raiseFault (s.modGrd c.port (fun g => { g with fault := true, faultAt := s.now })) c.port 2 i (space i) 3 else s

/-- Check a request at ingress (R204, R210, R214): its counters, trace and sample, and on a refusal its record. Gives whether it
passes. -/
def guardCheck (s : State) (c : Checked) : State × Bool :=
  let s := ruleFault (countPort s c.port 6 1) c
  let v := verdictOf s c
  match v with
  | .pass => (sampleRequest (traceRequest s c 0) c, true)
  | .refuse reason page rule start twice =>
    let s := sampleRequest (traceRequest s c reason) c
    let s := noteRun s c.port c.tag (kindProto c.kind) (fun r => endRun (flagRun 4 r))
    let s := if twice then
        raiseFault (s.modGrd c.port (fun g => { g with fault := true, faultAt := s.now })) c.port 3 rule c.space 3
      else s
    (recordRefusal s c.port { reason := reason, kind := c.kind, flags := c.space % 2 + 4 * bit start, need := needOf c.kind,
                              rule := rule, requester := c.requester % 65536, length := c.len, addr := c.addr, failPage := page },
     false)

/-- A guard's committed rules and `CLOSED` bits as the copy store holds them. -/
def rewriteGuard (s : State) (b : Nat) : State :=
  { s with cfg := { s.cfg with guards := tput {} s.cfg.guards b (tget {} s.mgmt.guardBank0 b) } }

/-- Both banks of the copy store take the committed guards, on the edge of the commit (R216). -/
def copyGuards (s : State) : State :=
  { s with mgmt := { s.mgmt with guardBank0 := s.cfg.guards, guardBank1 := s.cfg.guards } }

/-- `GUARD_RESTORE_END` (R216): firmware has rewritten the guard from the copy store, or found both copies of an entry lost. -/
def execGuardRestoreEnd (port : Nat) (copyOk : Bool) (s : State) : Out :=
  let g := s.grd port
  let up := firmwareUp s
  if !g.fault || g.copyLost || !up then .next s
  else if copyOk then .next (raiseFault ((rewriteGuard s port).modGrd port (fun g => { g with fault := false })) port 4 255 255 0)
  else .next (raiseFault (s.modGrd port (fun g => { g with copyLost := true })) port 5 255 255 3)

end Sys2Proof.Machine
end

