-- ==== Sys2Proof/Machine/Directory.lean ====
section
/-!
DEFINITION. The stores of a home slice: entries and their ways (R90, R96, R102-R104), the line stash (R97-R101), replies, snoops
and their targets (R93, R103, R116, R124), deferral and waking (R114-R118), and slice events and traces (R110, R358).
-/

namespace Sys2Proof.Machine

/-! ## Stores (R90, R102, R104) -/

/-- The number of a physical slice. -/
def sliceNo (g sl : Nat) : Nat :=
  9 * g + sl

/-- Set `x` lives in the full array; during a conversion sets below the step live in the target (R104). -/
def inFull (m : SliceMode) (x : Nat) : Bool :=
  match m with
  | .full => true
  | .pointer => false
  | .toFull n => decide (x % 16384 < n)
  | .toPointer n => !decide (x % 16384 < n)
  | .down => false

/-- Ways of a set. -/
def waysOf (full : Bool) : Nat :=
  if full then 12 else 8

/-- Key of a set in its store. -/
def storeKey (full : Bool) (g sl x : Nat) : Nat :=
  if full then sliceNo g sl * 65536 + x else sliceNo g sl * 16384 + x % 16384

/-- A set of one store. -/
def setOf (s : State) (full : Bool) (key : Nat) : List Entry :=
  tget [] (if full then s.dir.full else s.dir.ptr) key

/-- A way of the array, not the place of a request that allocates nothing. -/
def realWay (e : Entry) : Bool :=
  decide (e.way < 100)

/-- The agents of a mask. -/
def agentsOf (m : Nat) : List Nat :=
  bitList 256 m

/-- The entry is in E or M. -/
def isOwned (e : Entry) : Bool :=
  e.st == .e || e.st == .m

/-- The code of a stable state in `STATE` (R91). -/
def dstCode : DSt → Nat
  | .i => 0
  | .s => 1
  | .e => 2
  | .m => 3
  | .o => 4

/-- What the tag shadow copies of an entry (R128): `TAG` of its store, `STATE`, `OWNER` or `PTR0`, and `STASH`. -/
def shadowOf (full : Bool) (e : Entry) : Shadow :=
  let tag := if full then bitsOf e.key 44 19 else 4 * bitsOf e.key 44 19 + keySet e.key / 16384
  let own := if full || isOwned e then e.owner else ((agentsOf e.sharers).head?).getD 0
  let code := if e.txn.isSome then 7 else dstCode e.st
  { way := e.way, tag := tag, st := e.st, transient := e.txn.isSome, owner := own, stash := e.stash,
    ecc := Config.checkBits 40 (tag + 2 ^ 28 * code + 2 ^ 31 * own + 2 ^ 39 * bit e.stash) % 128 }

/-- The tag shadow of a set: every way of the array that is in use. -/
def shadowsOf (full : Bool) (es : List Entry) : List Shadow :=
  (es.filter realWay).map (shadowOf full)

/-- Change a set of one store; its tag shadow is written with it (R128). -/
def modSet (s : State) (full : Bool) (key : Nat) (f : List Entry → List Entry) : State :=
  let es := f (setOf s full key)
  if full then { s with dir := { s.dir with full := tput [] s.dir.full key es, shFull := tput [] s.dir.shFull key (shadowsOf true es) } }
  else { s with dir := { s.dir with ptr := tput [] s.dir.ptr key es, shPtr := tput [] s.dir.shPtr key (shadowsOf false es) } }

/-- The set a line of set index `x` uses now. -/
def entriesAt (s : State) (g sl x : Nat) : List Entry :=
  let f := inFull (s.slice g sl).mode x
  setOf s f (storeKey f g sl x)

/-- Change that set. -/
def modEntries (s : State) (g sl x : Nat) (h : List Entry → List Entry) : State :=
  let f := inFull (s.slice g sl).mode x
  modSet s f (storeKey f g sl x) h

/-- The entry of a line. -/
def entryOf (s : State) (g sl k : Nat) : Option Entry :=
  (entriesAt s g sl (keySet k)).find? (fun e => e.key == k)

/-- Change the entry of a line. -/
def modEntry (s : State) (g sl k : Nat) (f : Entry → Entry) : State :=
  modEntries s g sl (keySet k) (List.map (fun e => if e.key == k then f e else e))

/-- Change an entry's transaction record. -/
def modTxn (s : State) (g sl k : Nat) (f : Txn → Txn) : State :=
  modEntry s g sl k (fun e => { e with txn := e.txn.map f })

/-- A hit: the line's rank becomes 0 and the ranks below its old rank age by one (R96). -/
def touch (k : Nat) (es : List Entry) : List Entry :=
  match es.find? (fun e => e.key == k) with
  | none => es
  | some h => es.map (fun e =>
      if e.key == k then { e with lru := 0 } else if realWay e && decide (e.lru < h.lru) then { e with lru := e.lru + 1 } else e)

/-- A new entry takes a free way as the most recent one. -/
def addEntry (n : Entry) (es : List Entry) : List Entry :=
  es.map (fun e => if realWay e && realWay n then { e with lru := e.lru + 1 } else e) ++ [n]

/-- Free the way of a line: the ranks above its rank close up. -/
def dropEntry (k : Nat) (es : List Entry) : List Entry :=
  match es.find? (fun e => e.key == k) with
  | none => es
  | some h => (es.filter (fun e => e.key != k)).map (fun e =>
      if realWay e && decide (h.lru < e.lru) then { e with lru := e.lru - 1 } else e)

/-- Transaction records of a slice in use (R115). -/
def txnsUsed (s : State) (g sl : Nat) : Nat :=
  let n := sliceNo g sl
  let cnt := fun (t : Tbl (List Entry)) (w : Nat) => sumOf (fun (e : Nat × List Entry) =>
    if e.1 / w == n then (e.2.filter (fun x => x.txn.isSome)).length else 0) t
  cnt s.dir.full 65536 + cnt s.dir.ptr 16384

/-- The pointer store names at most four holders; a fifth sets `BCAST` (R102, R103). -/
def addSharer (full : Bool) (e : Entry) (q : Nat) : Entry :=
  if bitOf e.sharers q then e
  else if full || decide (popcount 256 e.sharers < 4) then { e with sharers := setBit e.sharers q }
  else { e with bcast := true }

/-! ## Sets under copy (R91, R104, R106) -/

/-- The entries of a set under copy that are stable become BMig (R91). -/
def pinSet (s : State) (full : Bool) (key : Nat) (p : Entry → Bool) : State :=
  modSet s full key (List.map (fun e =>
    if realWay e && e.txn.isNone && p e then { e with txn := some { kind := .mig } } else e))

/-- The entry is held in BMig. -/
def isMig (e : Entry) : Bool :=
  e.txn.any (fun t => t.kind == .mig)

/-- The entry is transient for another reason than a copy of its set. -/
def isBusy (e : Entry) : Bool :=
  e.txn.any (fun t => t.kind != .mig)

/-- Hold in BMig what is stable of the sets a slice has under copy: set P of its migration, and the set its conversion moves. -/
def pinMoving (s : State) (g sl : Nat) : State :=
  let s := match tget none s.dir.migs g with
    | some m =>
      if m.src == sl then
        let f := inFull (s.slice g sl).mode m.p
        pinSet s f (storeKey f g sl m.p) (fun e => keySet e.key == m.p)
      else s
    | none => s
  match (s.slice g sl).mode with
  | .toFull n => pinSet s false (sliceNo g sl * 16384 + n) (fun _ => true)
  | .toPointer n => (List.range 4).foldl (fun s i => pinSet s true (sliceNo g sl * 65536 + n + 16384 * i) (fun _ => true)) s
  | _ => s

/-! ## Slice events and traces (R110, R358) -/

/-- Raise an event of a slice. -/
def raiseSlice (s : State) (g sl code sev : Nat) (head : Bytes) (drip : Nat) : State :=
  raise s (1152 + sliceNo g sl) code sev (sliceIsl g sl) (evData head drip)

/-- Corrected errors of the present interval (R109). -/
def intervalCorr (s : State) (g sl : Nat) : Nat :=
  let x := s.slice g sl
  if x.ivIndex == s.drip / 800000000 then x.ivCorr else 0

/-- Raise `EV_SLICE_ECC`. -/
def raiseEcc (s : State) (g sl cause sev way set : Nat) : State :=
  raiseSlice s g sl evSliceEcc sev
    (leBytes 1 cause ++ leBytes 1 way ++ leBytes 2 set ++ leBytes 2 (sat 16 (intervalCorr s g sl))) s.drip

/-- The code of a role (R110). -/
def roleCode : SliceRole → Nat
  | .active => 0
  | .spare => 1
  | .failed => 2
  | .testing => 3

/-- The code of a trace for an entry (R358). -/
def stateCode (e : Option Entry) : Nat :=
  match e with
  | none => 0
  | some e =>
    match e.txn with
    | some t =>
      match t.kind with
      | .rd => 8
      | .own => 9
      | .evict => 10
      | .mig => 11
    | none => dstCode e.st

/-- Trace a step of a slice. Every record without a request's fabric address is redacted (R361). -/
def traceDir (s : State) (g sl cause agent prior next out way snoops k : Nat) (open_ : Bool) : State :=
  let x := if open_ then keySet k else 0
  traceHap s g 3 (sliceIsl g sl) s.drip (fun f => bitOf f.galMask g && agentHit f agent) (!open_)
    (leBytes 1 (sl + 16 * g) ++ leBytes 1 cause ++ leBytes 1 agent ++ leBytes 1 prior ++ leBytes 1 next ++ leBytes 1 out ++
      leBytes 2 x ++ leBytes 1 (if open_ then way else 0) ++ leBytes 1 (min 255 snoops) ++
      leBytes 6 (if open_ then k else 0))

/-! ## Replies of a slice -/

/-- Code of a request type in table order (R92). -/
def kindCode : ReqKind → Nat
  | .rdShared => 0
  | .rdAny => 1
  | .rdOwn => 2
  | .invOwn => 3
  | .rdCur => 4
  | .write => 5
  | .evict => 6

/-- A request wants a copy: a caching request (R123). -/
def caching : ReqKind → Bool
  | .rdShared => true
  | .rdAny => true
  | .rdOwn => true
  | .invOwn => true
  | _ => false

/-- A request that reads data. -/
def wantsData : ReqKind → Bool
  | .rdShared => true
  | .rdAny => true
  | .rdOwn => true
  | .rdCur => true
  | _ => false

/-- Allocates a way on a line without an entry (R96). -/
def allocates (r : SliceReq) : Bool :=
  caching r.kind || (r.kind == .write && r.metaS)

/-- A reply of slice `sl` to a requester, on behalf of the line's memory port (R119). -/
def slicePkt (g sl : Nat) (r : SliceReq) (c : Cmp) (data : Option Bytes) (poison : Bool) : Pkt :=
  { kind := .memRsp, cls := 2, srcGal := g, srcPort := localOf (keyPort g r.key), dstGal := galOf r.usp,
    dstPort := localOf r.usp, agent := r.agent, grotto := r.grotto, gen := r.gen, gv := r.gv, cmp := c,
    hasData := data.isSome, data := data.getD [], poison := poison, usp := r.usp, tag := r.tag, key := r.key, fa := r.fa,
    id := sliceNo g sl, sys := allocates r }

/-- Send a slice's reply. -/
def sliceReply (s : State) (g sl : Nat) (r : SliceReq) (c : Cmp) (data : Option Bytes) (poison : Bool) : State :=
  sendToPort s g (slicePkt g sl r c data poison)

/-- Send `BIConflictAck` to an agent, in the flow of the line's replies (R119). -/
def sendAckMsg (s : State) (g k a : Nat) : State :=
  let usp := (firstLive s a).getD ((s.cfg.hier a).usps.headD 512)
  sendToPort s g { kind := .conflictAck, cls := 2, srcGal := g, srcPort := localOf (keyPort g k), dstGal := galOf usp,
                   dstPort := localOf usp, agent := a, usp := usp, key := k }

/-! ## Snoops (R93, R103, R116, R121, R124) -/

/-- The broadcast set of a line: the agents with a bound grotto that contains its window (R103). -/
def bcastSet (s : State) (g k : Nat) : List Nat :=
  match keyLine s g k with
  | none => []
  | some l => (List.range 256).filter (fun a => s.cfg.grottos.any (fun e =>
      e.2.live && e.2.agent == a && (s.gr e.1).st == .bound && e.2.wins.any (fun w => w.1 == l.win)))

/-- The agents a snoop to SH goes to (R103). -/
def holders (s : State) (g : Nat) (e : Entry) : List Nat :=
  if e.bcast then bcastSet s g e.key else agentsOf e.sharers

/-- Move the Writes and Evicts of `a` for line `k` from its intake list to the snoop-answer path, in list order (R116). -/
def moveWrites (s : State) (g sl k a : Nat) : State :=
  let hit := fun (r : SliceReq) => r.agent == a && r.key == k && (r.kind == .write || r.kind == .evict)
  s.modSlice g sl (fun x => { x with
    snoopPath := x.snoopPath ++ (x.intake.filter hit).map (fun r => { r with beforeSnoop := true })
    intake := x.intake.filter (fun r => !hit r) })

/-- Send a snoop to one agent, or treat it as timed out when the agent is fenced (R124). Gives its record. -/
def sendSnoop (s : State) (g sl k a : Nat) (kind : SnpKind) (bcast : Bool) : State × Snoop :=
  let rec_ : Snoop := { agent := a, kind := kind, sentAt := s.now, sentDrip := s.drip, limit := s.cfg.biTimeout * 800 }
  if (s.fence a).on then (s, { rec_ with answer := some .i, lost := true })
  else
    let s := moveWrites s g sl k a
    let usp := (firstLive s a).getD ((s.cfg.hier a).usps.headD 512)
    let s := sendToPort s g { kind := .snoop, cls := 1, srcGal := g, srcPort := localOf (keyPort g k), dstGal := galOf usp,
                              dstPort := localOf usp, agent := a, snp := kind, usp := usp, key := k, id := sliceNo g sl }
    let s := s.modSlice g sl (fun x => { x with counts := { x.counts with
      snoops := (x.counts.snoops + 1) % 2 ^ 64
      bcastSnoops := if bcast then (x.counts.bcastSnoops + 1) % 2 ^ 64 else x.counts.bcastSnoops } })
    (pulse s g 0x0B 1 (fun q => bitOf q sl), rec_)

/-! ## The line stash (R97-R101) -/

/-- Key of a stash set. -/
def stashKey (g k : Nat) : Nat :=
  65536 * g + keySet k

/-- The physical slice that takes a line's requests: the one the slice map names, or a migration's target for the sets already
copied (R89, R107). -/
def intakeSlice (s : State) (g k : Nat) : Nat :=
  let l := keySlice k
  let m := tget 0 s.dir.map (8 * g + l)
  let phys := if m == 0 then l else m - 1
  match tget none s.dir.migs g with
  | some mg => if mg.src == phys && decide (keySet k < mg.p) then mg.dst else phys
  | none => phys

/-- A line of 64 bytes of which nothing is known: free values (log 2). -/
def freeLine (s : State) : Bytes × State :=
  let (n, s) := draw s
  (leBytes 64 n, s)

/-- The stash line of a directory key. -/
def stashOf (s : State) (g k : Nat) : Option StashLine :=
  (tget [] s.dir.stash (stashKey g k)).find? (fun l => l.key == k)

/-- Change a stash set. -/
def modStash (s : State) (key : Nat) (f : List StashLine → List StashLine) : State :=
  { s with dir := { s.dir with stash := tmod [] s.dir.stash key f } }

/-- Free a stash line. -/
def freeStash (s : State) (g k : Nat) : State :=
  modStash s (stashKey g k) (List.filter (fun l => l.key != k))

/-- A fresh recency stamp. -/
def freshStamp (s : State) : Nat × State :=
  (s.dir.stamp, { s with dir := { s.dir with stamp := s.dir.stamp + 1 } })

/-- Pin a stash line (R101). -/
def pinStash (s : State) (g k : Nat) : State :=
  let (n, s) := freshStamp s
  modStash s (stashKey g k) (List.map (fun l =>
    if l.key == k && l.pinned.isNone then { l with pinned := some n } else l))

/-- The physical slices of a gallery that may hold the entry of a line: the mapped one, and a migration's target (R89, R107). -/
def slicesFor (s : State) (g k : Nat) : List Nat :=
  let l := keySlice k
  let m := tget 0 s.dir.map (8 * g + l)
  let phys := if m == 0 then l else m - 1
  match tget none s.dir.migs g with
  | some mg => if mg.src == phys then [mg.dst, phys] else [phys]
  | none => [phys]

/-- The slice and entry of a line, wherever it now lives. -/
def homeEntry (s : State) (g k : Nat) : Option (Nat × Entry) :=
  (slicesFor s g k).findSome? (fun sl => (entryOf s g sl k).map (fun e => (sl, e)))

/-- A stash line may be the victim: not pinned, and its directory entry stable (R99). -/
def victimOk (s : State) (g : Nat) (l : StashLine) : Bool :=
  l.pinned.isNone &&
    match homeEntry s g l.key with
    | some (_, e) => e.txn.isNone
    | none => true

/-- The least recently used line among candidates. -/
def oldest (ls : List StashLine) : Option StashLine :=
  ls.foldl (fun a l =>
    match a with
    | none => some l
    | some b => if l.lru < b.lru then some l else a) none

/-- An entry's `STASH` is cleared: O becomes S, or the way is free when SH is empty (R99). -/
def clearStash (s : State) (g sl : Nat) (e : Entry) : State :=
  if e.st == .o then
    if e.sharers == 0 && !e.bcast then modEntries s g sl (keySet e.key) (dropEntry e.key)
    else modEntry s g sl e.key (fun e => { e with st := .s, stash := false })
  else modEntry s g sl e.key (fun e => { e with stash := false })

/-- Make a way of a stash set by writing its victim to the device, pinning lines that cannot be written (R99, R101); the write is
the victim's own slice's (R113). `n` bounds the search. -/
def stashVictim (sl : Nat) : Nat → State → Nat → Nat → Option State
  | 0, _, _, _ => none
  | n + 1, s, g, key =>
    match oldest ((tget [] s.dir.stash key).filter (victimOk s g)) with
    | none => none
    | some v =>
      if lineUnreachable s g v.key then stashVictim sl n (pinStash s g v.key) g key
      else
        let h := match homeEntry s g v.key with
          | some (h, _) => h
          | none => (slicesFor s g v.key).headD sl
        let s := writeAway s g h v.key v.data v.poison
        let s := freeStash s g v.key
        let s := s.modSlice g h (fun x => { x with counts := { x.counts with stashWb := (x.counts.stashWb + 1) % 2 ^ 64 } })
        some (match homeEntry s g v.key with
          | some (h, e) => clearStash s g h e
          | none => s)

/-- The lowest way of a stash set not in use. -/
def stashWay (ls : List StashLine) : Option Nat :=
  (List.range 16).find? (fun w => !ls.any (fun l => l.way == w))

/-- Pin a line of the stash whose device is unreachable (R101). -/
def pinAway (s : State) (g k : Nat) : State :=
  if lineUnreachable s g k then pinStash s g k else s

/-- Put a new line into a free way. -/
def stashAdd (s : State) (g sl k way : Nat) (data : Bytes) (poison : Bool) : State :=
  let (n, s) := freshStamp s
  let s := modStash s (stashKey g k) (· ++ [{ way := way, key := k, data := data, poison := poison, lru := n }])
  let s := s.modSlice g sl (fun x => { x with counts := { x.counts with stashFills := (x.counts.stashFills + 1) % 2 ^ 64 } })
  let s := pulse s g 0x10 1 (fun q => bitOf q sl)
  pinAway s g k

/-- Write a line into the stash: into its own line, a free way, or a victim's way; `none` when the set has no room (R97-R101). -/
def stashPut (s : State) (g sl k : Nat) (data : Bytes) (poison : Bool) : Option State :=
  let key := stashKey g k
  match stashOf s g k with
  | some _ =>
    let (n, s) := freshStamp s
    some (pinAway (modStash s key (List.map (fun l =>
      if l.key == k then { l with data := data, poison := poison, lru := n } else l))) g k)
  | none =>
    match stashWay (tget [] s.dir.stash key) with
    | some w => some (stashAdd s g sl k w data poison)
    | none =>
      match stashVictim sl 17 s g key with
      | none => none
      | some s =>
        match stashWay (tget [] s.dir.stash key) with
        | some w => some (stashAdd s g sl k w data poison)
        | none => none

/-- Read a stash line, which makes it the most recently used. -/
def stashRead (s : State) (g k : Nat) : State × Bytes × Bool :=
  match stashOf s g k with
  | some l =>
    let (n, s) := freshStamp s
    (modStash s (stashKey g k) (List.map (fun x => if x.key == k then { x with lru := n } else x)), l.data, l.poison)
  | none => (s, noData, true)

/-- Both copies of a stash line are lost: poison stands for its data on the device, or in the line itself, pinned, while no copy of the
device is reachable (R100, R101). -/
def stashPoison (s : State) (g sl k : Nat) : State :=
  if lineUnreachable s g k then
    pinStash (modStash s (stashKey g k) (List.map (fun l => if l.key == k then { l with data := noData, poison := true } else l))) g k
  else writeAway (freeStash s g k) g sl k noData true

/-- Write a stash line to its device and free it, or pin it while no copy is reachable (R96, R99, R101). -/
def stashOut (s : State) (g sl k : Nat) : State :=
  match stashOf s g k with
  | none => s
  | some l =>
    if lineUnreachable s g k then pinStash s g k
    else
      let s := freeStash (writeAway s g sl k l.data l.poison) g k
      s.modSlice g sl (fun x => { x with counts := { x.counts with stashWb := (x.counts.stashWb + 1) % 2 ^ 64 } })

/-- Insert a pinned line in the order of the pins. -/
def pinInsert (l : StashLine) : List StashLine → List StashLine
  | [] => [l]
  | x :: xs => if l.pinned.getD 0 ≤ x.pinned.getD 0 then l :: x :: xs else x :: pinInsert l xs

/-- A device is reachable again: the pinned lines of the device are written to it, oldest first, and unpinned; one with no entry
leaves the stash (R101). -/
def writePinned (s : State) (port : Nat) : State :=
  let g := galOf port
  let ls := (s.dir.stash.filter (fun e => e.1 / 65536 == g)).flatMap (fun e =>
    e.2.filter (fun l => l.pinned.isSome && keyPort g l.key == port && !lineUnreachable s g l.key))
  forEach (ls.foldr pinInsert []) s (fun s l =>
    let sl := (slicesFor s g l.key).headD 0
    let s := writeAway s g sl l.key l.data l.poison
    let s := s.modSlice g sl (fun x => { x with counts := { x.counts with stashWb := (x.counts.stashWb + 1) % 2 ^ 64 } })
    match homeEntry s g l.key with
    | some (_, e) =>
      if e.stash then modStash s (stashKey g l.key) (List.map (fun x => if x.key == l.key then { x with pinned := none } else x))
      else freeStash s g l.key
    | none => freeStash s g l.key)

/-! ## Snooping a set of agents (R93, R121, R124) -/

/-- The owner in E or M of a transient line is lost: the line is written to the device as poisoned and any stash line freed (R121,
R124). Gives whether it was the owner. -/
def ownerLost (s : State) (g sl k a : Nat) : State × Bool :=
  match entryOf s g sl k with
  | none => (s, false)
  | some e =>
    match e.txn with
    | none => (s, false)
    | some t =>
      if isOwned e && e.owner == a && !t.lostWith then
        let evict := t.kind == .evict
        let (i, s) := issueWrite (freeStash s g k) g sl k noData true none (if evict then .nothing else .txn)
        let s := modEntry s g sl k (fun e => { e with stash := false })
        (modTxn s g sl k (fun t => { t with
          lostWith := true
          data := none
          poison := true
          accs := match i with
            | .sent id => if evict then t.accs else id :: t.accs
            | _ => t.accs }), true)
      else (s, false)

/-- Send snoops to a list of agents and record them in the entry's transaction. -/
def sendSnoops (s : State) (g sl k : Nat) (agents : List Nat) (kind : SnpKind) (bcast : Bool) : State :=
  agents.foldl (fun s a =>
    let (s, n) := sendSnoop s g sl k a kind bcast
    let s := modTxn s g sl k (fun t => { t with snoops := t.snoops ++ [n] })
    if !n.lost then s
    else
      let (s, p) := ownerLost s g sl k a
      if p then s.modFence a (fun f => { f with poisoned := sat 16 (f.poisoned + 1) }) else s) s

/-! ## Deferral and waking (R114, R117, R118) -/

/-- The ways of a set reserved to deferred requests (R118). -/
def reservedWays (s : State) (g sl x : Nat) : List Nat :=
  let f := inFull (s.slice g sl).mode x
  (s.slice g sl).retry.filterMap (fun e =>
    if storeKey f g sl (keySet e.req.key) == storeKey f g sl x then e.way else none)

/-- An agent's request at the head of the lists, in the order of R114: counting upward from the pointer. -/
def nextIntake (x : Slice) : Option SliceReq :=
  let dist := fun (r : SliceReq) => (r.agent + 256 - x.tie % 256) % 256
  (x.intake.filter (fun r => !x.paused.contains r.agent)).foldl (fun a r =>
    match a with
    | none => some r
    | some b => if dist r < dist b then some r else a) none

/-- Take a request out of the intake list. -/
def takeIntake (x : Slice) (r : SliceReq) : Slice :=
  { x with intake := removeFirst (fun y => y.agent == r.agent) x.intake, tie := (r.agent + 1) % 256, retryRun := 0 }

/-- The retry to be taken: the first due request, in deferral order. -/
def nextRetry (x : Slice) : Option RetryEnt :=
  x.retry.find? (·.due)

/-- A lookup cycle belongs to a retry: one is due, and it is not held back after three in a row while intake waits (R114,
R118). -/
def retryTurn (x : Slice) : Bool :=
  (nextRetry x).isSome && (decide (x.retryRun < 3) || (nextIntake x).isNone)

/-- Others wait for the line (R117). -/
def lineQueued (x : Slice) (k : Nat) : Bool :=
  x.retry.any (fun e => e.req.key == k)

/-- Others wait for a way of the set. -/
def setQueued (s : State) (g sl k : Nat) : Bool :=
  let f := inFull (s.slice g sl).mode (keySet k)
  (s.slice g sl).retry.any (fun e => e.onSet &&
    storeKey f g sl (keySet e.req.key) == storeKey f g sl (keySet k))

/-- Mark the head of a line's queue due (R118). -/
def markLine (k : Nat) (es : List RetryEnt) : List RetryEnt :=
  replaceFirst (fun e => e.req.key == k && !e.onSet) (fun e => { e with due := true }) es

/-- Wake the queue of a line whose entry is stable or gone. -/
def wakeLine (s : State) (g sl k : Nat) : State :=
  s.modSlice g sl (fun x => { x with retry := markLine k x.retry })

/-- Wake the queue of a set: the first request without a way has this one reserved and is due (R118). -/
def wakeSet (s : State) (g sl x way : Nat) : State :=
  let f := inFull (s.slice g sl).mode x
  if 100 ≤ way || (reservedWays s g sl x).contains way then s
  else s.modSlice g sl (fun y => { y with
    retry := replaceFirst (fun e => e.onSet && e.way.isNone &&
        storeKey f g sl (keySet e.req.key) == storeKey f g sl x)
      (fun e => { e with due := true, way := some way }) y.retry })

/-- Record something of the sample that follows a slice's request. -/
def noteReq (s : State) (r : SliceReq) (f : SampRun → SampRun) : State :=
  noteRun s r.usp r.tag 0 f

/-- Count a deferral. -/
def countDeferral (s : State) (g sl : Nat) : State :=
  let s := s.modSlice g sl (fun x => { x with counts := { x.counts with retries := (x.counts.retries + 1) % 2 ^ 64 } })
  pulse s g 0x0A 1 (fun q => bitOf q sl)

/-- Defer an intake request: into the agent's reserved place, a shared place, or back to the head of its paused list (R117).
Gives the trace outcome. -/
def deferIntake (s : State) (g sl : Nat) (r : SliceReq) (onSet : Bool) : State × Nat :=
  let s := countDeferral s g sl
  let x := s.slice g sl
  let mine := x.retry.any (fun e => e.reserved && e.req.agent == r.agent)
  let shared := (x.retry.filter (fun e => !e.reserved)).length
  let put := fun (b : Bool) => s.modSlice g sl (fun x => { x with retry := x.retry ++ [{ req := { r with cells := 0 }, reserved := b, onSet := onSet }] })
  if !mine then (put true, 1)
  else if shared < 64 then (put false, 1)
  else (s.modSlice g sl (fun x => { x with intake := r :: x.intake, paused := r.agent :: x.paused }), 2)

/-- A retried request is deferred again and keeps its place (R118). -/
def deferAgain (s : State) (g sl : Nat) (e : RetryEnt) (onSet : Bool) : State :=
  (countDeferral s g sl).modSlice g sl (fun x => { x with
    retry := replaceFirst (fun y => y == e) (fun y => { y with due := false, way := none, onSet := onSet }) x.retry })

/-- A retried request has finished its lookup: its place is freed, its agent's list goes on, and the next of its line is due. -/
def retryDone (s : State) (g sl : Nat) (e : RetryEnt) : State :=
  s.modSlice g sl (fun x => { x with
    retry := markLine e.req.key (removeFirst (fun y => y == e) x.retry)
    paused := if e.reserved then x.paused.filter (· != e.req.agent) else x.paused })

/-! ## Choosing a way (R96) -/

/-- A free way, the lowest first, that is not reserved to another request. -/
def freeWay (s : State) (g sl x : Nat) : Option Nat :=
  let f := inFull (s.slice g sl).mode x
  let res := reservedWays s g sl x
  (List.range (waysOf f)).find? (fun w => !(entriesAt s g sl x).any (fun e => e.way == w) && !res.contains w)

/-- The victim: the stable way with the highest rank. -/
def victimWay (s : State) (g sl x : Nat) : Option Entry :=
  let res := reservedWays s g sl x
  ((entriesAt s g sl x).filter (fun e => realWay e && e.txn.isNone && !res.contains e.way)).foldl (fun a e =>
    match a with
    | none => some e
    | some b => if b.lru < e.lru then some e else a) none

end Sys2Proof.Machine
end

