-- ==== Sys2Proof/Machine/Coherence.lean ====
section
/-!
DEFINITION. The transactions of a home slice: the rows of R93-R95, eviction (R96), recovery (R100, R129, R130), grants undone
(R124), device accesses ending, and how each completes.
-/

namespace Sys2Proof.Machine

/-! ## Entries losing a holder -/

/-- The line no longer has its owner or SH is empty: what an entry in E or M becomes when its owner is gone (R93, R124): O with SH
empty when `STASH` = 1, otherwise the way is free. -/
def ownerGone (s : State) (g sl : Nat) (e : Entry) : State :=
  if e.stash then modEntry s g sl e.key (fun e => { e with st := .o, owner := 0, sharers := 0, bcast := false })
  else modEntries s g sl (keySet e.key) (dropEntry e.key)

/-- An agent leaves SH: an S entry left without sharers is free (R93, R124), and `BCAST` clears without holders (R103). -/
def sharerGone (s : State) (g sl : Nat) (e : Entry) (a : Nat) : State :=
  let m := clrBit e.sharers a
  if m == 0 && !e.bcast then
    if e.st == .s then modEntries s g sl (keySet e.key) (dropEntry e.key)
    else modEntry s g sl e.key (fun e => { e with sharers := 0 })
  else modEntry s g sl e.key (fun e => { e with sharers := m })

/-- An agent holds a line no longer: as though it had evicted (R124). -/
def agentGone (s : State) (g sl k a : Nat) : State :=
  match entryOf s g sl k with
  | none => s
  | some e =>
    match e.txn with
    | some _ => s
    | none =>
      match e.st with
      | .e => if e.owner == a then ownerGone s g sl e else s
      | .m => if e.owner == a then ownerGone s g sl e else s
      | _ => if bitOf e.sharers a then sharerGone s g sl e a else s

/-! ## Recovery pointer mode and migration (R105, R106, R108) -/

/-- A gallery's spare slice. -/
def spareOf (s : State) (g : Nat) : Option Nat :=
  (List.range 9).find? (fun sl => (s.slice g sl).role == .spare)

/-- The spare a migration may take: none while one runs to it (R105, R106). -/
def spareFree (s : State) (g : Nat) : Option Nat :=
  match tget none s.dir.migs g with
  | some _ => none
  | none => spareOf s g

/-- The logical slice a physical slice serves. -/
def logicalOf (s : State) (g sl : Nat) : Option Nat :=
  (List.range 8).find? (fun l =>
    (if tget 0 s.dir.map (8 * g + l) == 0 then l else tget 0 s.dir.map (8 * g + l) - 1) == sl)

/-- A migration or a test runs in a gallery. -/
def sliceBusy (s : State) (g : Nat) : Bool :=
  (tget none s.dir.migs g).isSome || (List.range 9).any (fun sl =>
    (s.slice g sl).role == .testing || (s.slice g sl).testPending)

/-- Start a migration to the spare (R106, R108); the target serves in full mode. Nothing starts without a spare, or while another
runs. -/
def startMigration (s : State) (g sl cause : Nat) : State :=
  match spareFree s g with
  | none => s
  | some d =>
    if (s.slice g sl).role != .active then s
    else
      let s := s.modSlice g d (fun x => { x with mode := .full, change := if x.mode == .full then x.change else s.drip })
      pinMoving { s with dir := { s.dir with migs := tput none s.dir.migs g (some { src := sl, dst := d, cause := cause }) } } g sl

/-- Start a conversion (R104): its first set is under copy from now on. -/
def startConv (s : State) (g sl : Nat) (mode : SliceMode) (cause : Nat) : State :=
  pinMoving (s.modSlice g sl (fun x => { x with mode := mode, modeCause := cause, change := s.drip, evictedByConv := 0 })) g sl

/-- Start a conversion to pointer mode. -/
def enterPointer (s : State) (g sl cause : Nat) : State :=
  startConv s g sl (.toPointer 0) cause

/-- The fourth uncorrectable full entry within a second brings recovery pointer mode where no spare is available (R105). -/
def fourthUncorrectable (s : State) (g sl : Nat) : State :=
  let x := s.slice g sl
  if (spareFree s g).isNone && decide (4 ≤ x.ivUncorr) && x.mode == .full then enterPointer s g sl 3 else s

/-- After an uncorrectable full entry's recovery the slice is migrated, while there is a spare (R108). -/
def afterUncorrectable (s : State) (g sl : Nat) : State :=
  startMigration s g sl 2

/-! ## Completing (R93, R94, R95) -/

/-- The answer of an agent's snoop. -/
def answerOf (t : Txn) (a : Nat) : BiRsp :=
  ((t.snoops.find? (fun n => n.agent == a)).bind (·.answer)).getD .i

/-- A mask of one agent, or none. -/
def oneIf (b : Bool) (a : Nat) : Nat :=
  if b then 2 ^ a else 0

/-- An entry in S or O with a set of sharers; S without sharers is I. -/
def shared_ (e : Entry) (m : Nat) : Entry :=
  { e with st := if e.stash then .o else if m == 0 then .i else .s, owner := if e.stash then e.owner else 0, sharers := m,
           bcast := false }

/-- An entry owned by `q`. -/
def owned (e : Entry) (q : Nat) (st : DSt) : Entry :=
  { e with st := st, owner := q, sharers := 0, bcast := false }

/-- The next state of a request's row, for an entry whose `st` is its prior stable state, with `STASH` as the snoops left it; state
I means the way is free (R93-R95). -/
def nextEntry (full : Bool) (e : Entry) (t : Txn) (r : SliceReq) : Entry :=
  let q := r.agent
  let mine := isOwned e && e.owner == q
  match r.kind with
  | .rdShared =>
    if isOwned e && !mine then shared_ e (2 ^ q ||| oneIf (answerOf t e.owner == .s) e.owner)
    else if mine || e.st == .i then shared_ e (2 ^ q)
    else addSharer full e q
  | .rdAny =>
    if isOwned e && !mine then shared_ e (2 ^ q ||| oneIf (answerOf t e.owner == .s) e.owner)
    else if mine || e.st == .i then owned e q .e
    else addSharer full e q
  | .rdOwn => owned e q .e
  | .invOwn => owned e q .m
  | .rdCur =>
    if mine then shared_ e 0
    else if isOwned e then
      match answerOf t e.owner with
      | .e => e
      | .s => shared_ e (2 ^ e.owner)
      | .i => shared_ e 0
    else e
  | .write =>
    if mine then shared_ { e with stash := false } (oneIf r.metaS q)
    else shared_ e (oneIf r.metaS q)
  | .evict => e

/-- The completion of a request's row, by the prior state (R93). -/
def rowReply (e : Entry) (r : SliceReq) : Cmp :=
  let fresh := e.st == .i || (isOwned e && e.owner == r.agent)
  match r.kind with
  | .rdShared => .cmpS
  | .rdAny => if fresh then .cmpE else .cmpS
  | .rdOwn => .cmpE
  | .invOwn => .cmpE
  | .rdCur => .cmp
  | .write => .cmp
  | .evict => .cmp

/-- Start a row for a stable, listed entry: the entry becomes transient, and its snoops and first accesses go out. -/
def snoopPlan (s : State) (g : Nat) (e : Entry) (r : SliceReq) : List Nat × SnpKind :=
  let q := r.agent
  let others := (holders s g e).filter (· != q)
  let own := isOwned e
  if own && e.owner == q then ([], .inv)
  else
    match r.kind with
    | .rdShared => if own then ([e.owner], .data) else ([], .inv)
    | .rdAny => if own then ([e.owner], .data) else ([], .inv)
    | .rdCur => if own then ([e.owner], .cur) else ([], .inv)
    | .evict => ([], .inv)
    | _ => if own then ([e.owner], .inv) else if e.st == .i then ([], .inv) else (others, .inv)

/-- The kind of a transient entry (R91, R93). -/
def rowKind (plan : List Nat × SnpKind) (r : SliceReq) : BKind :=
  if plan.1.isEmpty then (if r.kind == .write then .own else .rd)
  else if plan.2 == .inv then .own else .rd

/-- Add an access to a transaction's waits, or take its result at once. -/
def noteIssue (s : State) (g sl k : Nat) (i : Issue) : State :=
  match i with
  | .sent id => modTxn s g sl k (fun t => { t with accs := id :: t.accs, issued := true })
  | .data b p => modTxn s g sl k (fun t => { t with data := some b, poison := t.poison || p, issued := true })
  | .failed => modTxn s g sl k (fun t => { t with data := some deadData, poison := true, issued := true })

/-- Issue the device read a transaction needs. An unreachable device gives poison, counted at the ingress port (R167). -/
def startRead (s : State) (g sl k : Nat) (r : SliceReq) : State :=
  let (i, s) := issueRead s g sl k (some r)
  let s := noteIssue s g sl k i
  if i == .failed then countDropped (noteReq s r (fun x => endRun (flagRun 5 x))) r.usp else s

/-- A partial write's bytes in a line. -/
def mergeBytes (old : Bytes) (r : SliceReq) : Bytes :=
  if r.partWrite then spliceAt old r.off r.data else r.data

/-- Do a Write's data action (R93, R95): merged into the stash line, or written to the device. -/
def startWrite (s : State) (g sl k : Nat) (e : Entry) (r : SliceReq) : State :=
  let mine := isOwned e && e.owner == r.agent
  if e.stash && !mine then
    let (s, old, p) := stashRead (noteReq s r (flagRun 6)) g k
    let s := modTxn s g sl k (fun t => { t with issued := true })
    match stashPut s g sl k (mergeBytes old r) ((p && r.partWrite) || r.poison) with
    | some s => s
    | none => s
  else
    let (i, s) := issueWrite s g sl k r.data r.poison (some r) .txn
    let s := noteIssue s g sl k i
    if i == .failed then countDropped (lostWrite (noteReq s r (fun x => endRun (flagRun 5 x))) (accPkt s g k true r.data r.poison false (some r))) r.usp else s

/-- After the snoops are answered and nothing is outstanding: do what the row still needs (R95). The data is the stash line's when
`STASH` = 1, though the device was read as well. -/
def advanceRow (s : State) (g sl k : Nat) (e : Entry) (t : Txn) (r : SliceReq) : State :=
  if r.kind == .write then (if t.issued then s else startWrite s g sl k e r)
  else if !wantsData r.kind then s
  else if t.lostWith then
    if t.data.isNone then modTxn s g sl k (fun t => { t with data := some noData, poison := true }) else s
  else if e.stash then
    let (s, b, p) := stashRead (noteReq s r (flagRun 6)) g k
    modTxn s g sl k (fun t => { t with data := some b, poison := p })
  else if t.data.isNone then startRead s g sl k r
  else s

/-- Every snoop is answered, every write-back served and every access done. -/
def quiet (s : State) (g sl k : Nat) (t : Txn) : Bool :=
  t.snoops.all (·.answer.isSome) && t.accs.isEmpty && !(s.slice g sl).snoopPath.any (fun r => r.key == k)

/-- The row has nothing more to do. -/
def rowReady (t : Txn) (r : SliceReq) : Bool :=
  if r.kind == .write then t.issued else !wantsData r.kind || t.data.isSome

/-- Send the `BIConflictAck`s that waited for a reply (R119). -/
def sendAcks (s : State) (g k : Nat) (as : List Nat) : State :=
  forEach as.reverse s (fun s a => sendAckMsg s g k a)

/-- Store a completed entry: a free way when its state is I. -/
def storeEntry (s : State) (g sl : Nat) (e : Entry) : State :=
  if e.st == .i || !realWay e then modEntries s g sl (keySet e.key) (dropEntry e.key)
  else modEntries s g sl (keySet e.key) (List.map (fun x => if x.key == e.key then e else x))

/-- A stable entry names an agent as owner or sharer. -/
def holdsLine (a : Nat) (e : Entry) : Bool :=
  (isOwned e && e.owner == a) || bitOf e.sharers a

/-- The grant of a discarded reply is undone in a stable entry that names the agent, and counted (R124, R127). -/
def undoGrant (s : State) (g sl k a : Nat) : State :=
  match entryOf s g sl k with
  | none => s
  | some e =>
    if holdsLine a e then
      let s := if (s.fence a).on then s.modFence a (fun f => { f with undone := sat 16 (f.undone + 1) }) else s
      let s := agentGone s g sl k a
      if (entryOf s g sl k).isNone then wakeSet (wakeLine s g sl k) g sl (keySet k) e.way else s
    else s

/-- A fence's sweep of one stable entry (R124): a line the agent owns is written to the device as poisoned, and a sharer leaves. -/
def sweepStable (g sl a : Nat) (s : State) (e : Entry) : State :=
  let k := e.key
  if isOwned e && e.owner == a then
    let s := writeAway (freeStash s g k) g sl k noData true
    let s := modEntries s g sl (keySet k) (dropEntry k)
    let s := s.modFence a (fun f => { f with poisoned := sat 16 (f.poisoned + 1) })
    wakeSet (wakeLine s g sl k) g sl (keySet k) e.way
  else if bitOf e.sharers a then
    let s := sharerGone s g sl e a
    wakeSet (s.modFence a (fun f => { f with cleared := sat 16 (f.cleared + 1) })) g sl (keySet k) e.way
  else s

/-- What an entry that has become stable still owes (R124): a fenced requester leaves it as though it had evicted, the reported
grants are undone, and the sweeps that met it transient act on it. -/
def settleEntry (s : State) (g sl k : Nat) (leaves undo late : List Nat) : State :=
  let s := forEach leaves s (fun s a => agentGone s g sl k a)
  let s := forEach undo s (fun s a => undoGrant s g sl k a)
  forEach late s (fun s a =>
    match entryOf s g sl k with
    | some e => sweepStable g sl a s e
    | none => s)

/-- Begin the eviction of a stable entry (R96, R100, R104, R129): `BISnpInv` to each agent in `targets`. -/
def startEvict (s : State) (g sl : Nat) (e : Entry) (why : EvictWhy) (r : Option SliceReq) (targets : List Nat) : State :=
  let k := e.key
  let s := modEntry s g sl k (fun e => { e with txn := some { kind := .evict, why := why, req := r } })
  let s := sendSnoops s g sl k targets .inv e.bcast
  let s := s.modSlice g sl (fun x => { x with counts := { x.counts with
    evictions := if why == .victim || why == .convert then (x.counts.evictions + 1) % 2 ^ 64 else x.counts.evictions } })
  let cause := if why == .victim || why == .convert then 7 else if why == .removed then 8 else 9
  traceDir s g sl cause ((r.map (·.agent)).getD 255) (stateCode (some e)) 10 (if targets.isEmpty then 0 else 3) e.way targets.length k false

/-- The agents an eviction snoops: SH or the owner (R96). -/
def evictTargets (s : State) (g : Nat) (e : Entry) : List Nat :=
  if isOwned e then [e.owner] else holders s g e

/-- What an eviction leaves of the stash line: written to the device unless a write-back superseded it; after a lost pair of copies,
poison unless a write-back came; a write-back kept for an unreachable device stays pinned (R96, R100, R101, R129). -/
def evictStash (s : State) (g sl : Nat) (e : Entry) (t : Txn) : State :=
  match t.why with
  | .stashLost =>
    let s := if t.kept then s else if t.wroteBack then freeStash s g e.key else stashPoison s g sl e.key
    raiseEcc s g sl 6 (if t.wroteBack then 1 else 3) 255 (keySet e.key)
  | .removed =>
    if !e.stash then s
    else if t.wroteBack then freeStash s g e.key
    else if lineUnreachable s g e.key then lostWrite (freeStash s g e.key) (accPkt s g e.key true [] false true none)
    else stashOut s g sl e.key
  | _ =>
    if t.kept || !e.stash then s
    else if t.wroteBack then freeStash s g e.key
    else stashOut s g sl e.key

/-- The `BIConflictAck`s an eviction passes on to the request it was made for: those that wait for that request's own reply (R119). -/
def acksFor (e : Entry) (t : Txn) : List Nat :=
  if t.req.any (fun r => r.key == e.key) then t.acks else []

/-- An eviction ends: the way is free. Gives the request it was made for (R96, R129). -/
def finishEvict (s : State) (g sl : Nat) (e : Entry) (t : Txn) : State × Option SliceReq :=
  let s := evictStash s g sl e t
  let s := modEntries s g sl (keySet e.key) (dropEntry e.key)
  let s := wakeLine s g sl e.key
  let s := if t.why == .recover && inFull (s.slice g sl).mode (keySet e.key) then afterUncorrectable s g sl else s
  let s := if (acksFor e t).isEmpty then sendAcks s g e.key t.acks else s
  (match t.req with
   | some _ => s
   | none => wakeSet s g sl (keySet e.key) e.way, t.req)

/-- The agents recovery snoops: the owner, the sharers of good codewords, those in `also`, and in place of the unknown sharer bits the
broadcast set, less `q` (R129). -/
def recoverTargets (s : State) (g : Nat) (e : Entry) (good0 good1 : Bool) (also : List Nat) (q : Nat) : List Nat :=
  let known := if isOwned e then [e.owner] else (agentsOf e.sharers).filter (fun a => also.contains a || (if a < 107 then good0 else good1))
  let rest := if good0 && good1 then [] else (bcastSet s g e.key).filter (fun a => a != q && !known.contains a)
  known ++ rest

/-- Begin the recovery of an entry (R129): what no good codeword holds is unknown from here on. An eviction that waits for nothing ends
at once. -/
def startRecover (s : State) (g sl : Nat) (e : Entry) (good0 good1 : Bool) (also : List Nat) (q : Nat) : State :=
  let s := startEvict s g sl e .recover none (recoverTargets s g e good0 good1 also q)
  match entryOf s g sl e.key with
  | none => s
  | some e =>
    match e.txn with
    | none => s
    | some t => if quiet s g sl e.key t then (finishEvict s g sl e t).1 else s

/-- The recovery that waited for a transaction begins; where the transaction has freed the way, only the migration of R108 is left
(R129). -/
def recoverNow (s : State) (g sl k : Nat) (t : Txn) (also : List Nat) : State :=
  match t.recover with
  | none => s
  | some (a, b) =>
    match entryOf s g sl k with
    | some e => if e.txn.isSome then s else startRecover s g sl e a b also 256
    | none => if inFull (s.slice g sl).mode (keySet k) then afterUncorrectable s g sl else s

/-- BMig ends: the entry is stable again, and what met it meanwhile acts on it (R91, R124, R196). -/
def unpin (s : State) (g sl k : Nat) : State :=
  match entryOf s g sl k with
  | none => s
  | some e =>
    match e.txn with
    | none => s
    | some t =>
      if t.kind != .mig then s
      else
        let s := modEntry s g sl k (fun e => { e with txn := none })
        let s := if t.freeAfter then modEntries s g sl (keySet k) (dropEntry k) else s
        settleEntry s g sl k [] t.undo t.late

/-- A transaction's request is answered and its entry takes its next state (R93). -/
def completeRow (s : State) (g sl : Nat) (e : Entry) (t : Txn) (r : SliceReq) : State :=
  let k := e.key
  let mine := isOwned e && e.owner == r.agent
  let full := inFull (s.slice g sl).mode (keySet k)
  let s := if r.kind == .write && mine && e.stash then freeStash s g k else s
  let s := sliceReply s g sl r (rowReply e r) (if wantsData r.kind then t.data else none) (wantsData r.kind && t.poison)
  let s := sendAcks s g k t.acks
  let n := { nextEntry full e t r with txn := none }
  let s := storeEntry s g sl n
  let s := if t.freeAfter then modEntries s g sl (keySet k) (dropEntry k) else s
  let s := settleEntry s g sl k (if (s.fence r.agent).on then [r.agent] else []) t.undo t.late
  let s := wakeLine s g sl k
  let s := wakeSet s g sl (keySet k) e.way
  pinMoving (recoverNow s g sl k t [r.agent]) g sl

/-- Run a row until it waits or completes. -/
def runRow (s : State) (g sl k : Nat) : State :=
  match entryOf s g sl k with
  | none => s
  | some e =>
    match e.txn with
    | none => s
    | some t =>
      match t.req with
      | none => s
      | some r =>
        if !quiet s g sl k t then s
        else
          let s := advanceRow s g sl k e t r
          match entryOf s g sl k with
          | none => s
          | some e =>
            match e.txn with
            | none => s
            | some t => if quiet s g sl k t && rowReady t r then completeRow s g sl e t r else s

/-- Start the row of a request on an entry that is stable or newly placed (R93). -/
def startRow (s : State) (g sl k : Nat) (r : SliceReq) : State :=
  match entryOf s g sl k with
  | none => s
  | some e =>
    let plan := snoopPlan s g e r
    let old := e.txn.getD {}
    let s := modEntry s g sl k (fun e => { e with
      txn := some { kind := rowKind plan r, req := some r, acks := old.acks, undo := old.undo, late := old.late } })
    let s := sendSnoops s g sl k plan.1 plan.2 (e.bcast && !isOwned e)
    let s := if r.kind == .rdOwn && e.st == .s then startRead s g sl k r else s
    runRow s g sl k

/-- In a blind set a miss first sends `BISnpInv` to the broadcast set (R130). -/
def startBlind (s : State) (g sl k : Nat) (r : SliceReq) : State :=
  let targets := (bcastSet s g k).filter (· != r.agent)
  let s := modEntry s g sl k (fun e => { e with txn := some { kind := .own, req := some r, blind := true, acks := (e.txn.getD {}).acks } })
  let s := sendSnoops s g sl k targets .inv false
  match (entryOf s g sl k).bind (·.txn) with
  | some t => if quiet s g sl k t then startRow s g sl k r else s
  | none => s

/-- A set is blind. -/
def isBlind (s : State) (g sl k : Nat) : Bool :=
  tget false s.dir.blind (sliceNo g sl * 65536 + keySet k)

/-- Serve a request without an entry at a way (R93, R96, R101): a pinned stash line is recorded as O with SH empty. `acks` are owed
after its reply. -/
def serveMiss (s : State) (g sl way : Nat) (r : SliceReq) (acks : List Nat) : State :=
  let k := r.key
  let pinned := decide (way < 100) && (stashOf s g k).isSome
  let e : Entry := { way := way, key := k, st := if pinned then .o else .i, stash := pinned,
                     txn := if acks.isEmpty then none else some { acks := acks } }
  let s := modEntries s g sl (keySet k) (addEntry e)
  if isBlind s g sl k then startBlind s g sl k r else startRow s g sl k r

/-- A recall's snoop is answered (R188): the agent no longer holds the line. -/
def finishRecall (s : State) (g sl k : Nat) (e : Entry) (t : Txn) : State :=
  let s := modEntry s g sl k (fun e => { e with txn := none })
  let s := sendAcks s g k t.acks
  let s := forEach t.snoops s (fun s n => agentGone s g sl k n.agent)
  let s := settleEntry s g sl k [] t.undo t.late
  let s := wakeSet (wakeLine s g sl k) g sl (keySet k) e.way
  pinMoving (recoverNow s g sl k t []) g sl

/-- Go on with a transaction after something of it ended. -/
def progress (s : State) (g sl k : Nat) : State :=
  match entryOf s g sl k with
  | none => s
  | some e =>
    match e.txn with
    | none => s
    | some t =>
      if t.kind == .mig || !quiet s g sl k t then s
      else if t.kind == .evict then
        match finishEvict s g sl e t with
        | (s, some r) => serveMiss s g sl e.way r (acksFor e t)
        | (s, none) => s
      else
        match t.req with
        | some r => if t.blind then startRow s g sl k r else runRow s g sl k
        | none => finishRecall s g sl k e t

/-! ## Lost snoops (R121) -/

/-- A snoop of a transaction is lost: it counts as `BIRspI`; a line its owner held is written to the device as poisoned. Gives
whether the line was poisoned. -/
def loseSnoop (s : State) (g sl k a : Nat) : State × Bool :=
  match entryOf s g sl k with
  | none => (s, false)
  | some e =>
    match e.txn with
    | none => (s, false)
    | some _ =>
      let s := modTxn s g sl k (fun t => { t with
        snoops := t.snoops.map (fun n => if n.agent == a && n.answer.isNone then { n with answer := some .i, lost := true } else n) })
      ownerLost s g sl k a

/-- Every line of a slice with a snoop outstanding to an agent. -/
def snoopedLines (s : State) (g sl a : Nat) : List Nat :=
  let n := sliceNo g sl
  let hit := fun (e : Entry) => match e.txn with
    | some t => t.snoops.any (fun x => x.agent == a && x.answer.isNone)
    | none => false
  (s.dir.full.filter (fun e => e.1 / 65536 == n)).flatMap (fun e => (e.2.filter hit).map (·.key)) ++
    (s.dir.ptr.filter (fun e => e.1 / 16384 == n)).flatMap (fun e => (e.2.filter hit).map (·.key))

/-- Fence an agent (R123, R124): every snoop outstanding to it, in every slice, is treated as timed out. -/
def fenceAgent (s : State) (a cause : Nat) : State :=
  if (s.fence a).on then s
  else
    let s := s.modFence a (fun _ => { on := true, trigger := s.drip, cause := cause, sweeping := true })
    forEach (List.range 72) s (fun s n =>
      forEach (snoopedLines s (n / 9) (n % 9) a) s (fun s k =>
        let (s, p) := loseSnoop s (n / 9) (n % 9) k a
        let s := if p then s.modFence a (fun f => { f with poisoned := sat 16 (f.poisoned + 1) }) else s
        progress s (n / 9) (n % 9) k))

/-! ## Device accesses ending (R93, R116, R164, R191) -/

/-- The writer of a Write taken on the snoop-answer path receives `Cmp`, and `BIConflictAck` after it if it asked (R116, R119). -/
def payOwed (s : State) (a : DevAcc) (r : SliceReq) (ack : Bool) : State :=
  let s := sliceReply s a.g a.sl r .cmp none false
  if ack then sendAckMsg s a.g a.key r.agent else s

/-- An access of a transaction has ended: a read brings its data, and what waited goes on. -/
def txnAccess (s : State) (a : DevAcc) (good : Bool) (data : Bytes) (poison : Bool) : State :=
  let s := modTxn s a.g a.sl a.key (fun t => { t with
    accs := t.accs.filter (· != a.id)
    data := if a.write then t.data else some (if good then data else deadData)
    poison := t.poison || (!a.write && (poison || !good)) })
  progress s a.g a.sl a.key

/-- An access of a slice ends, other than a copy of a twin write. A write that did not complete is lost; a requester's access that
fails counts at its ingress port (R167). -/
def finishAccess (s : State) (a : DevAcc) (good : Bool) (data : Bytes) (poison : Bool) : State :=
  let s := dropAcc s a.id
  let s := if !good && a.write then lostWrite s a.pkt else s
  let s := if !good && !a.pkt.sys then sampleLost (countDropped s a.pkt.usp) a.pkt else s
  match a.use with
  | .txn => txnAccess s a good data poison
  | .nothing => s
  | .owed r ack =>
    let s := modTxn s a.g a.sl a.key (fun t => { t with accs := t.accs.filter (· != a.id) })
    progress (payOwed s a r ack) a.g a.sl a.key
  | .copy _ _ _ => s
  | .resyncRead _ _ _ => s
  | .resyncWrite _ _ _ => s
  | .sanitise _ _ _ => s

end Sys2Proof.Machine
end

