-- ==== Sys2Proof/Machine/Slices.lean ====
section
/-!
DEFINITION. What a home slice does in its cycles: lookups and their array faults (R93, R109, R114-R118, R129, R130), the
snoop-answer path (R95, R116, R119), snoop timers (R121), reports (R186) and the sweeps of a fence (R124, R127).
-/

namespace Sys2Proof.Machine

/-! ## Array faults at a lookup (R100, R109, R128-R130) -/

/-- Start a new interval of error counts when the drip has passed into one (R109). -/
def freshInterval (s : State) (g sl : Nat) : State :=
  let i := s.drip / 800000000
  s.modSlice g sl (fun x => if x.ivIndex == i then x else { x with ivIndex := i, ivCorr := 0, ivUncorr := 0 })

/-- A corrected entry error: counted and rewritten, reported at the first and sixteenth of an interval; the sixteenth starts a
migration (R109). -/
def faultCorrected (s : State) (g sl x way : Nat) : State :=
  let full := inFull (s.slice g sl).mode x
  let s := freshInterval s g sl
  let s := s.modSlice g sl (fun y => { y with ivCorr := y.ivCorr + 1, counts := { y.counts with corrected := sat 32 (y.counts.corrected + 1) } })
  let n := (s.slice g sl).ivCorr
  let s := if n == 1 || n == 16 then raiseEcc s g sl (if full then 1 else 3) 0 way x else s
  if n == 16 then startMigration s g sl 1 else s

/-- Count an uncorrectable entry; the fourth of a full array within the second may bring recovery pointer mode (R105, R109). -/
def countUncorr (s : State) (g sl : Nat) (full : Bool) : State :=
  let s := freshInterval s g sl
  let s := s.modSlice g sl (fun y => { y with
    ivUncorr := if full then y.ivUncorr + 1 else y.ivUncorr
    counts := { y.counts with uncorrected := sat 32 (y.counts.uncorrected + 1) } })
  if full then fourthUncorrectable s g sl else s

/-- The entry at a way of a set. -/
def atWay (s : State) (g sl x way : Nat) : Option Entry :=
  (entriesAt s g sl x).find? (fun e => e.way == way)

/-- The tag shadow of a way of a set. -/
def shadowAt (s : State) (g sl x way : Nat) : Option Shadow :=
  let full := inFull (s.slice g sl).mode x
  (tget [] (if full then s.dir.shFull else s.dir.shPtr) (storeKey full g sl x)).find? (fun h => h.way == way)

/-- The line a tag of logical slice `l` names in set `x` (R88). -/
def keyOfTag (full : Bool) (l x tag : Nat) : Nat :=
  let t := if full then tag else tag / 4
  let x := if full then x else x % 16384 + 16384 * (tag % 4)
  let low := l ^^^ (t % 8) ^^^ (t / 2 ^ 19 % 8)
  t * 2 ^ 19 + (x ^^^ (t % 65536)) * 8 + low

/-- What survives of an entry (R129): the shadow's `TAG`, `STATE`, `OWNER` and `STASH`, and the sharer bits of a good codeword. -/
def survives (s : State) (g sl x : Nat) (e : Entry) (good0 good1 : Bool) : Entry :=
  match shadowAt s g sl x e.way with
  | none => e
  | some h =>
    let full := inFull (s.slice g sl).mode x
    let low := if good0 then e.sharers % 2 ^ 107 else 0
    let high := if good1 then e.sharers / 2 ^ 107 * 2 ^ 107 else 0
    { e with key := keyOfTag full ((logicalOf s g sl).getD 0) x h.tag, st := h.st, owner := if h.st == .s || (!full && h.st == .o) then 0 else h.owner
             sharers := if isOwned { e with st := h.st } then 0
                        else if full then low + high else if h.st == .s then 2 ^ h.owner else 0
             stash := h.stash, bcast := false }

/-- An uncorrectable entry with its shadow good is recovered (R129): a transient one when it would become stable. -/
def faultUncorrectable (s : State) (g sl x way q : Nat) (good0 good1 : Bool) : State :=
  let full := inFull (s.slice g sl).mode x
  let s := countUncorr s g sl full
  let s := raiseEcc s g sl (if full then 2 else 4) 1 way x
  let a := full && good0
  let b := full && good1
  match atWay s g sl x way with
  | none => if full then afterUncorrectable s g sl else s
  | some e =>
    if isBusy e then modTxn s g sl e.key (fun t => { t with recover := some (a, b) })
    else
      let r := survives s g sl x e a b
      let s := modEntries s g sl x (List.map (fun y => if y.way == way then r else y))
      startRecover s g sl r a b (if full then [] else agentsOf r.sharers) q

/-- The set indices whose lines share a set of the store with `x`: itself, or the four of a pointer set (R102). -/
def storeMates (full : Bool) (x : Nat) : List Nat :=
  if full then [x] else (List.range 4).map (fun i => x % 16384 + 16384 * i)

/-- An uncorrectable entry whose shadow is lost too: its way is freed, the stash lines of its set that match no entry are written out,
and the set is blind (R130). -/
def faultShadow (s : State) (g sl x way : Nat) : State :=
  let full := inFull (s.slice g sl).mode x
  let s := countUncorr s g sl full
  let s := raiseEcc s g sl (if full then 2 else 4) 2 way x
  let s := match atWay s g sl x way with
    | none => s
    | some e =>
      if isBusy e then modTxn s g sl e.key (fun t => { t with freeAfter := true })
      else wakeSet (wakeLine (modEntries s g sl x (dropEntry e.key)) g sl e.key) g sl x way
  let s := forEach (storeMates full x) s (fun s x =>
    let mine := (tget [] s.dir.stash (65536 * g + x)).filter (fun l =>
      some (keySlice l.key) == logicalOf s g sl && (entryOf s g sl l.key).isNone)
    let s := forEach mine s (fun s l => stashOut s g sl l.key)
    { s with dir := { s.dir with blind := tput false s.dir.blind (sliceNo g sl * 65536 + x) true } })
  if full then afterUncorrectable s g sl else s

/-- The holders of a line that no snoop of its transaction has taken it from yet. -/
def stillHeld (s : State) (g : Nat) (e : Entry) (t : Txn) : List Nat :=
  (evictTargets s g e).filter (fun a => !t.snoops.any (fun n => n.agent == a && (n.kind == .inv || n.answer == some .i)))

/-- Both copies of the line's stash line are uncorrectable (R100): every holder is snooped, and the line leaves the directory. A row under
way starts again without the line once it has. -/
def faultStash (s : State) (g sl k : Nat) : State :=
  if (stashOf s g k).isNone then s
  else
    match entryOf s g sl k with
    | none => raiseEcc (stashPoison s g sl k) g sl 6 3 255 (keySet k)
    | some e =>
      match e.txn with
      | none => progress (startEvict s g sl e .stashLost none (evictTargets s g e)) g sl k
      | some t =>
        if t.kind == .mig then progress (startEvict s g sl e .stashLost none (evictTargets s g e)) g sl k
        else if t.kind == .evict then modTxn s g sl k (fun t => { t with why := .stashLost })
        else
          let s := modTxn s g sl k (fun t => { t with kind := .evict, why := .stashLost, wroteBack := false, data := none, issued := false })
          progress (sendSnoops s g sl k (stillHeld s g e t) .inv e.bcast) g sl k

/-- The stash line a lookup reads: its own line's, or that of the entry it has to evict. -/
def readLine (s : State) (g sl : Nat) (r : SliceReq) : Nat :=
  let x := keySet r.key
  if (stashOf s g r.key).isSome || (entryOf s g sl r.key).isSome || !allocates r || (freeWay s g sl x).isSome then r.key
  else ((victimWay s g sl x).map (·.key)).getD r.key

/-- What the arrays showed in a cycle for agent `q` and line `k`; `ks` is the line whose stash line is read. -/
def applyFault (s : State) (g sl k q ks : Nat) (f : LookupFault) : State :=
  let x := keySet k
  match f with
  | .none => s
  | .corrected w => faultCorrected s g sl x w
  | .uncorrectable w a b => faultUncorrectable s g sl x w q a b
  | .shadowLost w => faultShadow s g sl x w
  | .stashCopy => if (stashOf s g ks).isSome then raiseEcc s g sl 5 1 255 (keySet ks) else s
  | .stashBoth => faultStash s g sl ks

/-! ## The lookup (R93, R94, R96, R117) -/

/-- An eviction is under way for a request of this line. -/
def waitedFor (s : State) (g sl k : Nat) : Bool :=
  (entriesAt s g sl (keySet k)).any (fun e =>
    match e.txn with
    | some t => t.kind == .evict && t.req.any (fun r => r.key == k)
    | none => false)

/-- Whether a lookup ends in deferral, and if so whether in the queue of the set (R117). -/
def mustDefer (s : State) (g sl : Nat) (r : SliceReq) (ent : Option RetryEnt) : Option Bool :=
  let k := r.key
  let x := keySet k
  let busy := match entryOf s g sl k with
    | some e => e.txn.isSome
    | none => waitedFor s g sl k
  if busy || (ent.isNone && lineQueued (s.slice g sl) k) then some false
  else if (entryOf s g sl k).isSome || !allocates r then none
  else
    match ent.bind (·.way) with
    | some w => if (atWay s g sl x w).any (fun e => e.txn.isSome) then some true else none
    | none =>
      if setQueued s g sl k || ((freeWay s g sl x).isNone && (victimWay s g sl x).isNone) then some true else none

/-- A stray message is counted (R94). -/
def countStray (s : State) (g sl : Nat) (rsp : Bool) : State :=
  s.modSlice g sl (fun x => { x with counts :=
    if rsp then { x.counts with strayRsp := x.counts.strayRsp + 1 } else { x.counts with strayEvict := x.counts.strayEvict + 1 } })

/-- The Evict rows (R93, R94). -/
def evictRow (s : State) (g sl : Nat) (e : Entry) (r : SliceReq) : State :=
  let q := r.agent
  let s := if isOwned e then
      (if e.owner == q then wakeSet (ownerGone s g sl e) g sl (keySet e.key) e.way else countStray s g sl false)
    else if bitOf e.sharers q then wakeSet (sharerGone s g sl e q) g sl (keySet e.key) e.way
    else if e.bcast && (bcastSet s g e.key).contains q then s
    else countStray s g sl false
  sliceReply s g sl r .cmp none false

/-- A way number for a request that allocates nothing. -/
def spareWay (s : State) (g sl x : Nat) : Nat :=
  100 + ((entriesAt s g sl x).filter (fun e => !realWay e)).length

/-- Serve a lookup that is not deferred. -/
def serveLookup (s : State) (g sl : Nat) (r : SliceReq) (ent : Option RetryEnt) : State :=
  let k := r.key
  let x := keySet k
  match entryOf s g sl k with
  | some e =>
    if r.kind == .evict then evictRow (modEntries s g sl x (touch k)) g sl e r
    else startRow (modEntries s g sl x (touch k)) g sl k r
  | none =>
    if allocates r then
      let way := match ent.bind (·.way) with
        | some w => some w
        | none =>
          match freeWay s g sl x with
          | some w => some w
          | none => (victimWay s g sl x).map (·.way)
      match way with
      | none => s
      | some w =>
        match atWay s g sl x w with
        | some v => progress (startEvict s g sl v .victim (some r) (evictTargets s g v)) g sl v.key
        | none => serveMiss s g sl w r []
    else if isBlind s g sl k then
      serveMiss (if r.kind == .evict then countStray s g sl false else s) g sl (spareWay s g sl x) r []
    else if r.kind == .evict then sliceReply (countStray s g sl false) g sl r .cmp none false
    else if r.kind == .rdCur && (stashOf s g k).isSome then
      let (s, b, p) := stashRead (noteReq s r (flagRun 6)) g k
      sliceReply s g sl r .cmp (some b) p
    else serveMiss s g sl (spareWay s g sl x) r []

/-- A fenced agent's request is answered without a lookup (R124). -/
def fencedReply (s : State) (g sl : Nat) (r : SliceReq) : State :=
  let s := noteReq (countGal s g 21 1) r endRun
  let c : Cmp := match r.kind with
    | .rdShared => .cmpS
    | .rdAny => .cmpE
    | .rdOwn => .cmpE
    | _ => .cmp
  sliceReply s g sl r c (if wantsData r.kind then some noData else none) (wantsData r.kind)

/-- Snoops in the transaction a line now has. -/
def snoopCount (s : State) (g sl k : Nat) : Nat :=
  match (entryOf s g sl k).bind (·.txn) with
  | some t => t.snoops.length
  | none => 0

/-- One lookup: its counts, the arrays' faults, deferral or service, and its trace. Gives the outcome code of R358. -/
def lookup (s : State) (g sl : Nat) (r : SliceReq) (ent : Option RetryEnt) (f : LookupFault) : State × Nat :=
  let k := r.key
  let before := entryOf s g sl k
  let s := s.modSlice g sl (fun x => { x with counts := { x.counts with
    lookups := (x.counts.lookups + 1) % 2 ^ 64
    hits := if before.isSome then (x.counts.hits + 1) % 2 ^ 64 else x.counts.hits } })
  let s := pulse s g 9 1 (fun q => bitOf q sl)
  let s := applyFault s g sl k r.agent (readLine s g sl r) f
  let (s, out) := match mustDefer s g sl r ent with
    | some onSet =>
      let s := noteReq s r (fun x => { x with deferrals := x.deferrals + 1 })
      match ent with
      | none => deferIntake s g sl r onSet
      | some e => (deferAgain s g sl e onSet, 1)
    | none =>
      let s := match ent with
        | some e => retryDone s g sl e
        | none => s
      let s := serveLookup (noteReq s r (fun x => { stampRun s 2 x with home := sl + 16 * g, prior := stateCode before })) g sl r ent
      (s, if 0 < snoopCount s g sl k then 3 else 0)
  let after := entryOf s g sl k
  let way := match after with
    | some e => e.way
    | none => 255
  let s := traceDir s g sl (kindCode r.kind) r.agent (stateCode before) (stateCode after) out way (snoopCount s g sl k) k
    (!sealedPages s.cfg (r.fa / 4096) (r.fa / 4096))
  (s, out)

/-- The set of a request is being moved: held for the migration (R107), or for the conversion (R104). -/
def routeAway (s : State) (g sl : Nat) (r : SliceReq) : Option State :=
  let x := keySet r.key
  let conv := match (s.slice g sl).mode with
    | .toFull n => x % 16384 == n
    | .toPointer n => x % 16384 == n
    | _ => false
  match tget none s.dir.migs g with
  | some m =>
    if m.src == sl && x == m.p then
      some { s with dir := { s.dir with migs := tput none s.dir.migs g (some { m with held := m.held ++ [r] }) } }
    else if m.src == sl && decide (x < m.p) then some (s.modSlice g m.dst (fun y => { y with intake := y.intake ++ [r] }))
    else if conv then some (s.modSlice g sl (fun y => { y with held := y.held ++ [r] })) else none
  | none => if conv then some (s.modSlice g sl (fun y => { y with held := y.held ++ [r] })) else none

/-- A slice may start a lookup: it has a store, nothing waits on the snoop-answer path (R116), and two transaction records are free
(R115). -/
def mayLook (s : State) (g sl : Nat) : Bool :=
  let x := s.slice g sl
  decide (g < 8) && decide (sl < 9) && (s.gal g).lost.isNone && x.mode != .down && x.snoopPath.isEmpty && x.answers.isEmpty &&
    decide (txnsUsed s g sl ≤ 510)

/-- The intake lookup of a slice cycle, if it is of this request type (R114). -/
def intakeLookup (kind : ReqKind) (g sl : Nat) (f : LookupFault) (s : State) : State :=
  let x := s.slice g sl
  if !mayLook s g sl || retryTurn x then s
  else
    match nextIntake x with
    | none => s
    | some r =>
      if r.kind != kind then s
      else
        let s := s.modSlice g sl (fun x => takeIntake x r)
        let free := fun (s : State) => freeEg s g (localOf (keyPort g r.key)) 0 r.cells
        if (s.fence r.agent).on then fencedReply (free s) g sl r
        else
          match routeAway s g sl { r with cells := 0 } with
          | some s => free s
          | none =>
            let (s, out) := lookup s g sl r none f
            if out == 2 then s else free s

/-- `RD_SHARED` (R93). -/
def execRdShared (g sl : Nat) (f : LookupFault) (s : State) : Out :=
  .next (intakeLookup .rdShared g sl f s)

/-- `RD_ANY` (R93). -/
def execRdAny (g sl : Nat) (f : LookupFault) (s : State) : Out :=
  .next (intakeLookup .rdAny g sl f s)

/-- `RD_OWN` (R93). -/
def execRdOwn (g sl : Nat) (f : LookupFault) (s : State) : Out :=
  .next (intakeLookup .rdOwn g sl f s)

/-- `INV_OWN` (R93). -/
def execInvOwn (g sl : Nat) (f : LookupFault) (s : State) : Out :=
  .next (intakeLookup .invOwn g sl f s)

/-- `RD_CUR` (R93). -/
def execRdCur (g sl : Nat) (f : LookupFault) (s : State) : Out :=
  .next (intakeLookup .rdCur g sl f s)

/-- `WRITE` (R93). -/
def execWriteReq (g sl : Nat) (f : LookupFault) (s : State) : Out :=
  .next (intakeLookup .write g sl f s)

/-- `EVICT` (R93). -/
def execEvict (g sl : Nat) (f : LookupFault) (s : State) : Out :=
  .next (intakeLookup .evict g sl f s)

/-- `RETRY` (R118): the first due deferred request is looked up again. -/
def execRetry (g sl : Nat) (f : LookupFault) (s : State) : Out :=
  let x := s.slice g sl
  if !mayLook s g sl || !retryTurn x then .next s
  else
    match nextRetry x with
    | none => .next s
    | some e =>
      let s := s.modSlice g sl (fun x => { x with retryRun := x.retryRun + 1 })
      if (s.fence e.req.agent).on then .next (fencedReply (retryDone s g sl e) g sl e.req)
      else
        match routeAway s g sl e.req with
        | some s => .next (retryDone s g sl e)
        | none => .next (lookup s g sl e.req (some e) f).1

/-! ## The snoop-answer path (R95, R116, R119) -/

/-- The outstanding snoop to an agent for a line. -/
def snoopTo (s : State) (g sl k a : Nat) : Option Snoop :=
  match (entryOf s g sl k).bind (·.txn) with
  | some t => t.snoops.find? (fun n => n.agent == a && n.answer.isNone)
  | none => none

/-- A snoop to an agent for a line is outstanding. -/
def snoopOut (s : State) (g sl k a : Nat) : Bool :=
  (snoopTo s g sl k a).isSome

/-- Whether a slice of the gallery now holds the line with a snoop outstanding to the agent (R116). -/
def snoopedIn (s : State) (g k a : Nat) : Option Nat :=
  (List.range 9).find? (fun sl => snoopOut s g sl k a)

/-- The next answer of an agent for a line is taken off the snoop-answer path. -/
def takeAnswer (s : State) (g sl : Nat) (a : Answer) : State :=
  s.modSlice g sl (fun x => { x with answers := removeFirst (· == a) x.answers })

/-- `BIRSP` (R95): a snoop response that has come to the snoop-answer path is taken; one that answers no snoop is a stray, and counted
(R94). `f` is what the slice's arrays showed meanwhile (R100, R129). -/
def execBirsp (g sl agent key : Nat) (a : SnoopAnswer) (s : State) : Out :=
  let w : Answer := { agent := agent, key := key, rsp := some a.rsp }
  if !(decide (g < 8) && decide (sl < 9) && (s.slice g sl).answers.contains w) then .next s
  else
    let s := takeAnswer s g sl w
    if !snoopOut s g sl key agent then .next (countStray s g sl true)
    else
      let s := modTxn s g sl key (fun t => { t with
        snoops := replaceFirst (fun n => n.agent == agent && n.answer.isNone) (fun n => { n with answer := some a.rsp }) t.snoops })
      .next (progress (applyFault s g sl key agent key a.fault) g sl key)

/-- Agent `a` has a request for the line that the slice has accepted and not answered: by lookup, or on the snoop-answer path
(R119). Marks it to be followed by the acknowledgement. -/
def ackAfter (s : State) (g sl k a : Nat) : Option State :=
  if s.dir.accs.any (fun x => x.g == g && x.key == k && (match x.use with | .owed r _ => r.agent == a | _ => false)) then
    some { s with dir := { s.dir with accs := s.dir.accs.map (fun x =>
      if x.g == g && x.key == k then (match x.use with
        | .owed r _ => if r.agent == a then { x with use := .owed r true } else x
        | _ => x) else x) } }
  else
    match (entryOf s g sl k).bind (·.txn) with
    | some t => if t.req.any (fun r => r.agent == a && r.key == k) then some (modTxn s g sl k (fun t => { t with acks := a :: t.acks })) else none
    | none => none

/-- A Write or Evict of an agent for a line still waits on the snoop-answer path. -/
def onPath (s : State) (g sl k a : Nat) : Bool :=
  (s.slice g sl).snoopPath.any (fun r => r.agent == a && r.key == k)

/-- `BICONFLICT` (R119): a `BIConflict` that has come to the snoop-answer path is acknowledged once the Write or Evict it conflicts with is
served, which comes before it on the path; one that answers no snoop is a stray, acknowledged at once (R94). -/
def execBiconflict (g sl agent key : Nat) (s : State) : Out :=
  let a : Answer := { agent := agent, key := key, rsp := none }
  if !(decide (g < 8) && decide (sl < 9) && (s.slice g sl).answers.contains a) || onPath s g sl key agent then .next s
  else
    let s := takeAnswer s g sl a
    if !snoopOut s g sl key agent then .next (sendAckMsg (countStray s g sl true) g key agent)
    else
      match ackAfter s g sl key agent with
      | some s => .next s
      | none => .next (sendAckMsg s g key agent)

/-- A captured write-back of an eviction, a recovery or a blind set goes to the device, and `Cmp` follows its completion; while the device
is unreachable it is pinned in the stash, or lost where the window is removed or the stash has no room (R96, R101, R129, R130, R195). -/
def captureAway (s : State) (g sl : Nat) (e : Entry) (t : Txn) (r : SliceReq) : State :=
  let k := r.key
  let lost := fun (s : State) => sliceReply (lostWrite s (accPkt s g k true r.data r.poison false (some r))) g sl r .cmp none false
  if lineUnreachable s g k then
    if t.why == .removed then lost s
    else
      let (base, s) := if e.stash then ((stashOf s g k).elim noData (·.data), s) else if r.partWrite then freeLine s else (noData, s)
      match stashPut s g sl k (mergeBytes base r) r.poison with
      | some s =>
        let s := modTxn s g sl k (fun t => { t with kept := true })
        let s := if t.blind then modEntry s g sl k (fun e => { e with st := .o, stash := true }) else s
        sliceReply s g sl r .cmp none false
      | none => lost s
  else
    match issueWrite s g sl k r.data r.poison (some r) (.owed { r with beforeSnoop := false } false) with
    | (.sent id, s) => modTxn s g sl k (fun t => { t with accs := id :: t.accs })
    | (.data _ _, s) => s
    | (.failed, s) => lost s

/-- A captured write-back enters the stash (R95, R98); where its set has no room it goes to the device, and the requester is served from
it, or from the device after it when it is partial (R99, R101). -/
def captureStash (s : State) (g sl : Nat) (e : Entry) (r : SliceReq) : State :=
  let k := r.key
  let (base, s) := if e.stash then ((stashOf s g k).elim noData (·.data), s) else if r.partWrite then freeLine s else (noData, s)
  let s := match stashPut s g sl k (mergeBytes base r) r.poison with
    | some s => modEntry s g sl k (fun e => { e with stash := true, owner := if isOwned e then e.owner else r.agent })
    | none =>
      let s := if r.partWrite then s else modTxn s g sl k (fun t => { t with data := some r.data, poison := r.poison })
      let (i, s) := issueWrite s g sl k r.data r.poison (some r) .txn
      match i with
      | .sent id => modTxn s g sl k (fun t => { t with accs := id :: t.accs })
      | .data _ _ => s
      | .failed =>
        let s := modTxn s g sl k (fun t => { t with data := some noData, poison := true })
        lostWrite s (accPkt s g k true r.data r.poison false (some r))
  sliceReply s g sl r .cmp none false

/-- A Write handed on after the snoop: captured as the snoop write-back (R95, R116). -/
def captureWrite (s : State) (g sl : Nat) (e : Entry) (t : Txn) (r : SliceReq) : State :=
  let s := modTxn s g sl r.key (fun t => { t with wroteBack := true })
  if t.kind == .evict || t.blind then captureAway s g sl e t r else captureStash s g sl e r

/-- A Write sent before the snoop: to the device by the "Write by o" row, any stash line freed; `Cmp` follows its completion
(R116). -/
def earlyWrite (s : State) (g sl : Nat) (r : SliceReq) : State :=
  let k := r.key
  let s := modEntry (freeStash s g k) g sl k (fun e => { e with stash := false })
  let (i, s) := issueWrite s g sl k r.data r.poison (some r) (.owed { r with beforeSnoop := false } false)
  match i with
  | .sent id => modTxn s g sl k (fun t => { t with accs := id :: t.accs })
  | .data _ _ => s
  | .failed =>
    let s := countDropped (lostWrite (noteReq s r (fun x => endRun (flagRun 5 x))) (accPkt s g k true r.data r.poison false (some r))) r.usp
    sliceReply s g sl r .cmp none false

/-- `SNOOP_PATH_WRITE` (R116): the head of the snoop-answer path is served. -/
def execSnoopPathWrite (g sl : Nat) (s : State) : Out :=
  match (s.slice g sl).snoopPath with
  | [] => .next s
  | r :: rs =>
    let s := s.modSlice g sl (fun x => { x with snoopPath := rs })
    let s := freeEg s g (localOf (keyPort g r.key)) 0 r.cells
    let s := if r.kind == .evict then sliceReply s g sl r .cmp none false
      else
        match entryOf s g sl r.key with
        | none => earlyWrite s g sl r
        | some e =>
          match e.txn with
          | none => earlyWrite s g sl r
          | some t => if r.beforeSnoop then earlyWrite s g sl r else captureWrite s g sl e t r
    .next (progress s g sl r.key)

/-! ## Snoop timers and fences (R121-R127) -/

/-- Snoops of a slice that have been unanswered for the timeout: line, agent, kind, drip of sending. -/
def lateSnoops (s : State) (g sl : Nat) : List (Nat × Snoop) :=
  let n := sliceNo g sl
  let of := fun (e : Entry) => match e.txn with
    | some t => (t.snoops.filter (fun x => x.answer.isNone && decide (x.sentAt + x.limit ≤ s.now))).map (fun x => (e.key, x))
    | none => []
  (s.dir.full.filter (fun e => e.1 / 65536 == n)).flatMap (fun e => e.2.flatMap of) ++
    (s.dir.ptr.filter (fun e => e.1 / 16384 == n)).flatMap (fun e => e.2.flatMap of)

/-- Code of a snoop in `EV_BI_TIMEOUT` (R127). -/
def snoopCode : SnpKind → Nat
  | .inv => 1
  | .data => 2
  | .cur => 3

/-- Declare a snoop lost (R121): `EV_BI_TIMEOUT`, unless the agent is already fenced, and the fence. -/
def declareLost (s : State) (g sl k : Nat) (n : Snoop) : State :=
  if !snoopOut s g sl k n.agent then s
  else
    let way := ((entryOf s g sl k).map (·.way)).getD 255
    let (s, p) := loseSnoop s g sl k n.agent
    let s := if (s.fence n.agent).on then s
      else raiseSlice s g sl evBiTimeout 3
        (leBytes 1 n.agent ++ leBytes 1 (snoopCode n.kind) ++ leBytes 1 (bit p) ++ leBytes 1 way ++ leBytes 2 (keySet k)) n.sentDrip
    let s := fenceAgent s n.agent 2
    let s := if p then s.modFence n.agent (fun f => { f with poisoned := sat 16 (f.poisoned + 1) }) else s
    progress s g sl k

/-- `SNOOP_TIMER_CHECK` (R121): at a multiple of 1,024 drips. -/
def execSnoopTimerCheck (g sl : Nat) (s : State) : Out :=
  due (decide (g < 8) && decide (sl < 9) && s.drip % 1024 == 0) s
    (forEach (lateSnoops s g sl) s (fun s e => declareLost s g sl e.1 e.2))

/-- `DISCARD_REPORT` (R186): a report of a discarded grant reply reaches the sending slice, which undoes the grant (R124). -/
def execDiscardReport (g sl agent key : Nat) (s : State) : Out :=
  let rep : Report := { g := g, sl := sl, agent := agent, key := key }
  if !s.dir.reports.contains rep then .next s
  else
    let s := { s with dir := { s.dir with reports := s.dir.reports.erase rep } }
    let home := match homeEntry s g key with
      | some (h, _) => h
      | none => sl
    match (entryOf s g home key).bind (·.txn) with
    | some _ => .next (modTxn s g home key (fun t => { t with undo := agent :: t.undo }))
    | none => .next (undoGrant s g home key agent)

/-- The physical slices whose entries the sweep of an active slice takes: itself, and the target of its migration (R106, R124). -/
def sweepSlices (s : State) (g sl : Nat) : List Nat :=
  match tget none s.dir.migs g with
  | some m => if m.src == sl then [sl, m.dst] else [sl]
  | none => [sl]

/-- A sweep goes with the logical slice: its place among the sets of a gallery's eight (R89). -/
def sweepKey (s : State) (g sl : Nat) : Nat :=
  8 * g + (logicalOf s g sl).getD 0

/-- The entries of one sweep step, with their slices: those of set index `set`, in whichever store they live (log 160). -/
def sweepEntries (s : State) (g sl set : Nat) : List (Nat × Entry) :=
  (sweepSlices s g sl).flatMap (fun h => ((entriesAt s g h set).filter (fun e => keySet e.key == set)).map (fun e => (h, e)))

/-- Every entry a slice holds. -/
def allEntries (s : State) (g sl : Nat) : List Entry :=
  let n := sliceNo g sl
  (s.dir.full.filter (fun e => e.1 / 65536 == n)).flatMap (·.2) ++
    (s.dir.ptr.filter (fun e => e.1 / 16384 == n)).flatMap (·.2)

/-- Every entry the sweep of an active slice may meet. -/
def sweptEntries (s : State) (g sl : Nat) : List Entry :=
  (sweepSlices s g sl).flatMap (allEntries s g)

/-- The sets of a slice's sweep that hold an entry it acts on. -/
def sweepHits (s : State) (g sl : Nat) (hit : Entry → Bool) : List Nat :=
  ((sweptEntries s g sl).filter hit).map (fun e => keySet e.key)

/-- A sweep may take set `set` of a slice next: no set from the next one to it holds anything the sweep acts on (log 12). -/
def sweepMay (next set : Nat) (hits : List Nat) : Bool :=
  decide (next ≤ set) && decide (set < 65536) && !hits.any (fun x => decide (next ≤ x) && decide (x < set))

/-- A sweep has nothing left to do in a slice. -/
def sweepDone (next : Nat) (hits : List Nat) : Bool :=
  !hits.any (fun x => decide (next ≤ x))

/-- The active slices, as (gallery, physical slice). -/
def activeSlices (s : State) : List (Nat × Nat) :=
  (List.range 72).filterMap (fun n =>
    if (s.slice (n / 9) (n % 9)).role == .active && (s.gal (n / 9)).lost.isNone then some (n / 9, n % 9) else none)

/-- An entry names an agent: as owner, as sharer, or as the requester of its transaction. -/
def names (a : Nat) (e : Entry) : Bool :=
  holdsLine a e || e.txn.any (fun t => t.req.any (fun r => r.agent == a))

/-- A fence's sweep step on one entry (R124). A transient one is swept when it becomes stable. -/
def fenceEntry (g a : Nat) (s : State) (h : Nat × Entry) : State :=
  match h.2.txn with
  | some t => if t.late.contains a then s else modTxn s g h.1 h.2.key (fun t => { t with late := a :: t.late })
  | none => sweepStable g h.1 a s h.2

/-- `FENCE_SWEEP_STEP` (R124): one set of one slice. -/
def execFenceSweepStep (g sl agent set : Nat) (s : State) : Out :=
  let f := s.fence agent
  let next := tget 0 f.sweep (sweepKey s g sl)
  due (f.on && f.sweeping && (activeSlices s).contains (g, sl) && sweepMay next set (sweepHits s g sl (names agent))) s
    (let s := s.modFence agent (fun f => { f with sweep := tput 0 f.sweep (sweepKey s g sl) (set + 1) })
     let es := (sweepEntries s g sl set).filter (fun h => names agent h.2)
     let s := forEach es s (fenceEntry g agent)
     traceDir s g sl 8 agent 0 0 0 255 0 0 false)

/-- `FENCE_SWEEP_END` (R127): every sweep has taken its sets and the transient entries it met are stable. -/
def execFenceSweepEnd (agent : Nat) (s : State) : Out :=
  let f := s.fence agent
  let done := (activeSlices s).all (fun p =>
    sweepDone (tget 0 f.sweep (sweepKey s p.1 p.2)) (sweepHits s p.1 p.2 (names agent)) &&
      !(sweptEntries s p.1 p.2).any (fun e => e.txn.any (fun t => t.late.contains agent)))
  due (f.on && f.sweeping && done) s
    (let s := s.modFence agent (fun f => { f with sweeping := false, sweep := [] })
     let s := raise s (1300 + agent) evHostLinesLost (if 0 < f.poisoned then 3 else 1) 284
       (evData (leBytes 1 f.cause ++ leBytes 1 0 ++ leBytes 2 f.poisoned ++ leBytes 2 f.cleared ++ leBytes 2 f.undone) f.trigger)
     fenceSettle s agent)

end Sys2Proof.Machine
end

