-- ==== Sys2Proof/Machine/Requests.lean ====
section
/-!
DEFINITION. CXL.mem requests on their way to memory (R87, R89, R92, R114, R116, R178, R190): the packet of a decoded request, and what
the gallery of its memory port does with it.
-/

namespace Sys2Proof.Machine

/-- The request type of a message for a SHARED line (R92); `none` for one that is refused at decode. -/
def reqKind : HostOp → Option ReqKind
  | .memRd .s => some .rdShared
  | .memRd .a => some .rdOwn
  | .memRd .i => some .rdCur
  | .memRd .noOp => some .rdCur
  | .memRdData => some .rdAny
  | .memInv .a => some .invOwn
  | .memInv _ => none
  | .memWr .i => some .write
  | .memWr .s => some .write
  | .memWr _ => none
  | .memWrPtl .i => some .write
  | .memWrPtl .s => some .write
  | .memWrPtl _ => none
  | .memClnEvct => some .evict
  | _ => none

/-- A write carries MetaValue S. -/
def carriesS : HostOp → Bool
  | .memWr .s => true
  | .memWrPtl .s => true
  | _ => false

/-- A write is partial. -/
def isPartial : HostOp → Bool
  | .memWrPtl _ => true
  | _ => false

/-- The slice request of a packet (R92, R114). -/
def sliceReqOf (p : Pkt) (kind : ReqKind) : SliceReq :=
  { kind := kind, key := p.key, agent := p.agent, metaS := carriesS p.op, partWrite := isPartial p.op, off := p.addr % 64,
    data := p.data, poison := p.poison, tag := p.tag, usp := p.usp, grotto := p.grotto, gen := p.gen, gv := p.gv, fa := p.fa,
    cells := cellCount p }

/-- A request for a home slice is handed on: to the snoop-answer path when it is a Write or Evict of an agent with a snoop
outstanding for the line, sent before the snoop if it is handed on no later than the edge on which that was sent (R116), else to its
agent's intake list (R114). A bad one is as though never received (R86). -/
def toSlice (s : State) (g : Nat) (p : Pkt) (kind : ReqKind) : State :=
  if p.bad then countDropped (freeEg s g p.dstPort p.cls (cellCount p)) p.usp
  else
    let r := sliceReqOf p kind
    let path := if kind == .write || kind == .evict then snoopedIn s g p.key p.agent else none
    match path with
    | some sl =>
      let early := (snoopTo s g sl p.key p.agent).any (fun n => decide (s.now ≤ n.sentAt))
      s.modSlice g sl (fun x => { x with snoopPath := x.snoopPath ++ [{ r with beforeSnoop := early }] })
    | none => s.modSlice g (intakeSlice s g p.key) (fun x => { x with intake := x.intake ++ [r] })

/-- A back-invalidate response reaches the snoop-answer path of the slice whose snoop it answers, or of its line's slice (R116); a bad
one is not there (R86). -/
def toAnswers (s : State) (g : Nat) (p : Pkt) : State :=
  let s := freeEg s g p.dstPort p.cls (cellCount p)
  if p.bad then s
  else
    let sl := (snoopedIn s g p.key p.agent).getD (intakeSlice s g p.key)
    let a : Answer := { agent := p.agent, key := p.key, rsp := if p.kind == .biRsp then some p.rsp else none }
    s.modSlice g sl (fun x => { x with answers := x.answers ++ [a] })

/-- A request reaches the gallery of its memory port, under its egress charge: its home slice, the gallery's twin issuer, or the
port (R80, R190). -/
def acceptMem (s : State) (g : Nat) (p : Pkt) : State :=
  match winAt s.cfg p.fa with
  | none => arrivePort s g p
  | some w =>
    let c := s.cfg.win w
    if c.shared then
      match reqKind p.op with
      | some k => toSlice s g p k
      | none => arrivePort s g p
    else if c.twinned && (lineAt s (64 * g + p.dstPort) p.addr).isSome then
      let s := freeEg s g p.dstPort p.cls (cellCount p)
      if p.bad && !p.hasData then countDropped s p.usp
      else twinRequest s g { p with poison := p.poison || p.bad, bad := false }
    else arrivePort s g p

/-- Send an admitted request, or a back-invalidate response, to the home slice or the memory port of its line; one for a lost gallery is
dropped. -/
def sendMemNow (s : State) (g : Nat) (p : Pkt) : State :=
  if p.dstGal == g then
    let s := chargeEg (localFlow s g p) g p.dstPort p.cls (cellCount p)
    if p.kind == .memReq then acceptMem s g p else toAnswers s g p
  else if (s.gal p.dstGal).lost.isSome then s
  else enqueueVoq s g p

/-- Send a request to the home slice or the memory port of its line, once it is admitted (R69). -/
def sendMem (s : State) (g : Nat) (p : Pkt) : State :=
  if mayEnter s g p then sendMemNow s g p else waitOut s g p

/-- Put an admitted packet into its queue. -/
def placePkt (s : State) (g : Nat) (p : Pkt) : State :=
  match p.kind with
  | .memReq => sendMemNow s g p
  | .biRsp => sendMemNow s g p
  | .biConflict => sendMemNow s g p
  | _ => if (s.gal p.dstGal).lost.isSome && p.dstGal != g then toLostPort s g p else sendNow s g p

/-- The packets that wait inside a gallery are tried again in their order; one that still finds no room holds back those for its queue
(R69). -/
def retryOut (s : State) (g : Nat) : State :=
  let ps := (s.gal g).outWait
  ps.foldl (fun s p =>
    let kept := (s.gal g).outWait
    if roomFor s g p && !(kept.takeWhile (· != p)).any (sameQueue g p) then
      placePkt (s.modGal g (fun x => { x with outWait := removeFirst (· == p) x.outWait })) g p
    else s) s

/-- The packet of a request that decodes to an offset of a window (R178). -/
def memPkt (g src : Nat) (c : WinCfg) (l : Loc) (off : Nat) (op : HostOp) (agent usp tag id : Nat) (data : Bytes)
    (poison bad : Bool) : Pkt :=
  { kind := .memReq, cls := 0, srcGal := g, srcPort := src, dstGal := galOf l.port, dstPort := localOf l.port, agent := agent,
    op := op, usp := usp, tag := tag, key := keyOf l.port l.dpa, fa := c.base + off, addr := l.dpa, hasData := isMemWrite op,
    data := if isMemWrite op then data.take 64 else [], poison := poison, bad := bad, id := id }

end Sys2Proof.Machine
end

