-- ==== Sys2Proof/Machine/Check.lean ====
section
/-!
DEFINITION. Check-value engines (R261-R272): the operations of a context, scans, and the writes to a slot's registers.
-/

namespace Sys2Proof.Machine

/-! ## Operations of a context (R263, R268, R269) -/

/-- `START`. -/
def ctxStart (alg : Nat) (x : Ctx) : Ctx :=
  { x with running := algInit alg, count := 0, result := 0, err := 0 }

/-- An uncorrectable context is reset as though by `START`, with its alive counter 0, and says so (R261). -/
def ctxLost (alg : Nat) (x : Ctx) : Ctx :=
  { ctxStart alg x with alive := 0, err := 6 }

/-- Feed bytes to the running register. -/
def ctxRun (alg : Nat) (x : Ctx) (bs : Bytes) : Ctx :=
  { x with running := algFeeds alg x.running bs }

/-- Feed bytes and count them (R265). -/
def ctxFeed (alg : Nat) (x : Ctx) (bs : Bytes) : Ctx :=
  { ctxRun alg x bs with count := (x.count + bs.length) % 2 ^ 64 }

/-- The check value after one more byte. -/
def checkAfter (alg running b : Nat) : Nat :=
  algCheck alg (algFeed alg running (BitVec.ofNat 8 b))

/-- `SEAL`: the byte X is fed, the seal is formed, and X advances. -/
def ctxSeal (alg : Nat) (short : Bool) (x : Ctx) : Ctx :=
  let v := checkAfter alg x.running x.alive
  { x with
    outLo := if short then x.alive + v % 2 ^ 24 * 2 ^ 8 else x.alive + alg * 2 ^ 8 + v % 2 ^ 32 * 2 ^ 32
    outHi := if short then 0 else v / 2 ^ 32
    alive := (x.alive + 1) % 256, running := algInit alg, count := 0 }

/-- `RESULT` and X after a verification (R269). -/
def verdict (mode : Nat) (same : Bool) (a x : Nat) : Nat × Nat :=
  if !same then (2, x)
  else if a == x then (1, if mode == 0 then (x + 1) % 256 else x)
  else if a == (x + 255) % 256 then (3, x)
  else (4, if mode == 0 then (a + 1) % 256 else x)

/-- `VERIFY`. -/
def ctxVerify (alg mode : Nat) (short : Bool) (x : Ctx) : Ctx :=
  let a := x.inLo % 256
  let v := checkAfter alg x.running a
  let same := if short then x.inLo / 2 ^ 8 % 2 ^ 24 == v % 2 ^ 24
    else x.inLo / 2 ^ 32 % 2 ^ 32 + x.inHi % 2 ^ 32 * 2 ^ 32 == v
  let r := verdict mode same a x.alive
  { x with result := r.1, alive := r.2, seen := a, running := algInit alg, count := 0 }

/-! ## Slots (R262) -/

/-- A slot that a context serves. -/
def assigned (s : State) (a h : Nat) : Bool :=
  decide (a < 256) && decide (h < 32) && (s.cfg.hier a).live && (s.cfg.check a h).assigned && !(s.cfg.hier a).homeless

/-- The values of a slot at its assignment (R264). -/
def freshCtx (alg : Nat) : Ctx :=
  { running := algInit alg }

/-- A slot released: its context is lost, and a scan still running on it ends as `ABORTED` (R272). -/
def releaseCtx (x : Ctx) : Ctx :=
  { err := if x.busy then 5 else 0, scanSeq := x.scanSeq }

/-- A slot assigned anew (R264, R272). -/
def assignCtx (alg : Nat) (x : Ctx) : Ctx :=
  { freshCtx alg with scanSeq := x.scanSeq }

/-! ## Scans (R270) -/

/-- A scan read's answer is known. -/
def scanArrive (s : State) (a h i : Nat) (l : ScanLine) : State :=
  s.modCtx a h (fun x => { x with arrived := x.arrived ++ [(i, l)] })

/-- The grotto a slot scans is a `BOUND` grotto of the slot's hierarchy (R270). -/
def scanBound (s : State) (a n : Nat) : Bool :=
  (s.gr n).st == .bound && (s.cfg.gr n).agent == a && (s.cfg.gr n).live

/-- Issue the read of line `i`: stamped, decoded, checked at the hierarchy's first USP, and sent (R181, R184, R205). -/
def issueScan (a h : Nat) (s : State) (i : Nat) : State :=
  let x := s.ctx a h
  let n := x.scanGrotto
  let hc := s.cfg.hier a
  let s := s.modCtx a h (fun x => { x with scanIssued := i + 1 })
  match grottoAt s.cfg n (x.scanDpa + 64 * i) with
  | none => scanArrive s a h i .unreachable
  | some (w, off) =>
    let c := s.cfg.win w
    match locate c off with
    | none => scanArrive s a h i .unreachable
    | some l =>
      let usp := hc.usps.headD 512
      let gen := (s.gr n).gen
      let r := guardCheck s { port := usp, kind := 1, space := 0, addr := c.base + off, len := 64, requester := a, agent := a, tag := scanTag (32 * a + h) i x.scanSeq,
                              grotto := n, gen := gen }
      if !r.2 then scanArrive r.1 a h i .guard
      else
        let (id, s) := freshAcc (genAdd r.1 n gen)
        let p := memPkt hc.home (localOf hc.homePort) c l off (.memRd .i) a hc.homePort (scanTag (32 * a + h) i x.scanSeq) id [] false false
        sendMem s hc.home { p with grotto := n, gen := gen, gv := true }

/-- Issue reads while fewer than 64 are outstanding. -/
def issueScans (s : State) (a h : Nat) : State :=
  let x := s.ctx a h
  let room := min 64 (min (x.scanLines - x.scanIssued) (64 - (x.scanIssued - x.scanNext)))
  forEach ((List.range room).map (fun k => x.scanIssued + k)) s (issueScan a h)

/-- `SCAN` (R264, R268, R270). -/
def startScan (s : State) (a h : Nat) : State :=
  let s := s.modCtx a h (fun x => { x with result := 0, err := 0 })
  let x := s.ctx a h
  if x.scanLines == 0 || decide (16777216 < x.scanLines) then s.modCtx a h (fun x => { x with err := 1 })
  else if !scanBound s a x.scanGrotto then
    s.modCtx a h (fun x => { x with err := 4 })
  else
    issueScans (s.modCtx a h (fun x => { x with
      busy := true, scanNext := 0, scanIssued := 0, scanSeq := x.scanSeq + 1, arrived := [] })) a h

/-! ## Writes to a slot (R4, R264-R266) -/

/-- Replace `size` bytes of a 64-bit value from byte `off`. -/
def mergeField (old off size v : Nat) : Nat :=
  let lo := 8 * off
  let hi := 8 * (off + size)
  old % 2 ^ lo + v % 2 ^ (8 * size) * 2 ^ lo + old / 2 ^ hi * 2 ^ hi

/-- A write of `size` bytes at offset `off` of a slot's registers: its RW fields; the rest are unwritable (R4). -/
def slotReg (alg off size v : Nat) (x : Ctx) : Ctx :=
  let f := fun (old : Nat) => mergeField old (off % 8) size v % 2 ^ 64
  match off / 8 with
  | 1 => { x with running := f x.running % 2 ^ algWidth alg }
  | 2 => { x with alive := f x.alive % 2 ^ 8 }
  | 3 => { x with count := f x.count }
  | 7 => { x with inLo := f x.inLo }
  | 8 => { x with inHi := f x.inHi % 2 ^ 32 }
  | 10 => { x with scanDpa := f x.scanDpa / 64 * 64 }
  | 11 =>
    let w := f (x.scanGrotto + x.scanLines * 2 ^ 32)
    { x with scanGrotto := w % 2 ^ 12, scanLines := w / 2 ^ 32 }
  | _ => x

/-- A write takes effect. -/
def applyWr (s : State) (a h : Nat) (w : SlotWr) : State :=
  let c := s.cfg.check a h
  match w with
  | .feed bs => s.modCtx a h (fun x => ctxFeed c.alg x bs)
  | .badFeed => s.modCtx a h (fun x => { x with err := 1 })
  | .reg off size v => s.modCtx a h (slotReg c.alg off size v)
  | .start => s.modCtx a h (ctxStart c.alg)
  | .seal short => s.modCtx a h (ctxSeal c.alg short)
  | .verify short => s.modCtx a h (ctxVerify c.alg c.mode short)
  | .scan => startScan s a h
  | .lost => s.modCtx a h (ctxLost c.alg)

/-- A write to a slot: ignored without a context, kept while a scan runs (R262, R266). -/
def slotWrite (s : State) (a h : Nat) (w : SlotWr) : State :=
  if !assigned s a h then s
  else if (s.ctx a h).busy then s.modCtx a h (fun x => { x with waiting := x.waiting ++ [w] })
  else applyWr s a h w

/-- The writes that waited for a scan, in order, until one of them starts the next. -/
def runWaiting (a h : Nat) : List SlotWr → State → State
  | [], s => s
  | w :: ws, s =>
    if (s.ctx a h).busy then s.modCtx a h (fun x => { x with waiting := x.waiting ++ (w :: ws) })
    else runWaiting a h ws (applyWr s a h w)

/-- A scan ends: the slot takes its waiting writes. -/
def endScan (s : State) (a h err : Nat) : State :=
  let ws := (s.ctx a h).waiting
  let s := s.modCtx a h (fun x => { x with busy := false, err := err, arrived := [], waiting := [] })
  runWaiting a h ws s

/-- An operation as it reaches its context: `lost` says that the context is found uncorrectable, which takes the operation's place
(R261, log 177). -/
def slotOp (s : State) (a h : Nat) (lost : Bool) (w : SlotWr) : State :=
  slotWrite s a h (if lost then .lost else w)

/-- `FEED` (R265): a naturally aligned write of 1, 2, 4 or 8 bytes feeds them; any other sets `BAD_FEED`. -/
def execFeed (agent : Nat) (slot : CtxAt) (off : Nat) (bytes : Bytes) (s : State) : Out :=
  let n := bytes.length
  let good := [1, 2, 4, 8].contains n && off % n == 0 && decide (off + n ≤ 256)
  .next (slotOp s agent slot.slot slot.lost (if good then .feed bytes else .badFeed))

/-- `START` (R268). -/
def execStartOp (agent : Nat) (slot : CtxAt) (s : State) : Out :=
  .next (slotOp s agent slot.slot slot.lost .start)

/-- `SEAL` (R268). -/
def execSealOp (agent : Nat) (slot : CtxAt) (short : Bool) (s : State) : Out :=
  .next (slotOp s agent slot.slot slot.lost (.seal short))

/-- `VERIFY` (R268, R269). -/
def execVerifyOp (agent : Nat) (slot : CtxAt) (short : Bool) (s : State) : Out :=
  .next (slotOp s agent slot.slot slot.lost (.verify short))

/-- `SCAN` (R268, R270). -/
def execScanOp (agent slot : Nat) (s : State) : Out :=
  .next (slotWrite s agent slot .scan)

/-- The next line in address order is fed, or ends the scan (R270). -/
def feedLine (s : State) (a h i : Nat) : ScanLine → State
  | .data bs =>
    let s := s.modCtx a h (fun x =>
      { ctxFeed (s.cfg.check a h).alg x bs with scanNext := i + 1, arrived := x.arrived.filter (fun e => e.1 != i) })
    if (s.ctx a h).scanLines ≤ i + 1 then endScan s a h 0 else issueScans s a h
  | .unreachable => endScan s a h 4
  | .guard => endScan s a h 2
  | .poison => endScan s a h 3

/-- `SCAN_LINE_ARRIVAL` (R270): the next line in address order has arrived. A scan whose grotto is bound no longer, or whose context is found
uncorrectable (R261), ends. -/
def execScanLineArrival (agent : Nat) (slot : CtxAt) (s : State) : Out :=
  let x := s.ctx agent slot.slot
  if !x.busy || (s.cfg.hier agent).homeless then .next s
  else if slot.lost then .next (endScan (s.modCtx agent slot.slot (ctxLost (s.cfg.check agent slot.slot).alg)) agent slot.slot 6)
  else if !scanBound s agent x.scanGrotto then .next (endScan s agent slot.slot 4)
  else
    match x.arrived.find? (fun e => e.1 == x.scanNext) with
    | none => .next s
    | some (i, l) => .next (feedLine s agent slot.slot i l)

/-- An Echo message's seal (R271): `START`, bytes 0-11 and 16 to the end, then `SEAL` with `SHORT`; gives the four seal bytes. -/
def sealEcho (s : State) (a h : Nat) (msg : Bytes) : State × Bytes :=
  let c := s.cfg.check a h
  let s := s.modCtx a h (fun x => ctxSeal c.alg true (ctxFeed c.alg (ctxStart c.alg x) (msg.take 12 ++ msg.drop 16)))
  (s, leBytes 4 (s.ctx a h).outLo)

/-! ## CHECK_CONTEXT_ASSIGN (R272) -/

/-- The 24-byte reply to `QUERY`. -/
def checkReply (s : State) (a h : Nat) : Bytes :=
  let c := s.cfg.check a h
  let x := s.ctx a h
  leBytes 1 a ++ leBytes 1 h ++ leBytes 1 (bit c.assigned) ++ leBytes 1 (c.alg + 4 * c.mode) ++ leBytes 1 (s.cfg.hier a).home ++
    leBytes 1 c.engine ++ leBytes 1 c.ctx ++ leBytes 1 (x.result + 16 * x.err) ++ leBytes 1 x.alive ++ zeros 7 ++ leBytes 8 c.change

end Sys2Proof.Machine
end

