-- ==== Sys2Proof/Machine/Gates.lean ====
section
/-!
DEFINITION. Gate control lists (R232-R236): the list in force, the masks, and the start test.
-/

namespace Sys2Proof.Machine

/-- CYCLE of a list. -/
def cycleOf (l : GateList) : Nat :=
  sumOf (·.1) l.entries

/-- The place of a drip in its cycle; a base in the future keeps its phase (R232). -/
def cyclePos (l : GateList) (d : Nat) : Nat :=
  (((d : Int) - (l.base : Int)) % (cycleOf l : Int)).toNat

/-- The entry at a place in the cycle: its index, its mask, and the drips left of it. -/
def entryFrom (k p : Nat) : List (Nat × Nat) → Option (Nat × Nat × Nat)
  | [] => none
  | e :: es => if p < e.1 then some (k, e.2, e.1 - p) else entryFrom (k + 1) (p - e.1) es

/-- The entry of a list at a drip. -/
def entryAt (l : GateList) (d : Nat) : Option (Nat × Nat × Nat) :=
  entryFrom 0 (cyclePos l d) l.entries

/-- The list in force at a drip (R232). -/
def gateAt (x : Sched) (d : Nat) : Option GateList :=
  match (x.armed.filter (fun a => decide (a.2 ≤ d))).getLast? with
  | some a => a.1
  | none => x.gate

/-- The gate of a queue is open at a drip; without a list every gate is. -/
def openAt (x : Sched) (d q : Nat) : Bool :=
  match gateAt x d with
  | none => true
  | some l =>
    match entryAt l d with
    | some (_, m, _) => bitOf m q
    | none => true

/-- The next drip after `d` at which another list takes force. -/
def nextArmed (x : Sched) (d : Nat) : Option Nat :=
  (x.armed.filter (fun a => decide (d < a.2))).head?.map (·.2)

/-- The next drip after `d` at which an entry or a list changes. -/
def nextChange (x : Sched) (d : Nat) : Option Nat :=
  let e := (gateAt x d).bind (fun l => (entryAt l d).map (fun e => d + e.2.2))
  match e, nextArmed x d with
  | some a, some b => some (min a b)
  | some a, none => some a
  | none, b => b

/-- The close of a queue's window that is open at `d`, across entries, cycles and lists, as far as drip `h` (R234, R235). -/
def closeFrom (x : Sched) (q h : Nat) : Nat → Nat → Option Nat
  | 0, _ => none
  | n + 1, d =>
    if !openAt x d q then some d
    else if h ≤ d then none
    else
      match nextChange x d with
      | some e => closeFrom x q h n e
      | none => none

/-- The close of a window if it comes by drip `h`: every change is at least a drip after the one before. -/
def closeBy (x : Sched) (q d h : Nat) : Option Nat :=
  closeFrom x q h (h + 2 - d) d

/-- The larger `GUARD` of the lists in force and armed (R234, R235). -/
def guardOf (x : Sched) (d : Nat) : Nat :=
  let f := fun (l : Option GateList) => (l.map (·.guard)).getD 0
  (x.armed.filter (fun a => decide (d < a.2))).foldl (fun m a => max m (f a.1)) (f (gateAt x d))

/-- The start test of R25 and R234, at `frac` of 3,200 parts after drip `d`, for a transfer of `len` such parts. -/
def startOk (x : Sched) (q d frac len : Nat) : Bool :=
  let g := guardOf x d
  openAt x d q &&
    match closeBy x q d (d + (frac + len) / 3200 + g + 1) with
    | some c => decide (3200 * d + frac + len + 3200 * g ≤ 3200 * c)
    | none => true

/-- A gate as the quad island sees it now: every gate is open while the island is time-unsure (R21, R233). -/
def gateOpen (s : State) (b q : Nat) : Bool :=
  s.unsure (quadIsl b) || openAt (s.sch b) s.drip q

/-- The first drip X ≥ `c` at which a cycle of a list begins (R232). -/
def effectDrip (l : GateList) (c : Nat) : Nat :=
  c + (((l.base : Int) - (c : Int)) % (cycleOf l : Int)).toNat

/-- Lists whose drip has come are in force. -/
def settleGates (x : Sched) (d : Nat) : Sched :=
  { x with gate := gateAt x d, armed := x.armed.filter (fun a => decide (d < a.2)) }

/-- A commit at drip `c` arms a list, or a removal (R232, R235). -/
def armGates (x : Sched) (c : Nat) (l : Option GateList) : Sched :=
  let x := settleGates x c
  let x' := fun (e : Nat) => { x with armed := x.armed.filter (fun a => decide (a.2 < e)) ++ [(l, e)] }
  match l with
  | some n => x' (effectDrip n c)
  | none =>
    match x.gate with
    | some o => x' (effectDrip o c)
    | none => x

end Sys2Proof.Machine
end

