-- ==== Sys2Proof/Machine/Echo.lean ====
section
/-!
DEFINITION. The Echo message service (R242-R260): doorbells and policing, WRED, delivery into receive rings, interrupts, and writes to
the registers of the service function.
-/

namespace Sys2Proof.Machine

/-! ## Drops (R257) -/

/-- Count a dropped message in the sump of gallery `g`, and against its sender or its receiver. -/
def echoDrop (s : State) (g cause : Nat) (tx rx : Option Nat) : State :=
  let s := s.modSvc g (fun x => { x with sump := tmod 0 x.sump (cause - 1) (fun v => (v + 1) % 2 ^ 64) })
  let s := pulse s g 0x0F 1 (fun q => bitOf q (cause - 1))
  let s := match tx with
    | some e => s.modEndp e (fun x => { x with txDropped := (x.txDropped + 1) % 2 ^ 64 })
    | none => s
  match rx with
  | some e => s.modEndp e (fun x => { x with rxDropped := (x.rxDropped + 1) % 2 ^ 64 })
  | none => s

/-! ## Sending (R247-R250) -/

/-- The hierarchy of an endpoint. -/
def epHier (s : State) (e : Nat) : HierCfg :=
  s.cfg.hier (e / 16)

/-- A hierarchy exists and has a home: until its home has moved from a lost gallery, its service function ignores every access
(R339). -/
def homed (s : State) (a : Nat) : Bool :=
  (s.cfg.hier a).live && !(s.cfg.hier a).homeless

/-- An endpoint exists, is enabled (R242, R258) and has a home (R339). -/
def epEnabled (s : State) (e : Nat) : Bool :=
  decide (e < 4096) && (epHier s e).live && !(epHier s e).homeless && (s.cfg.endp e).enable

/-- The first `n` bytes of a send window. -/
def winBytes (x : Endp) (w n : Nat) : Bytes :=
  (List.range n).map (fun i => BitVec.ofNat 8 (tget 0 (tget [] x.wins w) i))

/-- Refill a policer's counts, in 1/800 byte, to the present drip (R250). -/
def refill (c : EndpCfg) (now : Nat) (x : Endp) : Endp :=
  let d := now - x.tokAt
  { x with tc := min (800 * c.cbs) (x.tc + c.cir * d), tp := min (800 * c.pbs) (x.tp + c.pir * d), tokAt := now }

/-- The policer's verdict on `n` bytes: 0 green, 1 yellow, 2 red, and the counts after it (R250). -/
def police (c : EndpCfg) (now n : Nat) (x : Endp) : Nat × Endp :=
  if c.cir == 0 then (0, x)
  else
    let x := refill c now x
    let b := 800 * n
    if x.tp < b then (2, x)
    else if x.tc < b then (1, { x with tp := x.tp - b })
    else (0, { x with tp := x.tp - b, tc := x.tc - b })

/-- The header test of step 2 (R249). -/
def headerGoodEcho (s : State) (a : Nat) (h : Bytes) : Bool :=
  let units := byteAt h 2
  let flags := byteAt h 3
  let ctx := byteAt h 6
  decide (1 ≤ units) && decide (units ≤ 32) && decide (fieldAt h 0 2 ≤ 4095) && decide (flags < 16) &&
    (if bitOf flags 3 then assigned s a ctx else ctx == 0)

/-! ## Arrival at the receiving island (R251) -/

/-- Cells in a delivery queue. -/
def queueCells (x : Endp) : Nat :=
  sumOf (·.units) x.queue

/-- The average after a message, with q taken before it is added. -/
def wredAvg (weight : Nat) (avg : Int) (q : Nat) : Int :=
  avg + ((q : Int) * 65536 - avg) / ((2 ^ weight : Nat) : Int)

/-- P of a profile at an average scaled by 2^16. -/
def wredP (w : WredCfg) (avg : Int) : Nat :=
  let lo : Int := (w.minTh : Int) * 65536
  let hi : Int := (w.maxTh : Int) * 65536
  if avg < lo then 0
  else if avg < hi then ((w.maxP : Int) * 256 * (avg - lo) / (hi - lo)).toNat
  else 65536

/-- A message reaches its receiver's home island (R251, R252). -/
def echoArrive (s : State) (g : Nat) (p : Pkt) : State :=
  let e := fieldAt p.data 0 2
  let free := fun (s : State) => freeEg s g p.dstPort 6 (cellCount p)
  if p.bad then echoDrop (free s) g 7 none (some e)
  else
    let c := s.cfg.endp e
    let x := s.endp e
    let yellow := byteAt p.data 7 == 1
    let avg := wredAvg c.weight x.avg (queueCells x)
    let r := lfsrNext (s.svc g).lfsr
    let s := s.modSvc g (fun v => { v with lfsr := r })
    let s := s.modEndp e (fun x => { x with avg := avg })
    if r < wredP (s.cfg.prof (if yellow then c.yellow else c.green)) avg then
      echoDrop (free s) g (if yellow then 9 else 8) none (some e)
    else
      let m : EchoMsg := { bytes := p.data, units := cellCount p, prio := p.prio, src := fieldAt p.data 4 2, dst := e, yellow := yellow }
      s.modEndp e (fun x => { x with queue := x.queue ++ [m] })

/-- Send a message on its way: admission of the whole message, then the receiver's queue or the core (R249 step 7, R74). -/
def echoSend (s : State) (e dst prio : Nat) (msg : Bytes) : State :=
  let a := epHier s e
  let b := epHier s dst
  let p : Pkt := { kind := .echo, cls := 6, srcGal := a.home, srcPort := localOf a.homePort, dstGal := b.home,
                   dstPort := localOf b.homePort, prio := prio, data := msg, hasData := true, len := msg.length }
  let n := cellCount p
  let room := if b.home == a.home then admitsEg s a.home p.dstPort 6 n else admitsVoq s a.home b.home 6 n
  if !room then echoDrop (countRefused s a.home 6) a.home 5 (some e) none
  else
    let s := s.modEndp e (fun x => { x with txSent := (x.txSent + 1) % 2 ^ 64 })
    if b.home == a.home then echoArrive (chargeEg (localFlow s a.home p) a.home p.dstPort 6 n) a.home p
    else if (s.gal b.home).lost.isSome then s
    else enqueueVoq s a.home p

/-- A message takes its seal, if it has one, and goes (R249 steps 6 and 7). A slot released in the meantime seals nothing: the message is dropped
as one whose header names no context (log 178). -/
def echoGo (s : State) (m : HeldMsg) : State :=
  let a := m.ep / 16
  match m.slot with
  | none => echoSend s m.ep m.dst m.prio m.msg
  | some h =>
    if !assigned s a h then echoDrop s (epHier s m.ep).home 2 (some m.ep) none
    else
      let (s, four) := sealEcho s a h m.msg
      echoSend s m.ep m.dst m.prio (spliceAt m.msg 12 four)

/-- A message goes, or waits while a scan runs in its slot (R267, R271) or an earlier one of its endpoint waits (R256). -/
def echoTry (s : State) (g : Nat) (m : HeldMsg) : State :=
  let busy := (m.slot.map (fun h => (s.ctx (m.ep / 16) h).busy)).getD false
  if busy || (s.svc g).held.any (fun h => h.ep == m.ep) then s.modSvc g (fun v => { v with held := v.held ++ [m] })
  else echoGo s m

/-- The messages that wait are tried again in their order. -/
def serveHeld (s : State) (g : Nat) : State :=
  let ms := (s.svc g).held
  forEach ms (s.modSvc g (fun v => { v with held := [] })) (fun s m => echoTry s g m)

/-- The steps of R249 for window `w` of endpoint `e`. -/
def ringDoorbell (s : State) (e w : Nat) : State :=
  let hc := epHier s e
  let g := hc.home
  let h := winBytes (s.endp e) w 16
  let units := byteAt h 2
  let dst := fieldAt h 0 2
  let flags := byteAt h 3
  if !epEnabled s e then echoDrop s g 4 (some e) none
  else if !headerGoodEcho s (e / 16) h then echoDrop s g 2 (some e) none
  else if !epEnabled s dst then echoDrop s g 4 (some e) none
  else if (s.cfg.endp e).domain != (s.cfg.endp dst).domain then echoDrop s g 3 (some e) none
  else
    let (col, x) := police (s.cfg.endp e) s.now (64 * units) (s.endp e)
    let s := s.modEndp e (fun _ => x)
    if col == 2 then echoDrop s g 1 (some e) none
    else
      let msg := spliceAt (spliceAt (winBytes x w (64 * units)) 4 (leBytes 2 e)) 7 (leBytes 1 col)
      echoTry s g { ep := e, dst := dst, prio := flags % 8, slot := if bitOf flags 3 then some (byteAt h 6) else none, msg := msg }

/-- `DOORBELL` (R249): a write to the doorbell of a window, entering by a USP of the hierarchy. -/
def execDoorbell (agent ep win usp : Nat) (s : State) : Out :=
  due (homed s agent && decide (agent < 256) && decide (ep < 16) && decide (win < 4) &&
      (s.cfg.hier agent).usps.contains usp && s.up usp) s
    (ringDoorbell s (16 * agent + ep) win)

/-! ## Delivery (R252-R254) -/

/-- Units of a ring (R246). -/
def ringUnits (x : Endp) : Nat :=
  if 6 ≤ x.sizeLog then 2 ^ (x.sizeLog - 6) else 0

/-- Units in use in a ring. -/
def ringUsed (x : Endp) : Nat :=
  (x.wp + 2 ^ 32 - x.rp) % 2 ^ 32

/-- Split a message into writes from byte offset `off` of a ring of `size` bytes at `base`: none longer than `mps`, none across
4 KiB, none past the ring's end (R253). -/
def ringWrites (base size mps : Nat) : Nat → Nat → Bytes → List (Nat × Bytes)
  | 0, _, _ => []
  | n + 1, off, bs =>
    if bs.isEmpty then []
    else
      let k := max 1 (min mps (min (4096 - off % 4096) (size - off)))
      (base + off, bs.take k) :: ringWrites base size mps n ((off + k) % size) (bs.drop k)

/-- Send the writes of a delivered message by a USP (R253). -/
def sendWrites (s : State) (g : Nat) (u : Unacked) : State :=
  forEach u.writes s (fun s w => sendToPort s g
    { kind := .ringWrite, cls := 3, srcGal := g, srcPort := localOf (epHier s u.ep).homePort, dstGal := galOf u.usp,
      dstPort := localOf u.usp, agent := u.ep / 16, usp := u.usp, addr := w.1, data := w.2, hasData := true, len := w.2.length,
      id := u.id })

/-- Send MSI-X vector `e mod 16` of an endpoint's hierarchy by a USP, or leave it pending while it or the function is masked; nothing goes
while that USP's function has MSI-X off (R254, log 175). -/
def sendMsi (s : State) (g e usp : Nat) : State :=
  let v := tget {} s.echo.msix e
  let f := s.fn usp 1
  if !f.msixOn then s
  else if v.masked || f.msixMask then { s with echo := { s.echo with msix := tput {} s.echo.msix e { v with pend := true } } }
  else
    sendToPort s g { kind := .msi, cls := 3, srcGal := g, srcPort := localOf (epHier s e).homePort, dstGal := galOf usp,
                     dstPort := localOf usp, agent := e / 16, usp := usp, addr := v.addr, data := leBytes 4 v.data,
                     hasData := true, len := 4 }

/-- The function mask of a USP's service function has been taken away: the vectors that pend and are not masked go out (R254). -/
def sendPending (s : State) (a usp : Nat) : State :=
  forEach (List.range 16) s (fun s i =>
    let v := tget {} s.echo.msix (16 * a + i)
    if v.pend && !v.masked && (s.fn usp 1).msixOn && !(s.fn usp 1).msixMask then
      sendMsi { s with echo := { s.echo with msix := tput {} s.echo.msix (16 * a + i) { v with pend := false } } } (s.cfg.hier a).home
        (16 * a + i) usp
    else s)

/-- An interrupt of an endpoint: the count of deliveries begins again. -/
def interrupt (s : State) (g e usp : Nat) : State :=
  sendMsi (s.modEndp e (fun x => { x with sinceInt := 0, oldest := none })) g e usp

/-- Write a message into its ring by USP `usp` (R253, R254). -/
def deliverEcho (s : State) (g e usp mps : Nat) (m : EchoMsg) : State :=
  let x := s.endp e
  let n := ringUnits x
  let wp := (x.wp + m.units) % 2 ^ 32
  let ws := ringWrites x.ringBase (64 * n) mps m.bytes.length (64 * (x.wp % n)) m.bytes
  let ws := if x.shadow == 0 then ws else ws ++ [(x.shadow, leBytes 8 wp)]
  let u : Unacked := { id := (s.svc g).nextMsg, ep := e, usp := usp, writes := ws, left := ws.length }
  let s := s.modSvc g (fun v => { v with nextMsg := v.nextMsg + 1, unacked := v.unacked ++ [u] })
  let s := s.modEndp e (fun x => { x with
    via := some usp, wp := wp, rxDelivered := (x.rxDelivered + 1) % 2 ^ 64, sinceInt := x.sinceInt + 1
    oldest := if x.oldest.isNone then some s.now else x.oldest })
  let s := sendWrites s g u
  let x := s.endp e
  if x.intEn && decide (max 1 x.intCount ≤ x.sinceInt) then interrupt s g e usp else s

/-- The gate an island sees for a delivery: queue 0 of the delivering USP, open while the island is time-unsure (R252). -/
def echoGate (s : State) (g e : Nat) : Bool :=
  match firstLive s (e / 16) with
  | none => true
  | some u => s.unsure (svcIsl g) || openAt (s.sch u) s.drip 0

/-- The endpoint whose head is delivered next: the highest `PRIO`, ties to the first after the last one served (R252). -/
def pickEcho (s : State) (g : Nat) : Option Nat :=
  let last := (s.svc g).lastServed
  let dist := fun (e : Nat) => (e + 4095 - last % 4096) % 4096
  let prio := fun (e : Nat) => ((s.endp e).queue.head?.map (·.prio)).getD 0
  ((s.echo.endps.map (·.1)).filter (fun e => (epHier s e).home == g && !(s.endp e).queue.isEmpty && echoGate s g e)).foldl
    (fun a e => match a with
      | none => some e
      | some b => if prio b < prio e || (prio b == prio e && decide (dist e < dist b)) then some e else a) none

/-- `ECHO_DELIVERY_PICK` (R252): one delivery on an edge, after a commit of that edge (R255), with its checks at the head. The operands name the
head by its endpoint and `PRIO`; it is due only if it is the head that the pick takes. -/
def execEchoDeliveryPick (g ep prio : Nat) (s : State) : Out :=
  match (if g < 8 && (s.gal g).lost.isNone && !launchWaits s && (s.svc g).pickedAt != some s.now then pickEcho s g else none) with
  | none => .next s
  | some e =>
    let x := s.endp e
    match x.queue with
    | [] => .next s
    | m :: rest =>
      if e != ep || m.prio != prio then .next s else
      let s := s.modEndp e (fun x => { x with queue := rest })
      let s := freeEg s g (localOf (epHier s e).homePort) 6 m.units
      let s := s.modSvc g (fun v => { v with lastServed := e, pickedAt := some s.now })
      if !epEnabled s e then .next (echoDrop s g 4 none (some e))
      else if !x.ringEn then .next (echoDrop s g 0x0B none (some e))
      else if ringUnits x - ringUsed x < m.units then .next (echoDrop s g 0x0A none (some e))
      else
        match firstLive s (e / 16) with
        | none => .next (echoDrop s g 0x0C none (some e))
        | some u =>
          let f := s.fn u 1
          if !f.busMaster then .next (echoDrop s g 0x0C none (some e))
          else .next (deliverEcho s g e u (maxPayload f) m)

/-- `INT_DELAY_EXPIRY` (R254): the vector travels on the USP that carried the last writes, or on the delivering USP where that one has gone
down. -/
def execIntDelayExpiry (agent ep : Nat) (s : State) : Out :=
  let e := 16 * agent + ep
  let x := s.endp e
  match x.oldest, (if (x.via.map s.up).getD false then x.via else firstLive s agent) with
  | some t, some u =>
    due (decide (ep < 16) && homed s agent && x.intEn && x.intDelay != 0 && decide (t + 1024 * x.intDelay ≤ s.now)) s
      (interrupt s (epHier s e).home e u)
  | _, _ => .next s

/-- `RING_WRITE_ACK` (R253): every write of a delivered message is acknowledged, and the island releases it. -/
def execRingWriteAck (g : Nat) (s : State) : Out :=
  due (decide (g < 8)) s (s.modSvc g (fun v => { v with unacked := removeFirst (fun u => u.left == 0) v.unacked }))

/-- A ring write has left by a USP. -/
def writeLeft (s : State) (b : Nat) (p : Pkt) : State :=
  s.modSvc p.srcGal (fun v => { v with
    unacked := replaceFirst (fun u => u.id == p.id && u.usp == b) (fun u => { u with left := u.left - 1 }) v.unacked })

/-- A USP has gone down: the writes of every unacknowledged message go out again on the new delivering USP, in their first order;
with no USP up they are lost, cause `LINK` (R253). -/
def resendRing (s : State) (b : Nat) : State :=
  forEach (List.range 8) s (fun s g =>
    forEach ((s.svc g).unacked.filter (fun u => u.usp == b)) s (fun s u =>
      match firstLive s (u.ep / 16) with
      | some n =>
        let u' := { u with usp := n, left := u.writes.length }
        sendWrites (s.modEndp u.ep (fun x => { x with via := some n }) |>.modSvc g (fun v => { v with
          unacked := replaceFirst (fun y => y.id == u.id) (fun _ => u') v.unacked })) g u'
      | none =>
        echoDrop (s.modSvc g (fun v => { v with unacked := removeFirst (fun y => y.id == u.id) v.unacked })) g 0x0C none (some u.ep)))

/-- Every USP of a hierarchy is down: the rings of its 16 endpoints take no more messages (R246). -/
def stopRings (s : State) (a : Nat) : State :=
  forEach (List.range 16) s (fun s i =>
    if (s.endp (16 * a + i)).ringEn then s.modEndp (16 * a + i) (fun x => { x with ringEn := false }) else s)

/-! ## Register writes (R4, R244-R246, R264) -/

/-- A write to the register that holds `SIZE_LOG`, `RING_EN` and `INT_EN` (R246). -/
def writeRingCtl (v : Nat) (x : Endp) : Endp :=
  let en := bitOf v 8
  let sl := if x.ringEn then x.sizeLog else v % 32
  if !x.ringEn && en && !(decide (16 ≤ sl) && decide (sl ≤ 24)) then x
  else
    let x' := { x with sizeLog := sl, ringEn := en, intEn := bitOf v 9 }
    if !x.ringEn && en then { x' with wp := 0, rp := 0 } else x'

/-- A write of `RING_RP`, ignored when more than N units would then be in use (R246). -/
def writeRingRp (v : Nat) (x : Endp) : Endp :=
  let r := v % 2 ^ 32
  if ringUnits x < (x.wp + 2 ^ 32 - r) % 2 ^ 32 then x else { x with rp := r }

/-- A write of `size` bytes at offset `off` of an endpoint's registers. -/
def endpReg (off size v : Nat) (x : Endp) : Endp :=
  let f := fun (old : Nat) => mergeField old (off % 8) size v % 2 ^ 64
  match off / 8 with
  | 1 => if x.ringEn then x else { x with ringBase := f x.ringBase / 4096 * 4096 }
  | 2 => writeRingCtl (f (x.sizeLog + 256 * bit x.ringEn + 512 * bit x.intEn)) x
  | 4 => writeRingRp (f x.rp) x
  | 5 => if x.ringEn then x else { x with shadow := f x.shadow / 8 * 8 }
  | 6 =>
    let w := f (x.intCount + x.intDelay * 65536)
    { x with intCount := w % 65536, intDelay := w / 65536 % 65536 }
  | _ => x

/-- `RING_RP_WRITE` (R246). -/
def execRingRpWrite (agent ep value : Nat) (s : State) : Out :=
  due (homed s agent && decide (ep < 16)) s (s.modEndp (16 * agent + ep) (writeRingRp value))

/-- `RING_EN_WRITE` (R246). -/
def execRingEnWrite (agent ep value : Nat) (s : State) : Out :=
  due (homed s agent && decide (ep < 16)) s (s.modEndp (16 * agent + ep) (writeRingCtl value))

/-- A write of the MSI-X table: the four words of an entry. Unmasking a pending vector sends it (R244, R254). -/
def msixWrite (s : State) (a off size v : Nat) : State :=
  let e := 16 * a + off / 16
  let x := tget {} s.echo.msix e
  let w := mergeField (x.addr + x.data * 2 ^ 64 + bit x.masked * 2 ^ 96) (off % 16) size v
  let x' := { x with addr := w % 2 ^ 64, data := w / 2 ^ 64 % 2 ^ 32, masked := bitOf w 96 }
  let go := x.pend && !x'.masked
  let s := { s with echo := { s.echo with msix := tput {} s.echo.msix e { x' with pend := x.pend && !go } } }
  match (if go then firstLive s a else none) with
  | some u => sendMsi s (s.cfg.hier a).home e u
  | none => s

/-- A write to a slot's registers (R264, R265). -/
def slotBarWrite (s : State) (a off size v : Nat) : State :=
  let h := off / 512
  let r := off % 512
  if 256 ≤ r then slotWrite s a h (if r + size ≤ 512 then .feed (leBytes size v) else .badFeed)
  else if r == 0x48 then
    match v % 16 with
    | 1 => slotWrite s a h .start
    | 2 => slotWrite s a h (.seal (bitOf v 4))
    | 3 => slotWrite s a h (.verify (bitOf v 4))
    | 4 => slotWrite s a h .scan
    | _ => s
  else slotWrite s a h (.reg r size v)

/-- A write to BAR0 of a hierarchy's service function (R244). -/
def bar0Write (s : State) (a off size v : Nat) : State :=
  if 0x8000 ≤ off && off < 0xC000 && 256 ≤ off % 512 && !(off % size == 0 && [4, 8].contains size) then
    slotWrite s a ((off - 0x8000) / 512)
      (if off % size == 0 && [1, 2].contains size then .feed (leBytes size v) else .badFeed)
  else if !([4, 8].contains size) || off % size != 0 then s
  else if 0x1000 ≤ off && off < 0x2000 then
    let e := 16 * a + (off - 0x1000) / 256
    let r := off % 256
    if 0x40 ≤ r && r < 0x60 then ringDoorbell s e ((r - 0x40) / 8) else s.modEndp e (endpReg r size v)
  else if 0x8000 ≤ off && off < 0xC000 then slotBarWrite s a (off - 0x8000) size v
  else if 0xC000 ≤ off && off < 0xC100 then msixWrite s a (off - 0xC000) size v
  else s

/-- A write to BAR2: the bytes of send windows (R244, R247). -/
def bar2Write (s : State) (a off size v : Nat) : State :=
  forEach (List.range (min size 512)) s (fun s k =>
    let o := off + k
    if o < 0x20000 then
      s.modEndp (16 * a + o / 0x2000) (fun x => { x with
        wins := tmod [] x.wins (o / 0x800 % 4) (fun t => tput 0 t (o % 0x800) (v / 256 ^ k % 256)) })
    else s)

/-- `REGISTER_WRITE` (R4, R244): a host writes `size` bytes at an offset of BAR0 or BAR2 of its service function. -/
def execRegisterWrite (agent bar off size value : Nat) (s : State) : Out :=
  if !homed s agent || !decide (agent < 256) then .next s
  else
    match bar with
    | 0 => .next (bar0Write s agent off size value)
    | 2 => .next (bar2Write s agent off size value)
    | _ => .next s

/-! ## Replies (R258-R260) -/

/-- The 56-byte reply of `ECHO_ENDPOINT_SET` `QUERY` (R258). -/
def endpointReply (s : State) (e : Nat) : Bytes :=
  let c := s.cfg.endp e
  let x := s.endp e
  leBytes 2 e ++ leBytes 1 (bit c.enable + 2 * bit x.ringEn + 4 * bit (c.cir != 0) + 16 * (epHier s e).home) ++ leBytes 1 c.weight ++
    leBytes 2 c.domain ++ leBytes 1 c.green ++ leBytes 1 c.yellow ++ leBytes 4 (queueCells x) ++
    leBytes 4 ((x.avg / 65536).toNat) ++ leBytes 8 x.txSent ++ leBytes 8 x.txDropped ++ leBytes 8 x.rxDelivered ++
    leBytes 8 x.rxDropped ++ leBytes 8 s.drip

/-- The 40-byte reply of `POLICER_SET` `QUERY` (R259). -/
def policerReply (s : State) (e : Nat) : Bytes :=
  let c := s.cfg.endp e
  let x := refill c s.now (s.endp e)
  leBytes 2 e ++ zeros 2 ++ leBytes 4 c.cir ++ leBytes 4 c.pir ++ leBytes 4 c.cbs ++ leBytes 4 c.pbs ++
    leBytes 4 (x.tc / 800) ++ leBytes 4 (x.tp / 800) ++ zeros 4 ++ leBytes 8 s.drip

/-- The 16-byte reply of `WRED_PROFILE_SET` `QUERY` (R260). -/
def profileReply (s : State) (p : Nat) : Bytes :=
  let w := s.cfg.prof p
  leBytes 1 p ++ leBytes 1 1 ++ zeros 2 ++ leBytes 4 w.minTh ++ leBytes 4 w.maxTh ++ leBytes 2 w.maxP ++ zeros 2

end Sys2Proof.Machine
end

