-- ==== Sys2Proof/Machine/Reseq.lean ====
section
/-!
DEFINITION. The resequencer (R78-R82) and the ordering of CXL.io at the destination (R76).
-/

namespace Sys2Proof.Machine

/-- Hand cells on in order while the next one is held (R80). -/
def advance : Nat → Flow → List Cell → Flow × List Cell
  | 0, fl, acc => (fl, acc)
  | n + 1, fl, acc =>
    match fl.held.find? (fun c => c.seq == fl.e) with
    | none => (fl, acc)
    | some c =>
      advance n { fl with e := (fl.e + 1) % 65536, held := removeFirst (fun x => x.seq == fl.e) fl.held } (acc ++ [c])

/-- Join handed-on cells into packets: the cells of the packet still incomplete, and the packets completed, each with the
arrival place of its `LAST` cell. A packet with a tail mark, or with a cell on which a fault was found, is bad (R84). Packets with a dropped
cell vanish (R74). -/
def assemble (part : List Cell) : List Cell → List Cell × List (Pkt × Nat)
  | [] => (part, [])
  | c :: cs =>
    if c.last then
      let r := assemble [] cs
      if c.drop || part.any (·.drop) then r
      else (r.1, ({ c.pkt with bad := c.pkt.bad || c.tail || c.fault || part.any (·.fault), hdr := headerBits (part.headD c) }, c.ord) :: r.2)
    else assemble (part ++ [c]) cs

/-- A cell with this number has already been handed on or is held (R78, R79). -/
def isDuplicate (fl : Flow) (seq : Nat) : Bool :=
  decide (32768 ≤ (seq + 65536 - fl.e) % 65536) || fl.held.any (fun c => c.seq == seq)

/-- The last cells of posted packets of a port that have arrived at gallery `g` and are not handed on: held by the resequencer, or still in a
receive buffer (R76). -/
def iopWaiting (s : State) (g srcGal srcPort : Nat) : List Cell :=
  let fl := tget {} (s.gal g).flows (flowKey srcGal srcPort 3)
  let rx := if (s.gal srcGal).lost.isSome then [] else (List.range 4).flatMap (fun c => (s.pas (4 * g + c)).rx.map (·.cell))
  (fl.held ++ rx.filter (fun c => c.pkt.cls == 3 && c.pkt.srcGal == srcGal && c.pkt.srcPort == srcPort && !isDuplicate fl c.seq)).filter (·.last)

/-- An `IONP` or `IOC` packet waits for every `IOP` packet of its port whose `LAST` cell arrived before its own (R76). -/
def ioBlocked (s : State) (g : Nat) (p : Pkt) (ord : Nat) : Bool :=
  (p.cls == 4 || p.cls == 5) && p.stage != .ended && (iopWaiting s g p.srcGal p.srcPort).any (fun c => decide (c.ord < ord))

/-- The hole of a flow after a change: a missing cell at E while later ones are held (R81). -/
def holeAfter (old new : Flow) (drip now : Nat) : Flow :=
  if new.held.isEmpty then { new with hole := none, reported := false }
  else if new.e == old.e && old.hole.isSome then new
  else { new with hole := some (drip, now), reported := false }

/-- Release the CXL.io packets whose earlier posted packets have been handed on. -/
def releaseIo (s : State) (g : Nat) : State × List Pkt :=
  let held := (s.gal g).ioHeld
  (s.modGal g (fun x => { x with ioHeld := held.filter (fun e => ioBlocked s g e.1 e.2) }),
   (held.filter (fun e => !ioBlocked s g e.1 e.2)).map (·.1))

/-- A CXL.io packet of more than 4 cells begins at its egress with its first cell, unless R76 holds it (R85; DEDUCED, log 156). -/
def mayBegin (s : State) (g : Nat) (c : Cell) : Bool :=
  (c.pkt.cls == 3 || c.pkt.cls == 4 || c.pkt.cls == 5) && c.first && !c.drop && decide (4 < cellCount c.pkt) && !ioBlocked s g c.pkt c.ord

/-- Mark the packet that ends one begun before. -/
def endBegun : List (Pkt × Nat) → List (Pkt × Nat)
  | [] => []
  | (p, o) :: ps => ({ p with stage := .ended }, o) :: ps

/-- Let a flow hand on what it can, and give the packets completed or begun. The rest of a packet given up in a hole is discarded. -/
def runFlow (s : State) (g k : Nat) (fl : Flow) (old : Flow) : State × List Pkt :=
  let (fl', run) := advance fl.held.length fl []
  let cells := if fl.skip then run.dropWhile (fun c => !c.first) else run
  let (part, done) := assemble fl'.part cells
  let pkts := if fl.started then endBegun done else done
  let begins := match part.head? with
    | some c => if (!fl.started || !done.isEmpty) && mayBegin s g c then [{ c.pkt with stage := .begun, hdr := headerBits c }] else []
    | none => []
  let fl'' := holeAfter old { fl' with
    part := part, skip := fl.skip && cells.isEmpty, started := (fl.started && done.isEmpty) || !begins.isEmpty } s.drip s.now
  let opened := fl''.hole.isSome && fl''.hole != old.hole
  let s := s.modGal g (fun x => { x with flows := tput {} x.flows k fl'' })
  let s := if opened then countGal s g 18 1 else s
  let s := forEach cells s (fun s c => traceCell s g 2 255 c)
  let now := pkts.filter (fun e => !ioBlocked s g e.1 e.2)
  let wait := pkts.filter (fun e => ioBlocked s g e.1 e.2)
  let s := s.modGal g (fun x => { x with ioHeld := x.ioHeld ++ wait })
  let r := releaseIo s g
  (r.1, r.2 ++ now.map (·.1) ++ begins)

/-- A cell reaches the resequencer: handed on, held, or discarded as a duplicate (R78, R79). -/
def reseqInsert (s : State) (g : Nat) (c : Cell) : State × List Pkt :=
  let k := flowKey c.pkt.srcGal c.pkt.srcPort c.pkt.cls
  let fl := tget {} (s.gal g).flows k
  if isDuplicate fl c.seq then (countGal s g 17 1, []) else runFlow s g k { fl with held := fl.held ++ [c] } fl

/-- The number of the first cell at or after E that begins a packet among those held, by distance from E. -/
def nextFirst (fl : Flow) : Option Nat :=
  (fl.held.filter (·.first)).foldl (fun a c =>
    match a with
    | none => some c.seq
    | some b => if (c.seq + 65536 - fl.e) % 65536 < (b + 65536 - fl.e) % 65536 then some c.seq else a) none

/-- Skip the hole of a flow: the packet that contains it is discarded whole, and E moves to the first cell of the next packet
held, or past everything held, when the packet's later cells are discarded as they come (R81, R338). Gives the cells discarded. -/
def skipHole (fl : Flow) : Flow × List Cell :=
  let dist := fun (q : Nat) => (q + 65536 - fl.e) % 65536
  match nextFirst fl with
  | some q =>
    let gone := fl.held.filter (fun c => decide (dist c.seq < dist q))
    ({ fl with e := q, held := fl.held.filter (fun c => !decide (dist c.seq < dist q)), part := [], started := false }, fl.part ++ gone)
  | none =>
    let top := fl.held.foldl (fun a c => max a (dist c.seq)) 0
    ({ fl with e := (fl.e + top + 1) % 65536, held := [], part := [], skip := true, started := false }, fl.part ++ fl.held)

end Sys2Proof.Machine
end

