-- ==== Sys2Proof/Machine/Deliver.lean ====
section
/-!
DEFINITION. What a gallery does with what the resequencer hands on (R80), the release of passage receive buffers (R56, R68-R74), and
the end of holes (R81, R82, R338).
-/

namespace Sys2Proof.Machine

/-- The rest of a packet that has begun at its egress is there, wherever the packet stands by now: it is whole, or bad (R84, R85). -/
def wholeNow (p q : Pkt) : Pkt :=
  if q.stage == .begun && q.srcGal == p.srcGal && q.srcPort == p.srcPort && q.cls == p.cls then { q with stage := .whole, bad := q.bad || p.bad }
  else q

/-- A packet that has begun becomes whole. -/
def endPacket (s : State) (g : Nat) (p : Pkt) : State :=
  let s := s.modGal g (fun x => { x with egIn := tmod [] x.egIn p.dstPort (·.map (wholeNow p)) })
  s.modSch (64 * g + p.dstPort) (fun x => { x with
    plain := x.plain.map (wholeNow p)
    queues := x.queues.map (fun e => (e.1, { e.2 with pkts := e.2.pkts.map (fun f => { f with pkt := wholeNow p f.pkt }) }))
    sending := x.sending.map (fun e => { e with pkt := wholeNow p e.pkt }) })

/-- Hand a packet on, under its egress charge (R80): a request to its home slice or memory port, a message to the service island, any
other packet to its egress. -/
def deliver (s : State) (g : Nat) (p : Pkt) : State :=
  let s := noteStage s p 1 5
  if p.stage == .ended then endPacket s g p
  else
    match p.kind with
    | .memReq => acceptMem s g p
    | .echo => echoArrive s g p
    | .probe => s
    | .devReq => arrivePort s g p
    | .memRsp => arrivePort s g p
    | .snoop => arrivePort s g p
    | .conflictAck => arrivePort s g p
    | .ioPosted => arrivePort s g p
    | .ioNonPosted => arrivePort s g p
    | .ioCpl => arrivePort s g p
    | .cacheReq => arrivePort s g p
    | .cacheRsp => arrivePort s g p
    | .ringWrite => arrivePort s g p
    | .msi => arrivePort s g p
    | .biRsp => toAnswers s g p
    | .biConflict => toAnswers s g p

/-- Hand packets on in their order. -/
def deliverAll (s : State) (g : Nat) (ps : List Pkt) : State :=
  forEach ps s (fun s p => deliver s g p)

/-! ## Admission at the destination (R69, R72, R74) -/

/-- Number of a cell's packet: that of its first cell. -/
def pktSeq (c : Cell) : Nat :=
  (c.seq + 65536 - c.idx % 65536) % 65536

/-- Key of a packet's admission at its destination. -/
def admKey (c : Cell) : Nat :=
  flowKey c.pkt.srcGal c.pkt.srcPort c.pkt.cls * 65536 + pktSeq c

/-- The admission of a cell's packet as it stands: 0 not yet decided, else twice the cells still to come, plus one for a discarded
`ECHO` packet. -/
def admOf (x : Gal) (c : Cell) : Nat :=
  tget 0 x.admitted (admKey c)

/-- Cells that a packet ended early by a closing cell never has (R84). -/
def cellsCut (c : Cell) : Nat :=
  if c.last then cellCount c.pkt - (c.idx + 1) else 0

/-- One more cell of a packet has left the receive buffers. -/
def admStep (s : State) (g : Nat) (c : Cell) (v : Nat) : State :=
  let left := v / 2 - (1 + cellsCut c)
  s.modGal g (fun x => { x with admitted := tput 0 x.admitted (admKey c) (if left == 0 then 0 else 2 * left + v % 2) })

/-- A cell on its first hop waits here for its second (R42). -/
def isRelayHere (g : Nat) (c : Cell) : Bool :=
  c.relay && c.pkt.dstGal != g

/-- What may become of the next cell of a class: it leaves, or its class waits. -/
inductive Release where
  | waits
  | relay
  | discard
  | go (adm : Nat)
  deriving DecidableEq, Repr

/-- A cell belongs to a packet given up in a hole: the packet's first cell lies behind E while its flow skips (R81). -/
def givenUp (fl : Flow) (c : Cell) : Bool :=
  fl.skip && decide (32768 ≤ (pktSeq c + 65536 - fl.e) % 65536)

/-- The decision on a cell at the head of its class (R69, R72, R74, R78, R81, R338). -/
def releaseOf (s : State) (g : Nat) (c : Cell) : Release :=
  let x := s.gal g
  let fl := tget {} x.flows (flowKey c.pkt.srcGal c.pkt.srcPort c.pkt.cls)
  if isRelayHere g c then (if (s.gal c.pkt.dstGal).lost.isSome then .discard else .relay)
  else if (s.gal c.pkt.srcGal).lost.isSome then .discard
  else if isDuplicate fl c.seq || givenUp fl c then .go 0
  else
    match admOf x c with
    | 0 =>
      let n := cellCount c.pkt
      if admitsEg s g c.pkt.dstPort c.pkt.cls n then .go (2 * n)
      else if c.pkt.cls == 6 then .go (2 * n + 1)
      else .waits
    | v => .go v

/-- A relay cell is stored for its second hop (R42, R68). -/
def storeRelay (s : State) (g : Nat) (c : Cell) : State :=
  let k := qKey c.pkt.dstGal c.pkt.cls
  s.modGal g (fun x => chargeRelay { x with relayQ := tmod [] x.relayQ k (· ++ [c]) } c.pkt.dstGal (· + 1))

/-- A cell goes to the resequencer. The first of its packet takes the charge of all its cells, or counts the discard (R69, R74). -/
def releaseCell (s : State) (g : Nat) (c : Cell) (v : Nat) : State :=
  let first := admOf (s.gal g) c == 0
  let n := cellCount c.pkt
  let s := if v == 0 || !first then s
    else if v % 2 == 0 then chargeEg s g c.pkt.dstPort c.pkt.cls n
    else echoDrop (countRefused s g 6) g 5 none none
  let s := if v == 0 then s else admStep s g c v
  let r := reseqInsert s g { c with drop := v % 2 == 1 }
  deliverAll r.1 g r.2

/-- The first cell of a class in a receive buffer. -/
def classHead (x : Pas) (cls : Nat) : Option RxCell :=
  x.rx.find? (fun e => e.cell.pkt.cls == cls)

/-- Take the first cell of a class out of a receive buffer. -/
def takeRx (s : State) (p cls : Nat) : State :=
  updateHoldOff (s.modPas p (fun x => { x with rx := removeFirst (fun e => e.cell.pkt.cls == cls) x.rx })) p

/-- Try the classes in the order of R75 until a cell leaves; a class whose packet is refused waits and is counted. -/
def releaseFrom (g p : Nat) : List Nat → State → State
  | [], s => s
  | cls :: rest, s =>
    match classHead (s.pas p) cls with
    | none => releaseFrom g p rest s
    | some e =>
      match releaseOf s g e.cell with
      | .waits => releaseFrom g p rest (countRefused s g cls)
      | .relay => storeRelay (takeRx s p cls) g e.cell
      | .discard => takeRx s p cls
      | .go v => releaseCell (takeRx s p cls) g e.cell v

/-- An ECC or parity error found on the next cell of a class as it leaves: the cell carries it, and a `LAST` cell shows `TAIL` (R84). -/
def faultHead (s : State) (g p cls : Nat) : State :=
  match classHead (s.pas p) cls with
  | none => s
  | some e =>
    let s := if e.cell.fault || e.cell.tail then s else countGal s g 19 1
    s.modPas p (fun x => { x with
      rx := replaceFirst (fun e => e.cell.pkt.cls == cls) (fun e => { e with cell := { e.cell with fault := true, tail := e.cell.tail || e.cell.last } }) x.rx })

/-- The class whose cell leaves next. -/
def nextClass (s : State) (g p : Nat) : Option Nat :=
  classOrder.find? (fun cls => match classHead (s.pas p) cls with
    | some e => releaseOf s g e.cell != .waits
    | none => false)

/-- `RECEIVE_BUFFER_RELEASE` (R56): the next ready cell leaves the receive buffer of a passage; `bad` says that a fault is found on it. -/
def execReceiveBufferRelease (g : Nat) (c : RxRead) (s : State) : Out :=
  let p := 4 * g + c.col
  let s' := match (if c.bad then nextClass s g p else none) with
    | some cls => faultHead s g p cls
    | none => s
  due (decide (g < 8) && decide (c.col < 4) && (s.gal g).lost.isNone) s (releaseFrom g p classOrder s')

/-! ## Holes (R81, R82, R338) -/

/-- One cell of each packet among some cells, with the cells of it that are there. -/
def packetsOf : Nat → List Cell → List (Cell × List Cell)
  | 0, _ => []
  | _, [] => []
  | n + 1, c :: cs =>
    (c, c :: cs.filter (fun d => pktSeq d == pktSeq c)) :: packetsOf n (cs.filter (fun d => pktSeq d != pktSeq c))

/-- A packet's data with the bytes of its missing cells zero. -/
def zeroMissing (p : Pkt) (here : List Cell) : Bytes :=
  ((List.range (cellCount p)).flatMap (fun i =>
    let piece := (p.data.drop (64 * i)).take 64
    if here.any (fun c => c.idx == i) then piece else List.replicate piece.length 0))

/-- The charge of a packet that is given up, and what its admission still held. -/
def forgetPacket (s : State) (g : Nat) (c : Cell) : State :=
  let s := if c.drop then s else freeEg s g c.pkt.dstPort c.pkt.cls (cellCount c.pkt)
  s.modGal g (fun x => { x with admitted := tput 0 x.admitted (admKey c) 0 })

/-- Skip the hole of a flow, giving the cells discarded. -/
def skipFlow (s : State) (g k : Nat) : State × List Cell :=
  let old := tget {} (s.gal g).flows k
  let (fl, gone) := skipHole old
  let r := runFlow s g k { fl with hole := none, reported := false } old
  (deliverAll r.1 g r.2, gone)

/-- `RESEQ_HOLE_TIMEOUT` (R81): a hole of 1,600 drips is skipped for `ECHO`, and reported once for a lossless class. -/
def execReseqHoleTimeout (g srcGal srcPort cls : Nat) (s : State) : Out :=
  let k := flowKey srcGal srcPort cls
  let fl := tget {} (s.gal g).flows k
  match (if g < 8 && srcGal < 8 && srcPort < 64 && cls < 7 then fl.hole else none) with
  | none => .next s
  | some (drip, at_) =>
    if s.now < at_ + 1600 then .next s
    else if cls == 6 then
      let (s, gone) := skipFlow s g k
      let s := forEach (packetsOf gone.length gone) s (fun s e => forgetPacket s g e.1)
      .next (echoDrop s g 6 none none)
    else if fl.reported then .next s
    else
      let s := s.modGal g (fun x => { x with flows := tput {} x.flows k { fl with reported := true } })
      .next (raise s (1260 + g) evReseqHole 2 (coreIsl g)
        (evData (leBytes 1 cls ++ leBytes 1 srcGal ++ leBytes 1 srcPort ++ leBytes 1 0 ++ leBytes 2 fl.e ++
          leBytes 2 (sat 16 fl.held.length)) drip))

/-- Some gallery has been lost for 16,000 drips. -/
def lostLongAgo (s : State) : Bool :=
  s.core.gals.any (fun e => match e.2.lost with
    | some t => decide (t + 16000 ≤ s.now)
    | none => false)

/-- `GALLERY_LOST_HOLE_CLOSE` (R338): 16,000 drips after a gallery was lost a lossless hole open for 1,600 is closed by skipping; the
packets that lose a cell are bad before start, and one that has begun ends bad. -/
def execGalleryLostHoleClose (g srcGal srcPort cls : Nat) (s : State) : Out :=
  let k := flowKey srcGal srcPort cls
  let old := tget {} (s.gal g).flows k
  match (if g < 8 && srcGal < 8 && srcPort < 64 && cls < 6 then old.hole else none) with
  | none => .next s
  | some (_, at_) =>
    if s.now < at_ + 1600 || !lostLongAgo s then .next s
    else
      let begun := fun (c : Cell) => old.started && (match old.part.head? with
        | some h => pktSeq h == pktSeq c
        | none => false)
      let (s, gone) := skipFlow s g k
      .next (forEach (packetsOf gone.length gone) s (fun s e =>
        let s := s.modGal g (fun x => { x with admitted := tput 0 x.admitted (admKey e.1) 0 })
        let p := { e.1.pkt with bad := true, data := zeroMissing e.1.pkt e.2, stage := if begun e.1 then .ended else .whole }
        deliver s g p))

end Sys2Proof.Machine
end

