-- ==== Sys2Proof/Machine/Registers.lean ====
section
/-!
DEFINITION. What a host reads from its service function's BARs (R4, R244, R245, R264), and where they stand (R158, R244).
-/

namespace Sys2Proof.Machine

/-- The 8-byte register at index `r` of endpoint `e` (R245). -/
def endpRead (s : State) (e r : Nat) : Nat :=
  let x := s.endp e
  let c := s.cfg.endp e
  match r with
  | 0 => bit c.enable + 2 * bit (c.cir != 0) + 65536 * e
  | 1 => x.ringBase
  | 2 => x.sizeLog + 256 * bit x.ringEn + 512 * bit x.intEn
  | 3 => x.wp
  | 4 => x.rp
  | 5 => x.shadow
  | 6 => x.intCount + 65536 * x.intDelay
  | 7 => x.rxDelivered
  | _ => 0

/-- The 8-byte register at index `r` of slot `h` (R264); a slot that no context serves reads as 0. -/
def slotRead (s : State) (a h r : Nat) : Nat :=
  let k := s.cfg.check a h
  let x := s.ctx a h
  if !assigned s a h then 0
  else
    match r with
    | 0 => 1 + 2 * (k.alg % 4) + 8 * (k.mode % 2) + 256 * (k.engine % 4) + 65536 * (k.ctx % 256)
    | 1 => x.running
    | 2 => x.alive
    | 3 => x.count
    | 4 => x.result + 16 * x.err + 256 * bit x.busy + 65536 * x.seen
    | 5 => x.outLo
    | 6 => x.outHi
    | 7 => x.inLo
    | 8 => x.inHi
    | 10 => x.scanDpa
    | 11 => x.scanGrotto + 2 ^ 32 * x.scanLines
    | _ => 0

/-- The 8 bytes at index `r` of the MSI-X table: address, then data and mask (R244). -/
def msixRead (s : State) (a r : Nat) : Nat :=
  let x := tget {} s.echo.msix (16 * a + r / 2)
  if r % 2 == 0 then x.addr else x.data + 2 ^ 32 * bit x.masked

/-- The pending bits of the 16 vectors. -/
def pendingBits (s : State) (a : Nat) : Nat :=
  sumOf (fun i => 2 ^ i * bit (tget {} s.echo.msix (16 * a + i)).pend) (List.range 16)

/-- The 8-byte register of BAR0 at index `r` (R244): offset ÷ 8. -/
def bar0Reg (s : State) (a r : Nat) : Nat :=
  if r == 0 then 16 + 256 * 4 + 65536 * a + 2 ^ 24 * (s.cfg.hier a).home
  else if r == 1 then s.drip
  else if 512 ≤ r && r < 1024 then endpRead s (16 * a + (r - 512) / 32) (r % 32)
  else if 4096 ≤ r && r < 6144 then slotRead s a ((r - 4096) / 64) (r % 64)
  else if 6144 ≤ r && r < 6176 then msixRead s a (r - 6144)
  else if r == 6656 then pendingBits s a
  else 0

/-- A read of `n` bytes of a BAR (R4, R244): of BAR0 naturally aligned 4 or 8 bytes, anything else and BAR2 read as 0. Without a home everything
reads as 0 (R339). -/
def barRead (s : State) (a bar off n : Nat) : Bytes :=
  if homed s a && bar == 0 && [4, 8].contains n && off % n == 0 then
    leBytes n (bar0Reg s a (off / 8) / 2 ^ (8 * (off % 8)) % 2 ^ (8 * n))
  else List.replicate n 0

/-- The BAR and offset that an address names on a USP (R158, R244). -/
def barAt (s : State) (u addr : Nat) : Option (Nat × Nat) :=
  let x := s.fn u 1
  let inside := fun (b : Option Nat) (size : Nat) => match b with
    | some base => decide (base ≤ addr) && decide (addr < base + size)
    | none => false
  if inside x.bar0 65536 then some (0, addr - x.bar0.getD 0)
  else if inside x.bar2 131072 then some (2, addr - x.bar2.getD 0)
  else none

/-- A write of a BAR of the service function by its host. -/
def barWrite (s : State) (a bar off : Nat) (data : Bytes) : State :=
  if bar == 0 then bar0Write s a off data.length (fieldAt data 0 data.length)
  else bar2Write s a off data.length (fieldAt data 0 data.length)

end Sys2Proof.Machine
end

