-- ==== Sys2Proof/Machine/Ingress.lean ====
section
/-!
DEFINITION. Decoding a request at ingress (R83, R156, R163, R167, R169, R180-R182, R185, R204-R206, R212),
and what a host does to the functions it sees (R150, R153, R158, R162, R244).
-/

namespace Sys2Proof.Machine

/-! ## Replies that the ingress gives itself -/

/-- A CXL.io completion to the port that carried a request: 0 successful, 1 UR, 4 CA. -/
def ioCompletion (g src : Nat) (p : Pkt) (st : Nat) (data : Bytes) : Pkt :=
  { kind := .ioCpl, cls := 5, srcGal := g, srcPort := src, dstGal := p.srcGal, dstPort := p.srcPort, agent := p.agent,
    grotto := p.grotto, gen := p.gen, gv := p.gv, op := .ioCpl, usp := 64 * p.srcGal + p.srcPort, tag := p.tag, addr := p.addr,
    hasData := !data.isEmpty, data := data, st := st }

/-- A CXL.mem request that decodes to nothing is answered as for an unreachable device, without an event (R182). -/
def quietMem (s : State) (g : Nat) (p : Pkt) : State :=
  let s := sampleLost (countDropped s p.usp) p
  if isRead p.op then sendToPort s g (memReply g p.srcPort p (rowCmp p.op) true deadData true)
  else if isMemWrite p.op then sendToPort s g (memReply g p.srcPort p .cmp false [] false)
  else sendToPort s g (memReply g p.srcPort p (rowCmp p.op) false [] false)

/-- A posted CXL.io packet is lost: the event of R168 for the port it would have left by, and the AER of its vPPB on each live USP
(R167). -/
def postedLost (s : State) (port : Nat) (p : Pkt) : State :=
  let s := sampleLost (postedFailed s port 3 p.agent p.addr) p
  aerEach s p.agent (lossFn s.cfg p) internalError (tlpOf p)

/-- A message is CXL.mem. -/
def isMem : HostOp → Bool
  | .memRd _ => true
  | .memRdData => true
  | .memInv _ => true
  | .memWr _ => true
  | .memWrPtl _ => true
  | .memClnEvct => true
  | .memOther => true
  | .biRsp _ => false
  | .biConflict => false
  | .ioRead => false
  | .ioWrite => false
  | .ioAtomic => false
  | .ioCfg => false
  | .ioMsg => false
  | .ioCpl => false
  | .cacheRead => false
  | .cacheOwn => false
  | .cacheWrite => false
  | .cacheOther => false
  | .cacheRsp => false

/-- A CXL.io request that gets a completion. -/
def isNonPosted : HostOp → Bool
  | .ioRead => true
  | .ioAtomic => true
  | .ioCfg => true
  | _ => false

/-- A CXL.io posted message. -/
def isPosted : HostOp → Bool
  | .ioWrite => true
  | .ioMsg => true
  | _ => false

/-- What the far side's absence gives a request (R167). -/
def noTarget (s : State) (g port : Nat) (p : Pkt) : State :=
  let s := sampleLost s p
  if isMem p.op then quietMem s g p
  else if isNonPosted p.op then sendToPort s g (ioCompletion g p.srcPort p 1 [])
  else if isPosted p.op then postedLost s port p
  else countDropped s (64 * p.srcGal + p.srcPort)

/-- A refused CXL.io request is an ACS Violation in the AER of the upstream bridge, or of the pass-through device's vPPB (R212). -/
def aerRefused (s : State) (b : Nat) (p : Pkt) : State :=
  match s.role b with
  | 1 => aerLog s b 0 acsViolation (tlpOf p)
  | 2 => aerEach s (s.cfg.port b).passAgent (2 + (s.cfg.port b).passVppb) acsViolation (tlpOf p)
  | _ => s

/-- What a refused request receives (R212). `GO-Err` is a cache response with status 1. -/
def refuseReply (s : State) (g b kind : Nat) (p : Pkt) : State :=
  match kind with
  | 1 => sendToPort s g (memReply g p.srcPort p .cmp true noData true)
  | 2 => sendToPort s g (memReply g p.srcPort p .cmp true noData true)
  | 3 => sendToPort s g (memReply g p.srcPort p .cmp false [] false)
  | 4 => sendToPort s g (memReply g p.srcPort p .cmp false [] false)
  | 5 => sendToPort (aerRefused s b p) g (ioCompletion g p.srcPort p 4 [])
  | 7 => sendToPort (aerRefused s b p) g (ioCompletion g p.srcPort p 4 [])
  | 6 => replyGone (aerRefused s b p) p
  | k =>
    let data := if k == 10 then [] else noData
    sendToPort s g { kind := .cacheRsp, cls := 2, srcGal := g, srcPort := p.srcPort, dstGal := g, dstPort := p.srcPort,
                     agent := p.agent, op := p.op, usp := b, tag := p.tag, addr := p.addr, hasData := !data.isEmpty, data := data,
                     poison := k != 10, st := 1 }

/-! ## Taking a packet in -/

/-- A CXL.io packet. -/
def isIoKind (p : Pkt) : Bool :=
  p.cls == 3 || p.cls == 4 || p.cls == 5

/-- Drips in which 64 bytes pass a link: 5/64 byte for each lane and half gigatransfer in a drip (R131; log 157). -/
def cellTime (s : State) (b k : Nat) : Nat :=
  let x := s.prt b
  let rate := max 1 (x.lanes * (match x.rate with
    | 0 => 5
    | 1 => 10
    | 2 => 16
    | 3 => 32
    | 4 => 64
    | 5 => 128
    | _ => 256))
  (k * 4096 + 5 * rate - 1) / (5 * rate)

/-- A packet of several cells goes on its way as it arrives: its first cell at once, each later one as its 64 bytes have come (R83). Inside
the gallery the packet is whole with its last cell, and a CXL.io packet of more than 4 cells begins with its first (R85). -/
def launchLong (s : State) (g at_ : Nat) (p : Pkt) : State :=
  let b := 64 * p.srcGal + p.srcPort
  let cs := nextCells s g p
  let rest := (cs.drop 1).mapIdx (fun k c => ({ due := at_ + cellTime s b (k + 1), cell := c } : Forming))
  let s := s.modPrt b (fun x => { x with forming := x.forming ++ rest })
  if p.dstGal == g then
    let s := chargeEg (localFlow s g p) g p.dstPort p.cls (cellCount p)
    if isIoKind p && decide (4 < cs.length) then arrivePort s g { p with stage := .begun } else s
  else enqueueCells s g p cs (cs.take 1)

/-- The packet goes on its way from its ingress port, where it came at elapsed drip `at_`; one that was cut is tail-marked (R84). -/
def launchIn (s : State) (g at_ : Nat) (p : Pkt) : State :=
  let s := if p.bad then countGal s g 19 1 else s
  if (s.gal p.dstGal).lost.isSome then placePkt s g p
  else if 1 < cellCount p && p.kind != .memReq then launchLong s g at_ p
  else placePkt s g p

/-- A cell whose bytes have come joins the queue of its packet, or completes it inside the gallery. -/
def formCell (s : State) (g : Nat) (c : Cell) : State :=
  let p := c.pkt
  if (s.gal p.dstGal).lost.isSome then s
  else if p.dstGal != g then s.modGal g (fun x => { x with voq := tmod [] x.voq (qKey p.dstGal p.cls) (· ++ [c]) })
  else if !c.last then s
  else
    let p := { p with bad := p.bad || c.tail }
    if isIoKind p && decide (4 < cellCount p) then endPacket s g p else arrivePort s g p

/-- The cells of a port that are there: those due by now, or all of them once a later message has come on the link. -/
def formCells (s : State) (b : Nat) (all : Bool) : State :=
  let here := fun (e : Forming) => all || decide (e.due ≤ s.now)
  let es := (s.prt b).forming.filter here
  if es.isEmpty then s
  else
    let s := s.modPrt b (fun x => { x with forming := x.forming.filter (fun e => !here e) })
    forEach es s (fun s e => formCell s (galOf b) e.cell)

/-- The cell that ends a packet whose link went down: `LAST`, `TAIL`, `LEN` 1 and a zero payload, in the place of the first cell that
never came (R84). -/
def closingCell (c : Cell) : Cell :=
  let d := c.pkt.data
  { c with last := true, tail := true, len := 1,
           pkt := { c.pkt with bad := true, data := d.take (64 * c.idx) ++ List.replicate (d.length - 64 * c.idx) 0 } }

/-- The link went down while a packet arrived: its closing cell ends it, and the cells that never come give back their room and their
numbers (R84). -/
def cutForming (s : State) (b : Nat) : State :=
  let g := galOf b
  match (s.prt b).forming with
  | [] => s
  | e :: _ =>
    let c := closingCell e.cell
    let k := cellCount c.pkt - (c.idx + 1)
    let p := c.pkt
    let s := countGal (s.modPrt b (fun x => { x with forming := [] })) g 19 1
    let s := if p.dstGal == g then s
      else s.modGal g (fun x => { x with
        voqOcc := tmod 0 x.voqOcc (qKey p.dstGal p.cls) (fun v => v - k)
        flowSeq := tmod 0 x.flowSeq (seqKey p.srcPort p.dstGal p.cls) (fun v => (v + 65536 - k) % 65536) })
    formCell s g c

/-! ## The quad island and its credits (R72, R73, R157) -/

/-- A channel with credits of its own, and the credits an x2 port advertises for it (R157); CXL.io channels have data credits of 16 bytes
beside. -/
def initCredits (p : Pkt) : Nat × Option Nat :=
  match p.kind with
  | .ioPosted => (64, some 512)
  | .ioNonPosted => (64, some 64)
  | .ioCpl => (64, some 512)
  | .cacheReq => (32, none)
  | .cacheRsp => (if p.hasData then 32 else 64, none)
  | _ => (if p.hasData then 32 else 64, none)

/-- Two packets use the credits of one channel. -/
def sameChannel (p q : Pkt) : Bool :=
  p.cls == q.cls && (isIoKind p == isIoKind q) && (isIoKind p || p.hasData == q.hasData)

/-- Data credits of a CXL.io packet: one for 16 bytes. -/
def dataCredits (p : Pkt) : Nat :=
  (p.data.length + 15) / 16

/-- The port has credit for one more packet of a channel: a packet in the quad island keeps its credits until it is admitted (R73). Each
doubling of the width doubles the credits (R157). -/
def creditFor (s : State) (b : Nat) (p : Pkt) : Bool :=
  let held := ((s.prt b).waiting.filter (fun w => sameChannel p w.pkt)).map (·.pkt)
  let k := max 1 ((s.prt b).lanes / 2)
  decide (held.length < k * (initCredits p).1) && (match (initCredits p).2 with
    | some d => decide (sumOf dataCredits held + dataCredits p ≤ k * d)
    | none => true)

/-- A packet that is not admitted waits in the quad island, and those of its class on the port behind it (R72, R73). -/
def admitIn (s : State) (g at_ : Nat) (p : Pkt) : State :=
  let b := 64 * p.srcGal + p.srcPort
  if mayEnter s g p && !(s.prt b).waiting.any (fun w => w.pkt.cls == p.cls) then launchIn s g at_ p
  else (countRefused s g p.cls).modPrt b (fun x => { x with waiting := x.waiting ++ [{ at_ := at_, pkt := p }] })

/-- The packets of a port's quad island are tried again, each class in its order. -/
def retryIn (s : State) (b : Nat) : State :=
  let g := galOf b
  (s.prt b).waiting.foldl (fun s w =>
    let ahead := (s.prt b).waiting.takeWhile (· != w)
    if mayEnter s g w.pkt && !ahead.any (fun v => v.pkt.cls == w.pkt.cls) then
      launchIn (s.modPrt b (fun x => { x with waiting := removeFirst (· == w) x.waiting })) g w.at_ w.pkt
    else s) s

/-- Every port's cells form and its packets are tried again, quads in ascending order (R70, R83). -/
def servePorts (s : State) : State :=
  forEach ((s.port.ports.filter (fun e => !e.2.forming.isEmpty || !e.2.waiting.isEmpty)).map (·.1)) s (fun s b =>
    retryIn (formCells s b false) b)

/-- A link goes down: the packet that was arriving is cut, and one that was neither whole nor on its way is gone (R84). -/
def cutIngress (s : State) (b : Nat) : State :=
  let part := fun (w : Waiting) => decide (s.now < w.at_ + cellTime s b (cellCount w.pkt - 1))
  let gone := (s.prt b).waiting.filter part
  let s := s.modPrt b (fun x => { x with waiting := x.waiting.filter (fun w => !part w) })
  cutForming (forEach gone s (fun s w => replyGone s w.pkt)) b

/-- Take a request in (R83, R204): stamp it, check it, and send it on, refuse it, or answer for a lost gallery (R338). A packet that
passes and finds no room waits in its quad island (R72). A partner without credit brings nothing (R157). -/
def takeIn (s : State) (g : Nat) (c : Checked) (p : Pkt) (n : Nat) : State :=
  let dead := (s.gal p.dstGal).lost.isSome
  let s' := rxMsg s c.port n
  let s' := if p.gv then genAdd s' p.grotto p.gen else s'
  let r := if c.kind == 0 then (s', true) else guardCheck s' c
  if !creditFor s c.port p then s
  else if !r.2 then refuseReply r.1 g c.port c.kind p
  else if dead then (if isMem p.op then failPrivate r.1 g p.srcPort p else noTarget r.1 g (64 * p.dstGal + p.dstPort) p)
  else admitIn r.1 g r.1.now p

/-! ## Targets -/

/-- The DSP whose pass-through device is on vPPB `v` of an agent (R163). -/
def passPort (c : Cfg) (a v : Nat) : Option Nat :=
  (c.ports.find? (fun e => e.2.role == 2 && e.2.passAgent == a && e.2.passVppb == v)).map (·.1)

/-- The `BOUND` grotto on vPPB `v` of an agent. -/
def grottoOn (s : State) (a v : Nat) : Option Nat :=
  (s.cfg.grottos.find? (fun e => e.2.live && e.2.agent == a && (s.gr e.1).st == .bound && (s.gr e.1).vppb == v)).map (·.1)

/-- The grotto known on vPPB `v` of an agent whose recall sweep runs after its unbind (R188). -/
def recallOf (s : State) (a v : Nat) : Option Nat :=
  (s.cfg.grottos.find? (fun e => e.2.live && e.2.agent == a && (s.gr e.1).st != .bound && (s.gr e.1).recallOn &&
    (s.gr e.1).recallVppb == v)).map (·.1)

/-- The packet of a request as it arrives at bundle `b`, with no destination yet; a payload is at most 512 bytes (R150). -/
def reqPkt (b a : Nat) (q : HostReq) : Pkt :=
  { kind := .devReq, srcGal := galOf b, srcPort := localOf b, agent := a, op := q.op, usp := b, tag := q.tag % 65536, addr := q.addr,
    fa := q.addr, len := q.len, hasData := !q.data.isEmpty, data := q.data.take 512, poison := q.poison, bad := q.cut,
    vppb := q.vppb, rid := q.requester }

/-- Kind and class of a message that passes through (R156): `up` from the device toward the host. -/
def passKind (up : Bool) (q : HostReq) : PktKind × Nat :=
  match q.op with
  | .ioRead => (.ioNonPosted, 4)
  | .ioAtomic => (.ioNonPosted, 4)
  | .ioCfg => (.ioNonPosted, 4)
  | .ioWrite => (.ioPosted, 3)
  | .ioMsg => (.ioPosted, 3)
  | .ioCpl => (.ioCpl, 5)
  | .cacheRead => (.cacheReq, if up then 0 else 1)
  | .cacheOwn => (.cacheReq, if up then 0 else 1)
  | .cacheWrite => (.cacheReq, if up then 0 else 1)
  | .cacheOther => (.cacheReq, if up then 0 else 1)
  | .cacheRsp => (.cacheRsp, 2)
  | _ => (.devReq, 0)

/-- Where the span of a request begins (R206): at its line for CXL.mem and CXL.cache, at its own address for CXL.io. -/
def spanFrom (op : HostOp) (a : Nat) : Nat :=
  match op with
  | .ioRead => a
  | .ioWrite => a
  | .ioAtomic => a
  | _ => a / 64 * 64

/-- A request in the space of a guard. -/
def checkOf (b a space addr req : Nat) (q : HostReq) : Checked :=
  { port := b, kind := kindOf q.op, space := space, addr := spanFrom q.op addr, len := spanLen q.op q.len, requester := req, agent := a,
    tag := q.tag % 65536, store := q.store }

/-- A packet with its destination. -/
def toward (p : Pkt) (d : Nat) : Pkt :=
  { p with dstGal := galOf d, dstPort := localOf d }

/-! ## Roles (R151) -/

/-- Completions to a CXL.io read, of at most 512 bytes each (R150). -/
def ioData (s : State) (g : Nat) (p : Pkt) (data : Bytes) : State :=
  forEach (List.range (max 1 ((data.length + 511) / 512))) s (fun s k =>
    let s := if k == 0 || !p.gv then s else genAdd s p.grotto p.gen
    sendToPort s g (ioCompletion g p.srcPort p 0 ((data.drop (512 * k)).take 512)))

/-- A CXL.io request that came bad: CA for a non-posted one, and a posted one is lost (R167). -/
def badIo (s : State) (g : Nat) (p : Pkt) : State :=
  let b := 64 * g + p.srcPort
  if isNonPosted p.op then sendToPort (countDropped s b) g (ioCompletion g p.srcPort p 4 []) else replyGone (postedLost s b p) p

/-- A configuration request takes effect in a function of its USP, and its completion goes back (R4, R158). Taking the function mask of the service
function away sends the vectors that pend (R254). -/
def cfgIn (s : State) (g f : Nat) (live : Bool) (p : Pkt) (q : HostReq) : State :=
  let u := 64 * g + p.srcPort
  if p.bad then badIo s g p
  else if q.data.isEmpty then
    let (v, s) := cfgRead s u f live q.reg
    ioData s g p (leBytes 4 v)
  else
    let s := cfgWrite s u f q.reg (fieldAt q.data 0 4)
    let s := if f == 1 && q.reg == .msixCtl && homed s p.agent then sendPending s p.agent u else s
    sendToPort s g (ioCompletion g p.srcPort p 0 [])

/-- A CXL.io or CXL.cache message to a function of a grotto or the management function: a read of its memory is answered with values the spec
does not state (log 2), and a write may program a decoder (R182, log 166). -/
def functionIo (s : State) (g : Nat) (p : Pkt) (program : State → State) : State :=
  if isNonPosted p.op then
    if p.bad then badIo s g p
    else
      let (v, s) := draw s
      ioData s g p (leBytes (max 1 (min p.len 4096)) v)
  else if p.bad && isPosted p.op then badIo s g p
  else replyGone (program s) p

/-- A CXL.io or CXL.cache message to the functions of grotto `n`. -/
def grottoIo (s : State) (g n : Nat) (p : Pkt) (q : HostReq) : State :=
  if q.op == .ioCfg then
    match fnOf (s.cfg.hier p.agent) q with
    | some f => cfgIn s g f true p q
    | none => sendToPort s g (ioCompletion g p.srcPort p 1 [])
  else functionIo s g p (fun s => match q.hdm with
    | some w => if q.op == .ioWrite then setHdm s n w else s
    | none => s)

/-- A message for a grotto: CXL.mem is decoded by its HDM decoders (R182), R181 and R178, CXL.io is its functions'. -/
def toGrotto (s : State) (b a n : Nat) (q : HostReq) : State :=
  let g := galOf b
  let gen := (s.gr n).gen
  let mark := fun (p : Pkt) => { p with grotto := n, gen := gen, gv := true }
  let p := mark (reqPkt b a q)
  let none_ := quietMem (genAdd (rxMsg s b q.data.length) n gen) g p
  if isMem q.op then
    match (hdmDpa (s.gr n) q.addr).bind (grottoAt s.cfg n) with
    | none => none_
    | some (w, off) =>
      let c := s.cfg.win w
      match locate c off with
      | none => none_
      | some l =>
        let k := { checkOf b a 0 (c.base + off) a q with grotto := n, gen := gen }
        if c.shared && (reqKind q.op).isNone then
          let s := genAdd (rxMsg s b q.data.length) n gen
          let r := if k.kind == 0 then (s, true) else guardCheck s k
          if r.2 then quietMem r.1 g p else refuseReply r.1 g b k.kind p
        else
          let (id, s') := freshAcc s
          takeIn s' g k (mark (memPkt g (localOf b) c l off q.op a b (q.tag % 65536) id q.data q.poison q.cut)) q.data.length
  else
    let c := checkOf b a 1 q.addr q.requester q
    let s := genAdd (rxMsg s b q.data.length) n gen
    let r := if c.kind == 0 || decide (8 ≤ c.kind) then (s, true) else guardCheck s c
    if r.2 then grottoIo r.1 g n p q else refuseReply r.1 g b c.kind p

/-- A Write or an Evict of a shared line that the agent still holds while the recall sweep of its unbound grotto runs: it reaches the
slice, which captures a write-back under R95, carries no generation, and is not checked, since the grotto is not bound (R184, R188, R205). -/
def toRecalled (s : State) (b a n : Nat) (q : HostReq) : Option State :=
  let k := reqKind q.op
  if k != some .write && k != some .evict then none
  else
    match (hdmDpa (s.gr n) q.addr).bind (grottoAt s.cfg n) with
    | none => none
    | some (w, off) =>
      let c := s.cfg.win w
      match (if c.shared then locate c off else none) with
      | none => none
      | some l =>
        let (id, s) := freshAcc s
        let m := memPkt (galOf b) (localOf b) c l off q.op a b (q.tag % 65536) id q.data q.poison q.cut
        some (takeIn s (galOf b) { checkOf b a 0 m.fa a q with kind := 0 } m q.data.length)

/-- A message for a pass-through device, checked in port space. Host CXL.cache messages carry no kind of R205. -/
def toPass (s : State) (b a d : Nat) (q : HostReq) : State :=
  let k := passKind false q
  let (id, s) := freshAcc s
  let p := { toward (reqPkt b a q) d with kind := k.1, cls := k.2, id := id }
  let c := checkOf b a 1 q.addr (if isMem q.op then a else q.requester) q
  takeIn s (galOf b) (if 8 ≤ c.kind then { c with kind := 0 } else c) p q.data.length

/-- A message at a USP that names no grotto and no pass-through device: its guard checks a CXL.io or CXL.cache request in port space
(R204, R206), and it has no target (R167). -/
def plainIn (s : State) (b a : Nat) (q : HostReq) : State :=
  let g := galOf b
  let c := checkOf b a 1 q.addr q.requester q
  let s := rxMsg s b q.data.length
  let p := reqPkt b a q
  let r := if c.kind == 0 || decide (8 ≤ c.kind) || isMem q.op then (s, true) else guardCheck s c
  if r.2 then noTarget r.1 g b p else refuseReply r.1 g b c.kind p

/-- The line of a back-invalidate response: its home gallery and key, by the vPPB under which the agent knows the grotto, bound or being
recalled (R181, R188). -/
def answerLine (s : State) (a : Nat) (q : HostReq) : Option (Nat × Loc) :=
  s.cfg.grottos.findSome? (fun e =>
    if e.2.live && e.2.agent == a && ((s.gr e.1).vppb == q.vppb || ((s.gr e.1).recallOn && (s.gr e.1).recallVppb == q.vppb)) then
      ((hdmDpa (s.gr e.1) q.addr).bind (grottoAt s.cfg e.1)).bind (fun w =>
        if (s.cfg.win w.1).shared then (locate (s.cfg.win w.1) w.2).map (fun l => (galOf l.port, l)) else none)
    else none)

/-- A host's back-invalidate response or `BIConflict` goes to the home slice of its line as class `MRSP` (R35, R156); one that names no
line is discarded and counted. -/
def answerIn (s : State) (b a : Nat) (q : HostReq) : State :=
  let s := rxMsg s b 0
  match answerLine s a q with
  | none => countLate s b
  | some (g, l) =>
    let r := match q.op with
      | .biRsp r => (PktKind.biRsp, r)
      | _ => (PktKind.biConflict, BiRsp.i)
    let p : Pkt := { kind := r.1, cls := 2, srcGal := galOf b, srcPort := localOf b, dstGal := g, dstPort := localOf l.port, agent := a,
                     op := q.op, rsp := r.2, usp := b, tag := q.tag % 65536, key := keyOf l.port l.dpa, addr := l.dpa, bad := q.cut }
    admitIn s (galOf b) s.now p

/-- A host's message is a back-invalidate response or a `BIConflict`. -/
def isAnswer : HostOp → Bool
  | .biRsp _ => true
  | .biConflict => true
  | _ => false

/-- A configuration request to the virtual switch's own functions, the bridge alone where the USP is in no hierarchy (R158, R162). -/
def bridgeIn (s : State) (b a : Nat) (q : HostReq) : State :=
  let g := galOf b
  let s := rxMsg s b q.data.length
  let p := reqPkt b a q
  match fnOf (s.cfg.hier a) q with
  | some f => cfgIn s g f (f < 66 && 2 ≤ f && ((grottoOn s a (f - 2)).isSome || (passPort s.cfg a (f - 2)).isSome)) p q
  | none => sendToPort s g (ioCompletion g p.srcPort p 1 [])

/-- A memory read or write of the service function's BARs, checked in port space (R205, R244). -/
def serviceIn (s : State) (b a bar off : Nat) (q : HostReq) : State :=
  let g := galOf b
  let c := checkOf b a 1 q.addr q.requester q
  let p := reqPkt b a q
  let r := guardCheck (rxMsg s b q.data.length) c
  if !r.2 then refuseReply r.1 g b c.kind p
  else if p.bad then badIo r.1 g { p with vppb := 255 }
  else if q.op == .ioRead then ioData r.1 g p (barRead r.1 a bar off (min q.len 4096))
  else if homed r.1 a then barWrite r.1 a bar off p.data
  else r.1

/-- A message at a USP. -/
def uspIn (s : State) (b : Nat) (q : HostReq) : State :=
  let a := (uspAgent s.cfg b).getD noAgent
  if q.op == .ioCfg && q.bus != .secondary then bridgeIn s b a q
  else if (uspAgent s.cfg b).isNone then plainIn s b noAgent q
  else if isAnswer q.op then answerIn s b a q
  else
    match (if q.op == .ioRead || q.op == .ioWrite then barAt s b q.addr else none) with
    | some (bar, off) => serviceIn s b a bar off q
    | none =>
      match passPort s.cfg a q.vppb with
      | some d => toPass s b a d q
      | none =>
        match grottoOn s a q.vppb with
        | some n => toGrotto s b a n q
        | none =>
          match (recallOf s a q.vppb).bind (fun n => toRecalled s b a n q) with
          | some t => t
          | none => plainIn s b a q

/-- The USP to which a completion of a pass-through device goes: that of its request, else the first live one. -/
def completionUsp (s : State) (b a : Nat) (q : HostReq) : Option Nat :=
  match (s.prt b).outs.find? (fun o => o.pkt.kind == .ioNonPosted && o.pkt.tag == q.tag % 65536) with
  | some o => some o.pkt.usp
  | none => firstLive s a

/-- A message from a pass-through device, toward its hierarchy (R156, R163). Its CXL.mem replies are `DEVICE_REPLY`s; a `BISnp` is
discarded. -/
def passIn (s : State) (b : Nat) (q : HostReq) : State :=
  let a := (s.cfg.port b).passAgent
  let g := galOf b
  if isMem q.op || isAnswer q.op then countLate (rxMsg s b q.data.length) b
  else
    let k := passKind true q
    let p := { reqPkt b a q with kind := k.1, cls := k.2, vppb := (s.cfg.port b).passVppb }
    let c := checkOf b a 1 q.addr q.requester q
    match (if q.op == .ioCpl then completionUsp s b a q else firstLive s a) with
    | none =>
      let s := rxMsg s b q.data.length
      let r := if c.kind == 0 then (s, true) else guardCheck s c
      if r.2 then noTarget r.1 g b p else refuseReply r.1 g b c.kind p
    | some u =>
      let s := if q.op == .ioCpl then s.modPrt b (fun x => { x with
          outs := removeFirst (fun o => o.pkt.kind == .ioNonPosted && o.pkt.tag == q.tag % 65536) x.outs }) else s
      takeIn s g c { toward p u with usp := u } q.data.length

/-- A message at an `FPT` (R169, R180): only the peer's requests for windows exported to it reach a device; its guard checks CXL.io
requests in port space (R205). -/
def fptIn (s : State) (b : Nat) (q : HostReq) : State :=
  let x := s.cfg.port b
  let g := galOf b
  let p := reqPkt b noAgent q
  if q.dpid != x.localPbr || q.spid != x.peerPbr then countLate (rxMsg s b q.data.length) b
  else if !isMem q.op then
    let c := checkOf b noAgent 1 q.addr q.spid q
    let s := rxMsg s b q.data.length
    let r := if c.kind == 0 || decide (8 ≤ c.kind) then (s, true) else guardCheck s c
    if r.2 then noTarget r.1 g b p else refuseReply r.1 g b c.kind p
  else
    match (winAt s.cfg q.addr).filter (fun w => !(s.cfg.win w).shared && (s.cfg.win w).export_ == x.peerPbr) with
    | none => quietMem (rxMsg s b q.data.length) g p
    | some w =>
      let c := s.cfg.win w
      match locate c (q.addr - c.base) with
      | none => quietMem (rxMsg s b q.data.length) g p
      | some l =>
        let (id, s) := freshAcc s
        takeIn s g (checkOf b noAgent 0 q.addr q.spid q)
          (memPkt g (localOf b) c l (q.addr - c.base) q.op noAgent b (q.tag % 65536) id q.data q.poison q.cut) q.data.length

/-- A message at a Type 3 DSP: its partner sends only replies and completions, and a `BISnp` is discarded (R156, R163, R204). -/
def devIn (s : State) (b : Nat) (q : HostReq) : State :=
  let s := rxMsg s b q.data.length
  if isNonPosted q.op then sendToPort s (galOf b) (ioCompletion (galOf b) (localOf b) (reqPkt b noAgent q) 1 [])
  else if q.op == .ioMsg || q.op == .ioWrite || q.op == .ioCpl then s
  else countLate s b

/-- A message at the `BOOT` port, for the management function (R153): unchecked (R204). -/
def bootIn (s : State) (b : Nat) (q : HostReq) : State :=
  let s := rxMsg s b q.data.length
  let g := galOf b
  let p := reqPkt b noAgent q
  if isMem q.op then quietMem s g p
  else if q.op == .ioCfg then
    if q.bus == .upstream && q.dev == 0 && q.fn == 0 then cfgIn s g mgmtFn false p q
    else sendToPort s g (ioCompletion g p.srcPort p 1 [])
  else functionIo s g p id

/-- `INGRESS_DECODE` (R204): a message arrives at a bundle that is up; what came before it on the link has come whole. -/
def execIngressDecode (port : Nat) (q : HostReq) (s : State) : Out :=
  if !isBundle s s.cfg port || !s.up port then .next s
  else
    let s := formCells s port true
    match s.role port with
    | 1 => .next (uspIn s port q)
    | 2 => .next (if (s.cfg.port port).passAgent == 65535 then devIn s port q else passIn s port q)
    | 3 => .next (fptIn s port q)
    | 4 => .next (bootIn s port q)
    | _ => .next s

end Sys2Proof.Machine
end

