-- ==== Sys2Proof/Machine/SliceCtl.lean ====
section
/-!
DEFINITION. Pointer mode, conversions, migrations and tests of slices (R104-R110, R112).
-/

namespace Sys2Proof.Machine

/-- Raise `EV_DIR_POINTER_MODE` (R110). -/
def raiseMode (s : State) (g sl : Nat) (entered : Bool) (cause : Nat) : State :=
  let n := (s.slice g sl).evictedByConv
  raiseSlice s g sl evDirPointerMode (if !entered || cause == 1 then 0 else 2)
    (leBytes 1 (bit entered) ++ leBytes 1 cause ++ leBytes 2 (sat 16 n)) s.drip

/-- Raise `EV_SLICE_SPARED` (R110). -/
def raiseSpared (s : State) (g sl : Nat) (old new : SliceRole) (logical : Option Nat) (cause : Nat) (other : Option Nat)
    (passed : Bool) : State :=
  raiseSlice s g sl evSliceSpared (if passed then 0 else 1)
    (leBytes 1 (roleCode old) ++ leBytes 1 (roleCode new) ++ leBytes 1 (logical.getD 255) ++ leBytes 1 cause ++
      leBytes 1 (other.getD 255)) s.drip

/-- A slice number is in range. -/
def isSlice (g sl : Nat) : Bool :=
  decide (g < 8) && decide (sl < 9)

/-- `POINTER_STORE_PASS` (R105): the pointer store's start-up self-test passes. -/
def execPointerStorePass (g sl : Nat) (s : State) : Out :=
  due (isSlice g sl && (s.slice g sl).mode == .down) s
    (raiseMode (s.modSlice g sl (fun x => { x with mode := .pointer, modeCause := 1, change := s.drip })) g sl true 1)

/-- `FULL_ARRAY_SELF_TEST_END` (R105, R108): the start-up self-test of the full array ends. A pass starts the conversion; a failure
starts a migration, or recovery pointer mode without a spare; a spare that fails is `FAILED`. -/
def execFullArraySelfTestEnd (g sl : Nat) (pass : Bool) (s : State) : Out :=
  let x := s.slice g sl
  if !isSlice g sl || x.mode != .pointer || x.fullTested || x.modeCause != 1 then .next s
  else
    let s := s.modSlice g sl (fun x => { x with fullTested := true, fullPassed := pass })
    if pass then .next (startConv s g sl (.toFull 0) 1)
    else if x.role == .spare then
      let s := s.modSlice g sl (fun x => { x with role := .failed, change := s.drip })
      .next (raiseSpared s g sl .spare .failed none 5 none false)
    else if (spareFree s g).isSome then .next (startMigration s g sl 5)
    else .next (raiseMode (s.modSlice g sl (fun x => { x with modeCause := 3 })) g sl true 3)

/-! ## Conversions (R104) -/

/-- `BCAST` = 1 becomes the broadcast mask in `SHARERS` (R104). -/
def toFullEntry (s : State) (g : Nat) (e : Entry) : Entry :=
  if e.bcast then { e with bcast := false, sharers := (bcastSet s g e.key).foldl setBit 0 } else e

/-- More than four sharers become `BCAST` = 1, the first four kept as pointers (R104). -/
def toPtrEntry (e : Entry) : Entry :=
  if popcount 256 e.sharers ≤ 4 then e
  else { e with bcast := true, sharers := ((agentsOf e.sharers).take 4).foldl setBit 0 }

/-- The conversion of a slice: whether it goes to full mode, and the set it moves next. -/
def convAt (x : Slice) : Option (Bool × Nat) :=
  match x.mode with
  | .toFull n => some (true, n)
  | .toPointer n => some (false, n)
  | _ => none

/-- The entries a set offers, in the source store: set `n` of the pointer store, or the four full sets that feed it. -/
def convSource (s : State) (g sl n : Nat) (toFull : Bool) : List Entry :=
  if toFull then setOf s false (sliceNo g sl * 16384 + n)
  else (List.range 4).flatMap (fun k => setOf s true (sliceNo g sl * 65536 + n + 16384 * k))

/-- An entry moves before another: lower rank, then lower set, then lower way (R104). -/
def movesBefore (a b : Entry) : Bool :=
  decide (a.lru < b.lru) || (a.lru == b.lru && (decide (keySet a.key < keySet b.key) ||
    (keySet a.key == keySet b.key && decide (a.way < b.way))))

/-- Insert in the order of moving. -/
def moveInsert (e : Entry) : List Entry → List Entry
  | [] => [e]
  | x :: xs => if movesBefore e x then e :: x :: xs else x :: moveInsert e xs

/-- Entries numbered into ways, ranks by their order. -/
def renumber (es : List Entry) : List Entry :=
  (List.range es.length).filterMap (fun i => es[i]?.map (fun e => { e with way := i, lru := i }))

/-- Move a pointer set's entries to their full sets. -/
def moveToFull (s : State) (g sl n : Nat) : State :=
  let es := (convSource s g sl n true).foldr moveInsert []
  let s := modSet s false (sliceNo g sl * 16384 + n) (fun _ => [])
  forEach (List.range 4) s (fun s k =>
    let x := n + 16384 * k
    modSet s true (sliceNo g sl * 65536 + x) (fun _ => renumber ((es.filter (fun e => keySet e.key == x)).map (toFullEntry s g))))

/-- Move the entries of four full sets to their pointer set. -/
def moveToPtr (s : State) (g sl n : Nat) : State :=
  let es := (convSource s g sl n false).foldr moveInsert []
  let s := forEach (List.range 4) s (fun s k => modSet s true (sliceNo g sl * 65536 + n + 16384 * k) (fun _ => []))
  modSet s false (sliceNo g sl * 16384 + n) (fun _ => renumber (es.map toPtrEntry))

/-- The deferred requests of some lines leave the retry queue: what they wait for is not here any longer. Gives them in deferral order,
and the slice without them and without the pauses they held. -/
def takeRetries (x : Slice) (p : Nat → Bool) : List SliceReq × Slice :=
  let out := x.retry.filter (fun e => p e.req.key)
  (out.map (·.req), { x with
    retry := x.retry.filter (fun e => !p e.req.key)
    paused := x.paused.filter (fun a => !out.any (fun e => e.reserved && e.req.agent == a)) })

/-- A set has moved: the requests that were deferred or held for it go back to the front of the intake list, in their order (R104,
R107, R118). -/
def releaseHeld (s : State) (g sl n : Nat) : State :=
  s.modSlice g sl (fun x =>
    let (w, y) := takeRetries x (fun k => keySet k % 16384 == n)
    { y with intake := w ++ x.held ++ x.intake, held := [] })

/-- The conversion goes on to its next set: what it has moved is stable again, and the next set is under copy. -/
def convNext (s : State) (g sl n : Nat) (mode : SliceMode) (ks : List Nat) : State :=
  let s := s.modSlice g sl (fun x => { x with mode := mode })
  let s := forEach ks s (fun s k => unpin s g sl k)
  pinMoving (releaseHeld s g sl n) g sl

/-- `CONVERSION_STEP` (R104): one set moves once none of it is transient. In a conversion to the pointer store the entries beyond eight
are evicted first. -/
def execConversionStep (g sl : Nat) (s : State) : Out :=
  match (if isSlice g sl then convAt (s.slice g sl) else none) with
  | none => .next s
  | some (full, n) =>
    let es := convSource s g sl n full
    let ks := es.map (·.key)
    if 16384 ≤ n || es.any isBusy then .next s
    else if full then .next (convNext (moveToFull s g sl n) g sl n (.toFull (n + 1)) ks)
    else if es.length ≤ 8 then .next (convNext (moveToPtr s g sl n) g sl n (.toPointer (n + 1)) ks)
    else
      let out := (es.foldr moveInsert []).drop 8
      let s := s.modSlice g sl (fun x => { x with evictedByConv := x.evictedByConv + out.length })
      .next (forEach out s (fun s e =>
        progress (startEvict s g sl e .convert none (evictTargets s g e)) g sl e.key))

/-- Nothing is left in the sets a conversion has not moved (log 12). -/
def convLeft (s : State) (g sl n : Nat) (full : Bool) : Bool :=
  let k := sliceNo g sl
  if full then s.dir.ptr.any (fun e => e.1 / 16384 == k && decide (n ≤ e.1 % 16384))
  else s.dir.full.any (fun e => e.1 / 65536 == k && decide (n ≤ e.1 % 16384))

/-- `CONVERSION_END` (R105): every set has moved. A slice with a test pending goes on to pointer mode (R112). -/
def execConversionEnd (g sl : Nat) (s : State) : Out :=
  match (if isSlice g sl then convAt (s.slice g sl) else none) with
  | none => .next s
  | some (full, n) =>
    if convLeft s g sl n full then .next s
    else
      let x := s.slice g sl
      let s := s.modSlice g sl (fun x => { x with mode := if full then .full else .pointer, change := s.drip })
      let s := (raiseMode s g sl (!full) x.modeCause).modSlice g sl (fun x => { x with intake := x.held ++ x.intake, held := [] })
      .next (if full && x.testPending then enterPointer s g sl 2 else s)

/-! ## Migration (R106, R107) -/

/-- The source's entries of set `x`, as the target will hold them. -/
def migEntries (s : State) (g src x : Nat) : List Entry :=
  let es := (entriesAt s g src x).filter (fun e => keySet e.key == x)
  if inFull (s.slice g src).mode x then es else renumber ((es.foldr moveInsert []).map (toFullEntry s g))

/-- Take the requests of set `x` out of an intake list. -/
def takeSet (x : Nat) (y : Slice) : List SliceReq × Slice :=
  (y.intake.filter (fun r => keySet r.key == x), { y with intake := y.intake.filter (fun r => keySet r.key != x) })

/-- `MIGRATION_SET_COPY` (R106, R107): once no entry of set P is transient but BMig, the set is copied, P advances, and the requests that
reached the source for it go on to the target, those deferred and held first. -/
def execMigrationSetCopy (g : Nat) (s : State) : Out :=
  match (if g < 8 then tget none s.dir.migs g else none) with
  | none => .next s
  | some m =>
    let x := m.p
    let es := (entriesAt s g m.src x).filter (fun e => keySet e.key == x)
    if 65536 ≤ x || es.any isBusy then .next s
    else
      let cs := migEntries s g m.src x
      let s := modEntries s g m.src x (List.filter (fun e => keySet e.key != x))
      let s := modSet s true (storeKey true g m.dst x) (fun _ => cs)
      let bk := sliceNo g m.src * 65536 + x
      let b := tget false s.dir.blind bk
      let s := { s with dir := { s.dir with
        blind := tput false (tput false s.dir.blind bk false) (sliceNo g m.dst * 65536 + x) b
        migs := tput none s.dir.migs g (some { m with p := x + 1, held := [] }) } }
      let (w, y) := takeRetries (s.slice g m.src) (fun k => keySet k == x)
      let (i, y) := takeSet x y
      let s := s.modSlice g m.src (fun _ => y)
      let s := s.modSlice g m.dst (fun y => { y with intake := y.intake ++ w ++ m.held ++ i })
      let s := forEach cs s (fun s e => unpin s g m.dst e.key)
      .next (pinMoving s g m.src)

/-- `MIGRATION_END` (R106): every set is copied; the map names the target, and the source is the spare, failed, or tested. -/
def execMigrationEnd (g : Nat) (s : State) : Out :=
  match (if g < 8 then tget none s.dir.migs g else none) with
  | none => .next s
  | some m =>
    if (allEntries s g m.src).any (fun e => decide (m.p ≤ keySet e.key)) then .next s
    else
      let l := logicalOf s g m.src
      let x := s.slice g m.src
      let new : SliceRole := if m.cause == 3 then .spare else if m.cause == 4 then .testing else .failed
      let s := s.modSlice g m.src (fun y => { y with
        role := new, change := s.drip, intake := [], retry := [], paused := [], snoopPath := [], held := []
        testRes := if m.cause == 4 then 3 else y.testRes })
      let s := s.modSlice g m.dst (fun y => { y with
        role := .active, change := s.drip, tie := x.tie
        intake := y.intake ++ x.retry.map (·.req) ++ m.held ++ x.held ++ x.intake, snoopPath := y.snoopPath ++ x.snoopPath })
      let s := { s with dir := { s.dir with
        migs := tput none s.dir.migs g none
        map := match l with
          | some l => tput 0 s.dir.map (8 * g + l) (if m.dst == l then 0 else m.dst + 1)
          | none => s.dir.map } }
      .next (raiseSpared s g m.src .active new l m.cause (some m.dst) false)

/-! ## Intervals and tests (R109, R112) -/

/-- `ECC_INTERVAL_END` (R109): a new interval of counts begins. -/
def execEccIntervalEnd (g sl : Nat) (s : State) : Out :=
  due (isSlice g sl) s (freshInterval s g sl)

/-- Store a test's result. -/
def testResult (s : State) (g sl : Nat) (pass : Bool) (arr addr : Nat) : State :=
  s.modSlice g sl (fun x => { x with
    testRes := if pass then 1 else 2, testArray := if pass then 0 else arr, testAddr := if pass then 0 else addr
    testEnd := s.drip, testPending := false, fullTested := true, fullPassed := pass || arr == 2 || arr == 3 })

/-- `SLICE_TEST_END` (R112): a tested slice out of the map becomes `SPARE` or `FAILED`; one tested in pointer mode converts back, or
stays in recovery pointer mode (R105). -/
def execSliceTestEnd (g sl : Nat) (pass : Bool) (failArray failAddr : Nat) (s : State) : Out :=
  let x := s.slice g sl
  if !isSlice g sl then .next s
  else if x.role == .testing then
    let new : SliceRole := if pass then .spare else .failed
    let s := testResult s g sl pass failArray failAddr
    let s := s.modSlice g sl (fun y => { y with role := new, change := s.drip, mode := if pass then .full else y.mode })
    .next (raiseSpared s g sl .testing new none 4 none pass)
  else if x.testPending && x.mode == .pointer then
    let s := testResult s g sl pass failArray failAddr
    let s := if pass then startConv s g sl (.toFull 0) 2 else s.modSlice g sl (fun y => { y with modeCause := 3 })
    .next (raiseSpared s g sl .active .active (logicalOf s g sl) 4 none pass)
  else .next s

end Sys2Proof.Machine
end

