-- ==== Sys2Proof/Machine/Twin.lean ====
section
/-!
DEFINITION. Replies and timeouts of memory devices (R164, R167), the copies of twin writes and resync (R191-R193), and the ends of
sanitise and removal (R195, R196).
-/

namespace Sys2Proof.Machine

/-! ## Link events (R175) -/

/-- Raise a link event: cause, role, lane, then the link as it stands. -/
def raiseLink (s : State) (b code cause sev lane : Nat) : State :=
  let p := s.prt b
  raise s b code sev (quadIsl b)
    (evData (leBytes 1 cause ++ leBytes 1 (s.role b) ++ leBytes 2 lane ++ leBytes 1 p.rate ++ leBytes 1 p.lanes ++ leBytes 1 p.flit) s.drip)

/-! ## Copies of a twin write (R191) -/

/-- The `Cmp` of a twin write is due: by `TWIN_ACK`, or because neither copy can be written. -/
def twinReplies (ack : Nat) (t : TwinWr) : Bool :=
  if ack == 1 then t.c1 == 1 || t.c2 == 1 || (t.c1 == 2 && t.c2 == 2) else t.c1 != 0 && t.c2 != 0

/-- `TWIN_ACK` of a window, in force or being swept. -/
def twinAckOf (s : State) (w : Nat) : Nat :=
  if (s.cfg.win w).live then (s.cfg.win w).twinAck
  else ((s.mem.removed.find? (fun r => r.win == w)).map (·.cfg.twinAck)).getD 0

/-- Answer the writer of a twin write. -/
def twinReply (s : State) (g : Nat) (t : TwinWr) : State :=
  let good := t.c1 == 1 || t.c2 == 1
  match t.acc with
  | some id =>
    match accOf s id with
    | some a => finishAccess s a good [] false
    | none => s
  | none =>
    let s := if good then s else countDropped (lostWrite s t.pkt) t.pkt.usp
    sendToPort s g (memReply g t.pkt.dstPort t.pkt .cmp false [] false)

/-- A copy of a twin write has completed or become unreachable: the reply and the buffer line follow (R191). -/
def twinCopyDone (s : State) (g tid c : Nat) (good : Bool) : State :=
  match (twinsOf s g).find? (fun t => t.id == tid) with
  | none => s
  | some t =>
    let v := if good then 1 else 2
    let t := if c == 1 then { t with c1 := v } else { t with c2 := v }
    let reply := !t.replied && twinReplies (twinAckOf s t.win) t
    let t := { t with replied := t.replied || reply }
    let gone := t.c1 != 0 && t.c2 != 0
    let s := modTwins s g (fun ts => if gone then ts.filter (fun x => x.id != tid)
                                     else ts.map (fun x => if x.id == tid then t else x))
    let s := if reply then twinReply s g t else s
    if gone && t.left && t.pkt.gv then genSub s t.pkt.grotto t.pkt.gen else s

/-! ## The end of a device access -/

/-- A PRIVATE request fails at gallery `g`: a read that failed on a lost copy is retried on the survivor (R192), else R167; with the primary's
gallery lost the request is unreachable, though its twin may survive elsewhere (DEDUCED, log 149). -/
def privateFail (s : State) (g src : Nat) (p : Pkt) : State :=
  match winAt s.cfg p.fa with
  | none => failPrivate s g src p
  | some w =>
    let c := s.cfg.win w
    match locate c (p.fa - c.base) with
    | none => failPrivate s g src p
    | some l =>
      let st := tget {} (s.win w).exts (16 * l.seg + l.way)
      let home := galOf l.port
      if c.twinned && isRead p.op && st.lost != 3 && (s.gal home).lost.isNone then
        let q := { p with srcGal := home, srcPort := localOf l.port, dstGal := home, dstPort := localOf l.port, addr := l.dpa }
        let q := if bitOf st.lost 0 then { q with dstGal := galOf l.tport, dstPort := localOf l.tport, addr := l.tdpa } else q
        sendToPort s home q
      else failPrivate s g src p

/-- A PRIVATE request ends at its device: its reply, or what its failure gives. -/
def privateEnd (s : State) (port : Nat) (p : Pkt) (good : Bool) (data : Bytes) (poison : Bool) : State :=
  let g := galOf port
  if good then
    sendToPort s g (memReply g (localOf port) p (rowCmp p.op) (isRead p.op) (if isRead p.op then data else []) (isRead p.op && poison))
  else privateFail s g (localOf port) p

/-- An access of a slice that failed on one copy of a twinned extent is issued again on the survivor (R192). -/
def retryCopy (s : State) (a : DevAcc) : Option State :=
  if a.write || a.copy == 0 then none
  else
    match keyLine s a.g a.key with
    | none => none
    | some l =>
      if l.st.lost == 3 then none
      else
        let c := if bitOf l.st.lost 0 then 2 else 1
        let s := { s with dir := { s.dir with accs := s.dir.accs.map (fun x => if x.id == a.id then { x with copy := c } else x) } }
        some (sendCopy s a.g a.pkt l c a.id)

/-! ## The switch's own copying and writing (R193, R196, R224) -/

/-- An access of the switch's own to a place on a device: it enters `SYS_QUEUE` (R224). -/
def sysAccess (s : State) (g port dpa : Nat) (data : Option Bytes) (poison : Bool) (use : AccUse) : State :=
  let (id, s) := freshAcc s
  let p : Pkt := { kind := .devReq, cls := 0, srcGal := g, srcPort := localOf port, dstGal := galOf port, dstPort := localOf port,
                   agent := noAgent, addr := dpa, hasData := data.isSome, data := data.getD [], poison := poison, sys := true, id := id,
                   op := if data.isSome then .memWr .noOp else .memRd .noOp }
  sendToPort (addAcc s { id := id, g := g, write := data.isSome, use := use, pkt := p }) g p

/-- Bundle and first DPA of a copy, 1 primary or 2 twin, of an extent. -/
def copyPlace (c : WinCfg) (e copy : Nat) : Nat × Nat :=
  match c.segs[e / 16]? with
  | some sg =>
    let w := (if copy == 1 then sg.ways else sg.twins).getD (e % 16) (512, 0)
    (w.1, w.2 * unit256)
  | none => (512, 0)

/-- The gallery that handles an extent: that of its primary (R190). -/
def extGal (c : WinCfg) (e : Nat) : Nat :=
  galOf (copyPlace c e 1).1

/-- Read the 64 lines of block P of an extent from its survivor (R193). -/
def copyBlock (s : State) (w e : Nat) : State :=
  let c := s.cfg.win w
  let x := tget {} (s.win w).exts e
  let from_ := copyPlace c e (3 - x.lost)
  forEach (List.range 64) s (fun s k =>
    let off := 4096 * x.p + 64 * k
    sysAccess s (extGal c e) from_.1 (from_.2 + off) none false (.resyncRead w e off))

/-- The block that holds an offset is being copied. -/
def copying (s : State) (w e off : Nat) : Bool :=
  let x := tget {} (s.win w).exts e
  x.resync && x.p == off / 4096

/-- A line read from the survivor is written to the lost copy. -/
def resyncLine (s : State) (w e off : Nat) (data : Bytes) (poison : Bool) : State :=
  let c := s.cfg.win w
  let dest := copyPlace c e (tget {} (s.win w).exts e).lost
  if copying s w e off then sysAccess s (extGal c e) dest.1 (dest.2 + off) (some data) poison (.resyncWrite w e off) else s

/-- Lines of an extent (R177). -/
def extLines (c : WinCfg) (e : Nat) : Nat :=
  ((c.segs[e / 16]?).map (·.units)).getD 0 * 4194304

/-- Key of one copy of an extent in a sanitise. -/
def sanKey (e copy : Nat) : Nat :=
  2 * e + (copy - 1)

/-- Write the next line of one copy of an extent with the run's pattern (R196). -/
def sanWrite (s : State) (w e copy : Nat) : State :=
  let c := s.cfg.win w
  let k := tget 0 (s.win w).sanPos (sanKey e copy)
  let at_ := copyPlace c e copy
  if k < extLines c e then
    sysAccess s (extGal c e) at_.1 (at_.2 + 64 * k) (some ((List.range 8).flatMap (fun _ => leBytes 8 (s.win w).sanFill))) false
      (.sanitise w e copy)
  else s

/-- Every copy of every extent of a window. -/
def copiesOf (c : WinCfg) : List (Nat × Nat) :=
  (extents c).flatMap (fun e => if c.twinned then [(e.1, 1), (e.1, 2)] else [(e.1, 1)])

/-- Every line of every copy has been written. -/
def sanWritten (s : State) (w : Nat) : Bool :=
  (copiesOf (s.cfg.win w)).all (fun x => decide (extLines (s.cfg.win w) x.1 ≤ tget 0 (s.win w).sanPos (sanKey x.1 x.2)))

/-- 256 MiB units that a sanitise has written, all copies counted (R196, log 172). -/
def sanUnits (s : State) (w : Nat) : Nat :=
  sumOf (fun e => e.2 / 4194304) (s.win w).sanPos

/-- Forget the accesses of a window's earlier run. -/
def dropUses (s : State) (f : AccUse → Bool) : State :=
  forEach ((s.dir.accs.filter (fun a => f a.use)).map (·.id)) s dropAcc

/-! ## Sanitise (R189, R196) -/

/-- A bind fails with its sanitise (R189): the grotto is `UNBOUND` and the generation the bind took is no longer live. -/
def bindFailed (s : State) (n : Nat) : State :=
  let x := s.gr n
  let a := (s.cfg.gr n).agent
  let s := s.modGr n (fun y => { y with
    st := .unbound, change := s.drip, vppb := 255, gens := y.gens.filter (fun v => v.gen != y.gen || v.draining)
    sanWins := [], sanLeft := [] })
  let s := { s with cfg := { s.cfg with grottos := tmod {} s.cfg.grottos n (fun c => { c with bound := false, vppb := 255 }) } }
  let s := forEach (s.mem.wins.map (·.1)) s (fun s w => s.modWin w (fun v =>
    if v.sanGrotto == some n then { v with sanGrotto := none } else v))
  raise s (1300 + a) evGrottoDrained 2 284
    (evData (leBytes 1 4 ++ leBytes 1 x.gen ++ leBytes 2 n ++ leBytes 1 x.vppb ++ leBytes 1 0 ++ leBytes 2 0) s.drip)

/-- A sanitise run ends (R196). -/
def sanitiseEnd (s : State) (w : Nat) (good : Bool) : State :=
  let who := (s.win w).sanGrotto
  let s := s.modWin w (fun v => { v with sanSt := if good then 2 else 3, sanChange := s.drip, clean := good, sanGrotto := none })
  match who with
  | none => s
  | some n =>
    if good then bindSettle (s.modGr n (fun x => { x with sanLeft := x.sanLeft.filter (· != w) })) n
    else bindFailed s n

/-- A write of a sanitise has ended: the next line follows, or the run fails with its device (R196). -/
def sanStep (s : State) (w e copy : Nat) (good : Bool) : State :=
  if (s.win w).sanSt != 1 then s
  else if good then sanWrite (s.modWin w (fun v => { v with sanPos := tmod 0 v.sanPos (sanKey e copy) (· + 1) })) w e copy
  else sanitiseEnd s w false

/-! ## Requests that wait for the buffer (R190, R191) -/

/-- A waiting request may start: nothing ahead of it waits for its line, and a write has room. -/
def mayStart (s : State) (g : Nat) (p : Pkt) : Bool :=
  let ahead := (twinWaiting s g).takeWhile (· != p)
  !ahead.any (sameLine p) &&
    (match lineAt s (64 * p.dstGal + p.dstPort) p.addr with
     | some l => !isMemWrite p.op || twinRoom s g l
     | none => true)

/-- A waiting request of a PRIVATE window, or an access of a slice, that nothing can serve any longer. -/
def waitFails (s : State) (g : Nat) (p : Pkt) : State :=
  match accOf s p.id with
  | some a => finishAccess s a false [] false
  | none => failPrivate s g p.dstPort p

/-- A waiting request starts. -/
def startWaiting (s : State) (g : Nat) (p : Pkt) : State :=
  let s := { s with mem := { s.mem with twinWait := tmod [] s.mem.twinWait g (removeFirst (· == p)) } }
  match lineAt s (64 * p.dstGal + p.dstPort) p.addr with
  | none => waitFails s g p
  | some l =>
    if l.st.lost == 3 then waitFails s g p
    else if isMemWrite p.op then twinStart s g p l (if p.kind == .devReq then some p.id else none)
    else sendCopy s g { p with srcGal := g, srcPort := p.dstPort } l (if bitOf l.st.lost 0 then 2 else 1) p.id

/-- The requests that wait in a gallery are tried in their order. -/
def serveTwins (s : State) (g : Nat) : State :=
  forEach (twinWaiting s g) s (fun s p => if mayStart s g p then startWaiting s g p else s)

/-- Those of every gallery. -/
def serveAllTwins (s : State) : State :=
  forEach (s.mem.twinWait.map (·.1)) s serveTwins

/-- One of the switch's own accesses ends. -/
def accessEnd (s : State) (a : DevAcc) (good : Bool) (data : Bytes) (poison : Bool) : State :=
  match a.use with
  | .copy g tid c => serveTwins (twinCopyDone (dropAcc s a.id) g tid c good) g
  | .resyncRead w e off => if good then resyncLine (dropAcc s a.id) w e off data poison else dropAcc s a.id
  | .resyncWrite w e off =>
    let s := dropAcc s a.id
    if good && copying s w e off then modExt s w e (fun x => { x with done := x.done + 1 }) else s
  | .sanitise w e c => sanStep (dropAcc s a.id) w e c good
  | _ =>
    match (if good then none else retryCopy s a) with
    | some s => s
    | none => finishAccess s a good data poison

/-- A request at a device ends, whoever issued it. -/
def requestEnd (s : State) (port id : Nat) (p : Pkt) (good : Bool) (data : Bytes) (poison : Bool) : State :=
  match accOf s id with
  | some a => accessEnd s a good data poison
  | none => privateEnd s port p good data poison

/-- Take a request out of a DSP's list of outstanding ones. -/
def takeOut (s : State) (port id : Nat) : State :=
  s.modPrt port (fun p => { p with outs := p.outs.filter (fun o => o.id != id) })

/-- T_dev of a DSP (R164). -/
def devLimit (s : State) (port : Nat) : Nat :=
  (s.cfg.port port).devTo * 800 + 1024

/-- The first timeout of a one-second interval raises `EV_LINK_DEGRADED` (R164). -/
def noteTimeout (s : State) (port : Nat) : State :=
  let i := s.drip / 800000000
  let first := (s.prt port).toInterval != some i
  let s := s.modPrt port (fun p => { p with toInterval := some i, slow := true })
  if first then raiseLink s port evLinkDegraded 0x10 3 65535 else s

/-- `DEV_TIMEOUT` (R164): a request without a reply within T_dev is handled as for an unreachable device. Requests to a pass-through
device are not timed. -/
def execDevTimeout (port id : Nat) (s : State) : Out :=
  match (if isType3 s.cfg port then (s.prt port).outs.find? (fun o => o.id == id) else none) with
  | none => .next s
  | some o =>
    due (decide (o.sentAt + devLimit s port ≤ s.now)) s
      (let s := takeOut s port id
       let s := loseDevice (noteTimeout s port) port
       bindAll (serveAllTwins (requestEnd s port id o.pkt false [] false)))

/-- A CXL.mem reply of a pass-through device goes unchanged to the USP of its request (R160, R163). -/
def passReply (s : State) (port : Nat) (p : Pkt) (c : Cmp) (data : Bytes) (poison : Bool) : State :=
  sendToPort s (galOf port) (memReply (galOf port) (localOf port) p c (!data.isEmpty) (data.take 64) poison)

/-- `DEVICE_REPLY` (R164): a reply is matched to its request, or discarded and counted as late. A device that answers again after a
timeout is reachable (R101). A pass-through device's reply goes on as it is; a Type 3 device's ends its request. -/
def execDeviceReply (port id : Nat) (c : Cmp) (d : ReplyData) (s : State) : Out :=
  if !s.up port || (s.cfg.port port).role != 2 then .next s
  else
    let s := rxMsg s port d.bytes.length
    match (s.prt port).outs.find? (fun o => o.id == id) with
    | none => .next (countLate s port)
    | some o =>
      let s := takeOut s port id
      let s := notePkt s o.pkt (stampRun s 4)
      if !isType3 s.cfg port then .next (passReply s port o.pkt c d.bytes d.poison)
      else
        let back := (s.prt port).slow
        let s := s.modPrt port (fun p => { p with slow := false })
        let s := if back then writePinned s port else s
        .next (bindAll (requestEnd s port id o.pkt true d.bytes d.poison))

/-- The DSP at which a request is outstanding, and the request. -/
def outAt (s : State) (id : Nat) : Option (Nat × DevOut) :=
  s.port.ports.findSome? (fun e => (e.2.outs.find? (fun o => o.id == id)).map (fun o => (e.1, o)))

/-- An access of the switch's own completes; it ends as unreachable only once T_dev has passed, as the timeout it is (R164). -/
def completeAccess (s : State) (a : DevAcc) (ok : Bool) (data : Bytes) (poison : Bool) : Out :=
  match outAt s a.id with
  | none => .next s
  | some (b, o) =>
    if ok then .next (bindAll (accessEnd (takeOut s b a.id) a true data poison))
    else
      due (decide (o.sentAt + devLimit s b ≤ s.now)) s
        (bindAll (serveAllTwins (accessEnd (loseDevice (noteTimeout (takeOut s b a.id) b) b) a false data poison)))

/-- `DEVICE_ACCESS_COMPLETE` (R93): an access that a slice or the switch issued completes, or has timed out (log 13). -/
def execDeviceAccessComplete (id : Nat) (ok : Bool) (data : Bytes) (poison : Bool) (s : State) : Out :=
  match accOf s id with
  | none => .next s
  | some a => completeAccess s a ok data poison

/-- `TWIN_WRITE_COMPLETE` (R191): copy 1 (primary) or 2 (twin) of a twin write completes, or has timed out. -/
def execTwinWriteComplete (g id copy : Nat) (ok : Bool) (s : State) : Out :=
  match s.dir.accs.find? (fun a => a.use == .copy g id copy) with
  | none => .next s
  | some a => completeAccess s a ok [] false

/-! ## Resync (R193) -/

/-- Blocks of 4 KiB in an extent. -/
def extBlocks (s : State) (w e : Nat) : Nat :=
  (((s.cfg.win w).segs[e / 16]?).map (·.units)).getD 0 * 65536

/-- The extent is `RESYNCING`. -/
def resyncOn (s : State) (w e : Nat) : Bool :=
  (tget {} (s.win w).exts e).resync

/-- `RESYNC_BLOCK` (R193): the lines of block P have been copied from the survivor; P advances, the next block is begun, and host writes to
the block that is done go on (R190). -/
def execResyncBlock (win ext : Nat) (s : State) : Out :=
  let x := tget {} (s.win win).exts ext
  due (resyncOn s win ext && decide (x.p < extBlocks s win ext) && decide (64 ≤ x.done)) s
    (let s := (modExt s win ext (fun x => { x with p := x.p + 1, done := 0 })).modWin win (fun v => { v with copied := (v.copied + 1) % 2 ^ 64 })
     serveAllTwins (if x.p + 1 < extBlocks s win ext then copyBlock s win ext else s))

/-- `RESYNC_END` (R193): the extent is `TWINNED` again; when no extent is `DEGRADED` or `RESYNCING`, the event is raised. -/
def execResyncEnd (win ext : Nat) (s : State) : Out :=
  let x := tget {} (s.win win).exts ext
  due (x.resync && x.p == extBlocks s win ext) s
    (let s := modExt s win ext (fun _ => {})
     let s := s.modWin win (fun v => { v with resynced := v.resynced ++ [ext] })
     let es := extents (s.cfg.win win)
     let lostOn := fun (b : Nat) => es.any (fun e => copyOn e b != 0 && (tget {} (s.win win).exts e.1).lost &&& copyOn e b != 0)
     serveAllTwins (resyncOver (s.modWin win (fun v => { v with raised := v.raised.filter lostOn })) win))

/-! ## The end of a sanitise (R196) -/

/-- A device of a window cannot be reached. -/
def deviceGone (s : State) (w : Nat) : Bool :=
  (copiesOf (s.cfg.win w)).any (fun x => unreachable s (copyPlace (s.cfg.win w) x.1 x.2).1)

/-- `SANITIZE_END` (R196): every line is written, or a device is lost. -/
def execSanitizeEnd (win : Nat) (ok : Bool) (s : State) : Out :=
  due ((s.win win).sanSt == 1 && (if ok then sanWritten s win else deviceGone s win)) s (sanitiseEnd s win ok)

/-- Running sanitises that need a lost device end as `FAILED` (R196). -/
def failSanitises (s : State) (port : Nat) : State :=
  forEach (s.mem.wins.map (·.1)) s (fun s w =>
    if (s.win w).sanSt == 1 && (extents (s.cfg.win w)).any (fun e => copyOn e port != 0) then sanitiseEnd s w false else s)

/-! ## Removed windows (R195) -/

/-- The removed window under sweep. -/
def removedOf (s : State) (w : Nat) : Option Removed :=
  s.mem.removed.find? (fun r => r.win == w)

/-- A line of a gallery lies in a removed window. -/
def inRemoved (r : Removed) (g k : Nat) : Bool :=
  (lineIn r.win r.cfg r.exts true (keyPort g k) (keyDpa k) 0 r.cfg.segs).isSome

/-- The stash lines of a slice that lie in a removed window and have no entry. -/
def orphans (s : State) (r : Removed) (g sl : Nat) : List StashLine :=
  (s.dir.stash.filter (fun e => e.1 / 65536 == g)).flatMap (fun e =>
    e.2.filter (fun l => inRemoved r g l.key && (slicesFor s g l.key).contains sl && (homeEntry s g l.key).isNone))

/-- The sets of a slice the removal has to act on. -/
def removeHits (s : State) (r : Removed) (g sl : Nat) : List Nat :=
  sweepHits s g sl (fun e => inRemoved r g e.key) ++ (orphans s r g sl).map (fun l => keySet l.key)

/-- A stash line without an entry is written to the device, or discarded while pinned (R101, R195). -/
def removeOrphan (g sl : Nat) (s : State) (l : StashLine) : State :=
  if l.pinned.isSome || lineUnreachable s g l.key then
    lostWrite (freeStash s g l.key) (accPkt s g l.key true [] false true none)
  else stashOut s g sl l.key

/-- `WINDOW_SWEEP_STEP` (R195): one set of one slice. -/
def execWindowSweepStep (win g sl set : Nat) (s : State) : Out :=
  match removedOf s win with
  | none => .next s
  | some r =>
    let next := tget 0 r.sweep (sweepKey s g sl)
    let es := (sweepEntries s g sl set).filter (fun h => inRemoved r g h.2.key)
    due (r.cfg.shared && (activeSlices s).contains (g, sl) && sweepMay next set (removeHits s r g sl) &&
        es.all (fun h => h.2.txn.isNone)) s
      (let up := { r with sweep := tput 0 r.sweep (sweepKey s g sl) (set + 1) }
       let os := (orphans s r g sl).filter (fun l => keySet l.key == set)
       let s := { s with mem := { s.mem with removed := replaceFirst (fun x => x.win == win) (fun _ => up) s.mem.removed } }
       let s := forEach es s (fun s h => progress (startEvict s g h.1 h.2 .removed none (evictTargets s g h.2)) g h.1 h.2.key)
       forEach os s (removeOrphan g sl))

/-- No SHARED window has an extent on any device of a gallery: its blind sets end (R130). -/
def endBlind (s : State) (g : Nat) : State :=
  let shared := s.cfg.wins.any (fun e => e.2.live && e.2.shared && (extents e.2).any (fun x => galOf x.2.1 == g || galOf x.2.2 == g)) ||
    s.mem.removed.any (fun r => r.cfg.shared && (extents r.cfg).any (fun x => galOf x.2.1 == g || galOf x.2.2 == g))
  if shared then s
  else { s with dir := { s.dir with blind := s.dir.blind.filter (fun e => e.1 / 65536 / 9 != g) } }

/-- `WINDOW_REMOVE_SWEEP_END` (R195): the sweep and the window's hold-buffer lines are done, and its extents are free. -/
def execWindowRemoveSweepEnd (win : Nat) (s : State) : Out :=
  match removedOf s win with
  | none => .next s
  | some r =>
    let swept := (activeSlices s).all (fun p => (removeHits s r p.1 p.2).isEmpty)
    let held := s.mem.twins.any (fun e => e.2.any (fun t => t.win == win)) ||
      s.mem.twinWait.any (fun e => e.2.any (fun p => inRemoved r e.1 (keyOf (64 * p.dstGal + p.dstPort) p.addr)))
    due (swept && !held) s
      (let s := { s with mem := { s.mem with removed := removeFirst (fun x => x.win == win) s.mem.removed } }
       forEach (List.range 8) s endBlind)

end Sys2Proof.Machine
end

