-- ==== Sys2Proof/Machine/Egress.lean ====
section
/-!
DEFINITION. Egress scheduling (R222-R237), late replies (R186), bad packets at egress (R85, R86, R167), and the start of an exit
from a low-power state (R145, R146).
-/

namespace Sys2Proof.Machine

/-! ## Entering (R146, R186, R224, R226) -/

/-- Report a discarded grant to the slice that sent it (R123, R186). -/
def reportGrant (s : State) (p : Pkt) : State :=
  if p.kind == .memRsp && p.sys && p.cmp != .none then
    { s with dir := { s.dir with
        reports := s.dir.reports ++ [{ g := p.id / 9, sl := p.id % 9, agent := p.agent, key := p.key }] } }
  else s

/-- A reply is a CXL.mem reply or a CXL.io completion. -/
def isReply (p : Pkt) : Bool :=
  p.kind == .memRsp || p.kind == .ioCpl

/-- A reply whose generation is live no longer (R186). -/
def isLate (s : State) (b : Nat) (p : Pkt) : Bool :=
  s.role b == 1 && isReply p && p.gv && !genLive (s.gr p.grotto) p.gen

/-- Free the egress charge of a packet. -/
def freePkt (s : State) (b : Nat) (p : Pkt) : State :=
  freeEg s (galOf b) (localOf b) p.cls (cellCount p)

/-- Discard a late reply (R186). -/
def dropLate (s : State) (b : Nat) (p : Pkt) : State :=
  let s := countGal (freePkt s b p) (galOf b) 22 1
  let s := s.modGr p.grotto (fun x => { x with late := x.late + 1 })
  replyGone (reportGrant s p) p

/-- The fair-stage queue of a packet (R224). -/
def queueOf (s : State) (b : Nat) (p : Pkt) : Nat :=
  if s.role b != 2 then 0
  else if p.sys then (s.cfg.sch b).sysQ
  else
    match tget 0 (s.cfg.sch b).map p.agent with
    | 0 => p.agent % 64
    | v => v - 1

/-- The later of two tags modulo 2^48 (R228). -/
def tagMax (a b : Nat) : Nat :=
  if (a + 2 ^ 48 - b) % 2 ^ 48 < 2 ^ 47 then a else b

/-- One tag is before another (R228). -/
def tagLt (a b : Nat) : Bool :=
  a != b && decide ((b + 2 ^ 48 - a) % 2 ^ 48 < 2 ^ 47)

/-- Enqueue a packet in the fair stage with its tags (R226). -/
def fairAdd (share q : Nat) (p : Pkt) (x : Sched) : Sched :=
  let f := tget {} x.queues q
  let st := if f.pkts.isEmpty then tagMax x.v f.fLast else f.fLast
  let fin := (st + (cellCount p * 4194304 + share - 1) / share) % 2 ^ 48
  { x with
    queues := tput {} x.queues q { f with pkts := f.pkts ++ [{ pkt := p, s := st, f := fin, seq := x.seq }], fLast := fin }
    seq := x.seq + 1 }

/-- Put a packet into the stage its class and port give (R222). -/
def enqueuePkt (s : State) (b : Nat) (p : Pkt) : State :=
  if s.role b == 4 then s.modSch b (fun x => { x with plain := x.plain ++ [p] })
  else if p.cls == 2 then s.modSch b (fun x => { x with mrsp := x.mrsp ++ [p] })
  else if p.cls == 1 then s.modSch b (fun x => { x with msnp := x.msnp ++ [p] })
  else
    let q := queueOf s b p
    s.modSch b (fairAdd (max 1 (s.cfg.queue b q).share) q p)

/-- A packet at the egress of a port in L1 or deeper starts the exit (R146). -/
def startExit (s : State) (b : Nat) : State :=
  match (s.prt b).link with
  | .l1 => s.modPrt b (fun x => { x with exiting := true })
  | .l11 => s.modPrt b (fun x => { x with exiting := true, clkreq := true })
  | .l12 => s.modPrt b (fun x => { x with exiting := true, clkreq := true })
  | _ => s

/-- Packets handed on for a port and not yet taken. -/
def egHead (s : State) (b : Nat) : List Pkt :=
  tget [] (s.gal (galOf b)).egIn (localOf b)

/-- Take the first of them. -/
def egPop (s : State) (b : Nat) : State :=
  s.modGal (galOf b) (fun x => { x with egIn := tmod [] x.egIn (localOf b) (·.drop 1) })

/-- Nothing waits in any egress queue of a port. -/
def egressEmpty (s : State) (b : Nat) : Bool :=
  let x := s.sch b
  x.mrsp.isEmpty && x.msnp.isEmpty && x.plain.isEmpty && x.sending.isEmpty && x.queues.all (fun e => e.2.pkts.isEmpty) && (egHead s b).isEmpty

/-- The idle timer of R146 runs from when the queues became empty: after a step from `old`. -/
def noteEmpty (old s : State) (b : Nat) : State :=
  if !egressEmpty old b && egressEmpty s b then s.modPrt b (fun x => { x with emptySince := s.now }) else s

/-- `EGRESS_ENQUEUE` (R226): the next packet handed on for a port that is up enters its stage, or is discarded as late (R186). -/
def execEgressEnqueue (port : Nat) (s : State) : Out :=
  match (if s.up port then egHead s port else []) with
  | [] => .next s
  | p :: _ =>
    let old := s
    let s := egPop s port
    if isLate s port p then .next (noteEmpty old (dropLate s port p) port)
    else .next (startExit (enqueuePkt s port p) port)

/-! ## Picking (R223, R225, R227, R230, R231, R234) -/

/-- Bits of a flit by mode (R155): 2,048, or 544 for the 68-byte mode. -/
def flitBits (mode : Nat) : Nat :=
  if mode == 3 then 544 else 2048

/-- The rate of a code in units of 0.5 GT/s (R131). -/
def rateHalf : Nat → Nat
  | 0 => 5
  | 1 => 10
  | 2 => 16
  | 3 => 32
  | 4 => 64
  | 5 => 128
  | _ => 256

/-- Lanes that carry flits: in L0p half the link's, which for a native x2 port is logical lane 0 (R145; log 14). -/
def lanesNow (x : Port) : Nat :=
  if x.link == .l0p then max 1 (x.lanes / 2 ^ x.narrow) else max 1 x.lanes

/-- T_flit in 1/3200 drip (R234). -/
def tFlit (x : Port) : Nat :=
  flitBits x.flit * 5120 / (lanesNow x * rateHalf x.rate)

/-- The token count of a shaped queue now, in eighths of a byte (R231). -/
def tokensNow (c : QCfg) (f : FairQ) (now : Nat) : Int :=
  min ((c.burst * 8192 : Nat) : Int) (f.tokens + ((c.rate * (now - f.tokAt) : Nat) : Int))

/-- The shaper permits a queue. -/
def shaperOk (s : State) (b q : Nat) : Bool :=
  let c := s.cfg.queue b q
  c.rate == 0 || decide (0 ≤ tokensNow c (tget {} (s.sch b).queues q) s.now)

/-- Another queue holds an older packet of this packet's agent, left from before a remap (R230). -/
def remapWaits (x : Sched) (q : Nat) (p : FairPkt) : Bool :=
  x.queues.any (fun e => e.1 != q && e.2.pkts.any (fun o => o.pkt.agent == p.pkt.agent && o.pkt.sys == p.pkt.sys && decide (o.seq < p.seq)))

/-- Whether a packet at place `k` of its queue may be the head (R225). -/
def headOk (credit : Nat) (pkts : List FairPkt) (k : Nat) (p : FairPkt) : Bool :=
  let older := pkts.take k
  bitOf credit p.pkt.cls && !older.any (fun o => o.pkt.cls == p.pkt.cls) &&
    !((p.pkt.cls == 4 || p.pkt.cls == 5) && older.any (fun o => o.pkt.cls == 3))

/-- The head packet of a queue with its place. -/
def headOf (credit : Nat) (x : Sched) (q : Nat) : Option (Nat × FairPkt) :=
  let pkts := (tget {} x.queues q).pkts
  (List.range pkts.length).findSome? (fun k =>
    match pkts[k]? with
    | some p => if headOk credit pkts k p then some (k, p) else none
    | none => none)

/-- N of a queue's head packet (R234). -/
def flitsOf (i : PickIn) (q : Nat) : Nat :=
  ((i.each.find? (fun e => e.1 == q)).map (·.2)).getD i.flits

/-- The gate's start test for the head packet of a queue (R234); a time-unsure island holds every gate open (R21). -/
def gatePasses (s : State) (b q : Nat) (i : PickIn) : Bool :=
  s.unsure (quadIsl b) || startOk (s.sch b) q s.drip (i.frac % 3200) (flitsOf i q * tFlit (s.prt b))

/-- A queue may be picked now. -/
def eligible (s : State) (b : Nat) (i : PickIn) (q : Nat) : Option (Nat × FairPkt) :=
  match headOf i.credit (s.sch b) q with
  | none => none
  | some (k, p) => if !remapWaits (s.sch b) q p && shaperOk s b q && gatePasses s b q i then some (k, p) else none

/-- The order of preference of R227. -/
def better (a b : Nat × Nat × FairPkt) : Bool :=
  tagLt a.2.2.s b.2.2.s ||
    (a.2.2.s == b.2.2.s && (tagLt a.2.2.f b.2.2.f || (a.2.2.f == b.2.2.f && decide (a.1 < b.1))))

/-- The fair stage's choice: queue, place, packet (R227). -/
def fairChoice (s : State) (b : Nat) (i : PickIn) : Option (Nat × Nat × FairPkt) :=
  ((s.sch b).queues.filterMap (fun e => (eligible s b i e.1).map (fun h => (e.1, h.1, h.2)))).foldl
    (fun a c => match a with
      | none => some c
      | some x => if better c x then some c else some x) none

/-- The strict stage's choice: `MRSP` first, each with link credit (R223). -/
def strictChoice (x : Sched) (credit : Nat) : Option Pkt :=
  match (if bitOf credit 2 then x.mrsp.head? else none) with
  | some p => some p
  | none => if bitOf credit 1 then x.msnp.head? else none

/-! ## Stalled queues (R236) -/

/-- Some entry of the list in force opens a queue. -/
def listOpens (x : Sched) (d q : Nat) : Bool :=
  match gateAt x d with
  | none => true
  | some l => l.entries.any (fun e => bitOf e.2 q)

/-- A queue's head has failed the start test through a whole cycle: it is `STALLED`, once until it sends (R236). -/
def judgeStall (b : Nat) (s : State) (q : Nat) : State :=
  let x := s.sch b
  let f := tget {} x.queues q
  match gateAt x s.drip, f.failSince with
  | some l, some t =>
    if !f.stalled && decide (t + cycleOf l ≤ s.now) && listOpens x s.drip q then
      raiseLink (s.modSch b (fun x => { x with queues := tput {} x.queues q { f with stalled := true } })) b evLinkDegraded 0x11 2 65535
    else s
  | _, _ => s

/-- Follow the start test of one queue's head (R236). -/
def watchStall (b : Nat) (fails : Nat → Bool) (s : State) (q : Nat) : State :=
  let x := s.sch b
  let f := tget {} x.queues q
  let set := fun (v : Option Nat) => s.modSch b (fun x => { x with queues := tput {} x.queues q { f with failSince := v } })
  if (gateAt x s.drip).isNone || f.pkts.isEmpty || !fails q then set none
  else if f.failSince.isNone then set (some s.now)
  else judgeStall b s q

/-- Follow every queue of a port. -/
def watchStalls (s : State) (b : Nat) (i : PickIn) : State :=
  forEach ((s.sch b).queues.map (·.1)) s
    (watchStall b (fun q => (headOf i.credit (s.sch b) q).isSome && !gatePasses s b q i))

/-! ## Sending (R85, R86, R164, R167) -/

/-- A packet that is bad before start and carries no data is not sent, nor is a bad CXL.io packet (R86, R167); a posted write of the
service function's is lost as any other. -/
def dropBad (s : State) (b : Nat) (p : Pkt) : State :=
  let g := galOf b
  match p.kind with
  | .ioPosted => postedLost s b p
  | .msi => postedLost s b p
  | .ringWrite => writeLeft (postedLost s b p) b p
  | .ioNonPosted => sendToPort (countDropped s (64 * p.srcGal + p.srcPort)) g (ioCompletion g (localOf b) p 4 [])
  | .ioCpl => replyGone (countDropped s (64 * p.srcGal + p.srcPort)) p
  | .memReq => countDropped s p.usp
  | .devReq => countDropped s p.usp
  | .memRsp => replyGone (reportGrant s p) p
  | _ => s

/-- The transmitter's counts of a packet started (R364, R365): its flits, and the message unless it is nullified. -/
def countSent (s : State) (b flits : Nat) (p : Pkt) (whole : Bool) : State :=
  let s := pulse (countPort s b 1 flits) (galOf b) 0x0D flits (fun q => q % 64 == localOf b)
  let s := traceHeader s (galOf b) 3 255 p (if p.hdr == 0 then headerBits ((cellsOf p 0 0).headD {}) else p.hdr)
  if whole then countPort (countPort s b 3 1) b 5 p.data.length else s

/-- A request that goes to a device is kept until its reply (R163, R164); the switch's own enumeration is not. -/
def noteOut (s : State) (b : Nat) (p : Pkt) : State :=
  if s.role b == 2 && (p.kind == .memReq || p.kind == .devReq || (p.kind == .ioNonPosted && !p.sys)) then
    s.modPrt b (fun x => { x with outs := x.outs ++ [{ id := p.id, sentAt := s.now, pkt := p }] })
  else s

/-- A packet has left, or is lost there: poisoned when bad with data of CXL.mem or CXL.cache, not sent when bad without or of CXL.io,
and nullified when a CXL.io packet meets an error during transmission (R86). -/
def leavePkt (s : State) (b : Nat) (e : Sending) (during : Bool) : State :=
  let p := e.pkt
  let s := freePkt s b p
  if isIoKind p && p.bad && !during then dropBad s b p
  else if isIoKind p && (p.bad || e.uncorr) then dropBad (countSent s b e.flits p false) b p
  else
    let bad := p.bad || e.uncorr
    if bad && !p.hasData then dropBad s b p
    else
      let p := { p with poison := p.poison || bad, bad := false }
      let s := countSent s b e.flits p true
      let s := noteLeave (toPort (noteOut s b p) b p) (s.role b == 2) p
      let s := if s.role b == 1 && isReply p then replyGone s p else s
      if p.kind == .ringWrite then writeLeft s b p else s

/-- Send a packet of `n` flits; one that has only begun stays in the transmitter until its last cell has come (R85). -/
def sendPkt (s : State) (b n : Nat) (i : PickIn) (p : Pkt) : State :=
  let e : Sending := { pkt := p, flits := n, uncorr := i.uncorr }
  if p.stage == .begun then s.modSch b (fun x => { x with sending := x.sending ++ [e] }) else leavePkt s b e false

/-- What began at a port and has become whole leaves. -/
def settleSent (s : State) (b : Nat) : State :=
  let done := (s.sch b).sending.filter (fun e => e.pkt.stage != .begun)
  if done.isEmpty then s
  else
    let s := s.modSch b (fun x => { x with sending := x.sending.filter (fun e => e.pkt.stage == .begun) })
    forEach done s (fun s e => leavePkt s b e true)

/-- Start a fair packet: its charge, its tags, its flits (R223, R227, R231). -/
def startFair (s : State) (b : Nat) (i : PickIn) (q k : Nat) (p : FairPkt) : State :=
  let c := s.cfg.queue b q
  let len := flitsOf i q * tFlit (s.prt b)
  let s := s.modSch b (fun x =>
    let f := tget {} x.queues q
    let f := if c.rate == 0 then f
      else { f with tokens := tokensNow c f s.now - ((cellCount p.pkt * 512 : Nat) : Int), tokAt := s.now }
    { x with
      v := tagMax x.v p.s, strictRun := 0, busy := 3200 * s.now + i.frac % 3200 + len
      queues := tput {} x.queues q { f with pkts := f.pkts.eraseIdx k, stalled := false, failSince := none } })
  sendPkt s b (flitsOf i q) i p.pkt

/-- Start a strict packet. -/
def startStrict (s : State) (b : Nat) (i : PickIn) (p : Pkt) : State :=
  let s := s.modSch b (fun x =>
    let x := { x with strictRun := min 16 (x.strictRun + 1) }
    if p.cls == 2 then { x with mrsp := x.mrsp.drop 1 } else { x with msnp := x.msnp.drop 1 })
  sendPkt s b i.flits i p

/-- The flits of a fair packet are still under way at a boundary. -/
def fairBusy (s : State) (b : Nat) (i : PickIn) : Bool :=
  !(s.sch b).sending.isEmpty || decide (3200 * s.now + i.frac % 3200 < (s.sch b).busy)

/-- The fair stage's pick, while no fair packet's flits are still under way. -/
def fairNow (s : State) (b : Nat) (i : PickIn) : Option (Nat × Nat × FairPkt) :=
  if fairBusy s b i then none else fairChoice s b i

/-- The strict stage's pick: while a fair packet's flits are under way only in a slot they leave unused (R223). -/
def strictNow (s : State) (b : Nat) (i : PickIn) : Option Pkt :=
  if fairBusy s b i && !i.slot then none else strictChoice (s.sch b) i.credit

/-- One pick (R223). -/
def pickAt (s : State) (b : Nat) (i : PickIn) : State :=
  if s.role b == 4 then
    match (s.sch b).plain with
    | [] => s
    | p :: rest => if bitOf i.credit p.cls then sendPkt (s.modSch b (fun x => { x with plain := rest })) b i.flits i p else s
  else
    match strictNow s b i, fairNow s b i with
    | some p, none => startStrict s b i p
    | some p, some (q, k, f) => if 16 ≤ (s.sch b).strictRun then startFair s b i q k f else startStrict s b i p
    | none, some (q, k, f) => startFair s b i q k f
    | none, none => s

/-- Gate lists whose drip has come take force (R237). -/
def settleSched (s : State) (b : Nat) : State :=
  s.modSch b (fun x => settleGates x s.drip)

/-- `EGRESS_PICK` (R227): a flit boundary of a port in L0. -/
def execEgressPick (port : Nat) (i : PickIn) (s : State) : Out :=
  let l := (s.prt port).link
  if !s.up port || !(l == .l0 || l == .l0p) then .next s
  else
    let s := watchStalls (settleSched (settleSent s port) port) port i
    .next (bindAll (noteEmpty s (pickAt s port i) port))

/-- `GATE_ENTRY_CHANGE` (R233): an entry boundary of the list in force, or the drip at which a list takes force, after a commit of the same edge
(R23). A head that has failed its test through a whole cycle by then is judged, where its port makes tests (R236). -/
def execGateEntryChange (port : Nat) (s : State) : Out :=
  let l := (s.prt port).link
  due (decide (port < 512) && !launchWaits s) s
    (let s := settleSched s port
     if s.up port && (l == .l0 || l == .l0p) then forEach ((s.sch port).queues.map (·.1)) s (judgeStall port) else s)

end Sys2Proof.Machine
end

