-- ==== Sys2Proof/Machine/Lanes.lean ====
section
/-!
DEFINITION. Lanes (R131-R149): equalisation entries, continuous adaptation, saved values, lane references, low-power states and
margining.
-/

namespace Sys2Proof.Machine

/-! ## Equalisation (R138-R143) -/

/-- The default entry (R139). -/
def defaultEq (rate : Nat) : EqEnt :=
  { preset := if 5 ≤ rate then 0 else 4 }

/-- The entry of a lane at a rate: loaded, or the default (R139). -/
def eqOf (s : State) (lane rate : Nat) : EqEnt :=
  match tget none s.port.eq (8 * lane + rate) with
  | some e => e
  | none => defaultEq rate

/-- The twelve taps of a lane: DFE 1-10, then floating A and B. -/
def tapsOf (l : Lane) : List Tap :=
  (l.taps ++ List.replicate 12 ({} : Tap)).take 12

/-- The limit of a tap. -/
def tapLimit (e : EqEnt) (i : Nat) : Nat :=
  if i < 10 then e.limits.getD i 127 else e.fLimit

/-- A tap is frozen. -/
def tapFrozen (e : EqEnt) (i : Nat) : Bool :=
  bitOf e.freeze (2 + i)

/-- Where the two floating taps are placed for wished positions: inside the window, and never at the same position (R142). -/
def placeFloats (lo hi a b : Nat) : Nat × Nat :=
  let a := min (max a lo) hi
  let b := min (max b lo) hi
  if a != b then (a, b) else if a < hi then (a, a + 1) else (a, a - 1)

/-- Two positions of a window; those with the largest interference are the channel's: free values (log 2). -/
def drawFloats (s : State) (lo hi : Nat) : (Nat × Nat) × State :=
  let (u, s) := draw s
  let (v, s) := draw s
  (placeFloats lo hi (lo + u % (hi - lo + 1)) (lo + v % (hi - lo + 1)), s)

/-! ## The lanes of a bundle (R136) -/

/-- Lanes of a bundle's width. -/
def bundleLanes (s : State) (b : Nat) : Nat :=
  if s.role b == 4 then 2 else widthLanes (s.cfg.port b).width

/-- The physical lanes of a bundle. -/
def lanesOf (s : State) (b : Nat) : List Nat :=
  (List.range (bundleLanes s b)).map (fun k => 2 * b + k)

/-- The bundle of a lane. -/
def laneBundle (s : State) (lane : Nat) : Nat :=
  if lane / 2 == s.mgmt.bootPort then lane / 2 else bundleOf s.cfg (lane / 2)

/-- Logical number of a physical lane (R136). -/
def logicalLane (s : State) (b lane : Nat) : Nat :=
  if (s.prt b).partner.reversed then 2 * b + bundleLanes s b - 1 - lane else lane - 2 * b

/-- A lane is one of those its link uses. -/
def laneUsed (s : State) (b lane : Nat) : Bool :=
  decide (logicalLane s b lane < (s.prt b).lanes)

/-- A lane is in L0: its link is, and in L0p it is one of the lanes that stay active. -/
def laneInL0 (s : State) (lane : Nat) : Bool :=
  let b := laneBundle s lane
  let x := s.prt b
  s.up b && laneUsed s b lane && (x.link == .l0 || (x.link == .l0p && decide (logicalLane s b lane < lanesNow x)))

/-- The rules for transmitter coefficients with FS = 63 and LF = 15 (the PCI Express specification's, log 15). -/
def coefOk (m2 m1 p1 : Int) : Bool :=
  let a := m2.natAbs
  let b := m1.natAbs
  let c := p1.natAbs
  decide (a ≤ 7) && decide (b ≤ 15) && decide (a + b + c ≤ 63) && decide (15 + 2 * (b + c) ≤ 63)

/-- The transmitter an equalisation ends with: the entry's starting point, or the coefficients the partner asked for unless the
transmitter is frozen (R141, R142). -/
def txOf (e : EqEnt) (ask : Option (Int × Int × Int)) : Tx :=
  let start := if e.txMode == 1 then Tx.coefs e.cM2 e.cM1 e.cP1 else .preset e.preset
  match ask with
  | some (a, b, c) => if bitOf e.freeze 0 || !coefOk a b c then start else .coefs a b c
  | none => start

/-- A new equalisation of a lane starts from its entry (R141, R143); a tap that starts at its limit is at it from now on (R144). -/
def equalise (s : State) (b lane rate : Nat) : State :=
  let e := eqOf s lane rate
  let ask := (s.prt b).partner.coefs[logicalLane s b lane]?
  let (pos, s) := drawFloats s e.floatLo e.floatHi
  let vals := e.seeds ++ e.fSeeds
  s.modLane lane (fun l => { l with
    ctle := e.ctleStart, ctleAt := s.now, lastUpd := s.now, posA := pos.1, posB := pos.2, tx := txOf e ask
    winLo := e.floatLo, winHi := e.floatHi
    taps := (List.range 12).map (fun i =>
      let v := vals.getD i 0
      { val := v, pinnedSince := if !tapFrozen e i && v.natAbs == tapLimit e i then some s.now else none }) })

/-! ## Leaving and entering L0 (R137, R143, R145, R148) -/

/-- The lanes of a bundle that are in L0. -/
def activeLanes (s : State) (b : Nat) : List Nat :=
  (lanesOf s b).filter (laneInL0 s)

/-- Some lanes of a bundle leave L0: their values are saved for the rate, and their margining ends (R143, R148). -/
def leaveLanes (s : State) (b : Nat) (ks : List Nat) : State :=
  let r := (s.prt b).rate
  forEach ks s (fun s k => s.modLane k (fun l => { l with
    saved := tput {} l.saved r { ctle := l.ctle, taps := (tapsOf l).map (·.val), posA := l.posA, posB := l.posB }
    margin := l.margin.map (fun m => { m with aborted := true })
    partnerMargin := false, partnerWaits := false }))

/-- Every lane of a bundle that is in L0 leaves it. -/
def leaveL0 (s : State) (b : Nat) : State :=
  leaveLanes s b (activeLanes s b)

/-- Some lanes of a bundle resume their saved values (R143). -/
def resumeLanes (s : State) (b : Nat) (ks : List Nat) : State :=
  let r := (s.prt b).rate
  forEach ks s (fun s k => s.modLane k (fun l =>
    let v := tget {} l.saved r
    { l with
      ctle := v.ctle, posA := v.posA, posB := v.posB, lastUpd := s.now
      taps := (List.range 12).map (fun i => { (tapsOf l).getD i {} with val := v.taps.getD i 0 }) }))

/-- The floating taps of a bundle are placed again, in the window of each lane's last equalisation (R141, R142). -/
def replaceFloats (s : State) (b : Nat) : State :=
  forEach (lanesOf s b) s (fun s k =>
    let (pos, s) := drawFloats s (s.lane k).winLo (s.lane k).winHi
    s.modLane k (fun l => { l with posA := pos.1, posB := pos.2 }))

/-- The skew of each lane is measured at an entry to L0 from Detect or Recovery (R137): the board's, a free value (log 2). -/
def measureSkew (s : State) (b : Nat) : State :=
  forEach (lanesOf s b) s (fun s k =>
    let (v, s) := draw s
    s.modLane k (fun l => { l with skew := v }))

/-- A lane's reference input (R2). -/
def refOfLane (lane : Nat) : Nat :=
  lane / 32

/-- A retraining or re-enabled port's lanes, and those entering L1.1 or L1.2, take their input if it is good, else the internal
reference (R133, R134). -/
def returnRefs (s : State) (b : Nat) : State :=
  forEach (lanesOf s b) s (fun s k => s.modLane k (fun l => { l with internal := !(s.refclk (refOfLane k)).good }))

/-- Outside L0 a port makes no start test, and a run of failures ends (R236). -/
def untested (x : Sched) : Sched :=
  { x with queues := x.queues.map (fun e => (e.1, { e.2 with failSince := none })) }

/-- A link takes a state, with the drip of its change (R171). -/
def setLink (s : State) (b : Nat) (l : LinkSt) : State :=
  let s := if l == .l0 || l == .l0p then s else s.modSch b untested
  s.modPrt b (fun x => if x.link == l then x else { x with link := l, change := s.drip })

/-- Enter L1, L1.1 or L1.2 from L0 or L0p (R145). -/
def enterLow (s : State) (b : Nat) (l : LinkSt) : State :=
  let s := leaveL0 s b
  let s := if l == .l1 then s else (returnRefs s b).modPrt b (fun x => { x with clkreq := false, refloat := true })
  (setLink s b l).modPrt b (fun x => { x with exiting := false, narrow := 0 })

/-- Enter L0p, or narrow further in it: the width halves, and the lanes that become idle leave L0 (R145). -/
def narrowLink (s : State) (b : Nat) : State :=
  let x := s.prt b
  let n := if x.link == .l0p then x.narrow + 1 else 1
  let idle := (activeLanes s b).filter (fun k => decide (max 1 (x.lanes / 2 ^ n) ≤ logicalLane s b k))
  (setLink (leaveLanes s b idle) b .l0p).modPrt b (fun x => { x with narrow := n, exiting := false })

/-- The link is in L0 on every lane: the lanes of `ks` resume, floating taps are placed again where that is owed, and the reference is on
(R142, R143, R145). -/
def reachL0 (s : State) (b : Nat) (ks : List Nat) : State :=
  let owed := (s.prt b).refloat
  let s := resumeLanes s b ks
  let s := if owed then replaceFloats s b else s
  (setLink s b .l0).modPrt b (fun x => { x with exiting := false, l0At := s.now, clkreq := true, refloat := false, narrow := 0 })

/-- The low-power state of a code: 1 L1, 2 L1.1, 3 L1.2, by their bits in `LP_STATES`. -/
def lowState : Nat → Option LinkSt
  | 1 => some .l1
  | 2 => some .l11
  | 3 => some .l12
  | _ => none

/-- Some stage holds a `GATE_LIST_SET` for a port (R146). -/
def gateStaged (s : State) (b : Nat) : Bool :=
  s.proto.stages.any (fun e => match e.2 with
    | some cs => cs.any (fun c => c.op == 0xC061 && fieldAt c.payload 0 2 == b)
    | none => false)

/-- `IDLE_TIMER_EXPIRY` (R146): every egress queue has been empty for the idle timer, and the port enters a low-power state it
offers. -/
def execIdleTimerExpiry (port target : Nat) (s : State) : Out :=
  let x := s.prt port
  let c := s.cfg.port port
  match lowState target with
  | none => .next s
  | some l =>
    due (s.up port && (x.link == .l0 || x.link == .l0p) && bitOf c.lp target && egressEmpty s port &&
        decide (x.emptySince + c.idleUs * 800 ≤ s.now) && decide (x.l0At + c.idleUs * 800 ≤ s.now) &&
        !(lanesOf s port).any (fun k => (s.lane k).margin.isSome || (s.lane k).partnerMargin) && !gateStaged s port) s
      (enterLow s port l)

/-! ## Adaptation (R141, R142, R144) -/

/-- The sign of a direction. -/
def signOf (v : Int) : Int :=
  if v < 0 then -1 else if v = 0 then 0 else 1

/-- One update of a tap: toward its limit from outside it, else by one unit within it; a frozen tap holds (R141, R142). -/
def tapStep (e : EqEnt) (i : Nat) (dir : Int) (now : Nat) (t : Tap) : Tap :=
  if tapFrozen e i then { t with pinnedSince := none }
  else
    let lim : Int := tapLimit e i
    let v := if t.val > lim then t.val - 1 else if t.val < -lim then t.val + 1
             else min lim (max (-lim) (t.val + signOf dir))
    let at_ := v == lim || v == -lim
    { t with val := v, pinnedSince := if at_ then (if t.pinnedSince.isNone then some now else t.pinnedSince) else none }

/-- One update of the CTLE code. -/
def ctleStep (e : EqEnt) (dir : Int) (c : Nat) : Nat :=
  if bitOf e.freeze 1 then c
  else if e.ctleMax < c then c - 1
  else if c < e.ctleMin then c + 1
  else ((min (e.ctleMax : Int) (max (e.ctleMin : Int) ((c : Int) + signOf dir))).toNat)

/-- `ADAPTATION_UPDATE` (R142): sign-sign LMS gives each tap a direction and the CTLE one. -/
def execAdaptationUpdate (lane : Nat) (dirs : List Int) (ctleDir : Int) (s : State) : Out :=
  let l := s.lane lane
  let e := eqOf s lane (s.prt (laneBundle s lane)).rate
  let move := decide (l.ctleAt + 65536 ≤ s.now)
  due (decide (lane < 1024) && laneInL0 s lane && decide (l.lastUpd + 1024 ≤ s.now)) s
    (s.modLane lane (fun l => { l with
      lastUpd := s.now
      taps := (List.range 12).map (fun i => tapStep e i (dirs.getD i 0) s.now ((tapsOf l).getD i {}))
      ctle := if move then ctleStep e ctleDir l.ctle else l.ctle
      ctleAt := if move then s.now else l.ctleAt }))

/-- `TAP_PINNED` (R144): a tap that is not frozen has been at its limit for a second; once until the lane next equalises. -/
def execTapPinned (lane tap : Nat) (s : State) : Out :=
  let b := laneBundle s lane
  let e := eqOf s lane (s.prt b).rate
  let t := (tapsOf (s.lane lane)).getD tap {}
  match (if lane < 1024 && tap < 12 && !t.raised then t.pinnedSince else none) with
  | none => .next s
  | some at_ =>
    due (decide (at_ + 800000000 ≤ s.now) && laneInL0 s lane && !tapFrozen e tap && t.val.natAbs == tapLimit e tap) s
      (raiseLink (s.modLane lane (fun l => { l with taps := (tapsOf l).set tap { t with raised := true } })) b evLinkDegraded 0x21 0 lane)

/-! ## `LANE_EQ_TABLE_LOAD` (R140) -/

/-- The 48 bytes of an entry. -/
def eqEntry (p : Bytes) (k : Nat) : Bytes :=
  (p.drop (4 + 48 * k)).take 48

/-- The entry that 48 bytes describe (R138). -/
def eqFrom (b : Bytes) : EqEnt :=
  { txMode := byteAt b 3, preset := byteAt b 4, cM2 := sfieldAt b 5 1, cM1 := sfieldAt b 6 1, cP1 := sfieldAt b 7 1,
    ctleStart := byteAt b 8, ctleMin := byteAt b 9, ctleMax := byteAt b 10, freeze := fieldAt b 12 2, floatLo := byteAt b 14,
    floatHi := byteAt b 15, seeds := (List.range 10).map (fun i => sfieldAt b (16 + i) 1),
    fSeeds := [sfieldAt b 26 1, sfieldAt b 27 1], limits := (List.range 10).map (fun i => byteAt b (28 + i)),
    fLimit := byteAt b 38 }

/-- A field of an entry is out of its range (R138, R140). -/
def eqBad (b : Bytes) : Bool :=
  let e := eqFrom b
  let rate := byteAt b 2
  decide (1023 < fieldAt b 0 2) || decide (rate < 2) || decide (6 < rate) || decide (1 < e.txMode) || decide (10 < e.preset) ||
    (decide (rate ≤ 4) && e.cM2 != 0) || (e.txMode == 1 && !coefOk e.cM2 e.cM1 e.cP1) ||
    decide (31 < e.ctleMax) || !(decide (e.ctleMin ≤ e.ctleStart) && decide (e.ctleStart ≤ e.ctleMax)) ||
    nonZero b 11 1 || decide (2 ^ 14 ≤ e.freeze) || decide (e.floatLo < 11) || decide (e.floatHi < e.floatLo + 1) ||
    decide (40 < e.floatHi) || e.limits.any (fun v => decide (127 < v)) || decide (127 < e.fLimit) ||
    (List.range 12).any (fun i => decide (tapLimit e i < ((e.seeds ++ e.fSeeds).getD i 0).natAbs)) || nonZero b 39 9

/-- Key of the entry that 48 bytes name. -/
def eqKey (b : Bytes) : Nat :=
  8 * fieldAt b 0 2 + byteAt b 2

/-- Some key occurs twice. -/
def repeats : List Nat → Bool
  | [] => false
  | x :: xs => xs.contains x || repeats xs

/-- The body of `LANE_EQ_TABLE_LOAD`: all entries or none. -/
def eqLoadBody (p : Bytes) (s : State) : Res :=
  let n := byteAt p 0
  let es := (List.range n).map (eqEntry p)
  guarded s
    [(stBusy, commitArmed s),
     (stBadParam, decide (n < 1) || decide (16 < n) || badLen p (4 + 48 * n) || nonZero p 1 3 || es.any eqBad || repeats (es.map eqKey))]
    (.reply { s with port := { s.port with eq := es.foldl (fun t b => tput none t (eqKey b) (some (eqFrom b))) s.port.eq } } stOk
      (leBytes 1 n ++ zeros 3))

/-- `LANE_EQ_TABLE_LOAD` (R140). -/
def execLaneEqTableLoad (t : Transport) (r : Req) (s : State) : Out :=
  vendorCmd 0xC023 t r (permits .owner) (fun s _ => eqLoadBody r.payload s) s

/-! ## Margining (R147, R148) -/

/-- The margining capabilities the switch advertises for a lane (R147): independent error sampler, independent left and right, independent
up and down, `NumTimingSteps`, `MaxTimingOffset`, `NumVoltageSteps`, `MaxVoltageOffset`, `SampleReportingMethod`, `MaxLanes`. -/
def marginCaps (s : State) (lane : Nat) : List Nat :=
  [1, 1, 1, 31, 40, 63, 25, 1, (s.prt (laneBundle s lane)).lanes]

/-- The steps a margin may go (R147, R148): timing for action 1, else voltage. -/
def marginSteps (s : State) (lane act : Nat) : Nat :=
  (marginCaps s lane).getD (if act == 1 then 3 else 5) 0

/-- `LINK_STATE` of a `LANE_MARGIN` reply; `none` in Recovery, for which R148 gives no code. -/
def laneLink (s : State) (lane : Nat) : Option Nat :=
  let b := laneBundle s lane
  if !s.up b || !laneUsed s b lane then some 5
  else
    match (s.prt b).link with
    | .l0 => some 0
    | .l0p => some (if laneInL0 s lane then 0 else 1)
    | .l1 => some 2
    | .l11 => some 3
    | .l12 => some 4
    | _ => none

/-- `PINNED` (R148): bits as `FREEZE` [13:1], of the CTLE and the taps at a limit. -/
def pinnedMask (e : EqEnt) (l : Lane) : Nat :=
  2 * bit (l.ctle == e.ctleMin || l.ctle == e.ctleMax) +
    sumOf (fun i => 4 * 2 ^ i * bit (((tapsOf l).getD i {}).val.natAbs == tapLimit e i)) (List.range 12)

/-- The 40-byte reply of `LANE_MARGIN`. -/
def marginReply (s : State) (lane action result bits errors : Nat) : State × Bytes :=
  let (v, s') := draw s
  let b := laneBundle s lane
  let l := s.lane lane
  let code := laneLink s lane
  let rate := if code == some 5 then 255 else (s.prt b).rate
  let taps := tapsOf l
  (if code.isSome then s else s',
   leBytes 2 lane ++ leBytes 1 action ++ leBytes 1 result ++ leBytes 1 (code.getD v) ++ leBytes 1 rate ++ leBytes 1 l.ctle ++
     leBytes 1 l.posA ++ leBytes 1 l.posB ++ leBytes 1 (bit l.internal) ++ leBytes 2 (pinnedMask (eqOf s lane rate) l) ++
     taps.flatMap (fun t => leInt 1 t.val) ++ leBytes 8 bits ++ leBytes 8 errors)

/-- A field of `LANE_MARGIN` is out of range. -/
def marginBad (s : State) (p : Bytes) : Bool :=
  let lane := fieldAt p 0 2
  let act := byteAt p 2
  let off := (sfieldAt p 4 1).natAbs
  let dwell := byteAt p 5
  badLen p 8 || nonZero p 6 2 || decide (1023 < lane) || decide (2 < act) ||
    (if act == 0 then nonZero p 3 3
     else decide (2 < byteAt p 3) || (nonZero p 3 1 && decide ((s.prt (laneBundle s lane)).rate ≤ 4)) ||
       decide (marginSteps s lane act < off) || decide (dwell < 20) || decide (36 < dwell))

/-- The body of `LANE_MARGIN`: a query, or a measurement whose reply waits for its end. -/
def marginBody (p : Bytes) (n : Option Nat) (s : State) : Res :=
  let lane := fieldAt p 0 2
  let act := byteAt p 2
  let l := s.lane lane
  let rate := (s.prt (laneBundle s lane)).rate
  guarded s
    [(stBadParam, marginBad s p),
     (stNotInState, act != 0 && (!laneInL0 s lane || decide (rate < 3) || l.margin.isSome || l.partnerMargin))]
    (if act == 0 then
       let r := marginReply s lane 0 0 0 0
       .reply r.1 stOk r.2
     else
       .wait (s.modLane lane (fun l => { l with
         margin := some { session := n, action := act, eye := byteAt p 3, offset := sfieldAt p 4 1, dwell := byteAt p 5 } })))

/-- `LANE_MARGIN` (R148). -/
def execLaneMargin (t : Transport) (r : Req) (s : State) : Out :=
  vendorCmd 0xC024 t r (mixed 2 [0] r) (fun s n => marginBody r.payload n s) s

/-- End a measurement without its reply, and let a waiting partner request be served. -/
def clearMargin (s : State) (lane : Nat) : State :=
  s.modLane lane (fun l => { l with margin := none, partnerMargin := l.partnerMargin || l.partnerWaits, partnerWaits := false })

/-- `MARGIN_MEASUREMENT_END` (R148): 2^`DWELL_EXP` bits are counted, or the lane has left L0 with `bits` counted; the reply is sent. -/
def execMarginMeasurementEnd (lane bits errors : Nat) (s : State) : Out :=
  match (s.lane lane).margin with
  | none => .next s
  | some m =>
    if !m.aborted && decide (bits < 2 ^ m.dwell) then .next s
    else
      let n := min bits (2 ^ m.dwell)
      let s := clearMargin s lane
      let r := marginReply s lane m.action (if m.aborted then 2 else 1) n (min errors n)
      .next (match m.session with
        | some k => lateReply r.1 k 0xC024 stOk r.2
        | none => r.1)

/-- `PARTNER_MARGIN_REQUEST` (R147): at 16 GT/s and above the partner asks for the capabilities of a lane, or starts, or ends, its margining
of it; that waits while a `LANE_MARGIN` measurement runs (log 16). -/
def execPartnerMarginRequest (q : MarginAsk) (s : State) : Out :=
  let lane := q.lane
  let l := s.lane lane
  due (decide (lane < 1024) && laneInL0 s lane && decide (3 ≤ (s.prt (laneBundle s lane)).rate)) s
    (if q.report then { s with out := { s.out with marginCaps := tput [] s.out.marginCaps lane (marginCaps s lane) } }
     else s.modLane lane (fun x => if l.margin.isSome then { x with partnerWaits := true } else { x with partnerMargin := !x.partnerMargin }))

end Sys2Proof.Machine
end

