-- ==== Sys2Proof/Machine/Sessions.lean ====
section
/-!
DEFINITION. Session commands and the epoch record: `SESSION_OPEN`, `SESSION_CLOSE`, `GET_EPOCH`, `STAGE_BEGIN`,
`STAGE_ABORT`, the idle timeout, and requests outside the index (R319-R324, R329, R333).
-/

namespace Sys2Proof.Machine

/-- Whether the privilege step lets a `SESSION_OPEN` through (R321): `GRANT` and `REVOKE` in an `OWNER` session only; an `OPEN`
over a hierarchy mailbox only for `OBSERVER`. -/
def openAllowed (t : Transport) (r : Req) (priv : Option Nat) : Bool :=
  match byteAt r.payload 0 with
  | 0 => priv.isSome || (mailboxAgent t).isNone || !(byteAt r.payload 1 == 0 || byteAt r.payload 1 == 2)
  | 1 => priv == some 0
  | 2 => priv == some 0
  | _ => true

/-- Observer sessions open over the mailboxes of an agent. -/
def mailboxSessions (s : State) (a : Nat) : List Nat :=
  (List.range 8).filter (fun n =>
    match s.sess n with
    | some x => x.transport == .mailbox a
    | none => false)

/-- Close every mailbox session of an agent (R320, R321). -/
def closeMailbox (s : State) (a : Nat) : State :=
  forEach (mailboxSessions s a) s closeSession

/-- A field of `SESSION_OPEN` is out of range or reserved (R321). -/
def openBad (p : Bytes) (inSession : Bool) : Bool :=
  badLen p 16 || nonZero p 3 1 || nonZero p 6 2 ||
    (match byteAt p 0 with
     | 0 => inSession || decide (2 < byteAt p 1) || nonZero p 2 1 || fieldAt p 4 2 == 0 || decide (3600 < fieldAt p 4 2)
     | 1 => nonZero p 1 1 || nonZero p 4 2 || nonZero p 8 8
     | 2 => nonZero p 1 1 || nonZero p 4 2 || nonZero p 8 8
     | _ => true)

/-- The body of `SESSION_OPEN` (R321). A mailbox that holds its 2 observer sessions has a full limit (log 11). -/
def openBody (t : Transport) (r : Req) (s : State) (n : Option Nat) : Res :=
  let p := r.payload
  let full := match mailboxAgent t with
    | some a => decide (2 ≤ (mailboxSessions s a).length)
    | none => false
  guarded s
    [(stBadParam, openBad p n.isSome),
     (stNoResource, byteAt p 0 == 0 && ((lowestFree s).isNone || full))]
    (match byteAt p 0, lowestFree s with
     | 0, some k =>
       let x : Sess := { transport := t, eid := r.eid, priv := byteAt p 1, idleS := fieldAt p 4 2, tag := fieldAt p 8 8,
                         last := r.alive, openAlive := r.alive, lastAt := s.now }
       let s := s.setSess k (some x)
       .opened s k (leBytes 1 k ++ leBytes 1 x.priv ++ leBytes 1 (sessionsFree s) ++ zeros 1 ++ leBytes 2 x.idleS ++ zeros 2)
     | 1, _ =>
       let a := byteAt p 2
       .reply { s with proto := { s.proto with grants := if s.proto.grants.contains a then s.proto.grants
                                                         else a :: s.proto.grants } } stOk []
     | 2, _ =>
       let a := byteAt p 2
       let s := closeMailbox s a
       .reply { s with proto := { s.proto with grants := s.proto.grants.filter (· != a) } } stOk []
     | _, _ => .refuse s stNoResource)

/-- `SESSION_OPEN` (R321). -/
def execSessionOpen (t : Transport) (r : Req) (s : State) : Out :=
  vendorCmd 0xC000 t r (openAllowed t r) (openBody t r) s

/-- `SESSION_CLOSE` (R322): the session closes after its reply. -/
def execSessionClose (t : Transport) (r : Req) (s : State) : Out :=
  vendorCmd 0xC001 t r (permits .any) (fun s n =>
    guarded s [(stBadParam, badLen r.payload 0)]
      (.reply (match n with | some k => closeSession s k | none => s) stOk [])) s

/-- `OPEN_STAGES` of `GET_EPOCH`. -/
def openStages (s : State) : Nat :=
  sumOf' (fun n => bit (s.stage n).isSome * 2 ^ n)
where
  /-- A sum over the eight sessions. -/
  sumOf' (f : Nat → Nat) : Nat := (List.range 8).foldl (fun a n => a + f n) 0

/-- The 80-byte reply of `GET_EPOCH` (R329). -/
def epochReply (s : State) : Bytes :=
  let p := s.proto
  let armed := match p.commit with
    | some c => leBytes 1 1 ++ leBytes 1 c.session
    | none => leBytes 1 0 ++ leBytes 1 255
  let at_ := match p.commit with
    | some c => c.at_
    | none => 0
  leBytes 4 p.epoch ++ armed ++ leBytes 1 (openStages s) ++ leBytes 1 p.lastOutcome ++ leBytes 8 p.epochDrip ++
    leBytes 8 at_ ++ leBytes 4 p.discarded ++ zeros 4 ++ p.digest

/-- `GET_EPOCH` (R329). -/
def execGetEpoch (t : Transport) (r : Req) (s : State) : Out :=
  vendorCmd 0xC004 t r (permits .any) (fun s _ =>
    guarded s [(stBadParam, badLen r.payload 0)] (.reply s stOk (epochReply s))) s

/-- `STAGE_BEGIN` (R324). -/
def execStageBegin (t : Transport) (r : Req) (s : State) : Out :=
  vendorCmd 0xC010 t r (permits .owner) (fun s n =>
    let k := n.getD 0
    guarded s
      [(stBadParam, badLen r.payload 0),
       (stNotInState, (s.stage k).isSome || commitArmedIn s k)]
      (.reply (s.setStage k (some [])) stOk (leBytes 4 s.proto.epoch))) s

/-- `STAGE_ABORT` (R324). -/
def execStageAbort (t : Transport) (r : Req) (s : State) : Out :=
  vendorCmd 0xC011 t r (permits .owner) (fun s n =>
    let k := n.getD 0
    guarded s
      [(stBusy, commitArmedIn s k),
       (stBadParam, badLen r.payload 0),
       (stNotInState, (s.stage k).isNone)]
      (.reply (s.setStage k none) stOk [])) s

/-- `SESSION_IDLE_TIMEOUT` (R320): no request for the session has passed step 6 for `IDLE_S` seconds. -/
def execSessionIdleTimeout (n : Nat) (s : State) : Out :=
  match (if n < 8 then s.sess n else none) with
  | some x => due (decide (x.lastAt + x.idleS * 800000000 ≤ s.now)) s (closeSession s n)
  | none => .next s

/-- `UNDEFINED_OPCODE_REQUEST` (R333): an opcode outside the index is answered `BAD_OPCODE` at step 3, unless step 1 discards
the request or step 2 refuses it. -/
def execUndefinedOpcodeRequest (t : Transport) (op : Nat) (r : Req) (s : State) : Out :=
  due (!opcodes.contains op || !lengthOk r) s (vendor op t r (permits .any) (fun s _ => .refuse s stBadOpcode) s)

end Sys2Proof.Machine
end

