-- ==== Sys2Proof/Machine/Ports.lean ====
section
/-!
DEFINITION. Ports going up and down (R134, R154, R163, R166, R172, R175, R176), packets at the egress of a down port (R392), and
`PORT_STATE` (R171).
-/

namespace Sys2Proof.Machine

/-! ## Severity of a link going down (R176) -/

/-- Some extent of a window lies on a bundle. -/
def onPort (c : WinCfg) (b : Nat) : Bool :=
  (extents c).any (fun e => copyOn e b != 0)

/-- Some `BOUND` grotto holds a window. -/
def inBoundGrotto (s : State) (w : Nat) : Bool :=
  s.cfg.grottos.any (fun e => e.2.live && (s.gr e.1).st == .bound && e.2.wins.any (fun x => x.1 == w))

/-- The severity R176 gives for a bundle that has gone down. -/
def downSev (s : State) (b : Nat) : Nat :=
  match s.role b with
  | 1 =>
    match uspAgent s.cfg b with
    | none => 1
    | some a => if (firstLive s a).isSome then 2 else 3
  | 2 =>
    let ws := s.cfg.wins.filter (fun e => e.2.live && onPort e.2 b)
    if (s.cfg.port b).passAgent != 65535 then 3
    else if ws.any (fun e => !e.2.twinned && inBoundGrotto s e.1) then 3
    else if !ws.isEmpty && ws.all (fun e => e.2.twinned) then 2 else 1
  | 3 =>
    let peer := (s.cfg.port b).peerPbr
    if s.cfg.ports.any (fun e => e.2.role == 3 && e.2.peerPbr == peer && s.up e.1) then 2 else 3
  | _ => 1

/-! ## Packets at a down port (R392) -/

/-- Send a packet on from a down USP to the first live USP of its hierarchy, if there is one (R126, R160). -/
def redirect (s : State) (b a : Nat) (p : Pkt) : Option State :=
  (firstLive s a).map (fun u =>
    sendToPort s (galOf b) { p with srcGal := galOf b, srcPort := localOf b, dstGal := galOf u, dstPort := localOf u, usp := u })

/-- A packet whose hierarchy has no USP up is discarded (R123). -/
def lostForHost (s : State) (p : Pkt) : State :=
  if isReply p then replyGone (reportGrant s p) p else s

/-- What becomes of a packet at a down USP. -/
def atDownUsp (s : State) (b : Nat) (p : Pkt) : State :=
  let a := match uspAgent s.cfg b with
    | some a => a
    | none => p.agent
  let s := freePkt s b p
  match p.kind with
  | .ioCpl => replyGone (countDropped s (64 * p.srcGal + p.srcPort)) p
  | .ringWrite => s
  | _ => (redirect s b a p).getD (lostForHost s p)

/-- What becomes of a packet at a down DSP: a Type 3 device's request is timed out, CXL.io for a pass-through device is answered as
unreachable, any other packet for one is discarded. -/
def atDownDsp (s : State) (b : Nat) (p : Pkt) : State :=
  let g := galOf b
  let s := freePkt s b p
  match p.kind with
  | .ioNonPosted => sendToPort s g (ioCompletion g (localOf b) p 1 [])
  | .ioPosted => postedLost s b p
  | .memReq => requestEnd s b p.id p false [] false
  | .devReq => if (s.cfg.port b).passAgent == 65535 then requestEnd s b p.id p false [] false else s
  | .ioCpl => countDropped s (64 * p.srcGal + p.srcPort)
  | _ => s

/-- The live ports of an `FPT`'s group, in port order (R169). -/
def livePeers (s : State) (peer : Nat) : List Nat :=
  (s.cfg.ports.filter (fun e => e.2.role == 3 && e.2.peerPbr == peer && s.up e.1)).map (·.1)

/-- The port of a group that a request toward the peer leaves by: the live one at index (line address bits [13:6]) mod n (R169). -/
def peerPort (s : State) (peer addr : Nat) : Option Nat :=
  let ps := livePeers s peer
  ps[addr / 64 % 256 % ps.length]?

/-- What becomes of a packet at a down `FPT`: a request leaves by another live port of its group, or is answered as unreachable; a reply is
discarded (R392). -/
def atDownFpt (s : State) (b : Nat) (p : Pkt) : State :=
  let s := freePkt s b p
  let g := galOf b
  if isReply p then replyGone s p
  else
    match peerPort s (s.cfg.port b).peerPbr p.addr with
    | some u => sendToPort s g { p with srcGal := g, srcPort := localOf b, dstGal := galOf u, dstPort := localOf u }
    | none =>
      match p.kind with
      | .memReq => requestEnd s b p.id p false [] false
      | .ioNonPosted => sendToPort s g (ioCompletion g (localOf b) p 1 [])
      | .ioPosted => postedLost s b p
      | _ => s

/-- A packet at the egress of a port that is down, by the port's role (R392). -/
def atDownPort (s : State) (b : Nat) (p : Pkt) : State :=
  if isLate s b p then dropLate s b p
  else
    match s.role b with
    | 1 => atDownUsp s b p
    | 2 => atDownDsp s b p
    | 3 => atDownFpt s b p
    | _ =>
      let s := freePkt s b p
      if isReply p then replyGone s p else s

/-- `PACKET_AT_DOWN_PORT` (R392): the next packet handed on for a port that is down; one that has only begun waits for its end. -/
def execPacketAtDownPort (port : Nat) (s : State) : Out :=
  match (if port < 512 && !s.up port then egHead s port else []) with
  | [] => .next s
  | p :: _ => due (p.stage != .begun) s (bindAll (atDownPort (egPop s port) port p))

/-- Packets that wait in a port's scheduler, strict stage first, then queues in number order. -/
def waitingPkts (x : Sched) : List Pkt :=
  x.mrsp ++ x.msnp ++ x.plain ++ x.queues.flatMap (fun e => e.2.pkts.map (·.pkt))

/-- A scheduler without its packets; its virtual time, tags and counts stay (R227). -/
def emptySched (x : Sched) : Sched :=
  { x with mrsp := [], msnp := [], plain := [],
           sending := [], queues := x.queues.map (fun e => (e.1, { e.2 with pkts := [], failSince := none })) }

/-- What waits at a port that has gone down is handled there; a packet that has only begun is kept until its last cell has come, and one
that was leaving has met an error (R86, R392). -/
def flushPort (s : State) (b : Nat) : State :=
  let all := waitingPkts (s.sch b) ++ egHead s b
  let begun := (s.sch b).sending.map (fun e => { e.pkt with bad := true }) ++ all.filter (fun p => p.stage == .begun)
  let s := s.modSch b emptySched
  let s := s.modGal (galOf b) (fun x => { x with egIn := tput [] x.egIn (localOf b) begun })
  forEach (all.filter (fun p => p.stage != .begun)) s (fun s p => atDownPort s b p)

/-! ## Going down (R123, R164, R166) -/

/-- What a DSP going down ends: every outstanding request is timed out at once, the device's copies are lost (R164, R192). -/
def dspDown (s : State) (b : Nat) : State :=
  let outs := (s.prt b).outs
  let s := s.modPrt b (fun x => { x with outs := [] })
  if (s.cfg.port b).passAgent != 65535 then s
  else
    let s := failSanitises (loseDevice s b) b
    serveAllTwins (forEach outs s (fun s o => requestEnd s b o.id o.pkt false [] false))

/-- What a USP going down brings: ring writes go out again elsewhere, and the last USP's loss fences the agent and closes its mailbox
sessions (R123, R246, R253, R320). -/
def uspDown (s : State) (b : Nat) : State :=
  let s := resendRing s b
  match uspAgent s.cfg b with
  | none => s
  | some a => if (firstLive s a).isSome then s else closeMailbox (stopRings (fenceAgent s a 1) a) a

/-- No tap of a bundle that is down is at its limit (R144). -/
def unpinTaps (s : State) (b : Nat) : State :=
  forEach (lanesOf s b) s (fun s k => s.modLane k (fun l => { l with taps := l.taps.map (fun t => { t with pinnedSince := none }) }))

/-- A bundle's link leaves service for state `l`, with its event (R166, R175). `cause` 0 raises none. What the partner saw of configuration
space is reset (PRESUMED, log 168). -/
def takeDown (s : State) (b cause : Nat) (l : LinkSt) : State :=
  let s := unpinTaps (leaveL0 s b) b
  let s := cutIngress (settleSent s b) b
  let s := setLink s b l
  let s := s.modPrt b (fun x => { x with
    rate := 255, lanes := 0, flit := 0, partner := {}, known := false, exiting := false, clkreq := false, refloat := false, narrow := 0
    lastDown := if cause == 0 then x.lastDown else cause })
  let s := if cause == 0 || s.role b == 0 || s.role b == 5 then s
    else raiseLink s b evLinkDown cause (if cause == 2 then 0 else downSev s b) 65535
  let s := match s.role b with
    | 1 => uspDown (resetFns s b (fun _ => true)) b
    | 2 => dspDown s b
    | 4 => resetFns s b (fun _ => true)
    | _ => s
  bindAll (flushPort s b)

/-- `LINK_DOWN` (R166): a port goes down by the link: cause 04h `HOT_RESET`, any other 03h `SURPRISE_DOWN`. -/
def execLinkDown (port cause : Nat) (s : State) : Out :=
  due (isBundle s s.cfg port && s.up port) s (takeDown s port (if cause == 4 then 4 else 3) .down)

/-! ## Coming up (R133, R134, R154, R163, R166) -/

/-- Highest rate a port offers (R153, R170). -/
def maxRateOf (s : State) (b : Nat) : Nat :=
  if s.role b == 4 then 6 else (s.cfg.port b).maxRate

/-- Flit modes a port offers. -/
def modesOf (s : State) (b : Nat) : Nat :=
  if s.role b == 4 then 7 else (s.cfg.port b).flitModes

/-- A flit mode, by its bit of `FLIT_MODES`, is permitted at a rate (R150). -/
def modeAt (bitNo rate : Nat) : Bool :=
  match bitNo with
  | 0 => decide (rate ≤ 6)
  | 1 => decide (4 ≤ rate) && decide (rate ≤ 6)
  | _ => decide (rate ≤ 4)

/-- The highest rate a port advertises: one at which an enabled mode is permitted (R154). -/
def advertised (s : State) (b : Nat) : Nat :=
  ((List.range 7).filter (fun r => decide (r ≤ maxRateOf s b) &&
    (List.range 3).any (fun m => bitOf (modesOf s b) m && modeAt m r))).foldl max 0

/-- The mode a link uses: latency-optimised, standard, 68-byte, the first both ends support at the rate (R154). Codes of `FLIT`. -/
def flitMode (own partner rate : Nat) : Option Nat :=
  let both := fun (m : Nat) => bitOf own m && bitOf partner m && modeAt m rate
  if both 1 then some 2 else if both 0 then some 1 else if both 2 then some 3 else none

/-- The partner has the protocols a role requires (R166). -/
def protocolsOk (s : State) (b : Nat) (p : Partner) : Bool :=
  match s.role b with
  | 1 => p.io
  | 4 => p.io
  | 2 => if (s.cfg.port b).passAgent == 65535 then p.io && p.mem else p.io || p.mem || p.cache
  | 3 => p.io && p.mem && p.pbr
  | _ => false

/-- A width a link can train at, at most its bundle's. -/
def trainedLanes (full n : Nat) : Nat :=
  min full (if 16 ≤ n then 16 else if 8 ≤ n then 8 else if 4 ≤ n then 4 else if 2 ≤ n then 2 else 1)

/-- Clocking of a port: the `BOOT` port runs in `SRNS` (R153). -/
def clockingOf (s : State) (b : Nat) : Nat :=
  if s.role b == 4 then 1 else (s.cfg.port b).clocking

/-- The reference input of a bundle (R2). -/
def refOfPort (b : Nat) : Nat :=
  b / 16

/-- The islands of a bundle's quads. -/
def portIslands (s : State) (b : Nat) : List Nat :=
  (List.range ((bundleLanes s b + 7) / 8)).map (fun k => quadIsl (b + 4 * k))

/-- A link that has settled below its bundle's width, or below the lower of the two ends' rates, says so (R149). -/
def raiseReduced (s : State) (b lanes rate : Nat) (p : Partner) : State :=
  let s := if lanes < bundleLanes s b then raiseLink s b evLinkDegraded 0x22 2 65535 else s
  if rate < min (advertised s b) p.maxRate then raiseLink s b evLinkDegraded 0x23 2 65535 else s

/-- The link trains and is held in L0 with no traffic (R166). -/
def holdLink (s : State) (b cause : Nat) (p : Partner) (rate lanes : Nat) : State :=
  let s := (setLink s b .held).modPrt b (fun x => { x with partner := p, known := true, rate := rate, lanes := lanes })
  raiseReduced (raiseLink s b evLinkDegraded cause 2 65535) b lanes rate p

/-- The switch enumerates a Type 3 device: a configuration request of its own goes to it (R163, R224; log 169). -/
def enumerate (s : State) (b : Nat) : State :=
  sendToPort s (galOf b)
    { kind := .ioNonPosted, cls := 4, srcGal := galOf b, srcPort := localOf b, dstGal := galOf b, dstPort := localOf b, agent := noAgent,
      op := .ioCfg, usp := b, len := 4, sys := true }

/-- The port is up (R166), with what training found. A Type 3 device is enumerated, and the switch programs its decoder over its capacity
(R163). -/
def bringUp (s : State) (b rate lanes flit : Nat) (p : Partner) : State :=
  let s := returnRefs s b
  let type3 := isType3 s.cfg b
  let s := (setLink s b .l0).modPrt b (fun x => { x with
    rate := rate, lanes := lanes, flit := flit, partner := p, known := true, exiting := false, clkreq := true, l0At := s.now, refloat := false
    narrow := 0, emptySince := s.now, slow := false
    capacity := if type3 then some p.capacity else x.capacity
    decoded := if type3 then p.capacity * unit256 else x.decoded })
  let s := measureSkew (forEach (lanesOf s b) s (fun s k => equalise s b k rate)) b
  let s := raiseLink s b evLinkUp 1 0 65535
  let s := if s.role b == 1 && !p.bi then raiseLink s b evLinkDegraded 6 2 65535 else s
  let s := raiseReduced s b lanes rate p
  if type3 then writePinned (enumerate s b) b else s

/-- A `COMMON` port's input is absent, or has not been good for a second since it was lost (R133, R134). -/
def refAbsent (s : State) (b : Nat) : Bool :=
  let r := s.refclk (refOfPort b)
  clockingOf s b == 0 && (r.lost || !r.good)

/-- A port may train: configured, enabled, its islands running, its gallery not lost, no loopback test running. -/
def mayTrain (s : State) (b : Nat) : Bool :=
  let x := s.prt b
  isBundle s s.cfg b && s.role b != 0 && x.enabled && !linkUp x.link && (s.gal (galOf b)).lost.isNone && !((s.loop b).st == 1) &&
    !(portIslands s b).any (fun i => (s.isl i).st == .poweredDown || (s.isl i).st == .calibrating)

/-- `LINK_UP` (R166): training ends. -/
def execLinkUp (port : Nat) (p : Partner) (s : State) : Out :=
  if !mayTrain s port then .next s
  else
    let rate := min p.rate (min (advertised s port) p.maxRate)
    let lanes := trainedLanes (bundleLanes s port) p.lanes
    if refAbsent s port then .next (raiseLink s port evLinkDegraded 0x20 1 65535)
    else if p.version == 3 then .next (holdLink s port 5 p rate lanes)
    else
      match flitMode (modesOf s port) p.flitModes rate with
      | none => .next (raiseLink s port evLinkDegraded 6 2 65535)
      | some f =>
        if protocolsOk s port p then .next (bindAll (bringUp s port rate lanes f p))
        else .next (holdLink s port 6 p rate lanes)

/-- A link comes back from Recovery (R143, R149): at the rate and width it settles at, on the values saved for that rate, or on its entries
where it has equalised anew or has none saved. A width or rate that is newly reduced is reported (log 164). -/
def leaveRecovery (s : State) (b rate : Nat) (t : Retrain) : State :=
  let x := s.prt b
  let rate := min rate (min (advertised s b) x.partner.maxRate)
  let lanes := trainedLanes (bundleLanes s b) t.lanes
  let s := s.modPrt b (fun x => { x with
    rate := rate, lanes := lanes, flit := (flitMode (modesOf s b) x.partner.flitModes rate).getD x.flit })
  let fresh := fun (s : State) (k : Nat) => t.equalised || ((s.lane k).saved.find? (fun e => e.1 == rate)).isNone
  let anew := (lanesOf s b).filter (fresh s)
  let s := forEach anew s (fun s k => equalise s b k rate)
  let s := measureSkew (reachL0 s b ((lanesOf s b).filter (fun k => !anew.contains k))) b
  if lanes == x.lanes && rate == x.rate then s else raiseReduced s b lanes rate x.partner

/-- `LOW_POWER_EXIT_COMPLETE` (R145): the link is in L0 on every lane. From L0p the idle lanes resume their saved values; out of L1, L1.1 and
L1.2 the link comes through Recovery (R146's example), at the rate and lanes it settles at there. -/
def execLowPowerExitComplete (port rate : Nat) (t : Retrain) (s : State) : Out :=
  let x := s.prt port
  due (s.up port && x.exiting) s
    (if x.link == .l0p then reachL0 s port ((lanesOf s port).filter (fun k => !laneInL0 s k)) else leaveRecovery s port rate t)

/-- `LINK_STATE_CHANGE` (R145): by the partner or on errors the link enters Recovery (7), L0p (3) or a low-power state (4-6), or
goes back toward L0 (2). States are the codes of `LINK`. -/
def execLinkStateChange (port state rate : Nat) (t : Retrain) (s : State) : Out :=
  let x := s.prt port
  let lp := (s.cfg.port port).lp
  let active := x.link == .l0 || x.link == .l0p
  if !s.up port then .next s
  else
    match state with
    | 2 =>
      match x.link with
      | .recovery => .next (leaveRecovery s port rate t)
      | .l0 => .next s
      | .l0p => .next (s.modPrt port (fun x => { x with exiting := true }))
      | _ => .next (startExit s port)
    | 3 => due (bitOf lp 0 && active && decide (1 < lanesNow x)) s (narrowLink s port)
    | 4 => due (active && bitOf lp 1) s (enterLow s port .l1)
    | 5 => due (active && bitOf lp 2) s (enterLow s port .l11)
    | 6 => due (active && bitOf lp 3) s (enterLow s port .l12)
    | 7 => due (x.link != .recovery) s
        ((setLink (leaveL0 s port) port .recovery).modPrt port (fun x => { x with exiting := false, narrow := 0, clkreq := true }))
    | _ => .next s

/-! ## Lane references (R134) -/


/-- The configured bundles that a reference input serves. -/
def portsOfRef (s : State) (j : Nat) : List Nat :=
  ((List.range 16).map (fun k => 16 * j + k)).filter (fun b => isBundle s s.cfg b && s.role b != 0)

/-- `LANE_REFCLK_LOST` (R134): its 32 lanes move to the internal reference; `COMMON` ports go down, or say that they cannot train
(R133), the others carry on. -/
def execLaneRefclkLost (j : Nat) (s : State) : Out :=
  if !decide (j < 32) || !(s.refclk j).good then .next s
  else
    let s := s.modRefclk j (fun r => { r with good := false, lost := true })
    let s := forEach (List.range 32) s (fun s k => s.modLane (32 * j + k) (fun l => { l with internal := true }))
    .next (forEach (portsOfRef s j) s (fun s b =>
      if clockingOf s b == 0 then
        if s.up b then takeDown s b 0x20 .down
        else if (s.prt b).link == .training || (s.prt b).link == .held then
          raiseLink (setLink s b .training) b evLinkDegraded 0x20 1 65535
        else s
      else raiseLink s b evLinkDegraded 0x20 1 65535))

/-- `LANE_REFCLK_RESTORED` (R134): a lost input is good again, and its second begins. -/
def execLaneRefclkRestored (j : Nat) (s : State) : Out :=
  due (decide (j < 32) && (s.refclk j).lost && !(s.refclk j).good) s
    (s.modRefclk j (fun r => { r with good := true, goodSince := s.now }))

/-- `LANE_REFCLK_GOOD` (R134): a lost input has been good for a second, and its `COMMON` ports may retrain. -/
def execLaneRefclkGood (j : Nat) (s : State) : Out :=
  let r := s.refclk j
  due (decide (j < 32) && r.lost && r.good && decide (r.goodSince + 800000000 ≤ s.now)) s
    (s.modRefclk j (fun r => { r with lost := false }))

/-! ## Commands (R171, R172) -/

/-- `LINK` code of a port (R171). -/
def linkCode : LinkSt → Nat
  | .down => 0
  | .training => 1
  | .l0 => 2
  | .l0p => 3
  | .l1 => 4
  | .l11 => 5
  | .l12 => 6
  | .recovery => 7
  | .disabled => 8
  | .held => 9

/-- `LINK` as reported: a port of a lost gallery is down (R338). -/
def linkShown (s : State) (b : Nat) : Nat :=
  if (s.gal (galOf b)).lost.isSome then 0 else linkCode (s.prt b).link

/-- `AGENT` of `PORT_STATE`. -/
def agentShown (s : State) (b : Nat) : Nat :=
  match s.role b with
  | 1 => (uspAgent s.cfg b).getD 65535
  | 2 => (s.cfg.port b).passAgent
  | _ => 65535

/-- The 48-byte reply of `PORT_STATE` (R171). -/
def portReply (s : State) (b : Nat) : Bytes :=
  if s.role b == 5 then
    leBytes 2 b ++ leBytes 1 5 ++ zeros 2 ++ leBytes 1 255 ++ zeros 6 ++ leBytes 2 65535 ++ zeros 18 ++ leBytes 8 s.drip ++ zeros 8
  else
    let x := s.prt b
    let shown := x.known && (s.gal (galOf b)).lost.isNone
    let p := x.partner
    leBytes 2 b ++ leBytes 1 (s.role b) ++ leBytes 1 (bit x.enabled) ++ leBytes 1 (linkShown s b) ++
      leBytes 1 (if shown then x.rate else 255) ++ leBytes 1 (if shown then lanesNow x else 0) ++
      leBytes 1 (if shown then x.flit else 0) ++
      leBytes 1 (if shown then p.version % 4 + 4 * (p.devType % 4) else 0) ++
      leBytes 1 (if shown then bit p.io + 2 * bit p.mem + 4 * bit p.cache + 8 * bit p.bi else 0) ++ leBytes 1 x.lastDown ++ zeros 1 ++
      leBytes 2 (agentShown s b) ++ leBytes 2 x.dropped ++ leBytes 8 x.change ++ leBytes 8 (tget 0 x.ctr 0) ++ leBytes 8 s.drip ++
      leBytes 4 x.retries ++ leBytes 4 x.late

/-- `PORT_STATE` (R171). -/
def execPortState (t : Transport) (r : Req) (s : State) : Out :=
  vendorCmd 0xC021 t r (permits .any) (fun s _ =>
    guarded s [(stBadParam, badLen r.payload 4 || nonZero r.payload 2 2 || decide (511 < fieldAt r.payload 0 2))]
      (.reply s stOk (portReply s (fieldAt r.payload 0 2)))) s

/-- Every port of a quad is disabled (R146). -/
def quadDisabled (s : State) (q : Nat) : Bool :=
  (List.range 4).all (fun k =>
    let b := if 4 * q + k == s.mgmt.bootPort then 4 * q + k else bundleOf s.cfg (4 * q + k)
    !(s.prt b).enabled)

/-- The quads of a bundle. -/
def quadsOf (s : State) (b : Nat) : List Nat :=
  (List.range ((bundleLanes s b + 7) / 8)).map (fun k => b / 4 + k)

/-- A quad island powers down while every port of its quad is disabled; powering up it is recalibrated before any lane trains (R146). -/
def powerQuads (s : State) (b : Nat) : State :=
  forEach (quadsOf s b) s (fun s q =>
    let i := quadIsl (4 * q)
    if quadDisabled s q then s.modIsl i (fun x => { x with st := .poweredDown, unsure := false, since := s.drip })
    else if (s.isl i).st == .poweredDown then
      s.modIsl i (fun x => { x with st := .calibrating, since := s.drip, missed := 0, goodRun := 0 })
    else s)

/-- Bits each lane of a running loopback test has checked: 5/8 bit for each half gigatransfer of the rate in a drip, at most the test's
(R346). -/
def loopBits (s : State) (b : Nat) : Nat :=
  let x := s.loop b
  min (x.blocks * 2 ^ 24) ((s.now - x.start) * rateHalf x.rate * 5 / 8)

/-- A loopback test ends in state 2 done or 3 stopped, with the counts that are given (R346). -/
def endLoop (s : State) (b st bits : Nat) (errors : List Nat) : State :=
  let s := s.modLoop b (fun x => { x with
    st := st, bits := bits, endDrip := s.drip
    errors := (List.range 16).map (fun k => if k < x.lanes then min bits (sat 32 (errors.getD k 0)) else 0) })
  let s := if (s.loop b).mode == 2 && (s.prt b).enabled then setLink s b .training else s
  raiseLink s b evLinkDegraded 0x12 0 65535

/-- Sixteen free values: the error counts of a test that is cut short (log 2). -/
def drawErrors (s : State) : State × List Nat :=
  (List.range 16).foldl (fun a _ => let (v, s) := draw a.1; (s, a.2 ++ [v])) (s, [])

/-- A running loopback test is stopped (R346). -/
def stopLoop (s : State) (b : Nat) : State :=
  if (s.loop b).st == 1 then
    let (s, es) := drawErrors s
    endLoop s b 3 (loopBits s b) es
  else s

/-- Disable a bundle (R172). -/
def disablePort (s : State) (b : Nat) : State :=
  if !(s.prt b).enabled then s
  else powerQuads (takeDown (stopLoop (s.modPrt b (fun x => { x with enabled := false })) b) b 2 .disabled) b

/-- Enable a bundle (R172). -/
def enablePort (s : State) (b : Nat) : State :=
  if (s.prt b).enabled then s
  else
    let s := (stopLoop s b).modPrt b (fun x => { x with enabled := true })
    let s := returnRefs s b
    powerQuads (setLink s b (if s.role b == 0 then .down else .training)) b

/-- The body of `PORT_ENABLE`. -/
def portEnableBody (p : Bytes) (s : State) : Res :=
  let b := fieldAt p 0 2
  let en := byteAt p 2
  guarded s
    [(stBusy, commitArmed s),
     (stBadParam, badLen p 4 || nonZero p 3 1 || !isBundle s s.cfg b || decide (1 < en)),
     (stNotInState, en == 0 && s.role b == 4)]
    (.reply (if en == 0 then disablePort s b else enablePort s b) stOk [])

/-- `PORT_ENABLE` (R172). -/
def execPortEnable (t : Transport) (r : Req) (s : State) : Out :=
  vendorCmd 0xC022 t r (permits .owner) (fun s _ => portEnableBody r.payload s) s

end Sys2Proof.Machine
end

