-- ==== Sys2Proof/Machine/Slots.lean ====
section
/-!
DEFINITION. Slot power controllers (R273-R290): the loop's supervision, presence, trips, the input buses, and the slot commands.
-/

namespace Sys2Proof.Machine

/-! ## Slots -/

/-- The values in force for a slot: those set, or the reset values with `IN_BUS` ⌊s ÷ 32⌋ (R273, R287). -/
def slotCfg (s : State) (n : Nat) : SlotCfg :=
  match (s.slot n).cfg with
  | some c => c
  | none => { inBus := n / 32 }

/-- Code of a slot state (R279). -/
def slotCode : SlotSt → Nat
  | .unconfigured => 0
  | .empty => 1
  | .off => 2
  | .ramping => 3
  | .on => 4
  | .warnOff => 5
  | .cooldown => 6
  | .locked => 7

/-- The gate of a slot is on. -/
def gateOn : SlotSt → Bool
  | .ramping => true
  | .on => true
  | .warnOff => true
  | _ => false

/-- `SLOT_PWRWARN_N` is low (R274, R285). -/
def pwrWarnLow (s : State) (n : Nat) : Bool :=
  (s.slot n).st != .on || (s.bus (slotCfg s n).inBus).warn

/-- A new slot state with its drip of change. -/
def slotTo (drip : Nat) (st : SlotSt) (x : Slot) : Slot :=
  if x.st == st then x else { x with st := st, change := drip }

/-- The gate turns off: the current is gone, and R283 watches VOUT. -/
def gateOff (now : Nat) (x : Slot) : Slot :=
  { x with
    inLimit := false, goodSince := none, offAt := some now
    timer := if x.inLimit then x.timer + (now - x.limSince) else x.timer
    clearAt := if x.inLimit then some now else x.clearAt }

/-- The gate starts to rise (R275). -/
def rampUp (drip now : Nat) (x : Slot) : Slot :=
  { slotTo drip .ramping x with onAt := now, goodSince := none, offAt := none, fresh := false, inLimit := false }

/-- The fault timer now (R276). -/
def faultTime (now : Nat) (x : Slot) : Nat :=
  x.timer + (if x.inLimit then now - x.limSince else 0)

/-- Severity of a trip (R290). -/
def tripSev (s : State) (n cause : Nat) : Nat :=
  let p := (slotCfg s n).port
  if cause == 5 || p == 65535 then 2 else downSev s p

/-- A slot trips with a cause of R290, at a current in 10 mA (R279, R281). -/
def tripSlot (s : State) (n cause cur : Nat) : State :=
  let x := s.slot n
  let tOn := if gateOn x.st then s.now - x.onAt else x.lastOn
  let st : SlotSt := if cause == 3 then .off else if cause == 5 then .locked else .cooldown
  let cool := min 48000000000 (max 800000000 (99 * tOn))
  let s := s.modSlot n (fun x =>
    let x := if gateOn x.st then gateOff s.now x else x
    { slotTo s.drip st x with
      lastTrip := cause, lastOn := tOn, fetShort := x.fetShort || cause == 5
      coolLen := if st == .cooldown then cool else x.coolLen
      coolEnd := if st == .cooldown then s.now + cool else x.coolEnd
      removedInCool := false, offInCool := false })
  raise s (1024 + n) evSlotTrip (tripSev s n cause) 288
    (evData (leBytes 1 cause ++ leBytes 1 (slotCode st) ++ leBytes 1 (sat 8 x.retries) ++ leBytes 1 0 ++ leBytes 2 (sat 16 cur) ++
      leBytes 2 (sat 16 (tOn / 800000))) s.drip)

/-- I_allowed in 10 mA (R275). -/
def iAllowed (c : SlotCfg) (vin vout : Nat) : Nat :=
  min (10 * c.iLim) (10000 * c.pFold / max (vin - vout) 10)

/-- A sample of the loop (R275, R276, R278, R283). -/
def sampleSlot (c : SlotCfg) (now vin vout cur : Nat) (x : Slot) : Slot :=
  let allowed := iAllowed c vin vout
  let lim := gateOn x.st && decide (95 * allowed ≤ 100 * cur)
  let good := gateOn x.st && !lim && decide (vin ≤ vout + 50)
  { x with
    vin := vin, vout := vout, cur := cur, allowed := allowed, inLimit := lim
    timer := if x.inLimit then x.timer + (now - x.limSince) else x.timer
    limSince := now
    clearAt := if lim then none else if x.inLimit then some now else x.clearAt
    goodSince := if good then (if x.goodSince.isNone then some now else x.goodSince) else none
    offAt := if vin ≤ vout + 50 then x.offAt else none }

/-- `SLOT_LOOP_SAMPLE` (R275): VIN, VOUT in 10 mV and the current in 10 mA. -/
def execSlotLoopSample (slot vin vout cur : Nat) (s : State) : Out :=
  due (decide (slot < 128)) s (s.modSlot slot (sampleSlot (slotCfg s slot) s.now vin vout cur))

/-! ## What comes first on one edge (R280) -/

/-- The removal of a powered slot is due (R282). -/
def removalDue (s : State) (n : Nat) : Bool :=
  let x := s.slot n
  gateOn x.st && x.rawHigh && decide (x.rawSince + 800000 ≤ s.now)

/-- The fault timer has reached `T_FAULT` (R276). -/
def timerDue (s : State) (n : Nat) : Bool :=
  let x := s.slot n
  gateOn x.st && decide (80000 * (slotCfg s n).tFault ≤ faultTime s.now x)

/-- The MOSFET is taken for shorted (R283). -/
def fetDue (s : State) (n : Nat) : Bool :=
  let x := s.slot n
  !gateOn x.st && !x.fetShort &&
    (match x.offAt with
     | some t => decide (t + 80000000 ≤ s.now)
     | none => false)

/-- `FET_SHORT` (R283). -/
def execFetShort (slot : Nat) (s : State) : Out :=
  due (decide (slot < 128) && fetDue s slot) s (tripSlot s slot 5 (s.slot slot).cur)

/-- `FAST_TRIP` (R277): the sense voltage is above twice the limit, at `cur` in 10 mA. -/
def execFastTrip (slot cur : Nat) (s : State) : Out :=
  due (decide (slot < 128) && gateOn (s.slot slot).st && decide (20 * (slotCfg s slot).iLim < cur)) s (tripSlot s slot 2 cur)

/-- `SLOT_REMOVED` (R282). -/
def execSlotRemoved (slot : Nat) (s : State) : Out :=
  due (decide (slot < 128) && removalDue s slot) s (tripSlot s slot 4 (s.slot slot).cur)

/-- `FAULT_TIMER_EXPIRY` (R276), unless a removal is due on the same edge. -/
def execFaultTimerExpiry (slot : Nat) (s : State) : Out :=
  due (decide (slot < 128) && timerDue s slot && !removalDue s slot) s (tripSlot s slot 1 (s.slot slot).cur)

/-- `FAULT_TIMER_CLEAR` (R276). -/
def execFaultTimerClear (slot : Nat) (s : State) : Out :=
  match (s.slot slot).clearAt with
  | some t =>
    due (decide (slot < 128) && !(s.slot slot).inLimit && decide (t + 800000 ≤ s.now)) s
      (s.modSlot slot (fun x => { x with timer := 0, clearAt := none }))
  | none => .next s

/-- Power good is reached (R278), and no trip is due on the edge (R280). -/
def goodDue (s : State) (n : Nat) : Bool :=
  let x := s.slot n
  x.st == .ramping && !removalDue s n && !timerDue s n && ((x.goodSince.map (fun t => decide (t + 800000 ≤ s.now))).getD false)

/-- A slot becomes `ON` (R278). -/
def slotGood (s : State) (n : Nat) : State :=
  let x := s.slot n
  raise (s.modSlot n (fun x => { slotTo s.drip .on x with retries := 0 })) (1024 + n) evSlotPowerGood 0 288
    (evData (leBytes 1 0 ++ leBytes 1 (sat 8 x.retries) ++ leBytes 2 (sat 16 x.vout) ++ leBytes 2 (sat 16 ((s.now - x.onAt) / 8000))) s.drip)

/-- `POWER_GOOD` (R278), unless a trip is due on the same edge (R280). -/
def execPowerGood (slot : Nat) (s : State) : Out :=
  due (decide (slot < 128) && goodDue s slot) s (slotGood s slot)

/-- `WARN_LEAD_MS` has passed (R279), and no trip is due on the edge (R280). -/
def warnEndDue (s : State) (n : Nat) : Bool :=
  let x := s.slot n
  x.st == .warnOff && !removalDue s n && !timerDue s n && decide (x.warnAt + 800000 * (slotCfg s n).warnLead ≤ s.now)

/-- The gate of a slot in `WARN_OFF` turns off. -/
def slotWarnEnd (s : State) (n : Nat) : State :=
  s.modSlot n (fun x => slotTo s.drip .off (gateOff s.now x))

/-- `WARN_LEAD_END` (R279), unless a trip is due on the same edge. -/
def execWarnLeadEnd (slot : Nat) (s : State) : Out :=
  due (decide (slot < 128) && warnEndDue s slot) s (slotWarnEnd s slot)

/-- What is due on an edge comes before a command (R280): a shorted MOSFET, a removal, the fault timer, power good, the end of the warning. -/
def settleSlot (s : State) (n : Nat) : State :=
  if fetDue s n then tripSlot s n 5 (s.slot n).cur
  else if removalDue s n then tripSlot s n 4 (s.slot n).cur
  else if timerDue s n then tripSlot s n 1 (s.slot n).cur
  else if goodDue s n then slotGood s n
  else if warnEndDue s n then slotWarnEnd s n
  else s

/-- `COOLDOWN_END` (R281): the first row that applies. -/
def execCooldownEnd (slot : Nat) (s : State) : Out :=
  let x := s.slot slot
  let c := slotCfg s slot
  if !decide (slot < 128) || x.st != .cooldown || decide (s.now < x.coolEnd) then .next s
  else
    let go := fun (st : SlotSt) => s.modSlot slot (fun x => { slotTo s.drip st x with removedInCool := false, offInCool := false })
    let ramp := s.modSlot slot (fun x => { rampUp s.drip s.now x with removedInCool := false, offInCool := false })
    if !x.present then .next (go .empty)
    else if x.removedInCool then .next (if c.autoOn then ramp else go .off)
    else if x.offInCool then .next (go .off)
    else if x.retries < c.retryMax || c.retryMax == 255 then
      let s := ramp.modSlot slot (fun y => { y with retries := x.retries + 1 })
      .next (raise s (1024 + slot) evSlotRetry 0 288
        (evData (leBytes 1 (sat 8 (x.retries + 1)) ++ zeros 3 ++ leBytes 4 (sat 32 (x.coolLen / 800000))) s.drip))
    else .next (go .locked)

/-! ## Presence (R282) -/

/-- `SLOT_PRSNT_N_CHANGE` (R282): the land changes level. -/
def execSlotPrsntNChange (slot : Nat) (high : Bool) (s : State) : Out :=
  due (decide (slot < 128) && (s.slot slot).rawHigh != high) s
    (s.modSlot slot (fun x => { x with rawHigh := high, rawSince := s.now }))

/-- A debounced absence. -/
def slotAbsent (drip : Nat) (x : Slot) : Slot :=
  let x := { x with present := false, retries := 0, fresh := true, removedInCool := x.removedInCool || x.st == SlotSt.cooldown }
  match x.st with
  | .off => slotTo drip .empty x
  | .locked => if x.fetShort then x else slotTo drip .empty x
  | _ => x

/-- A debounced presence. -/
def slotPresent (c : SlotCfg) (drip now : Nat) (x : Slot) : Slot :=
  let x := { x with present := true }
  match x.st with
  | .empty => if c.autoOn then rampUp drip now x else slotTo drip .off x
  | _ => x

/-- `PRESENCE_DEBOUNCED` (R282): the land has held a new level for 100 ms. -/
def execPresenceDebounced (slot : Nat) (s : State) : Out :=
  let x := s.slot slot
  due (decide (slot < 128) && x.present == x.rawHigh && decide (x.rawSince + 80000000 ≤ s.now)) s
    (s.modSlot slot (fun x =>
      let x := { x with presChanges := (x.presChanges + 1) % 256 }
      if x.rawHigh then slotAbsent s.drip x else slotPresent (slotCfg s slot) s.drip s.now x))

/-! ## Input buses (R284) -/

/-- The slots a bus feeds. -/
def busSlots (s : State) (b : Nat) : List Nat :=
  (List.range 128).filter (fun n => (slotCfg s n).inBus == b)

/-- Raise `EV_INPUT_WARN` (R290); `on` slots were `ON`. -/
def raiseBus (s : State) (b cause mv on : Nat) : State :=
  let sev := if cause == 3 && 0 < on then 3 else if cause == 4 then 0 else 1
  raise s (1580 + b) evInputWarn sev 288
    (evData (leBytes 1 cause ++ leBytes 1 b ++ leBytes 2 (sat 16 (mv / 10)) ++ leBytes 2 on) s.drip)

/-- A bus has fallen by more than 16 mV within the last 16 samples. -/
def slopeBad (hist : List Nat) (mv : Nat) : Bool :=
  hist.any (fun v => decide (mv + 16 < v))

/-- `BUS_SAMPLE` (R284): a bus voltage in millivolts; undervoltage turns off the gates of its slots. -/
def execBusSample (bus mv : Nat) (s : State) : Out :=
  if 4 ≤ bus then .next s
  else
    let x := s.bus bus
    let slope := slopeBad x.hist mv
    let level := decide (mv < 11200)
    let under := decide (mv < 10800)
    let on := ((busSlots s bus).filter (fun n => (s.slot n).st == .on)).length
    let start := !x.warn && (level || slope)
    let s := s.modBus bus (fun x => { x with
      mv := mv, hist := (mv :: x.hist).take 16, warn := x.warn || level || slope, under := under
      okSince := if 11400 ≤ mv && !slope then (if x.okSince.isNone then some s.now else x.okSince) else none })
    let s := if start then raiseBus s bus (if level then 1 else 2) mv on else s
    let s := if under && !x.under then raiseBus s bus 3 mv on else s
    .next (if under then
        forEach ((busSlots s bus).filter (fun n => gateOn (s.slot n).st)) s (fun s n => tripSlot s n 3 (s.slot n).cur)
      else s)

/-- `BUS_WARNING_CLEAR` (R284). -/
def execBusWarningClear (bus : Nat) (s : State) : Out :=
  let x := s.bus bus
  match (if bus < 4 && x.warn then x.okSince else none) with
  | none => .next s
  | some t =>
    let on := ((busSlots s bus).filter (fun n => (s.slot n).st == .on)).length
    due (decide (t + 800000 ≤ s.now)) s (raiseBus (s.modBus bus (fun x => { x with warn := false })) bus 4 x.mv on)

/-! ## Commands (R287-R289) -/

/-- The values a `SLOT_CONFIG` payload holds. -/
def slotFrom (p : Bytes) : SlotCfg :=
  let f := byteAt p 2
  { enable := bitOf f 0, autoOn := bitOf f 1, inBus := f / 4 % 4, rShunt := byteAt p 3, iLim := fieldAt p 4 2, pFold := byteAt p 6,
    tFault := byteAt p 7, retryMax := byteAt p 8, warnLead := fieldAt p 10 2, port := fieldAt p 12 2 }

/-- A field of `SLOT_CONFIG` is out of range. -/
def slotBad (s : State) (p : Bytes) : Bool :=
  let c := slotFrom p
  badLen p 16 || decide (127 < byteAt p 0) || decide (1 < byteAt p 1) ||
    (if byteAt p 1 == 1 then nonZero p 2 14
     else decide (15 < byteAt p 2) || decide (c.rShunt < 10) || decide (50 < c.rShunt) || decide (c.iLim < 5) || decide (200 < c.iLim) ||
       decide (c.pFold < 5) || decide (200 < c.pFold) || decide (c.tFault < 5) || decide (200 < c.tFault) || nonZero p 9 1 ||
       decide (1000 < c.warnLead) || nonZero p 14 2 || (c.port != 65535 && !isBundle s s.cfg c.port))

/-- The 16-byte reply of `SLOT_CONFIG` `QUERY`. -/
def slotCfgReply (s : State) (n : Nat) : Bytes :=
  let c := slotCfg s n
  leBytes 1 n ++ leBytes 1 1 ++ leBytes 1 (bit c.enable + 2 * bit c.autoOn + 4 * c.inBus) ++ leBytes 1 c.rShunt ++ leBytes 2 c.iLim ++
    leBytes 1 c.pFold ++ leBytes 1 c.tFault ++ leBytes 1 c.retryMax ++ leBytes 1 0 ++ leBytes 2 c.warnLead ++ leBytes 2 c.port ++
    leBytes 2 0

/-- The slot after an accepted `SET` (R287). -/
def slotSet (drip : Nat) (c : SlotCfg) (x : Slot) : Slot :=
  let x := { x with cfg := some c }
  if !c.enable then { slotTo drip .unconfigured x with retries := 0, fresh := false }
  else if x.st == .unconfigured then slotTo drip (if x.present then .off else .empty) x
  else x

/-- The body of `SLOT_CONFIG`. -/
def slotConfigBody (p : Bytes) (s : State) : Res :=
  let n := byteAt p 0
  let x := s.slot n
  let set := byteAt p 1 == 0
  let quiet := x.st == .unconfigured || x.st == .empty || x.st == .off || x.st == .locked
  guarded s
    [(stBadParam, slotBad s p),
     (stNotInState, set && (!quiet || (x.fetShort && !(slotFrom p).enable)))]
    (if set then .reply (s.modSlot n (slotSet s.drip (slotFrom p))) stOk [] else .reply s stOk (slotCfgReply s n))

/-- `SLOT_CONFIG` (R287). -/
def execSlotConfig (t : Transport) (r : Req) (s : State) : Out :=
  vendorCmd 0xC0A0 t r (mixed 1 [1] r) (fun s _ => slotConfigBody r.payload (settleSlot s (byteAt r.payload 0))) s

/-- `SLOT_POWER` refuses an action in a state (R288). -/
def slotPowerState (x : Slot) : Nat → Bool
  | 0 => !(x.st == .ramping || x.st == .on || x.st == .cooldown)
  | 1 => !(x.st == .off && x.present)
  | 2 => !(x.st == .locked && !x.fetShort)
  | _ => false

/-- The slot after an accepted `SLOT_POWER`. -/
def slotPowerDo (drip now act attn : Nat) (x : Slot) : Slot :=
  match act with
  | 0 => if x.st == .cooldown then { x with offInCool := true } else { slotTo drip .warnOff x with warnAt := now }
  | 1 => rampUp drip now x
  | 2 => slotTo drip .off x
  | _ => { x with attn := attn }

/-- The body of `SLOT_POWER`. -/
def slotPowerBody (p : Bytes) (s : State) : Res :=
  let n := byteAt p 0
  let act := byteAt p 1
  guarded s
    [(stBadParam, badLen p 4 || decide (127 < n) || decide (3 < act) || nonZero p 3 1 ||
        (if act == 3 then decide (2 < byteAt p 2) else nonZero p 2 1)),
     (stNotInState, slotPowerState (s.slot n) act)]
    (.reply (s.modSlot n (slotPowerDo s.drip s.now act (byteAt p 2))) (if act == 1 then stPending else stOk) [])

/-- `SLOT_POWER` (R288). -/
def execSlotPower (t : Transport) (r : Req) (s : State) : Out :=
  vendorCmd 0xC0A1 t r (permits .slot) (fun s _ => slotPowerBody r.payload (settleSlot s (byteAt r.payload 0))) s

/-- The 40-byte reply of `SLOT_STATE` (R289). -/
def slotReply (s : State) (n : Nat) : Bytes :=
  let x := s.slot n
  let bus := s.bus (slotCfg s n).inBus
  let flags := bit x.present + 2 * bit (!x.rawHigh) + 4 * bit (pwrWarnLow s n) + 8 * bit x.inLimit + 16 * bit bus.warn +
    32 * bit bus.under + 64 * bit x.fresh + 128 * bit x.offInCool
  let left := if x.st == .cooldown then (x.coolEnd - s.now) / 800000 else 0
  leBytes 1 n ++ leBytes 1 (slotCode x.st) ++ leBytes 1 flags ++ leBytes 1 x.lastTrip ++ leBytes 1 (sat 8 x.retries) ++
    leBytes 1 x.presChanges ++ leBytes 2 x.vout ++ leBytes 2 x.vin ++ leBytes 2 x.cur ++ leBytes 4 left ++
    leBytes 4 (sat 32 (x.lastOn / 800)) ++ leBytes 4 0 ++ leBytes 8 x.change ++ leBytes 8 s.drip

/-- `SLOT_STATE` (R289). -/
def execSlotState (t : Transport) (r : Req) (s : State) : Out :=
  vendorCmd 0xC0A2 t r (permits .any) (fun s _ =>
    guarded s [(stBadParam, badLen r.payload 4 || nonZero r.payload 1 3 || decide (127 < byteAt r.payload 0))]
      (.reply s stOk (slotReply s (byteAt r.payload 0)))) s

end Sys2Proof.Machine
end

