-- ==== Sys2Proof/Machine/Latch.lean ====
section
/-!
DEFINITION. The latch of the counters (R363-R366): every counter's value by block, instance and index, and the values an edge began with.
-/

namespace Sys2Proof.Machine

/-- Key of a block's instance. -/
def instKey (block inst : Nat) : Nat :=
  block * 512 + inst

/-- Key of a counter. -/
def ctrKey (block inst idx : Nat) : Nat :=
  instKey block inst * 64 + idx

/-- Add a counter's value to a latch. -/
def latch1 (t : Tbl Nat) (block inst idx v : Nat) : Tbl Nat :=
  tput 0 t (ctrKey block inst idx) (v % 2 ^ 64)

/-- Add a table of counters to a latch. -/
def latchAll (t : Tbl Nat) (block inst : Nat) (c : Tbl Nat) : Tbl Nat :=
  c.foldl (fun t x => latch1 t block inst x.1 x.2) t

/-- Gallery-core cycles of a number of drips, at 2.5 to a drip (R365). -/
def cycles (drips : Nat) : Nat :=
  drips * 5 / 2

/-- Status of a gallery's programmable counters (R366). -/
def progStatus (p : Prog) : Nat :=
  p.wrapped % 256 + p.frozen % 256 * 256

/-- Every counter's value now. -/
def latchNow (s : State) : Tbl Nat :=
  let t := s.port.ports.foldl (fun t x => latchAll t 1 x.1 x.2.ctr) []
  let t := s.core.pas.foldl (fun t x => latchAll t 2 x.1 x.2.ctr) t
  let t := s.core.cols.foldl (fun t x => latch1 (latch1 (latch1 (latch1 t 3 x.1 0 (carried s x.1)) 3 x.1 1 x.2.slotsUsed) 3 x.1 2 x.2.slotsIdle)
    3 x.1 3 x.2.sbRouted) t
  let t := s.core.gals.foldl (fun t x => latchAll t 4 x.1 x.2.ctr) t
  let t := s.echo.isls.foldl (fun t x => latchAll t 5 x.1 x.2.sump) t
  let t := (List.range 8).foldl (fun t g =>
    let p := tget {} s.lan.progs g
    let t := latch1 t 6 g 0 (cycles s.now)
    let t := p.counts.foldl (fun t x => latch1 t 6 g (1 + x.1) (x.2 % 2 ^ 48)) t
    latch1 t 6 g 9 (progStatus p)) t
  let t := latch1 (latch1 t 7 0 0 s.lan.frames) 7 0 1 s.lan.sent
  latchAll t 7 0 s.lan.dropDie

/-- Keep what the counters held as the present drip began, at the drips a sweep may name: every sweep period is a multiple of 800
(R26, R370). -/
def takeEdge (s : State) : State :=
  if s.drip % 800 == 0 then { s with lan := { s.lan with edge := some (s.drip, latchNow s) } } else s

/-- The counters as the present drip began: what the edge took, or what they hold where none was taken. -/
def edgeValues (s : State) : Tbl Nat :=
  match s.lan.edge with
  | some (d, t) => if d == s.drip then t else latchNow s
  | none => latchNow s

/-- A gallery's programmable counters, loaded on this edge, show in a snapshot of this edge (R363). -/
def edgeProgs (s : State) (g : Nat) : State :=
  match s.lan.edge with
  | some (d, t) =>
    if d == s.drip then
      let p := tget {} s.lan.progs g
      let t := (List.range 8).foldl (fun t k => latch1 t 6 g (1 + k) (tget 0 p.counts k % 2 ^ 48)) t
      { s with lan := { s.lan with edge := some (d, latch1 t 6 g 9 (progStatus p)) } }
    else s
  | none => s

end Sys2Proof.Machine
end

