-- ==== Sys2Proof/Machine/Rotation.lean ====
section
/-!
DEFINITION. The rotation core (R37-R48): filling slots, rotation boundaries, columns leaving and rejoining, `COLUMN_STATE`.
-/

namespace Sys2Proof.Machine

/-! ## Filling a slot (R41, R42, R75) -/

/-- A slot being filled: the gallery, the places left, the cells placed (with whether each is on its second hop), and per
class how many cells hold-off still lets through. -/
structure Fill where
  gal : Gal
  room : Nat
  placed : List (Cell × Bool)
  allow : List Nat

/-- Cells of a class that may still be placed, at most `lim`. -/
def fillMax (f : Fill) (cls lim : Nat) : Nat :=
  min lim (min f.room (f.allow.getD cls 0))

/-- The fill after placing cells of a class. -/
def fillAdd (f : Fill) (x : Gal) (cls : Nat) (cs : List (Cell × Bool)) : Fill :=
  { gal := x, room := f.room - cs.length, placed := f.placed ++ cs,
    allow := f.allow.set cls (f.allow.getD cls 0 - cs.length) }

/-- Step 1: second hops from the relay queue toward `m`. -/
def takeRelay (m cls lim : Nat) (f : Fill) : Fill :=
  let q := tget [] f.gal.relayQ (qKey m cls)
  let n := fillMax f cls lim
  fillAdd f { f.gal with relayQ := tput [] f.gal.relayQ (qKey m cls) (q.drop n) } cls
    ((q.take n).map (fun c => (c, true)))

/-- An earlier posted cell of the same port toward the same gallery waits or is unacknowledged (R76). -/
def postedBefore (iop : List Cell) (c : Cell) : Bool :=
  (c.pkt.cls == 4 || c.pkt.cls == 5) && iop.any (fun x => x.pkt.srcPort == c.pkt.srcPort && decide (x.ord < c.ord))

/-- The posted cells toward `m` that wait in the queue, or are launched and unacknowledged. -/
def postedTo (m : Nat) (unacked : List Cell) (f : Fill) : List Cell :=
  tget [] f.gal.voq (qKey m 3) ++ unacked ++
    (f.placed.filter (fun e => e.1.pkt.cls == 3 && e.1.pkt.dstGal == m)).map (·.1)

/-- Step 2: direct cells from the virtual output queue toward `m`, in queue order. -/
def takeDirect (m cls lim : Nat) (unacked : List Cell) (f : Fill) : Fill :=
  let q := tget [] f.gal.voq (qKey m cls)
  let iop := postedTo m unacked f
  let go := (q.take (fillMax f cls lim)).takeWhile (fun c => !postedBefore iop c)
  fillAdd f { f.gal with voq := tput [] f.gal.voq (qKey m cls) (q.drop go.length) } cls
    (go.map (fun c => ({ c with relay := false, via := 0 }, false)))

/-- Step 3 for one destination `j` through `m`: cells above the first 336 of a heavy queue (R42). -/
def takeHeavy (m j cls : Nat) (f : Fill) : Fill :=
  let q := tget [] f.gal.voq (qKey j cls)
  let n := fillMax f cls (q.length - 336)
  fillAdd f { f.gal with voq := tput [] f.gal.voq (qKey j cls) (q.drop n) } cls
    ((q.take n).map (fun c => ({ c with relay := true, via := m }, false)))

/-- Fill a slot of gallery `g` toward `m`: classes passed over for 7 slots first, for up to 24 cells, then the three steps of
R41 in class order. -/
def fillSlot (g m : Nat) (unacked : List Cell) (f : Fill) : Fill :=
  let starved := classOrder.filter (fun cls => decide (7 ≤ tget 0 f.gal.skipped (qKey m cls)))
  let f := starved.foldl (fun f cls =>
    let f1 := takeRelay m cls 24 f
    takeDirect m cls (24 - (f1.placed.length - f.placed.length)) unacked f1) f
  let f := classOrder.foldl (fun f cls => takeRelay m cls 168 f) f
  let f := classOrder.foldl (fun f cls => takeDirect m cls 168 unacked f) f
  let dests := (List.range 8).map (fun k => (f.gal.relayPtr + k) % 8)
  let ok := dests.filter (fun j => j != m && j != g && bitOf (tget 0 f.gal.relayRx m) j)
  (classOrder.filter relayable).foldl (fun f cls => ok.foldl (fun f j => takeHeavy m j cls f) f) f

/-- A class has cells toward `m` that it could have placed before this slot. -/
def hasEligible (x : Gal) (m cls : Nat) (allow : List Nat) (unacked : List Cell) : Bool :=
  let direct := match tget [] x.voq (qKey m cls) with
    | [] => false
    | c :: _ => !postedBefore (tget [] x.voq (qKey m 3) ++ unacked) c
  decide (0 < allow.getD cls 0) && (direct || !(tget [] x.relayQ (qKey m cls)).isEmpty)

/-- The count of slots toward `m` in which a class was passed over (R75). -/
def countSkips (m : Nat) (before : Gal) (allow : List Nat) (unacked : List Cell) (f : Fill) : Gal :=
  classOrder.foldl (fun x cls =>
    let placed := f.placed.any (fun e => e.1.pkt.cls == cls && e.1.pkt.dstGal == m)
    let n := if hasEligible before m cls allow unacked && !placed then tget 0 x.skipped (qKey m cls) + 1 else 0
    { x with skipped := tput 0 x.skipped (qKey m cls) n }) f.gal

/-- What hold-off lets through per class toward `m` on a column in slot `n`: everything of a class not held off, the granted
cells of one that is (R57, R58). -/
def allowances (x : Pas) (m n : Nat) : List Nat :=
  (List.range 7).map (fun cls =>
    if bitOf (tget 0 x.peerXoff m) cls then
      sumOf (·.count) (x.grantsIn.filter (fun g => g.peer == m && g.cls == cls && g.slot == n % 65536))
    else 168)

/-- A cell sets out on a column, in a slot that the column then carries (R39). What comes from or goes to a passage whose column end is
dead, the column discards (R60). -/
def sendFlight (s : State) (f : Flight) : State :=
  let s := s.modCol f.c (fun y => if y.carry.contains f.slot then y else { y with carry := y.carry ++ [f.slot] })
  if (s.pas (4 * f.i + f.c)).colDead || (s.pas (4 * f.m + f.c)).colDead then s
  else { s with core := { s.core with flights := s.core.flights ++ [f] } }

/-- Launch a placed cell on passage `p` (R38, R39, R55): its replay entry, its way through the column unless an end the column knows
dead takes it in (R60), its counts. -/
def launchCell (p : Nat) (s : State) (e : Planned) : State :=
  let g := p / 4
  let c := p % 4
  let cell := if e.hop2 || e.cell.replay then e.cell else { e.cell with launch := s.drip % 65536 }
  let o := tget {} (s.pas p).outs e.m
  let h := hchkOf (headerBits cell)
  let chk := [h % 256, h / 256].foldl (fun r b => crcFeed 16 0x8BB7 r (BitVec.ofNat 8 b)) o.check
  let s := noteLaunch s cell e.hop2
  let ent : ReplayEnt := { m := e.m, num := o.next, check := chk, at24 := e.at24, hop2 := e.hop2, cell := cell }
  let s := s.modPas p (fun x => { x with
    replay := x.replay ++ [ent]
    outs := tput {} x.outs e.m { o with next := (o.next + 1) % 65536, check := chk } })
  let s := countPas (sendFlight s { i := g, c := c, m := e.m, slot := e.slot, at24 := e.at24 + 480, cell := cell }) p 0 1
  let s := countGal s g cell.pkt.cls 1
  let s := if e.hop2 then countGal s g 15 1 else if cell.relay then countGal s g 14 1 else s
  let s := pulse s g 1 1 (classGalQual cell.pkt.cls cell.pkt.dstGal)
  let s := if e.hop2 || cell.relay then pulse s g 3 1 (fun q => bitOf q (8 + cell.pkt.dstGal)) else s
  traceCell s g 0 p cell

/-- Launch the cells of a passage that start by now, the present drip's 24 among them (R38). -/
def launchDue (s : State) (p : Nat) : State :=
  let es := (s.pas p).plan.filter (fun e => decide (e.at24 ≤ 24 * s.now + 23))
  if es.isEmpty then s
  else es.foldl (launchCell p) (s.modPas p (fun x => { x with plan := x.plan.filter (fun e => !decide (e.at24 ≤ 24 * s.now + 23)) }))

/-- Every passage launches the cells of this drip. -/
def launchAll (s : State) : State :=
  forEach (s.core.pas.map (·.1)) s launchDue

/-- Posted cells of gallery `g` toward `m` that are placed, or launched and unacknowledged (R76). -/
def unackedPosted (s : State) (g m : Nat) : List Cell :=
  (List.range 4).flatMap (fun c =>
    let x := s.pas (4 * g + c)
    (x.replay.map (·.cell) ++ x.plan.map (·.cell)).filter (fun e => e.pkt.cls == 3 && e.pkt.dstGal == m))

/-- Idle units of a slot on a live passage: 192 or 193 units in 8 drips (R51), less the cells. Which, the spec does not say
(log 2). -/
def idleUnits (s : State) (p cells : Nat) : State :=
  let d := draw s
  countPas d.2 p 2 (192 + d.1 % 2 - cells)

/-- An ECC or parity error found on cells as they are read for a slot, by their places: the cell carries it, and the `LAST` cell of its packet
shows `TAIL` wherever it still waits (R84). -/
def faultCells (bad : List Nat) (x : Gal) (placed : List (Cell × Bool)) : Gal × List (Cell × Bool) :=
  let hit := bad.eraseDups.filterMap (fun k => placed[k]?.map (·.1))
  let mark := fun (c : Cell) =>
    if c.last && hit.any (fun h => flowKey h.pkt.srcGal h.pkt.srcPort h.pkt.cls == flowKey c.pkt.srcGal c.pkt.srcPort c.pkt.cls &&
        h.pkt.dstGal == c.pkt.dstGal && (h.seq + 65536 - h.idx) % 65536 == (c.seq + 65536 - c.idx) % 65536) then { c with tail := true } else c
  let all := fun (q : Tbl (List Cell)) => q.map (fun e => (e.1, e.2.map mark))
  if hit.isEmpty then (x, placed)
  else
    ({ x with voq := all x.voq, relayQ := all x.relayQ },
     placed.mapIdx (fun k e => ({ mark e.1 with fault := e.1.fault || bad.contains k }, e.2)))

/-- A slot's cells take their places, 24 to a drip (R38). -/
def placeCells (x : Pas) (m n now : Nat) (cells : List (Cell × Bool)) : List Planned :=
  cells.mapIdx (fun k e => { m := m, slot := n, at24 := 24 * now + k, hop2 := e.2,
                             granted := bitOf (tget 0 x.peerXoff m) e.1.pkt.cls, cell := e.1 })

/-- While a column is probed: its 64 rotations (R46). -/
def probesNow (s : State) (c : Nat) : Bool :=
  (s.col c).st == .probing && decide (s.now < (s.col c).probeStart + 3584)

/-- One outbound passage at a slot start (R38-R42). Of a column being probed it carries one `PROBE` cell, toward a gallery whose
passage is alive (DEDUCED, log 151). `bad` names columns and places of cells on which a fault is found. -/
def fillPassage (g n : Nat) (bad : List (Nat × Nat)) (s : State) (c : Nat) : State :=
  let m := slotDest n c g
  let p := 4 * g + c
  if usable s g c m && !(s.gal g).stopped && (s.gal m).lost.isNone then
    let x := s.gal g
    let un := unackedPosted s g m
    let al := allowances (s.pas p) m n
    let f := fillSlot g m un { gal := x, room := min 168 (2048 - (s.pas p).replay.length), placed := [], allow := al }
    let ks := (bad.filter (fun e => e.1 == c)).map (·.2)
    let r := faultCells ks (countSkips m x al un f) f.placed
    let s := countGal (s.modGal g (fun _ => r.1)) g 19 (ks.eraseDups.filter (fun k => decide (k < f.placed.length))).length
    let s := s.modPas p (fun y => { y with
      grantsIn := y.grantsIn.filter (fun e => e.slot != n % 65536)
      plan := y.plan ++ placeCells y m n s.now r.2 })
    launchDue (idleUnits s p f.placed.length) p
  else if probesNow s c && pasAlive s p && pasAlive s (4 * m + c) then
    let pk : Pkt := { cls := 7, srcGal := g, dstGal := m, kind := .probe }
    let fl : Flight := { i := g, c := c, m := m, slot := n, at24 := 24 * s.now + 480,
                         cell := { pkt := pk, len := 0, launch := s.drip % 65536 } }
    idleUnits (countPas (sendFlight s fl) p 0 1) p 1
  else if pasAlive s p then idleUnits s p 0
  else s

/-- The advertisement of a passage, to the gallery its column connects to this one in the next slot (R42, R52). -/
def advertise (g n : Nat) (s : State) (c : Nat) : State :=
  if pasAlive s (4 * g + c) then
    sendSb s { type := 2, from_ := g, col := c, dest := slotSource (n + 1) c g,
               body := [(s.gal g).relayOpen, (s.pas (4 * g + c)).xoff] }
  else s

/-- A gallery's drain of a column begins at a boundary: the column is `DRAINING` with the cause of its leaving (R45). -/
def beginDrain (s : State) (g c cause : Nat) : State :=
  let s := setUse s g c (.draining s.now)
  let s := s.modCol c (fun x => if x.outCause == 0 then { x with outCause := cause } else x)
  if (s.col c).st == .inUse then setColSt s c .draining else s

/-- A rotation boundary for one column: a gallery that learned at least 16 drips ago stops using it (R44). -/
def rotateColumn (g : Nat) (s : State) (c : Nat) : State :=
  match useOf s g c with
  | .stopping t =>
    if t + 16 ≤ s.now then
      let s := beginDrain s g c (s.col c).untrusted
      disarm s (fun k => k == .columnDrain c)
    else s
  | _ => s

/-- A rotation boundary for one gallery: changes of its columns (R44), and stopping or resuming as its own core's time state asks (R21). -/
def rotateGallery (s : State) (g : Nat) : State :=
  let s := forEach (List.range 4) s (rotateColumn g)
  s.modGal g (fun x =>
    match x.resumeAt, x.unsureSince with
    | some t, _ => if t + 16 ≤ s.now then { x with stopped := false, resumeAt := none, unsureSince := none } else { x with stopped := true }
    | none, some _ => { x with stopped := true }
    | none, none => x)

/-- A `PROBE` cell due at gallery `g`, or at any gallery, has not come (R46). -/
def probeMissing (s : State) (c : Nat) (at_ : Nat → Bool) : Bool :=
  s.core.flights.any (fun f => f.c == c && at_ f.m && f.cell.pkt.cls == 7 && decide (f.at24 + 24 ≤ 24 * s.now))

/-- A gallery finds a `PROBE` cell wrong or missing: the column's admission ends (R46), at once while a cluster runs (R344). -/
def probeFails (s : State) (c : Nat) : State :=
  if (s.col c).st == .probing then
    if firmwareUp s then failAdmission s c else s.modCol c (fun x => { x with probeBad := true })
  else s

/-- Gallery `g` looks for the `PROBE` cells due to it. -/
def checkProbes (g : Nat) (s : State) (c : Nat) : State :=
  if probeMissing s c (· == g) then probeFails s c else s

/-- `SLOT_BOUNDARY` (R41): gallery `g` fills its slot on each passage. Actions launched on this edge (R23) and, at a rotation boundary, its
own changes (R44) go first. -/
def execSlotBoundary (r : SlotFill) (s : State) : Out :=
  let g := r.gal
  let n := slotNo s.drip
  if !decide (g < 8) || !(s.drip % 8 == 0) || (s.gal g).lastSlot == some n || (s.gal g).lost.isSome || launchWaits s then .next s
  else
    let s := if isRotation s.drip then rotateGallery s g else s
    let s := forEach (List.range 4) s (checkProbes g)
    let s := s.modGal g (fun x => { x with lastSlot := some n })
    let s := forEach (List.range 4) s (fillPassage g n r.bad)
    let s := s.modGal g (fun x => { x with relayPtr := (x.relayPtr + 1) % 8 })
    .next (forEach (List.range 4) s (advertise g n))

/-- `ROTATION_BOUNDARY` (R44): gallery `g` applies changes to the columns it uses. -/
def execRotationBoundary (g : Nat) (s : State) : Out :=
  due (decide (g < 8) && isRotation s.drip && (s.gal g).lost.isNone && !launchWaits s) s (rotateGallery s g)

/-- `COLUMN_CROSSBAR_CHANGE` (R39): column `c` goes on to the next slot; a disagreement of its two schedule generators is a
failed schedule check (R44). -/
def execColumnCrossbarChange (c : Nat) (agree : Bool) (s : State) : Out :=
  let n := (s.drip - 9) / 8
  if !decide (c < 4) || decide (s.drip < 17) || decide (n ≤ (s.col c).slotN) then .next s
  else
    let used := (s.col c).carry.any (fun k => decide (k < n))
    let inUse := colInUse s c
    let s := s.modCol c (fun x => { x with
      slotN := n
      carry := x.carry.filter (fun k => !decide (k < n))
      slotsUsed := if used then (x.slotsUsed + 1) % 2 ^ 64 else x.slotsUsed
      slotsIdle := if !used && inUse then (x.slotsIdle + 1) % 2 ^ 64 else x.slotsIdle })
    .next (if agree then s else columnUntrusted s c 3)

/-- Every gallery has ended its use of the column. -/
def allOff (s : State) (c : Nat) : Bool :=
  (List.range 8).all (fun g => useOf s g c == .off || (s.gal g).lost.isSome)

/-- A column whose last gallery has ended its use is `OFFLINE`, from drip `at_` (R45, R48). -/
def columnOut (s : State) (c at_ : Nat) : State :=
  if allOff s c && (s.col c).st == .draining then
    let cause := (s.col c).outCause
    let s := s.modCol c (fun x => { x with lastCause := cause, drainAsked := false })
    raiseCol (setColSt s c .offline) c evColumnOffline cause (colSev (colsInUse s)) at_
  else s

/-- `COLUMN_DRAIN_END` (R45): at B + 112 the column is out for gallery `g`, whose unacknowledged cells are replayed; when the
last gallery's drain ends it is `OFFLINE` and `EV_COLUMN_OFFLINE` is raised (R48). -/
def execColumnDrainEnd (g c : Nat) (s : State) : Out :=
  if !decide (g < 8) || !decide (c < 4) then .next s
  else
    match useOf s g c with
    | .draining b =>
      if s.now < b + 112 then .next s
      else
        let p := 4 * g + c
        let es := (s.pas p).replay
        let s := setUse s g c .off
        let s := s.modPas p (fun x => { x with replay := [] })
        .next (columnOut (replayInto s g p es) c (s.drip - (s.now - (b + 112))))
    | _ => .next s

/-- A passage of column `c` is in its part of the column's admission, or in a test it ends first (R46; a test: DEDUCED, log 153). -/
def partRuns (s : State) (c g : Nat) : Bool :=
  let x := s.pas (4 * g + c)
  (s.gal g).lost.isNone && ((x.st == .admitting && x.op.forColumn) || x.st == .testing)

/-- An admission's calibration stage ends when its nine islands are sure and no passage of it is still being admitted; probing
then begins, and fails at once without a live passage (R46). -/
def columnCalCheck (s : State) (c : Nat) : State :=
  if (s.col c).st == .calibrating && (colIslands c).all (fun i => (s.isl i).st == .sure) && !(List.range 8).any (partRuns s c) then
    let s := setColSt (s.modCol c (fun x => { x with probeStart := s.now, probeBad := false, cleanEnd := none })) c .probing
    if aliveMask s c == 0 then failAdmission s c else s
  else s

/-- `PROBING_END` (R46): after 64 rotations, clean probing arms the column's return; otherwise the admission fails. Admissions wait
while no cluster runs (R344). -/
def execProbingEnd (c : Nat) (s : State) : Out :=
  if !decide (c < 4) || !firmwareUp s || !((s.col c).st == .probing) || (s.col c).cleanEnd.isSome ||
      decide (s.now < (s.col c).probeStart + 3584) then .next s
  else if (s.col c).probeBad || probeMissing s c (fun _ => true) || aliveMask s c == 0 then .next (failAdmission s c)
  else
    let s := s.modCol c (fun x => { x with cleanEnd := some s.now })
    .next (armFor s (.columnReturn c) (nextRotation (s.drip + 1024)) (coreIslands s))

/-- `ADMISSION_TIMEOUT` (R46): the return has not launched within 160,000 drips of the end of clean probing. -/
def execAdmissionTimeout (c : Nat) (s : State) : Out :=
  match (s.col c).cleanEnd with
  | some t => due (decide (c < 4) && firmwareUp s && (s.col c).st == .probing && decide (t + 160000 ≤ s.now)) s (failAdmission s c)
  | none => .next s

/-! ## Launched changes -/

/-- A commanded drain launches in every gallery at its boundary (R44). -/
def launchColumnDrain (s : State) (c : Nat) : State :=
  forEach ((List.range 8).filter (fun g => usesCol s g c && (s.gal g).lost.isNone)) s (fun s g => beginDrain s g c 1)

/-- A column's return launches: every stream through it restarts, and every gallery uses it (R46). A `PROBE` cell that never came ends the
admission instead. -/
def launchColumnReturn (s : State) (c : Nat) : State :=
  if !((s.col c).st == .probing) then s
  else if (s.col c).probeBad || probeMissing s c (fun _ => true) then failAdmission s c
  else
    let s := forEach (List.range 8) s (fun s g => restartStreams s (4 * g + c))
    let s := forEach (List.range 8) s (fun s g => setUse s g c .used)
    let s := setColSt (s.modCol c (fun x => { x with outCause := 0, cleanEnd := none })) c .inUse
    raiseCol s c evColumnOnline 0 0 s.drip

/-! ## COLUMN_STATE (R47) -/

/-- The 24-byte reply. -/
def columnReply (s : State) (c : Nat) : Bytes :=
  let x := s.col c
  let st := match x.st with
    | .inUse => 0
    | .draining => 1
    | .offline => 2
    | .calibrating => 3
    | .probing => 4
  leBytes 1 c ++ leBytes 1 st ++ leBytes 1 x.lastCause ++ leBytes 1 (inUseMask s) ++ leBytes 1 (aliveMask s c) ++
    zeros 3 ++ leBytes 8 x.changeDrip ++ leBytes 8 (carried s c)

/-- A column counts as in use for the tests of `DRAIN`: not once a `DRAIN` is accepted or a sequencer has learned (R47). -/
def drainable (s : State) (c : Nat) : Bool :=
  let x := s.col c
  x.st == .inUse && !x.drainAsked && (x.untrusted == 0 || (List.range 8).all (fun g => useOf s g c == .used))

/-- An island begins its recalibration; its run of good beacons goes on (R20). -/
def calibrate (s : State) (i : Nat) : State :=
  s.modIsl i (fun x => { x with st := .calibrating, since := s.drip })

/-- One passage joins its column's admission (R46). One in a test joins when that ends, one in its own admission goes on by itself (DEDUCED,
log 153). -/
def startPart (c : Nat) (s : State) (g : Nat) : State :=
  let p := 4 * g + c
  match (s.pas p).st with
  | .testing => s
  | .admitting => s
  | _ =>
    let s := if pasAlive s p then s else allLearn s p
    calibrate (s.modPas p (fun x => { x with
      st := .admitting, testAsked := none, op := { started := s.now, forColumn := true, wasAlive := pasAlive s p } })) (pasIslG g c)

/-- Start an admission: the column's islands and its passages' gallery ends are recalibrated, and every passage is admitted
again (R46). -/
def startAdmission (s : State) (c : Nat) : State :=
  let s := setColSt (s.modCol c (fun x => { x with untrusted := 0, outCause := 0, drainAsked := false })) c .calibrating
  let s := forEach (colIslands c) s calibrate
  forEach ((List.range 8).filter (fun g => (s.gal g).lost.isNone)) s (startPart c)

/-- The body of `COLUMN_STATE`. -/
def columnBody (p : Bytes) (s : State) : Res :=
  let c := byteAt p 0
  let act := byteAt p 1
  guarded s
    [(stBusy, commitArmed s && (act == 1 || act == 2)),
     (stBadParam, badLen p 4 || nonZero p 2 2 || decide (3 < c) || decide (2 < act)),
     (stNotInState, (act == 1 && (!drainable s c || decide (((List.range 4).filter (fun k => k != c && drainable s k)).length < 3)))
       || (act == 2 && !((s.col c).st == .offline)))]
    (match act with
     | 0 => .reply s stOk (columnReply s c)
     | 1 =>
       let s := s.modCol c (fun x => { x with drainAsked := true })
       let s := armFor s (.columnDrain c) (nextRotation (s.drip + 1024)) (coreIslands s)
       .reply s stPending (columnReply s c)
     | _ =>
       let s := startAdmission s c
       .reply s stPending (columnReply s c))

/-- `COLUMN_STATE` (R47): queries, drains or admits a column. -/
def execColumnState (t : Transport) (r : Req) (s : State) : Out :=
  vendorCmd 0xC092 t r (mixed 1 [0] r) (fun s _ => columnBody r.payload s) s

end Sys2Proof.Machine
end

