-- ==== Sys2Proof/Machine/Passage.lean ====
section
/-!
DEFINITION. Passages (R50-R66): arrival and acknowledgement, sideband words, hold-off and grants, death, and `PASSAGE_TEST`.
-/

namespace Sys2Proof.Machine

/-- A passage end exists. -/
def isPas (g c : Nat) : Bool :=
  decide (g < 8) && decide (c < 4)

/-! ## Cells arriving (R36, R54, R56) -/

/-- The cell that a received header word describes (R34). -/
def cellWithHeader (c : Cell) (w : Nat) : Cell :=
  { c with
    pkt := { c.pkt with
      dstGal := bitsOf w 2 0, dstPort := bitsOf w 8 3, srcGal := bitsOf w 11 9, srcPort := bitsOf w 17 12,
      cls := bitsOf w 20 18, grotto := bitsOf w 48 37, gen := bitsOf w 56 49, gv := bitOf w 71,
      prio := bitsOf w 90 88, agent := bitsOf w 99 92 }
    seq := bitsOf w 36 21, first := bitOf w 57, last := bitOf w 58, len := bitsOf w 65 59, relay := bitOf w 66,
    via := bitsOf w 69 67, tail := bitOf w 70, launch := bitsOf w 87 72, replay := bitOf w 91 }

/-- The receiving gallery is the one a cell from hop sender `i` names: `VIA_GAL` on a first hop, else `DST_GAL` (R36). -/
def namesGallery (c : Cell) (i g : Nat) : Bool :=
  if c.relay && i != c.via then c.via == g else c.pkt.dstGal == g

/-- The next cell to arrive at a gallery passage end. -/
def nextFlight (s : State) (g c : Nat) : Option Flight :=
  s.core.flights.find? (fun f => f.m == g && f.c == c)

/-- A stream's receiving end after a cell: counted, its check carried on, its ack timer started (R54). -/
def countIn (v : StreamIn) (h now : Nat) : StreamIn :=
  let chk := [h % 256, h / 256].foldl (fun r b => crcFeed 16 0x8BB7 r (BitVec.ofNat 8 b)) v.check
  { v with count := (v.count + 1) % 65536, check := chk, unacked := v.unacked + 1,
           firstAt := if v.unacked == 0 then now else v.firstAt }

/-- A good cell enters the receive buffer, numbered in its gallery's order of arrival: its class's reserve while that holds fewer than 64, else the shared part (R56). A
grant of its slot is used up cell by cell (R58). -/
def storeRx (s : State) (g c : Nat) (f : Flight) (cell : Cell) : State :=
  let p := 4 * g + c
  let cls := cell.pkt.cls
  let ord := (s.gal g).nextArr
  let s := s.modGal g (fun x => { x with nextArr := x.nextArr + 1 })
  let s := s.modPas p (fun x => { x with
    rx := x.rx ++ [{ cell := { cell with ord := ord }, reserve := decide (rxClass x cls true < 64) }]
    grantsOut := replaceFirst (fun e => e.cls == cls && e.slot == f.slot) (fun e => { e with count := e.count - 1 }) x.grantsOut })
  let s := countPas s p 1 1
  let s := countGal s g (7 + cls) 1
  let s := pulse s g 2 1 (classGalQual cls cell.pkt.srcGal)
  updateHoldOff (traceCell s g 1 p cell) p

/-- A good cell of a stream: counted and, at the 64th unacknowledged one, acknowledged (R54). -/
def streamCell (s : State) (g c i h : Nat) : State :=
  let p := 4 * g + c
  let v := tget {} (s.pas p).ins i
  if v.stopped then s
  else
    let v := countIn v h s.now
    let s := s.modPas p (fun x => { x with ins := tput {} x.ins i v })
    if 64 ≤ v.unacked then sendAck s g c i else s

/-- A probe cell is checked against the schedule (R46). -/
def probeArrival (s : State) (f : Flight) (good : Bool) (cell : Cell) : State :=
  if good && cell.pkt.cls == 7 && cell.pkt.srcGal == slotSource f.slot f.c f.m then s else probeFails s f.c

/-- `CELL_ARRIVAL` (R54): the next cell at gallery `g`'s end of its passage to `c` arrives, with header bits inverted where
`mask` has ones. A bad check or a wrong gallery discards and counts it, and the passage dies with cause `HEADER` (R36, R59); an end that
knows the passage dead discards everything (R60). -/
def execCellArrival (g c mask : Nat) (s : State) : Out :=
  match nextFlight s g c with
  | none => .next s
  | some f =>
    if 24 * s.now + 24 ≤ f.at24 then .next s
    else
      let p := 4 * g + c
      let s := { s with core := { s.core with flights := removeFirst (fun f => f.m == g && f.c == c) s.core.flights } }
      let s := s.modCol c (fun y => { y with cells := (y.cells + 1) % 2 ^ 64 })
      let w := headerWord f.cell ^^^ (mask % 2 ^ 128)
      let cell := if mask % 2 ^ 128 == 0 then f.cell else cellWithHeader f.cell w
      let good := headerGood w && namesGallery cell f.i g
      if (s.pas p).galDead then .next s
      else
        let s := if good then s else killPassage (s.modGal g (fun x => { x with discarded := (x.discarded + 1) % 2 ^ 64 })) p 4 0 65535
        if f.cell.pkt.cls == 7 then .next (probeArrival (if good then countPas s p 1 1 else s) f good cell)
        else if !good then .next s
        else .next (storeRx (streamCell s g c f.i (w / 2 ^ 112 % 65536)) g c f cell)

/-! ## Acknowledgement (R54, R55) -/

/-- `ACK_TIMER` (R54): 32 drips after the earliest unacknowledged cell of the stream from `i`, its `ACK` is sent. -/
def execAckTimer (g c i : Nat) (s : State) : Out :=
  let v := tget {} (s.pas (4 * g + c)).ins i
  due (isPas g c && decide (i < 8) && decide (0 < v.unacked) && !v.stopped && decide (v.firstAt + 32 ≤ s.now)) s
    (sendAck s g c i)

/-- `ACK_RECEIVED` (R55): an `ACK` from `m` for the stream (g, c, m). In range and with the stored check it frees every entry up
to it; otherwise the outbound passage dies. -/
def execAckReceived (g c m seq check : Nat) (s : State) : Out :=
  let p := 4 * g + c
  let x := s.pas p
  let o := tget {} x.outs m
  if !isPas g c || !decide (m < 8) || !pasAlive s p || useOf s g c == .off then .next s
  else
    let s := countPas s p 5 1
    let n := (seq + 1 + 65536 - o.acked) % 65536
    if n == 0 || decide ((o.next + 65536 - o.acked) % 65536 < n) then .next (killPassage s p 6 0 65535)
    else
      match x.replay.find? (fun e => e.m == m && e.num == seq % 65536) with
      | none => .next (killPassage s p 6 0 65535)
      | some e =>
        if e.check != check then .next (killPassage s p 7 0 65535)
        else
          let gone := fun (e : ReplayEnt) => e.m == m && decide ((e.num + 65536 - o.acked) % 65536 < n)
          let s := s.modPas p (fun x => { x with
            replay := x.replay.filter (fun e => !gone e)
            outs := tput {} x.outs m { o with acked := (seq + 1) % 65536 } })
          .next (s.modGal g (fun y => (x.replay.filter gone).foldl (fun y e => freeSent y e.hop2 e.cell) y))

/-- `ACK_TIMEOUT` (R59): the oldest replay entry is unacknowledged 256 drips after launch. -/
def execAckTimeout (g c : Nat) (s : State) : Out :=
  let p := 4 * g + c
  due (isPas g c && useOf s g c != .off && (s.pas p).replay.any (fun e => decide (e.at24 + 256 * 24 ≤ 24 * s.now))) s
    (killPassage s p 8 0 65535)

/-! ## Hold-off and grants (R57, R58) -/

/-- The hold-off mask gallery `g` honours toward `m` on column `c`, from the next cell on: a placed cell of a class now held off goes back to
its queue, unless a grant placed it (R57). -/
def setPeerXoff (s : State) (g c m xoff : Nat) : State :=
  let s := s.modPas (4 * g + c) (fun x => { x with peerXoff := tput 0 x.peerXoff m (xoff % 128) })
  unplan s (4 * g + c) (fun e => e.m == m && bitOf (xoff % 128) e.cell.pkt.cls && !e.granted)

/-- `ADVERT` (R42): relay permission and hold-off mask from gallery `m`. -/
def execAdvert (g c m relayOpen xoff : Nat) (s : State) : Out :=
  due (isPas g c && decide (m < 8) && pasAlive s (4 * g + c)) s
    ((setPeerXoff s g c m xoff).modGal g (fun x => { x with relayRx := tput 0 x.relayRx m (relayOpen % 256) }))

/-- `FLOW` (R57): a hold-off mask from gallery `m`. -/
def execFlow (g c m xoff : Nat) (s : State) : Out :=
  due (isPas g c && decide (m < 8) && pasAlive s (4 * g + c)) s (setPeerXoff s g c m xoff)

/-- Free cells of a class's reserve that no outstanding grant has promised (R58). -/
def grantRoom (x : Pas) (cls : Nat) : Nat :=
  64 - rxClass x cls true - sumOf (·.count) (x.grantsOut.filter (fun e => e.cls == cls))

/-- `GRANT_SEND` (R58): after 27 drips of hold-off the receiver grants all it may, in the slot 4 ahead (DESIGN CHOICE, log 10). -/
def execGrantSend (g c cls : Nat) (s : State) : Out :=
  let p := 4 * g + c
  let x := s.pas p
  let h := tget 0 x.heldSince cls
  let n := slotNo s.drip + 4
  let m := slotSource n c g
  let k := grantRoom x cls
  if !isPas g c || !decide (cls < 7) || !pasAlive s p || h == 0 || decide (s.now + 1 < h + 27) || k == 0 then .next s
  else
    let s := s.modPas p (fun x => { x with grantsOut := x.grantsOut ++ [{ peer := m, cls := cls, count := k, slot := n }] })
    .next (sendSb (countPas s p 7 1) { type := 4, from_ := g, col := c, dest := m, body := [cls, k, n % 65536] })

/-- `GRANT` (R58): gallery `g` may place up to `count` cells of the class toward `m` in the named slot. -/
def execGrant (g c m cls count slot : Nat) (s : State) : Out :=
  due (isPas g c && decide (m < 8) && decide (cls < 7) && decide (count ≤ 64) && pasAlive s (4 * g + c)) s
    (s.modPas (4 * g + c) (fun x => { x with
      grantsIn := x.grantsIn ++ [{ peer := m, cls := cls, count := count, slot := slot % 65536 }] }))

/-- `GRANT_EXPIRY` (R58): what is unused of a grant expires 28 drips after its slot's start. -/
def execGrantExpiry (g c cls slot : Nat) (s : State) : Out :=
  due (isPas g c) s
    (s.modPas (4 * g + c) (fun x => { x with grantsOut := x.grantsOut.filter (fun e =>
      !(e.cls == cls && e.slot % 65536 == slot % 65536 && decide (8 * e.slot + 28 ≤ s.drip))) }))

/-! ## Notices and death (R52, R59, R60) -/

/-- `NOTICE` (R52): gallery `g`'s sequencer learns of what `code` names: a dead passage, an untrusted column, or the time state or
supply of a gallery core. A notice nobody can have sent changes nothing. -/
def execNotice (g code num : Nat) (s : State) : Out :=
  let pasDead := decide (num < 32) && ((s.pas num).st == .dead || (s.pas num).st == .testing)
  if !decide (g < 8) then .next s
  else
    match code with
    | 1 => due pasDead s (learnDeath s g num)
    | 2 => due (decide (num < 4) && (s.col num).untrusted == 2) s (learnColumn s g num)
    | 3 => due (decide (num < 4) && (s.col num).untrusted == 3) s (learnColumn s g num)
    | 4 => due (decide (num < 4) && (s.col num).untrusted == 5) s (learnColumn s g num)
    | 5 => due (decide (num < 8) && s.unsure (coreIsl num)) s (s.modGal g (fun x => { x with peerUnsure := setBit x.peerUnsure num }))
    | 6 => due (decide (num < 8) && (s.gal num).supplyBad) s (s.modGal g (fun x => { x with peerSupply := setBit x.peerSupply num }))
    | 7 => due (decide (num < 8) && !s.unsure (coreIsl num)) s (s.modGal g (fun x => { x with peerUnsure := clrBit x.peerUnsure num }))
    | _ => .next s

/-- `PASSAGE_ERROR` (R60): an end (0 gallery, 1 column) detects a parity, marker, header or sideband error. -/
def execPassageError (p endp cause lane : Nat) (s : State) : Out :=
  due (decide (p < 32) && decide (endp < 2) && [1, 2, 4, 5].contains cause) s (killPassage s p cause endp (min lane 65535))

/-- `FORWARDED_CLOCK_LOST` (R59): no edge on a forwarded-clock lane for 4 lane-word periods. -/
def execForwardedClockLost (p endp lane : Nat) (s : State) : Out :=
  due (decide (p < 32) && decide (endp < 2)) s (killPassage s p 3 endp (min lane 65535))

/-- `KILL` (R60): the far end treats the passage as dead and discards what it received; a gallery end learns of the death. -/
def execKill (p endp : Nat) (s : State) : Out :=
  let dead := decide (p < 32) && decide (endp < 2) && ((s.pas p).st == .dead || (s.pas p).st == .testing)
  if !dead then .next s
  else
    let s := noticeDeath (endDies s p endp) p endp
    .next (if endp == 0 then learnDeath s (p / 4) p else s)

/-! ## Test and admission (R63-R65) -/

/-- The 88-byte reply of `PASSAGE_TEST`. -/
def passageReply (s : State) (p result : Nat) : Bytes :=
  let x := s.pas p
  let st := match x.st with
    | .alive => 0
    | .draining _ => 1
    | .dead => 2
    | .testing => 3
    | .admitting => 4
  leBytes 1 p ++ leBytes 1 st ++ leBytes 1 x.lastCause ++ leBytes 1 result ++ leBytes 4 (sat 32 x.testErrors) ++
    leBytes 8 x.deathDrip ++ leBytes 8 x.replayed ++ leBytes 32 x.errOut ++ leBytes 32 x.errIn

/-- A drain of a passage launches: no gallery places cells on it or toward it (R64). -/
def launchPassageDrain (s : State) (p : Nat) : State :=
  if (s.pas p).st == .alive then s.modPas p (fun x => { x with st := .draining s.now }) else s

/-- `PASSAGE_DRAIN_END` (R64): at B + 112 the passage dies with cause `COMMANDED` and the pattern test begins. -/
def execPassageDrainEnd (p : Nat) (s : State) : Out :=
  match (s.pas p).st with
  | .draining b => due (decide (p < 32) && decide (b + 112 ≤ s.now)) s (killPassage s p 0x0A 2 65535)
  | _ => .next s

/-- The lane words of a test have been sent: a lane word lasts 0.528 drip (R51, R64). -/
def testOver (s : State) (x : Pas) : Bool :=
  decide (x.op.blocks * 65536 * 66 ≤ (s.now - x.op.started) * 125)

/-- `PASSAGE_TEST_END` (R64): the pattern test ends and the passage stays dead. If its column is being admitted, it joins (R46). -/
def execPassageTestEnd (p errors outMask inMask : Nat) (s : State) : Out :=
  if !decide (p < 32) || !((s.pas p).st == .testing) || !testOver s (s.pas p) then .next s
  else
    let s := s.modPas p (fun x => { x with
      st := .dead, testErrors := sat 32 errors, errOut := outMask % 2 ^ 256, errIn := inMask % 2 ^ 256, op := {} })
    let s := raisePas s p 0x0C 2 65535 0 s.drip
    .next (if (s.col (p % 4)).st == .calibrating && (s.gal (p / 4)).lost.isNone then startPart (p % 4) s (p / 4) else s)

/-- Answer the `ADMIT` that waits on a passage, if a session still waits (R65). -/
def answerAdmit (s : State) (p result : Nat) : State :=
  match (s.pas p).op.session with
  | some n => lateReply s n 0xC093 stOk (passageReply s p result)
  | none => s

/-- An admission of one passage fails with a cause: the passage stays dead, and the reply carries the cause (R65). -/
def failPassageAdmit (s : State) (p cause : Nat) : State :=
  let s := disarm s (fun k => k == .passageReturn p)
  let n := (s.pas p).op.session
  let s := (admitFailed s p).modPas p (fun x => { x with op := { x.op with session := n } })
  (answerAdmit s p cause).modPas p (fun x => { x with op := {} })

/-- The islands that a passage's return concerns: every gallery core, and both ends of the passage (R65). -/
def returnIslands (s : State) (p : Nat) : List Nat :=
  coreIslands s ++ [pasIslG (p / 4) (p % 4), pasIslC (p / 4) (p % 4)]

/-- 200 µs have passed since an admission of one passage was accepted (R65). -/
def admitOver (s : State) (p : Nat) : Bool :=
  decide ((s.pas p).op.started + 160000 ≤ s.now)

/-- A passage's return is armed once both its end islands are sure again (R65). -/
def passageCalCheck (s : State) (p : Nat) : State :=
  let x := s.pas p
  if x.st == .admitting && !x.op.forColumn && !x.op.armed && (s.isl (pasIslG (p / 4) (p % 4))).st == .sure &&
      (s.isl (pasIslC (p / 4) (p % 4))).st == .sure then
    armFor (s.modPas p (fun x => { x with op := { x.op with armed := true } })) (.passageReturn p)
      (nextRotation (s.drip + 1024)) (returnIslands s p)
  else s

/-- A passage's return launches: alive, every stream through it at number 0; after 200 µs the admission fails instead (R65). -/
def launchPassageReturn (s : State) (p : Nat) : State :=
  if !((s.pas p).st == .admitting) then s
  else if admitOver s p then failPassageAdmit s p 9
  else (revive (restartStreams s p) p).modPas p (fun x => { x with op := { x.op with returned := true } })

/-- The cause `RESULT` gives at the end of an admission: 0 while the passage is alive (R65). -/
def admitResult (s : State) (p : Nat) : Nat :=
  if pasAlive s p then 0 else (s.pas p).lastCause

/-- `PASSAGE_ADMIT_END` (R65): an admission ends. As a part of a column's admission the passage is alive or dead (R46); otherwise it is alive
when its return has launched, or it fails with `result`, and with `TIME_UNSURE` after 200 µs, and the reply is sent. -/
def execPassageAdmitEnd (p result errors : Nat) (s : State) : Out :=
  let x := s.pas p
  let bad := !(result == 0) || !(errors == 0)
  if !decide (p < 32) || !firmwareUp s then .next s
  else if x.st == .admitting then
    let s := s.modPas p (fun x => { x with testErrors := sat 32 errors })
    if x.op.forColumn then
      if bad || admitOver s p then .next (columnCalCheck (failPart s p) (p % 4))
      else .next (columnCalCheck ((revive s p).modPas p (fun x => { x with op := {} })) (p % 4))
    else if bad then .next (failPassageAdmit s p (if result == 0 then 1 else result % 256))
    else if admitOver s p then .next (failPassageAdmit s p 9)
    else .next s
  else if x.op.returned then .next ((answerAdmit s p (admitResult s p)).modPas p (fun x => { x with op := {} }))
  else .next s

/-- Live passages a gallery would keep if `p` were tested: passages with an accepted `TEST` count as not live (R64). -/
def liveWithout (s : State) (p : Nat) : Nat :=
  ((List.range 4).filter (fun c =>
    let q := 4 * (p / 4) + c
    q != p && (s.pas q).st == .alive && (s.pas q).testAsked.isNone)).length

/-- A passage cannot be tested or admitted now (R64, R337). -/
def passageBusy (s : State) (p : Nat) : Bool :=
  let x := s.pas p
  x.testAsked.isSome || (x.st != .alive && x.st != .dead) || x.op.returned

/-- Start one passage's admission: both end islands are recalibrated (R65). -/
def startPassageAdmit (s : State) (p : Nat) (n : Option Nat) : State :=
  let s := allLearn s p
  let s := s.modPas p (fun x => { x with st := .admitting, op := { started := s.now, session := n } })
  calibrate (calibrate s (pasIslG (p / 4) (p % 4))) (pasIslC (p / 4) (p % 4))

/-- The body of `PASSAGE_TEST`. -/
def passageBody (q : Bytes) (n : Option Nat) (s : State) : Res :=
  let p := byteAt q 0
  let act := byteAt q 1
  let pat := byteAt q 2
  let blocks := fieldAt q 4 2
  let x := s.pas p
  guarded s
    [(stBusy, commitArmed s && (act == 1 || act == 2)),
     (stBadParam, badLen q 8 || nonZero q 3 1 || nonZero q 6 2 || decide (31 < p) || decide (2 < act) || decide (1 < pat)
       || (act == 1 && (blocks == 0 || decide (16384 < blocks))) || (!(act == 1) && (!(pat == 0) || !(blocks == 0)))),
     (stNotInState, !(act == 0) && (passageBusy s p
       || (act == 1 && x.st == .alive && decide (liveWithout s p < 3))
       || (act == 2 && (!(x.st == .dead) || !((s.col (p % 4)).st == .inUse) || (s.gal (p / 4)).lost.isSome))))]
    (match act with
     | 0 => .reply s stOk (passageReply s p 0)
     | 1 =>
       let op : PasOp := { started := s.now, pattern := pat, blocks := blocks }
       if x.st == .alive then
         let s := s.modPas p (fun x => { x with testAsked := some op })
         let s := armFor s (.passageDrain p) (nextRotation (s.drip + 1024)) (coreIslands s)
         .reply s stPending (passageReply s p 0)
       else
         let s := (allLearn s p).modPas p (fun x => { x with st := .testing, op := op })
         .reply s stPending (passageReply s p 0)
     | _ => .wait (startPassageAdmit s p n))

/-- `PASSAGE_TEST` (R63): queries, tests or admits a passage. -/
def execPassageTest (t : Transport) (r : Req) (s : State) : Out :=
  vendorCmd 0xC093 t r (mixed 1 [0] r) (fun s n => passageBody r.payload n s) s

end Sys2Proof.Machine
end

