-- ==== Sys2Proof/Machine/Time.lean ====
section
/-!
DEFINITION. Drip time and clock islands (R13-R33): references, beacons, unsure islands and their recalibration, the pulses,
and the arming of actions up to the master's decision; `TIME_CONFIG` and `TIME_READ`.
-/

namespace Sys2Proof.Machine

/-! ## System references (R16) -/

/-- One of the two references. -/
def refIn (s : State) (k : Nat) : RefIn :=
  if k == 0 then s.time.refA else s.time.refB

/-- Change a reference. -/
def modRef (s : State) (k : Nat) (f : RefIn → RefIn) : State :=
  if k == 0 then { s with time := { s.time with refA := f s.time.refA } }
  else { s with time := { s.time with refB := f s.time.refB } }

/-- The mode forces a reference (R16). -/
def forced (s : State) : Bool :=
  s.time.refMode == 2 || s.time.refMode == 3

/-- Select a reference, leaving holdover. No event: R33 has no cause for a reference gained (DEDUCED, log 142). -/
def selectRef (s : State) (k : Nat) : State :=
  { s with time := { s.time with sel := k, holdover := false } }

/-- The internal PLL enters holdover, reported by cause `REF_HOLDOVER` from the time master (source: DEDUCED, log 143). -/
def enterHoldover (s : State) : State :=
  if s.time.holdover then s
  else raiseTime { s with time := { s.time with holdover := true } } 1572 4 1 65535 s.drip

/-- `REF_CLOCK_LOST` (R16): a reference is lost. The selected one, in an automatic mode, gives way to the other while that is
good; otherwise the PLL enters holdover. -/
def execRefClockLost (ref : Nat) (s : State) : Out :=
  if !decide (ref < 2) || !(refIn s ref).good then .next s
  else
    let s := modRef s ref (fun x => { x with good := false })
    let s := raiseTime s (1573 + ref) 3 1 65535 s.drip
    if s.time.sel != ref || s.time.holdover then .next s
    else if !forced s && (refIn s (1 - ref)).good then .next (selectRef s (1 - ref))
    else .next (enterHoldover s)

/-- `SYS_REFCLK_RESTORED` (R16): a lost reference shows edges within frequency again. In an automatic mode a PLL in holdover
moves to it at once (DEDUCED, log 144). -/
def execSysRefclkRestored (ref : Nat) (s : State) : Out :=
  if !decide (ref < 2) || (refIn s ref).good then .next s
  else
    let s := modRef s ref (fun _ => { good := true, goodSince := s.now })
    .next (if s.time.holdover && !forced s then selectRef s ref else s)

/-- `REF_GOOD_TIMER` (R16): a reference has been good for 1 s. Mode 1 returns to A; a forced mode returns to its reference from
holdover. -/
def execRefGoodTimer (ref : Nat) (s : State) : Out :=
  let x := refIn s ref
  if !decide (ref < 2) || !x.good || decide (s.now < x.goodSince + 800000000) then .next s
  else
    match s.time.refMode with
    | 1 => due (ref == 0 && (s.time.sel == 1 || s.time.holdover)) s (selectRef s 0)
    | 2 => due (ref == 0 && s.time.holdover) s (selectRef s 0)
    | 3 => due (ref == 1 && s.time.holdover) s (selectRef s 1)
    | _ => .next s

/-- `MASTER_SPLIT` (R15): counter `bad` of the two disagrees; the master keeps the healthy one. -/
def execMasterSplit (bad : Nat) (s : State) : Out :=
  due (decide (bad < 2)) s
    (raiseTime { s with time := { s.time with splitBad := some bad } } 1572 6 1 65535 s.drip)

/-! ## Beacons (R17-R21) -/

/-- `BEACON_SEND` (R17): at a multiple of 1,024 the master sends a beacon. -/
def execBeaconSend (s : State) : Out :=
  due (s.drip % 1024 == 0) s
    { s with time := { s.time with lastBeacon := s.drip }, out := { s.out with beacons := s.out.beacons + 1 } }

/-- An island that receives beacons: every island but the time master. -/
def watched (i : Nat) : Bool :=
  decide (i < 290) && i != 284

/-- What an unsure island brings about (R21, R46). The gallery end of a passage that a column's admission trains fails that passage alone
(DEDUCED, log 145). -/
def unsureEffect (s : State) (i : Nat) : State :=
  if i < 248 then
    let g := i / 31
    let k := i % 31
    if k == 16 then
      let s := s.modGal g (fun x => { x with unsureSince := some s.now, resumeAt := none })
      forEach ((List.range 4).filter (fun c => pasAlive s (4 * g + c))) s (fun s c =>
        sendSb s { type := 5, from_ := g, col := c, dest := 8, body := [5, g, s.drip % 2 ^ 32] })
    else if 27 ≤ k then
      let p := 4 * g + (k - 27)
      if (s.pas p).st == .admitting then columnCalCheck (failPart s p) (k - 27) else killPassage s p 9 0 65535
    else s
  else if i < 284 then columnUntrusted s ((i - 248) / 9) 2
  else s

/-- An island becomes time-unsure, also out of a recalibration; one that was unsure all along raises no second event (R19, R20). -/
def becomeUnsure (s : State) (i : Nat) : State :=
  let x := s.isl i
  if x.st == .sure || x.st == .calibrating then
    let s := s.modIsl i (fun x => { x with st := .unsure, unsure := true, goodRun := 0, since := s.drip })
    let s := if x.unsure then s else raiseTime s 1576 1 (unsureSev i) i s.drip
    unsureEffect s i
  else s

/-- A beacon copy is good: in its window, with a correct CRC, at most 1/8 drip out (R17). Arrival and phase are in 1/64 drip. -/
def beaconGood (beacon at64 : Nat) (crcOk : Bool) (phase : Int) : Bool :=
  crcOk && decide (64 * beacon ≤ at64 + 256) && decide (at64 < 64 * (beacon + 32)) && decide (phase.natAbs ≤ 8)

/-- A phase error in 1/64 drip, held to 16 signed bits. -/
def sat16 (v : Int) : Int :=
  max (-32768) (min 32767 v)

/-- `BEACON_RECEIVED` (R17): a copy arrives. More than 1/4 drip out with a good CRC makes the island unsure at once (R19); a
sure island slews by at most 1/64 drip for one good copy of a beacon. -/
def execBeaconReceived (island beacon at64 : Nat) (crcOk : Bool) (phase : Int) (s : State) : Out :=
  let x := s.isl island
  if !watched island || x.st == .poweredDown || !(beacon % 1024 == 0) then .next s
  else
    let s := if crcOk then s.modIsl island (fun x => { x with phase := sat16 phase }) else s
    if crcOk && decide (16 < phase.natAbs) then .next (becomeUnsure s island)
    else if beaconGood beacon at64 crcOk phase && decide (x.judged ≤ beacon) then
      .next (s.modIsl island (fun x => { x with
        missed := 0, judged := beacon + 1, goodRun := min 16 (x.goodRun + 1)
        slew := if x.st == .sure then x.slew + max (-1) (min 1 phase) else x.slew }))
    else .next s

/-- Good beacons in a row after a missed one: none, but that a calibration whose 16 have come goes on (R20, R146). -/
def runAfterMiss (x : Island) : Nat :=
  if x.st == .calibrating && x.goodRun == 16 then 16 else 0

/-- `BEACON_MISSED` (R17): neither copy was good by B + 32. The 8th consecutive miss makes the island unsure (R19). -/
def execBeaconMissed (island beacon : Nat) (s : State) : Out :=
  let x := s.isl island
  if !watched island || x.st == .poweredDown || !(beacon % 1024 == 0) || decide (s.drip < beacon + 32) ||
      decide (beacon < x.judged) then .next s
  else
    let s := s.modIsl island (fun x => { x with
      missed := min 8 (x.missed + 1), fails := sat 32 (x.fails + 1), goodRun := runAfterMiss x, judged := beacon + 1 })
    .next (if 8 ≤ (s.isl island).missed then becomeUnsure s island else s)

/-- Islands of columns and passages, which are recalibrated only by their admission (R20). -/
def admittedIsland (i : Nat) : Bool :=
  (decide (i < 248) && decide (27 ≤ i % 31)) || (decide (248 ≤ i) && decide (i < 284))

/-- `RECALIBRATION_START` (R20): firmware recalibrates an unsure island after 16 consecutive good beacons. -/
def execRecalibrationStart (island : Nat) (s : State) : Out :=
  due (firmwareUp s && watched island && !admittedIsland island && (s.isl island).st == .unsure &&
      decide (16 ≤ (s.isl island).goodRun)) s
    (s.modIsl island (fun x => { x with st := .calibrating, since := s.drip }))

/-- Calibration has what it waits for: 16 good beacons in a row (R20, R65, R146). -/
def calReady (s : State) (i : Nat) : Bool :=
  decide (16 ≤ (s.isl i).goodRun)

/-- `CALIBRATION_END` (R20): the island is sure again with its stored path delay. A gallery core's sequencer sends notice 07h
and resumes at a later boundary (R21); a column's or passage's admission may go on (R46, R65). Calibration waits while no cluster
runs (R344). -/
def execCalibrationEnd (island delay : Nat) (s : State) : Out :=
  if !watched island || !((s.isl island).st == .calibrating) || !calReady s island || !firmwareUp s then .next s
  else
    let s := s.modIsl island (fun x => { x with
      st := .sure, unsure := false, missed := 0, cal := delay % 65536, since := s.drip })
    let s := raiseTime s 1576 2 0 island s.drip
    if island < 248 then
      let g := island / 31
      let k := island % 31
      if k == 16 then
        let s := s.modGal g (fun x => if x.unsureSince.isSome then { x with resumeAt := some s.now } else x)
        .next (forEach ((List.range 4).filter (fun c => pasAlive s (4 * g + c))) s (fun s c =>
          sendSb s { type := 5, from_ := g, col := c, dest := 8, body := [7, g, s.drip % 2 ^ 32] }))
      else if 27 ≤ k then .next (passageCalCheck (columnCalCheck s (k - 27)) (4 * g + (k - 27)))
      else .next s
    else if island < 284 then
      let c := (island - 248) / 9
      let k := (island - 248) % 9
      let s := columnCalCheck s c
      .next (if 1 ≤ k then passageCalCheck s (4 * (k - 1) + c) else s)
    else .next s

/-! ## Arming (R22, R27) -/

/-- An armed action by its number. -/
def armOf (s : State) (id : Nat) : Option Arm :=
  s.time.arms.find? (fun a => a.id == id)

/-- Change an armed action. -/
def modArm (s : State) (id : Nat) (f : Arm → Arm) : State :=
  { s with time := { s.time with arms := replaceFirst (fun a => a.id == id) f s.time.arms } }

/-- `ARM_MESSAGE` (R27): the island arms and acknowledges, for the time master in time until T - 512; after the drip has passed it
refuses, and reports the refusal to the time master (R22). An island that calibrates takes part in no launch. -/
def execArmMessage (arm island : Nat) (s : State) : Out :=
  match armOf s arm with
  | none => .next s
  | some a =>
    if !a.islands.contains island || a.acked.contains island || (s.isl island).st == .calibrating ||
        (s.isl island).st == .poweredDown then .next s
    else if a.at_ ≤ s.drip then .next { s with time := { s.time with refusals := s.time.refusals + 1 } }
    else if a.at_ < s.drip + 512 then .next s
    else .next (modArm s arm (fun a => { a with acked := a.acked ++ [island] }))

/-- The island was sure at T - 512: it is and has been since, or it has gone unsure only after (R27). -/
def sureBy (s : State) (i t : Nat) : Bool :=
  let x := s.isl i
  let early := decide (x.since + 512 ≤ t)
  i == 284 || (x.st == .sure && early) || (x.st == .unsure && !early)

/-- At T - 512 the master held every acknowledgement and every island was sure (R27). -/
def armComplete (s : State) (a : Arm) : Bool :=
  a.islands.all (fun i => a.acked.contains i && sureBy s i a.at_)

/-! ## Pulses (R28-R30) -/

/-- `PPS_OUT_PULSE` (R28): a leader, or a repeating follower, drives the pulse at a multiple of 800,000,000. -/
def execPpsOutPulse (s : State) : Out :=
  due ((s.time.ppsRole == 1 || s.time.ppsRole == 3) && s.drip % 800000000 == 0) s
    { s with pin := { s.pin with ppsOutUntil := some (s.now + 80000) } }

/-- A follower's role. -/
def isFollower (s : State) : Bool :=
  s.time.ppsRole == 2 || s.time.ppsRole == 3

/-- The count at a pulse edge, in 1/16 drip, less `PPS_IN_DELAY` (R29). -/
def ppsCount (s : State) (at16 : Nat) : Int :=
  (at16 : Int) - (s.time.ppsInDelay : Int)

/-- The signed distance of a count in 1/16 drip from the nearest multiple of 800,000,000 drips. -/
def ppsErr (x : Int) : Int :=
  let m : Int := 800000000 * 16
  let r := x % m
  if 2 * r ≤ m then r else r - m

/-- A trim within `SLEW_LIMIT` ppm, in parts per billion (R29). -/
def withinSlew (slew : Nat) (trim : Int) : Int :=
  let lim : Int := 1000 * slew
  max (-lim) (min lim trim)

/-- The trim that removes the whole error in one second, limited to `SLEW_LIMIT` ppm, in parts per billion and rounded toward zero
(R29; DESIGN CHOICE, log 33): one drip of 800,000,000 is 1.25 ppb. Positive trim is a faster count, which a count that lags needs. -/
def trimFor (s : State) (err16 : Int) : Int :=
  withinSlew s.time.slewLimit (Int.tdiv (-(err16 * 5)) 64)

/-- The step toward a load value: the multiple of 56 nearest to `LOAD_VALUE` - X, the lower one on a tie (R30). Counts are in
1/16 drip. -/
def loadStep (value : Nat) (x16 : Int) : Int :=
  let d := (value : Int) * 16 - x16
  let m : Int := 56 * 16
  let q := d / m
  if d % m * 2 ≤ m then 56 * q else 56 * (q + 1)

/-- The islands a load steps: all but those powered down, which take their count from a beacon when they power up, and those of lost
galleries (DEDUCED, log 146). -/
def loadIslands (s : State) : List Nat :=
  (List.range 290).filter (fun i => watched i && !((s.isl i).st == .poweredDown) && !(decide (i < 248) && (s.gal (i / 31)).lost.isSome))

/-- `PPS_EDGE` (R29): a follower measures a pulse edge at count `at16` (1/16 drip) and trims. A pending load arms its step at
the first rotation boundary at least 1,024 drips later, or is abandoned (R30); after the first epoch commit it is abandoned too (R15). The
event of a load abandoned at the edge carries that boundary (DEDUCED, log 147). -/
def execPpsEdge (at16 : Nat) (s : State) : Out :=
  if !isFollower s then .next s
  else
    let x := ppsCount s at16
    let err := ppsErr x
    let s := { s with time := { s.time with
      ppsError := err, ppsMissing := 0, ppsHold := false, ppsAligned := decide (err.natAbs ≤ 32), freqTrim := trimFor s err } }
    match s.time.load with
    | none => .next s
    | some v =>
      let d := loadStep v x
      let s := { s with time := { s.time with load := none } }
      let b := nextRotation (s.drip + 1024)
      if d < 1024 || s.proto.committedOnce then .next (raiseTime s 1572 7 0 65535 b)
      else .next (armFor s (.timeLoad d.toNat) b (loadIslands s))

/-- `PPS_MISSING` (R29): a pulse is missing; the third in a row puts the follower in holdover, cause `PPS_LOST`. -/
def execPpsMissing (s : State) : Out :=
  if !isFollower s then .next s
  else
    let n := s.time.ppsMissing + 1
    let s := { s with time := { s.time with ppsMissing := n } }
    if n == 3 then
      .next (raiseTime { s with time := { s.time with ppsHold := true, ppsAligned := false } } 1575 5 0 65535 s.drip)
    else .next s

/-- A load launches: every count moves forward by the same multiple of 56 (R30). Durations run on `elapsed` and are untouched. After the
first epoch commit no load steps the count (R15). -/
def launchLoad (s : State) (delta : Nat) : State :=
  if s.proto.committedOnce then raiseTime s 1572 7 0 65535 s.drip
  else
    let d := (s.time.drip + delta) % 2 ^ 64
    takeEdge { s with time := { s.time with drip := d, skip := some (s.time.drip, d) } }

/-! ## TIME_CONFIG and TIME_READ (R31, R32) -/

/-- The reference a new setting selects: the forced one, else the present one while good, else the other. -/
def refFor (s : State) (mode : Nat) : Option Nat :=
  match mode with
  | 2 => if s.time.refA.good then some 0 else none
  | 3 => if s.time.refB.good then some 1 else none
  | _ =>
    if (refIn s s.time.sel).good then some s.time.sel
    else if (refIn s (1 - s.time.sel)).good then some (1 - s.time.sel) else none

/-- A new reference mode takes effect (R16). The mode already in force selects nothing anew. -/
def setRefMode (s : State) (mode : Nat) : State :=
  if s.time.refMode == mode then s
  else
  let s := { s with time := { s.time with refMode := mode } }
  match refFor s mode with
  | some k => selectRef s k
  | none =>
    let s := match mode with
      | 2 => { s with time := { s.time with sel := 0 } }
      | 3 => { s with time := { s.time with sel := 1 } }
      | _ => s
    enterHoldover s

/-- The body of `TIME_CONFIG`. -/
def timeConfigBody (p : Bytes) (s : State) : Res :=
  let mode := byteAt p 0
  let role := byteAt p 1
  let slew := byteAt p 4
  let load := byteAt p 5
  let value := fieldAt p 8 8
  guarded s
    [(stBusy, commitArmed s),
     (stBadParam, badLen p 16 || decide (3 < mode) || decide (3 < role) || slew == 0 || decide (100 < slew) || decide (1 < load)
       || nonZero p 6 2
       || (load == 1 && (decide (role < 2) || !(value % 800000000 == 0) || decide (value < s.drip + 1600000000)))),
     (stNotInState, load == 1 && s.proto.committedOnce)]
    (let s := { s with time := { s.time with
       ppsRole := role, ppsInDelay := fieldAt p 2 2, slewLimit := slew
       freqTrim := withinSlew slew s.time.freqTrim
       load := if load == 1 then some value else s.time.load } }
     .reply (setRefMode s mode) stOk [])

/-- `TIME_CONFIG` (R31). -/
def execTimeConfig (t : Transport) (r : Req) (s : State) : Out :=
  vendorCmd 0xC0C0 t r (permits .owner) (fun s _ => timeConfigBody r.payload s) s

/-- Code of an island's state (R32). -/
def islandCode : IslandSt → Nat
  | .sure => 0
  | .unsure => 1
  | .calibrating => 2
  | .poweredDown => 3

/-- A value held to 32 signed bits. -/
def sat32i (v : Int) : Int :=
  max (-2147483648) (min 2147483647 v)

/-- The 32-byte reply of `TIME_READ`; an error beyond 32 signed bits reads as the nearest they hold (DESIGN CHOICE, log 148). -/
def timeReply (s : State) (i : Nat) : Bytes :=
  let t := s.time
  let x := s.isl i
  let st := if i == 284 then 0 else islandCode x.st
  leBytes 8 s.drip ++
    leBytes 1 (bit t.refA.good + 2 * bit t.refB.good + 4 * t.sel + 8 * bit t.holdover) ++
    leBytes 1 (t.ppsRole + 4 * bit t.ppsAligned + 8 * bit t.ppsHold) ++
    leBytes 2 (((List.range 290).filter s.unsure).length) ++ leInt 4 (sat32i t.ppsError) ++ leInt 4 t.freqTrim ++
    (if i == 65535 then zeros 12
     else leBytes 2 i ++ leBytes 1 st ++ leBytes 1 x.missed ++ leBytes 2 x.cal ++ leInt 2 x.phase ++ leBytes 4 x.fails)

/-- The body of `TIME_READ`. -/
def timeReadBody (p : Bytes) (s : State) : Res :=
  let i := fieldAt p 0 2
  guarded s [(stBadParam, badLen p 2 || (decide (289 < i) && !(i == 65535)))] (.reply s stOk (timeReply s i))

/-- `TIME_READ` (R32). -/
def execTimeRead (t : Transport) (r : Req) (s : State) : Out :=
  vendorCmd 0xC0C1 t r (permits .any) (fun s _ => timeReadBody r.payload s) s

end Sys2Proof.Machine
end

