-- ==== Sys2Proof/Machine/Reset.lean ====
section
/-!
DEFINITION. Resets, the watchdog and the heartbeat (R293, R330-R332, R340-R344, R385, R390), `MGMT_RESET` and `GET_IDENTITY`.
-/

namespace Sys2Proof.Machine

/-! ## Cold reset (R293, R385, R390) -/

/-- The machine while cold reset is held: everything at its reset value but the fuses, what the board drives, what has left the part,
the free values taken and the commands that wait. -/
def coldState (s : State) : State :=
  let z := State.reset
  { z with
    time := { z.time with refA := { good := s.time.refA.good }, refB := { good := s.time.refB.good } }
    port := { z.port with
      refclks := s.port.refclks.map (fun x => (x.1, { x.2 with goodSince := 0 }))
      lanes := ((List.range 1024).filter (fun k => !(s.refclk (k / 32)).good)).map (fun k => (k, ({ internal := true } : Lane))) }
    power := { z.power with
      slots := s.power.slots.foldl (fun t x => tput {} t x.1 ({ rawHigh := x.2.rawHigh } : Slot)) [] }
    mgmt := { z.mgmt with
      keyRevoked := s.mgmt.keyRevoked, rollback := s.mgmt.rollback, coldRst := true, mgmtRst := s.mgmt.mgmtRst
      bootPort := s.mgmt.bootPort, keyHash := s.mgmt.keyHash }
    pin := { z.pin with
      pwrOk := s.pin.pwrOk, coldRstN := s.pin.coldRstN, mgmtRstN := s.pin.mgmtRstN, thermTripN := s.pin.thermTripN
      vidValid := s.pin.vidValid }
    out := s.out, free := s.free, pending := s.pending }

/-- `COLD_RESET_ASSERT` (R293): `PWR_OK` (when `pwrOk` is false) or `COLD_RST_N` goes low. `PWR_OK` low ends a thermal trip (R390). -/
def execColdResetAssert (pwrOk : Bool) (s : State) : Out :=
  let s := coldState s
  .next (if pwrOk then { s with pin := { s.pin with coldRstN := false } }
    else { s with pin := { s.pin with pwrOk := false, thermTripN := true } })

/-- `COLD_RESET_RELEASE` (R385): the effective release. It needs a good system reference and no thermal trip; `BOOT_SEL` is sampled,
every counter starts at drip 0 and the ROM enters `ROM_INIT`. -/
def execColdResetRelease (bootSel : Nat) (s : State) : Out :=
  if !s.mgmt.coldRst || !s.pin.thermTripN || !(s.time.refA.good || s.time.refB.good) then .next s
  else
    let s := coldState s
    let s := { s with
      mgmt := { s.mgmt with coldRst := false, bootPort := if bootSel % 2 == 0 then 0 else 256 }
      pin := { s.pin with pwrOk := true, coldRstN := true } }
    .next (if s.time.refA.good then s else selectRef s 1)

/-- `THERMAL_TRIP` (R390): a sensor reads 118 °C or more. `THERM_TRIP_N` goes low and internal cold reset is entered, until `PWR_OK` goes
low. No event is raised. -/
def execThermalTrip (die temp : Nat) (s : State) : Out :=
  due (decide (die ≤ 12) && decide (118 ≤ temp) && s.pin.pwrOk) s
    (let s := coldState s
     { s with pin := { s.pin with thermTripN := false } })

/-- `VID_CODE_VALID` (R382): every gallery's fused code is driven. -/
def execVidCodeValid (s : State) : Out :=
  .next { s with pin := { s.pin with vidValid := true } }

/-- What `VID_Gg[2:0]` read (R382): the fused code, or all ones while the outputs are released. -/
def vidOut (s : State) (g : Nat) : Nat :=
  if s.pin.vidValid then (Config.vidCode g).val else 7

/-! ## Homes that wait for firmware (R339) -/

/-- Where a homeless hierarchy's home goes: its first USP in a live gallery. -/
def newHome (s : State) (a : Nat) : Option Nat :=
  (s.cfg.hier a).usps.find? (fun u => (s.gal (galOf u)).lost.isNone)

/-- Hierarchies without a home, no move of which is armed, that have somewhere to go. -/
def homesToMove (s : State) : List Nat :=
  (s.cfg.hiers.filter (fun h => h.2.live && h.2.homeless && (newHome s h.1).isSome &&
    !s.time.arms.any (fun a => match a.kind with
      | .homeMove b _ => b == h.1
      | _ => false))).map (·.1)

/-- Firmware arms the moves (R339). DESIGN CHOICE, log 93: 4,096 drips ahead, at a rotation boundary. -/
def armMoves (s : State) : State :=
  if !firmwareUp s then s
  else forEach (homesToMove s) s (fun s a =>
    match newHome s a with
    | some u => armFor s (.homeMove a (galOf u)) (nextRotation (s.drip + 4096)) (coreIslands s ++ [svcIsl (galOf u)])
    | none => s)

/-! ## The management plane is reset (R330, R341, R342) -/

/-- Sessions that are open. -/
def openSessions (s : State) : List Nat :=
  (List.range 8).filter (fun n => (s.sess n).isSome)

/-- The commit has been accepted and its launch is not yet armed. -/
def unarmedCommit (s : State) : Bool :=
  match s.proto.commit with
  | some c => c.arm.isNone
  | none => false

/-- Stages that a reset discards: the stage of an armed commit is not one (R330). -/
def lostStages (s : State) : List Nat :=
  (List.range 8).filter (fun n => (s.stage n).isSome &&
    (unarmedCommit s || !(s.proto.commit.map (·.session) == some n)))

/-- Effects of R330 on the management plane: sessions close, stages are discarded, grants and event masks go, and a commit that is
not yet armed never launches. -/
def planeReset (s : State) : State :=
  let closed := (openSessions s).length
  let aborted := (lostStages s).length
  let s := if unarmedCommit s then { s with proto := { s.proto with commit := none } } else s
  let s := forEach (List.range 8) s closeSession
  { s with
    proto := { s.proto with grants := [] }
    ev := { s.ev with masks := [] }
    mgmt := { s.mgmt with closedByReset := closed, abortedByReset := aborted, resetWait := none } }

/-- Lanes that a `LANE_MARGIN` measures. -/
def marginLanes (s : State) : List Nat :=
  (List.range 1024).filter (fun m => (s.lane m).margin.isSome)

/-- Columns being admitted. -/
def admittingCols (s : State) : List Nat :=
  (List.range 4).filter (fun c => (s.col c).st == .calibrating || (s.col c).st == .probing)

/-- Passages being admitted by themselves. -/
def admittingPas (s : State) : List Nat :=
  (List.range 32).filter (fun p => (s.pas p).st == .admitting && !(s.pas p).op.forColumn)

/-- How many operations R342 ends. -/
def opsToEnd (s : State) : Nat :=
  (marginLanes s).length + (admittingCols s).length + (admittingPas s).length

/-- Firmware posts again what the journal holds incomplete, and ends or restarts the operations of R342: margining without a reply, admissions
with `ADMIT_FAILED`, recalibrations from their beginning; and it arms the moves of homes that waited for it (R339). -/
def endOps (s : State) : State :=
  let ms := marginLanes s
  let cs := admittingCols s
  let ps := admittingPas s
  let is := (s.time.islands.filter (fun e => e.2.st == .calibrating && !admittedIsland e.1)).map (·.1)
  let s := forEach is (replayJournal s) (fun s i => s.modIsl i (fun x => { x with since := s.drip }))
  let s := forEach ms s clearMargin
  let s := forEach cs s failAdmission
  armMoves (forEach ps s (fun s p => failPassageAdmit s p 0x0B))

/-- Both clusters restart from ROM: their SRAM is lost with every ROM context, and a verify or fusing under way is lost (R293, R299). -/
def toRom (s : State) : State :=
  { s with mgmt := { s.mgmt with
    boot := .romInit, bootAt := s.now, rom := [], loadEnd := none, fusePlan := [], fuseTries := 0, fromKept := false } }

/-- A management reset: the plane is reset, the bridge delivers what it has accepted outbound, and both clusters, none left failed, restart from
ROM (R293, R330, R343). -/
def mgmtReset (s : State) : State :=
  let s := resetBridge (toRom (planeReset s))
  { s with mgmt := { s.mgmt with cl := [], bothDown := false } }

/-- `MGMT_RESET_ASSERT` (R293): `MGMT_RST_N` goes low. No reply to an earlier `MGMT_RESET` is sent (R331). -/
def execMgmtResetAssert (s : State) : Out :=
  let t := { s with pin := { s.pin with mgmtRstN := false } }
  if s.mgmt.coldRst then .next { t with mgmt := { t.mgmt with mgmtRst := true } }
  else
    let u := mgmtReset t
    .next { u with mgmt := { u.mgmt with mgmtRst := true } }

/-- `MGMT_RESET_RELEASE` (R330, R385): both clusters run the ROM from the release. -/
def execMgmtResetRelease (s : State) : Out :=
  .next { s with
    pin := { s.pin with mgmtRstN := true }
    mgmt := { s.mgmt with mgmtRst := false, bootAt := if s.mgmt.mgmtRst then s.now else s.mgmt.bootAt } }

/-- The 64-byte payload of the `MGMT_RESET` reply (R331). -/
def resetReply (s : State) : Bytes :=
  s.proto.digest ++ leBytes 8 s.proto.epochDrip ++ leBytes 1 s.mgmt.closedByReset ++ leBytes 1 s.mgmt.abortedByReset ++
    leBytes 1 s.proto.lastOutcome ++ zeros 5

/-- Send the `MGMT_RESET` reply that is awaited, once firmware runs and no commit is armed (R331). -/
def tryResetReply (s : State) : State :=
  match s.mgmt.resetWait with
  | none => s
  | some (t, r) =>
    if firmwareUp s && !commitArmed s then
      let s := { s with mgmt := { s.mgmt with resetWait := none } }
      sendReply s t r.eid (replyBytes 0xC002 255 r.alive stOk s.proto.epoch (resetReply s))
    else s

/-- The body of `MGMT_RESET`. -/
def mgmtResetBody (t : Transport) (r : Req) (s : State) : Res :=
  guarded s [(stBadParam, badLen r.payload 4 || !(fieldAt r.payload 0 4 == 0x5453524D))]
    (let s := mgmtReset s
     .wait { s with mgmt := { s.mgmt with resetWait := some (t, r) } })

/-- `MGMT_RESET` (R331): with `SESSION` FFh or in an `OWNER` session, not over a hierarchy mailbox. -/
def execMgmtReset (t : Transport) (r : Req) (s : State) : Out :=
  vendorCmd 0xC002 t r (fun p => (p.isNone || p == some 0) && (mailboxAgent t).isNone) (fun s _ => mgmtResetBody t r s) s

/-! ## The watchdog (R340-R344) -/

/-- `EV_MP_TAKEOVER` from the cluster active after the change; `posted` counts the journal records posted again. -/
def raiseTakeover (s : State) (cause failed closed posted ended failures : Nat) : State :=
  let a := s.mgmt.token
  raise s (1556 + a) evMpTakeover (if cause == 6 then 0 else 1) 287
    (evData (leBytes 1 cause ++ leBytes 1 a ++ leBytes 1 failed ++ leBytes 1 closed ++ leBytes 1 (sat 8 posted) ++ leBytes 1 ended ++
      leBytes 2 failures) s.drip)

/-- A cluster's failures in the last 60 s. -/
def failuresOf (s : State) (n : Nat) : Nat :=
  ((s.cluster n).failures.filter (fun t => decide (s.now < t + 48000000000))).length

/-- A cluster has failed: it is restarted from ROM, unless it is its third failure within 60 s (R343). -/
def noteFailure (s : State) (n : Nat) : State :=
  s.modCluster n (fun c =>
    let fs := s.now :: c.failures.filter (fun t => decide (s.now < t + 48000000000))
    { c with st := if 3 ≤ fs.length then .failed else .rom, failures := fs, missed := 0, beat := false })

/-- No cluster runs: the plane is reset, and what is not left failed restarts from ROM (R344). -/
def goDown (s : State) : State :=
  let s := toRom (planeReset s)
  { s with mgmt := { s.mgmt with bothDown := true } }

/-- One cluster fails, the other does not (R340, R341, R343, R344). -/
def failCluster (s : State) (n cause : Nat) : State :=
  let s := noteFailure s n
  if !(n == s.mgmt.token) then raiseTakeover s 4 n 0 0 0 (failuresOf s n)
  else if (s.cluster (1 - n)).st == .standby then
    let s := planeReset { s with mgmt := { s.mgmt with token := 1 - n, starts := sat 16 (s.mgmt.starts + 1) } }
    let s := s.modCluster (1 - n) (fun c => { c with st := .active })
    let k := opsToEnd s
    raiseTakeover (endOps s) cause n s.mgmt.closedByReset s.mgmt.journal.length k (failuresOf s n)
  else goDown s

/-- A cluster runs firmware. -/
def clusterRuns (s : State) (n : Nat) : Bool :=
  (s.cluster n).st == .active || (s.cluster n).st == .standby

/-- `HEARTBEAT` (R340): a running cluster writes its heartbeat register. -/
def execHeartbeat (cluster : Nat) (s : State) : Out :=
  due (decide (cluster < 2) && clusterRuns s cluster && firmwareUp s) s
    (s.modCluster cluster (fun c => { c with beat := true }))

/-- The end of an interval for one cluster: a beat clears its misses. -/
def beatEnd (s : State) (n : Nat) : State :=
  if clusterRuns s n then s.modCluster n (fun c => { c with missed := if c.beat then 0 else c.missed + 1, beat := false }) else s

/-- `HEARTBEAT_INTERVAL_END` (R340): at the end of the fifth interval without a beat a cluster has failed. -/
def execHeartbeatIntervalEnd (s : State) : Out :=
  if !firmwareUp s || s.drip / 800000 == s.mgmt.hbInterval then .next s
  else
    let s := { s with mgmt := { s.mgmt with hbInterval := s.drip / 800000 } }
    let s := beatEnd (beatEnd s 0) 1
    let dead := fun n => clusterRuns s n && decide (5 ≤ (s.cluster n).missed)
    .next (match dead 0, dead 1 with
      | true, true => goDown (noteFailure (noteFailure s 0) 1)
      | true, false => failCluster s 0 1
      | false, true => failCluster s 1 1
      | false, false => s)

/-- `CLUSTER_SELF_REPORT` (R340): a running cluster reports an uncorrectable SRAM error, or asks to be failed. -/
def execClusterSelfReport (cluster : Nat) (ecc : Bool) (s : State) : Out :=
  due (decide (cluster < 2) && clusterRuns s cluster && firmwareUp s) s (failCluster s cluster (if ecc then 2 else 3))

/-- `STANDBY_READY` (R343): a restarted cluster has verified the kept image and stands by. -/
def execStandbyReady (cluster : Nat) (s : State) : Out :=
  due (decide (cluster < 2) && firmwareUp s && !(cluster == s.mgmt.token) && (s.cluster cluster).st == .rom && s.mgmt.keptValid) s
    (raiseTakeover (s.modCluster cluster (fun c => { c with st := .standby, beat := true })) 6 255 0 0 0 (failuresOf s cluster))

/-- Firmware runs from here: `RUNNING`, one cluster active (R299, R340), and the records that waited for it are raised (R344). -/
def startRunning (s : State) (n : Nat) : State :=
  let s := raiseHeld { s with mgmt := { s.mgmt with
    boot := .running, bootAt := s.now, runDrip := s.drip, starts := sat 16 (s.mgmt.starts + 1), rom := [], token := n
    bothDown := false, hbInterval := s.drip / 800000 } }
  s.modCluster n (fun c => { c with st := .active, beat := true, missed := 0 })

/-- `BOTH_RESTARTED` (R344): the first restarted cluster reaches `RUNNING`, takes the token and ends what R342 ends. -/
def execBothRestarted (cluster : Nat) (s : State) : Out :=
  if !s.mgmt.bothDown || s.mgmt.mgmtRst || s.mgmt.coldRst || !(s.mgmt.boot == .starting) || !decide (cluster < 2) ||
      (s.cluster cluster).st == .failed then .next s
  else
    let s := startRunning s cluster
    let k := opsToEnd s
    .next (tryResetReply (raiseTakeover (endOps s) 5 255 s.mgmt.closedByReset s.mgmt.journal.length k (failuresOf s cluster)))

/-- `STARTING_END` (R299): sections are copied and islands calibrated. The token goes to MP-A unless its self-test failed; the other
cluster stands by. -/
def execStartingEnd (s : State) : Out :=
  if !(s.mgmt.boot == .starting) || s.mgmt.bothDown || s.mgmt.mgmtRst || s.mgmt.coldRst then .next s
  else
    let n := if (s.cluster 0).st == .failed then 1 else 0
    let s := startRunning s n
    let s := if (s.cluster (1 - n)).st == .failed then s
      else s.modCluster (1 - n) (fun c => { c with st := .standby, beat := true, missed := 0 })
    .next (tryResetReply (endOps s))

/-- `BRIDGE_READ_TIMEOUT` (R297): a read ends with all ones; `BRIDGE_TIMEOUTS` counts it. -/
def execBridgeReadTimeout (_id : Nat) (s : State) : Out :=
  due (!s.mgmt.coldRst) s { s with mgmt := { s.mgmt with bridgeTo := sat 32 (s.mgmt.bridgeTo + 1) } }

end Sys2Proof.Machine
end

