-- ==== Sys2Proof/Machine/Events.lean ====
section
/-!
DEFINITION. The event queue (R347-R353), the monitors (R354, R381) and `PORT_LOOPBACK` (R346).
-/

namespace Sys2Proof.Machine

/-! ## The queue (R347, R350) -/

/-- The first four bytes of a record. -/
def evWord (r : EvRec) : Nat :=
  r.source % 2048 + r.code % 4096 * 2 ^ 11 + r.sev % 4 * 2 ^ 23 + bit r.unsure * 2 ^ 25

/-- The 32 bytes of a record (R347). -/
def evBytes (r : EvRec) : Bytes :=
  leBytes 4 (evWord r) ++ leBytes 8 r.drip ++ leBytes 4 r.epoch ++ (r.data ++ zeros 16).take 16

/-- A suppression entry matches a record (R353). -/
def maskHit (r : EvRec) (m : MaskEnt) : Bool :=
  !(m.code == 0) && (m.code == 4095 || m.code == r.code) && decide (m.lo ≤ r.source) && decide (r.source ≤ m.hi) && bitOf m.sevMask r.sev

/-- The first entry that suppresses a record; some records are never suppressed (R353). -/
def suppressor (s : State) (r : EvRec) : Option Nat :=
  if r.sev == 3 || r.code == evEventLost || r.code == evMpTakeover then none
  else (List.range 16).find? (fun i => maskHit r (tget {} s.ev.masks i))

/-- The newest record held is an `EV_EVENT_LOST` that is still open (R350). -/
def lostOpen (s : State) : Bool :=
  s.ev.lostOpen && (s.ev.queue.getLast?.map (fun e => e.2.code)) == some evEventLost

/-- The redaction of an event's mirror: the address of `EV_POSTED_WRITE_FAILED` in a sealed page (R361). -/
def mirrorRedacted (s : State) (r : EvRec) : Bool :=
  let page := fieldAt r.data 2 6 * 4 / 4096
  r.code == evPostedWriteFailed && sealedPages s.cfg page page

/-- Mirror a record that enters the queue (R357-R359). -/
def mirrorEvent (s : State) (r : EvRec) : State :=
  let red := mirrorRedacted s r
  let data := if red then r.data.take 2 ++ zeros 6 ++ r.data.drop 8 else r.data
  traceAs s 12 4 r.isl r.drip r.born r.unsure (fun f => decide (f.lo ≤ r.source) && decide (r.source ≤ f.hi)) red
    (leBytes 4 (evWord r) ++ (data ++ zeros 16).take 16)

/-- A record enters with the next sequence number. -/
def enterQueue (s : State) (r : EvRec) (open_ : Bool) : State :=
  mirrorEvent { s with ev := { s.ev with
    queue := s.ev.queue ++ [(s.ev.nextSeq, r)], nextSeq := (s.ev.nextSeq + 1) % 2 ^ 32, lostOpen := open_, newSince := true } } r

/-- The record that says records were lost (R350). -/
def lostRecord (s : State) (r : EvRec) : EvRec :=
  { source := 1558, code := evEventLost, sev := 0, drip := s.drip, epoch := s.proto.epoch, isl := 287, born := s.now
    data := leBytes 4 1 ++ leBytes 2 r.source ++ leBytes 2 r.code ++ leBytes 8 r.drip }

/-- One more record is lost: the open record's count and last drip. -/
def countLost (r : EvRec) (l : EvRec) : EvRec :=
  { l with data := leBytes 4 (sat 32 (fieldAt l.data 0 4 + 1)) ++ (l.data.drop 4).take 4 ++ leBytes 8 r.drip }

/-- A record reaches the queue (R350, R353). -/
def arriveEvent (s : State) (r : EvRec) : State :=
  match suppressor s r with
  | some i => { s with ev := { s.ev with
      masks := tmod {} s.ev.masks i (fun m => { m with suppressed := (m.suppressed + 1) % 2 ^ 64 }) } }
  | none =>
    if s.ev.queue.length < 4095 then enterQueue s r false
    else if lostOpen s then
      { s with ev := { s.ev with queue := s.ev.queue.dropLast ++
          (s.ev.queue.getLast?.map (fun e => (e.1, countLost r e.2))).toList } }
    else enterQueue s (lostRecord s r) true

/-- `EVENT_RECORD_ARRIVAL` (R350): the `i`th record of those on their way arrives; those of one source arrive in the order raised, and
behind the data their die has posted (R295). -/
def execEventRecordArrival (i : Nat) (s : State) : Out :=
  match s.ev.inbound[i]? with
  | none => .next s
  | some r =>
    due (!(s.ev.inbound.take i).any (fun x => x.source == r.source) && !dataAhead s (islandDie r.isl) r.drip) s
      (arriveEvent { s with ev := { s.ev with inbound := s.ev.inbound.eraseIdx i } } r)

/-- `EVENT_NOTICE` (R351): records have entered since the last notice, which is at least 1 ms old. Whether an I3C controller has enabled in-band
interrupts is the board's: a free value for each target (log 180). -/
def execEventNotice (s : State) : Out :=
  let old := match s.ev.lastNotice with
    | none => true
    | some t => decide (t + 800000 ≤ s.now)
  due (s.ev.newSince && old) s
    (let (a, s) := draw s
     let (b, s) := draw s
     let n : Notice := { i3cA := bitOf a 0, i3cB := bitOf b 0, msi := (s.fn s.mgmt.bootPort mgmtFn).msixOn }
     { s with ev := { s.ev with newSince := false, lastNotice := some s.now, notices := s.ev.notices ++ [n] } })

/-! ## EVENT_READ (R352) -/

/-- How far a sequence number lies behind the next one. -/
def seqAge (s : State) (q : Nat) : Nat :=
  (s.ev.nextSeq + 2 ^ 32 - q) % 2 ^ 32

/-- The reply: head and records. -/
def eventReply (s : State) (from_ max : Nat) : Bytes :=
  let q := s.ev.queue
  let oldest := match q with
    | [] => s.ev.nextSeq
    | e :: _ => e.1
  let skipped := decide (seqAge s oldest < seqAge s from_)
  let first := if skipped then oldest else from_
  let rest := q.filter (fun e => decide (seqAge s e.1 ≤ seqAge s first))
  let got := rest.take max
  let more := decide (got.length < rest.length)
  let lost := lostOpen s && !more && !got.isEmpty
  leBytes 4 first ++ leBytes 4 oldest ++ leBytes 4 s.ev.nextSeq ++ leBytes 2 got.length ++
    leBytes 1 (bit skipped + 2 * bit more + 4 * bit lost) ++ zeros 1 ++ (got.map (fun e => evBytes e.2)).flatten

/-- The body of `EVENT_READ`. -/
def eventReadBody (p : Bytes) (s : State) : Res :=
  let from_ := fieldAt p 0 4
  let max := fieldAt p 4 2
  let flags := byteAt p 6
  guarded s
    [(stBadParam, badLen p 8 || decide (2 ^ 31 < seqAge s from_) || decide (511 < max) || decide (1 < flags) || nonZero p 7 1)]
    (let s := if flags == 1 then
          { s with ev := { s.ev with queue := s.ev.queue.filter (fun e => decide (seqAge s e.1 ≤ seqAge s from_)) } }
        else s
     .reply s stOk (eventReply s from_ max))

/-- `EVENT_READ` (R352): `RETIRE` needs an `OWNER` session. -/
def execEventRead (t : Transport) (r : Req) (s : State) : Out :=
  vendorCmd 0xC090 t r (permits (if decide (7 ≤ r.payload.length) && byteAt r.payload 6 % 2 == 0 then .any else .owner))
    (fun s _ => eventReadBody r.payload s) s

/-! ## EVENT_MASK (R353) -/

/-- The fields of `EVENT_MASK` are refused. -/
def maskBad (p : Bytes) : Bool :=
  let code := fieldAt p 4 2
  badLen p 12 || decide (15 < byteAt p 0) || decide (1 < byteAt p 1) ||
    (if byteAt p 1 == 1 then nonZero p 2 10
     else decide (7 < byteAt p 2) || nonZero p 3 1 || nonZero p 10 2 ||
       (if code == 0 then nonZero p 2 10
        else !(code == 4095 || evCodes.contains code) || decide (2047 < fieldAt p 8 2) || decide (fieldAt p 8 2 < fieldAt p 6 2)))

/-- The body of `EVENT_MASK`. -/
def eventMaskBody (p : Bytes) (s : State) : Res :=
  let i := byteAt p 0
  guarded s [(stBadParam, maskBad p)]
    (if byteAt p 1 == 1 then
      let m := tget {} s.ev.masks i
      .reply s stOk (leBytes 1 i ++ leBytes 1 1 ++ leBytes 1 m.sevMask ++ zeros 1 ++ leBytes 2 m.code ++ leBytes 2 m.lo ++
        leBytes 2 m.hi ++ zeros 6 ++ leBytes 8 m.suppressed)
    else
      let m : MaskEnt := { code := fieldAt p 4 2, sevMask := byteAt p 2, lo := fieldAt p 6 2, hi := fieldAt p 8 2 }
      .reply { s with ev := { s.ev with masks := tput {} s.ev.masks i m } } stOk [])

/-- `EVENT_MASK` (R353). -/
def execEventMask (t : Transport) (r : Req) (s : State) : Out :=
  vendorCmd 0xC091 t r (mixed 1 [1] r) (fun s _ => eventMaskBody r.payload s) s

/-! ## Monitors (R354, R381) -/

/-- `EV_THERMAL`. -/
def raiseThermal (s : State) (source cause sev die value rail : Nat) : State :=
  raise s source evThermal sev (if die < 8 then coreIsl die else if die < 12 then colIsl (die - 8) else 287)
    (evData (leBytes 1 cause ++ leBytes 1 die ++ leBytes 2 value ++ leBytes 1 rail) s.drip)

/-- Operating range of a rail in 0.1 mV (R381). -/
def railRange (i : Nat) : Nat × Nat :=
  if i < 8 then
    let v := 7125 + 125 * (Config.vidCode i).val
    (max 7000 (v - 125), min 8000 (v + 125))
  else if i < 12 then (7275, 7725)
  else if i == 12 then (8245, 8755)
  else if i < 21 then (8330, 8670)
  else if i < 29 then (11640, 12360)
  else if i == 29 then (17100, 18900)
  else (31350, 34650)

/-- The die whose monitor tests a rail. -/
def railDie (i : Nat) : Nat :=
  if i < 12 then i else if 13 ≤ i && decide (i < 29) then (i - 13) % 8 else 12

/-- Bundles that are up on a gallery's lanes. -/
def galleryUp (s : State) (g : Nat) : List Nat :=
  ((List.range 64).map (64 * g + ·)).filter (fun b => isBundle s s.cfg b && s.up b)

/-- A rail leaves its range: its consequence, and the class of that (R354). -/
def railOut (s : State) (i : Nat) : State × Nat :=
  if i < 8 then (s.modGal i (fun x => { x with supplyBad := true }), 3)
  else if i < 12 then
    let s := columnUntrusted s (i - 8) 5
    (s, colSev (((List.range 4).filter (fun c => c != i - 8 && colInUse s c && (s.col c).untrusted == 0)).length))
  else if 13 ≤ i && decide (i < 29) then
    (galleryUp s ((i - 13) % 8)).foldl (fun a b => (takeDown a.1 b 3 .down, max a.2 (downSev a.1 b))) (s, 1)
  else (s, 1)

/-- One rail's mean over the interval, in 0.1 mV. -/
def testRail (s : State) (iv : Nat × Nat) : State :=
  let (i, v) := iv
  let (lo, hi) := railRange i
  let good := decide (lo ≤ v) && decide (v ≤ hi)
  let bad := bitOf s.pin.railBad i
  if !good && !bad then
    let (s, sev) := railOut { s with pin := { s.pin with railBad := setBit s.pin.railBad i } } i
    raiseThermal s 1585 3 sev (railDie i) (v / 10) i
  else if good && bad then
    let s := { s with pin := { s.pin with railBad := clrBit s.pin.railBad i } }
    raiseThermal s 1585 4 0 (railDie i) (v / 10) i
  else s

/-- One die's temperature in 0.1 °C. -/
def testTemp (s : State) (dv : Nat × Nat) : State :=
  let (d, v) := dv
  let hot := bitOf s.pin.hot d
  if 1050 ≤ v && !hot then raiseThermal { s with pin := { s.pin with hot := setBit s.pin.hot d } } 1584 1 1 d v 255
  else if v ≤ 1000 && hot then raiseThermal { s with pin := { s.pin with hot := clrBit s.pin.hot d } } 1584 2 0 d v 255
  else s

/-- `MONITOR_SAMPLE` (R354): temperatures of dies 0-12 in 0.1 °C and the mean of rails 0-30 in 0.1 mV over the interval that ends. -/
def execMonitorSample (temps rails : List Nat) (s : State) : Out :=
  let s := { s with pin := { s.pin with die := (temps.take 13).map Int.ofNat, rails := rails.take 31 } }
  let s := forEach ((List.range 13).zip temps) s testTemp
  .next (forEach ((List.range 31).zip rails) s testRail)

/-! ## PORT_LOOPBACK (R346) -/

/-- The 88-byte reply. While a test runs its error counts so far are free values (log 2). -/
def loopReply (s : State) (b : Nat) : State × Bytes :=
  let x := s.loop b
  let run := x.st == 1
  let (s, es) := if run then drawErrors s else (s, x.errors)
  let bits := if run then loopBits s b else x.bits
  let err := fun (k : Nat) => if k < x.lanes then min bits (sat 32 (es.getD k 0)) else 0
  (s, leBytes 2 b ++ leBytes 1 x.st ++ leBytes 1 x.mode ++ leBytes 1 x.lanes ++ leBytes 1 x.rate ++ zeros 2 ++ leBytes 8 bits ++
    ((List.range 16).map (fun k => leBytes 4 (err k))).flatten ++ leBytes 8 x.endDrip)

/-- A bundle is in use: a USP of a hierarchy, a DSP that holds an extent of a defined window, or a pass-through DSP (R346). -/
def inUse (s : State) (b : Nat) : Bool :=
  (uspAgent s.cfg b).isSome || ((s.cfg.port b).role == 2 && (s.cfg.port b).passAgent != 65535) ||
    s.cfg.wins.any (fun w => w.2.live && onPort w.2 b)

/-- Start a test. -/
def startLoop (s : State) (b mode pat blocks : Nat) : State :=
  let x := s.prt b
  let rate := if mode == 1 then advertised s b else x.rate
  let lanes := if mode == 1 then bundleLanes s b else x.lanes
  let s := if mode == 2 then takeDown s b 2 .training else s
  s.modLoop b (fun _ => { st := 1, mode := mode, lanes := lanes, rate := rate, pattern := pat, blocks := blocks, start := s.now })

/-- The body of `PORT_LOOPBACK`. -/
def loopbackBody (p : Bytes) (s : State) : Res :=
  let b := fieldAt p 0 2
  let act := byteAt p 2
  let pat := byteAt p 3
  let blocks := fieldAt p 4 4
  let tests := act == 1 || act == 2
  let run := (s.loop b).st == 1
  guarded s
    [(stBusy, tests && commitArmed s),
     (stBadParam, badLen p 8 || !isBundle s s.cfg b || decide (3 < act) || decide (1 < pat) || (act == 0 && !(pat == 0)) ||
       (if tests then blocks == 0 || decide (65535 < blocks) else !(blocks == 0))),
     (stNotInState, (tests && run) || (act == 1 && (s.prt b).enabled) ||
       (act == 2 && (!s.up b || s.role b == 4 || inUse s b)) || (act == 3 && !run))]
    (let s := if tests then startLoop s b act pat blocks else if act == 3 then stopLoop s b else s
     let (s, reply) := loopReply s b
     .reply s (if tests then stPending else stOk) reply)

/-- `PORT_LOOPBACK` (R346). -/
def execPortLoopback (t : Transport) (r : Req) (s : State) : Out :=
  vendorCmd 0xC094 t r (mixed 2 [0] r) (fun s _ => loopbackBody r.payload s) s

/-- `LOOPBACK_END` (R346): every bit is checked, or a `FAR` test has lost its link. -/
def execLoopbackEnd (port bits : Nat) (errors : List Nat) (aborted : Bool) (s : State) : Out :=
  let x := s.loop port
  if !(x.st == 1) then .next s
  else if aborted then due (x.mode == 2) s (endLoop s port 3 (min bits (loopBits s port)) errors)
  else due (loopBits s port == x.blocks * 2 ^ 24) s (endLoop s port 2 (x.blocks * 2 ^ 24) errors)

end Sys2Proof.Machine
end

