-- ==== Sys2Proof/Machine/Lantern.lean ====
section
/-!
DEFINITION. Lantern frames, sweeps, programmable counters and samples at run time, and `COUNTER_SNAPSHOT` (R355-R368, R372, R373).
-/

namespace Sys2Proof.Machine

/-! ## Frames (R356, R360) -/

/-- A record is 8,000 drips old and still unsent. -/
def aged (s : State) (t : Trace) : Bool :=
  decide (t.born + 8000 ≤ s.now)

/-- Records too old to send are dropped and counted (R360). -/
def dropAged (s : State) : State :=
  let gone := s.lan.traces.filter (aged s)
  { s with lan := { s.lan with
    traces := s.lan.traces.filter (fun t => !aged s t)
    dropped := sat 16 (s.lan.dropped + gone.length)
    dropDie := gone.foldl (fun d t => tmod 0 d (dropIndex t.die) (fun v => (v + 1) % 2 ^ 64)) s.lan.dropDie } }

/-- `TRACE_RECORD_AGE_DROP` (R360). -/
def execTraceRecordAgeDrop (s : State) : Out :=
  .next (dropAged s)

/-- The 256 bytes of a frame with its CRC. -/
def frameBytes (s : State) (recs : List Bytes) : Bytes :=
  let head := leBytes 4 0x4C414E54 ++ leBytes 4 s.lan.frameSeq ++ leBytes 8 s.drip ++ leBytes 2 recs.length ++
    leBytes 2 s.lan.dropped ++ leBytes 4 s.proto.epoch ++ zeros 4
  let body := (recs.flatten ++ zeros 224).take 224
  head ++ leBytes 4 (crc32c (head ++ zeros 4 ++ body)) ++ body

/-- The control blocks of the four lanes before a frame whose `FRAME_SEQ` is a multiple of 1,024: type, lane, `FRAME_SEQ` bits [15:0] (R356; which
frame of 1,024 it is: DESIGN CHOICE, log 182). -/
def controlBlocks (seq : Nat) : List Bytes :=
  if seq % 1024 == 0 then (List.range 4).map (fun lane => leBytes 1 0x4B ++ leBytes 1 lane ++ leBytes 2 seq ++ zeros 4) else []

/-- The data blocks of a frame: bytes 8j to 8j + 7 go out on lane j mod 4 (R356). -/
def dataBlocks (f : Bytes) : List Bytes :=
  (List.range 32).map (fun j => (f.drop (8 * j)).take 8)

/-- A lane's scrambler x^58 + x^39 + 1 over the 64 bits of a block, the lowest first (R355; bit order PRESUMED, log 183): the bits sent, and the
register after them, the newest bit lowest. -/
def scramble (reg w : Nat) : Nat × Nat :=
  (List.range 64).foldl (fun x i =>
    let b := (w / 2 ^ i + x.2 / 2 ^ 38 + x.2 / 2 ^ 57) % 2
    (x.1 + b * 2 ^ i, (x.2 * 2 + b) % 2 ^ 58)) (0, reg)

/-- Blocks leave on the four lanes in turn, each scrambled by its lane (R355, R356). -/
def sendBlocks (control : Bool) (blocks : List Bytes) (s : State) : State :=
  forEach blocks.zipIdx s (fun s x =>
    let w := scramble (tget 0 s.lan.scramblers (x.2 % 4)) (leNat x.1)
    { s with
      lan := { s.lan with scramblers := tput 0 s.lan.scramblers (x.2 % 4) w.2 }
      out := { s.out with lanternLine := s.out.lanternLine ++ [{ lane := x.2 % 4, control := control, bits := w.1 }] } })

/-- `LANTERN_FRAME` (R356): the next frame leaves, with up to seven of the records that wait, in the order they came. -/
def execLanternFrame (s : State) : Out :=
  if !s.cfg.traceOn then .next s
  else
    let s := dropAged s
    let recs := (s.lan.traces.take 7).map (·.bytes)
    let f := frameBytes s recs
    let ctl := controlBlocks s.lan.frameSeq
    let s := sendBlocks false (dataBlocks f) (sendBlocks true ctl s)
    .next { s with
      lan := { s.lan with
        traces := s.lan.traces.drop 7, frameSeq := (s.lan.frameSeq + 1) % 2 ^ 32, frames := (s.lan.frames + 1) % 2 ^ 64
        sent := (s.lan.sent + recs.length) % 2 ^ 64, dropped := 0 }
      out := { s.out with lantern := s.out.lantern ++ [f], lanternCtl := s.out.lanternCtl ++ ctl } }

/-! ## Sweeps (R363, R364) -/

/-- Islands whose counts an instance holds. -/
def instIslands (block inst : Nat) : List Nat :=
  match block with
  | 1 => [quadIsl inst]
  | 2 => [pasIslG (inst / 4) (inst % 4), pasIslC (inst / 4) (inst % 4)]
  | 3 => [colIsl inst]
  | 4 => [coreIsl inst]
  | 5 => [svcIsl inst]
  | 6 => [coreIsl inst]
  | _ => [289]

/-- Instances of a block (R364). -/
def instCount : Nat → Nat
  | 1 => 512
  | 2 => 32
  | 3 => 4
  | 7 => 1
  | _ => 8

/-- Instances whose island is unsure or powered down (R363). -/
def latchBad (s : State) : List Nat :=
  ([1, 2, 3, 4, 5, 6, 7].map (fun b => ((List.range (instCount b)).filter (fun i =>
    (instIslands b i).any (fun k => s.unsure k || (s.isl k).st == .poweredDown))).map (instKey b))).flatten

/-- The sweep of this drip has been latched. -/
def latchedHere (s : State) : Bool :=
  let at_ := fun (x : Option (Nat × Tbl Nat × List Nat)) => x.map (·.1) == some s.drip
  at_ s.lan.latched || at_ s.lan.readable

/-- The last sweep drip has gone by without its latch. -/
def sweepMissed (s : State) : Bool :=
  let t := s.drip / s.cfg.sweep * s.cfg.sweep
  let had := fun (x : Option (Nat × Tbl Nat × List Nat)) => match x with
    | some y => decide (t ≤ y.1)
    | none => false
  !had s.lan.latched && !had s.lan.readable

/-- `COUNTER_SWEEP` (R363): after what else falls on this edge (R23), every counter is latched as the edge found it (R26); a sweep not
complete by now is abandoned and counted. Each gallery posts its snapshot over the bridge (R298). A sweep whose edge has passed is refused, and the refusal is reported (R22). -/
def execCounterSweep (s : State) : Out :=
  if launchWaits s || latchedHere s then .next s
  else if !(s.drip % s.cfg.sweep == 0) then
    .next (if sweepMissed s then { s with time := { s.time with refusals := s.time.refusals + 1 } } else s)
  else
    let v := edgeValues s
    let s := if s.lan.latched.isSome then forEach (List.range 8) s (fun s g => countGal s g 23 1) else s
    let s := { s with lan := { s.lan with latched := some (s.drip, v, latchBad s) } }
    .next (forEach ((List.range 8).filter (fun g => (s.gal g).lost.isNone)) s (fun s g =>
      postBurst s false (coreIsl g) (Config.snapshotAt g) (Config.snapshotLen g)))

/-- `SWEEP_COMPLETE` (R363): every value has arrived, and the sweep is the readable one. -/
def execSweepComplete (s : State) : Out :=
  due (s.lan.latched.isSome && s.mgmt.bridge.all (·.outbound)) s { s with lan := { s.lan with readable := s.lan.latched, latched := none } }

/-! ## Programmable counters (R366, R373) -/

/-- `COUNTER_WRAP` (R366): a counter has stepped through 0. With `FREEZE_ALL` every counter stops, and of what this one counted
since it wrapped the `skid` counts of the four cycles after the wrap are kept. -/
def execCounterWrap (g k skid : Nat) (s : State) : Out :=
  let p := tget {} s.lan.progs g
  let c := ((tget [] s.cfg.progs g)[k]?).getD {}
  let v := tget 0 p.counts k
  if !decide (g < 8) || !decide (k < 8) || decide (v < 2 ^ 48) then .next s
  else
    let past := v - 2 ^ 48
    let at_ := tget 0 p.wrapAt k
    let p := { p with
      wrapped := setBit p.wrapped k, frozen := if c.freezeAll then 255 else p.frozen
      counts := tput 0 p.counts k (if c.freezeAll then min skid past else past) }
    let s := { s with lan := { s.lan with progs := tput {} s.lan.progs g p } }
    .next (if c.wrapEvent then
      raiseAt s at_ (1260 + g) evCounterWrap 0 (coreIsl g) (evData (leBytes 1 k ++ leBytes 1 c.select ++ leBytes 1 (bit c.freezeAll)) at_)
    else s)

/-! ## Samples (R367, R368) -/

/-- The 64 bytes of a finished sample: what decode knew, then what the stages stamped. A stage not reached is FFFFFFFFh. -/
def sampleBytes (r : SampRun) : Bytes :=
  r.head.take 15 ++ leBytes 1 (byteAt r.head 15 % 2 + r.flags % 128 / 2 * 2) ++ (r.head.drop 16).take 8 ++
    ((List.range 7).map (fun i => leBytes 4 (tget 0xFFFFFFFF r.stamps i))).flatten ++ leBytes 2 (sat 16 r.deferrals) ++
    leBytes 1 r.home ++ leBytes 1 r.prior ++ leBytes 4 (r.id + 1) ++ zeros 4

/-- The four `SAMPLE` records of a sample (R358). -/
def traceSample (s : State) (g : Nat) (b : Bytes) : State :=
  if !s.cfg.traceOn then s
  else forEach (List.range 4) s (fun s k =>
    queueTrace s g s.drip s.now (traceBytes 5 (byteAt b 15 % 2 == 1) (s.unsure (coreIsl g)) k (coreIsl g) s.drip ((b.drop (20 * k)).take 20)))

/-- `SAMPLE_END` (R367): the record of a sample that has ended, named by its number and the bundle its request
came in at, goes into the ring, over the oldest, and onto Lantern. -/
def execSampleEnd (g id port : Nat) (s : State) : Out :=
  let x := tget {} s.lan.samps g
  match x.flying.find? (fun r => r.id == id && r.port == port && r.ended) with
  | none => .next s
  | some r =>
    let b := sampleBytes r
    let x := { x with flying := x.flying.filter (fun r => !(r.id == id)), ring := (b :: x.ring).take 32 }
    .next (traceSample { s with lan := { s.lan with samps := tput {} s.lan.samps g x } } g b)

/-! ## COUNTER_SNAPSHOT (R362, R372) -/

/-- Values of a block (R364, R372). -/
def idxCount : Nat → Nat
  | 1 => 8
  | 2 => 8
  | 3 => 4
  | 4 => 32
  | 5 => 12
  | 6 => 10
  | 7 => 12
  | 8 => 32
  | _ => 2

/-- An instance of a block exists. -/
def instOk (s : State) (block inst : Nat) : Bool :=
  if block == 1 then isBundle s s.cfg inst else decide (inst < instCount block)

/-- The two values of block 9 (R372). -/
def configValue (s : State) (g : Nat) : Nat → Nat
  | 0 => s.cfg.sweep % 2 ^ 32 + bit s.cfg.traceOn * 2 ^ 32 + s.cfg.filters.length * 2 ^ 33
  | _ =>
    let c := tget {} s.cfg.samps g
    bit c.enable + c.kindMask * 2 + c.period * 2 ^ 17

/-- The values asked for, as bytes. -/
def snapValues (s : State) (block inst first n : Nat) : Bytes :=
  let idx := (List.range n).map (first + ·)
  match block with
  | 8 => (idx.map (fun i => (((tget {} s.lan.samps inst).ring[i]?).getD [] ++ zeros 64).take 64)).flatten
  | 9 => (idx.map (fun i => leBytes 8 (configValue s inst i))).flatten
  | _ =>
    let t := match s.lan.readable with
      | some x => x.2.1
      | none => []
    (idx.map (fun i => leBytes 8 (tget 0 t (ctrKey block inst i)))).flatten

/-- The reply: a 16-byte head and the values. Before the first sweep is readable it is that of drip 0, all zeros. -/
def snapReply (s : State) (block inst first n : Nat) : Bytes :=
  let swept := block != 8 && block != 9
  let at_ := match s.lan.readable with
    | some x => x.1
    | none => 0
  let bad := match s.lan.readable with
    | some x => swept && x.2.2.contains (instKey block inst)
    | none => false
  leBytes 8 (if swept then at_ else 0) ++ leBytes 1 block ++ leBytes 1 (bit (!bad)) ++ leBytes 2 inst ++ leBytes 1 n ++ zeros 3 ++
    snapValues s block inst first n

/-- The body of `COUNTER_SNAPSHOT`. -/
def snapshotBody (p : Bytes) (s : State) : Res :=
  let block := byteAt p 0
  let inst := fieldAt p 2 2
  let first := byteAt p 4
  let n := byteAt p 5
  guarded s
    [(stBadParam, badLen p 8 || block == 0 || decide (9 < block) || nonZero p 1 1 || nonZero p 6 2 || !instOk s block inst ||
      decide (idxCount block < first + n))]
    (.reply s stOk (snapReply s block inst first n))

/-- What an observer over a hierarchy mailbox may read: the `PORT` block of that hierarchy's USPs (R362). -/
def snapshotAllowed (t : Transport) (r : Req) (s : State) : Bool :=
  match mailboxAgent t with
  | none => true
  | some a => byteAt r.payload 0 == 1 && uspAgent s.cfg (fieldAt r.payload 2 2) == some a

/-- `COUNTER_SNAPSHOT` (R372). -/
def execCounterSnapshot (t : Transport) (r : Req) (s : State) : Out :=
  vendorCmd 0xC0B2 t r (fun _ => snapshotAllowed t r s) (fun s _ => snapshotBody r.payload s) s

end Sys2Proof.Machine
end

