-- ==== Sys2Proof/Machine/Levels.lean ====
section
/-!
DEFINITION. The state selects of the programmable counters, and what every drip counts (R365, R364 block 2 index 6).
-/

namespace Sys2Proof.Machine

/-- A lossless flow of a gallery has an open hole, of a class of the mask (select 04h). -/
def holeOpen (s : State) (g q : Nat) : Bool :=
  (s.gal g).flows.any (fun e => decide (e.1 % 8 < 6) && bitOf q (e.1 % 8) && e.2.hole.isSome)

/-- A virtual output queue is heavy (R42; select 05h). -/
def heavyNow (s : State) (g q : Nat) : Bool :=
  (s.gal g).voq.any (fun e => classGalQual (e.1 % 8) (e.1 / 8) q && decide (336 < e.2.length))

/-- The gallery holds off a class on an inbound passage (R57; select 06h). -/
def holdsOff (s : State) (g q : Nat) : Bool :=
  (List.range 4).any (fun c => (s.pas (4 * g + c)).xoff &&& (q % 128) != 0)

/-- A slice has fewer than two free transaction records (R115; select 0Ch). -/
def sliceStalls (s : State) (g q : Nat) : Bool :=
  (List.range 9).any (fun sl => bitOf q sl && decide (510 < txnsUsed s g sl))

/-- A packet at the head of a fair-stage queue of a local port waits on a closed gate (select 0Eh). -/
def gateWaits (s : State) (g q : Nat) : Bool :=
  let b := 64 * g + q % 64
  (s.sch b).queues.any (fun e => !e.2.pkts.isEmpty && !gateOpen s b e.1)

/-- A state select holds now; a pulse select never does. -/
def levelNow (s : State) (g sel q : Nat) : Bool :=
  match sel with
  | 0x04 => holeOpen s g q
  | 0x05 => heavyNow s g q
  | 0x06 => holdsOff s g q
  | 0x0C => sliceStalls s g q
  | 0x0E => gateWaits s g q
  | _ => false

/-- The state selects of a gallery's counters that hold now, bit k for counter k. -/
def levelBits (s : State) (g : Nat) : Nat :=
  let ps := tget [] s.cfg.progs g
  sumOf (fun k => match ps[k]? with
    | some p => bit (levelNow s g p.select p.qual) * 2 ^ k
    | none => 0) (List.range 8)

/-- Gallery-core edges of the drip that follows: 2.5 to a drip, so 2 and 3 in turn (R365). -/
def edgesOf (now : Nat) : Nat :=
  (now + 1) * 5 / 2 - now * 5 / 2

/-- One counter over one drip: `LEVEL` counts every edge on which the state holds, `EDGE` one turn from false to true. -/
def countLevel (g bits : Nat) (s : State) (k : Nat) : State :=
  let p := ((tget [] s.cfg.progs g)[k]?).getD {}
  let was := bitOf (tget {} s.lan.progs g).levels k
  if !bitOf bits k then s
  else if p.mode == 1 then addProg s g k (edgesOf s.now)
  else if was then s else addProg s g k 1

/-- One gallery's programmable counters over one drip. A gallery whose counters are all off has nothing to count. -/
def countLevels (s : State) (g : Nat) : State :=
  if (tget [] s.cfg.progs g).isEmpty then s
  else
    let bits := levelBits s g
    let s := forEach (List.range 8) s (countLevel g bits)
    { s with lan := { s.lan with progs := tmod {} s.lan.progs g (fun p => { p with levels := bits }) } }

/-- A passage that holds off any class toward its gallery counts the drip (R364). -/
def countHeldOff (s : State) (p : Nat) : State :=
  if (s.pas p).xoff == 0 then s else countPas s p 6 1

/-- What every drip counts. -/
def countDrip (s : State) : State :=
  let s := forEach (List.range 8) s countLevels
  forEach (List.range 32) s countHeldOff

end Sys2Proof.Machine
end

