-- ==== Sys2Proof/Machine/Lost.lean ====
section
/-!
DEFINITION. Losing a whole gallery (R337, R338), and moving the homes of its hierarchies (R339).
-/

namespace Sys2Proof.Machine

/-! ## The declaration (R337) -/

/-- A gallery other than `g` has been told of a condition of `g` by a notice (R52, R337). -/
def toldOf (s : State) (g : Nat) (mask : Gal → Nat) : Bool :=
  (List.range 8).any (fun i => i != g && (s.gal i).lost.isNone && bitOf (mask (s.gal i)) g)

/-- A condition of R337 holds, and the sequencers have learned of it. -/
def lostDue (s : State) (g : Nat) : Bool :=
  let x := s.gal g
  let for1ms := fun (t : Option Nat) => match t with
    | some a => decide (a + 800000 ≤ s.now)
    | none => false
  (x.supplyBad && toldOf s g (·.peerSupply)) || (livePas s g == 0 && for1ms x.noPasSince) ||
    (s.unsure (coreIsl g) && for1ms x.unsureSince && toldOf s g (·.peerUnsure))

/-! ## What is discarded (R338) -/

/-- Identity of a cell's packet: its flow and the number of its first cell. -/
def pktKey (c : Cell) : Nat × Nat × Nat :=
  (flowKey c.pkt.srcGal c.pkt.srcPort c.pkt.cls, c.pkt.dstGal, pktSeq c)

/-- One packet for each packet among some cells. -/
def distinctPkts (cs : List Cell) : List Pkt :=
  (cs.foldl (fun (a : List (Nat × Nat × Nat) × List Pkt) c =>
    if a.1.contains (pktKey c) then a else (pktKey c :: a.1, a.2 ++ [c.pkt])) ([], [])).2

/-- Every cell outside gallery `g` that is on its way to it. -/
def cellsToward (s : State) (g : Nat) : List Cell :=
  let queued := s.core.gals.flatMap (fun e => if e.1 == g then [] else (e.2.voq ++ e.2.relayQ).flatMap (·.2))
  let waiting := s.core.pas.flatMap (fun e => if e.1 / 4 == g then [] else e.2.rx.map (·.cell) ++ e.2.replay.map (·.cell) ++ e.2.plan.map (·.cell))
  let forming := s.port.ports.flatMap (fun e => if galOf e.1 == g then [] else e.2.forming.map (·.cell))
  (queued ++ waiting ++ s.core.flights.map (·.cell) ++ forming).filter (fun c => c.pkt.dstGal == g && c.pkt.srcGal != g)

/-- Packets outside gallery `g` that wait for room on their way to it. -/
def waitingToward (s : State) (g : Nat) : List Pkt :=
  (s.core.gals.flatMap (fun e => if e.1 == g then [] else e.2.outWait) ++
    s.port.ports.flatMap (fun e => if galOf e.1 == g then [] else e.2.waiting.map (·.pkt))).filter (fun p => p.dstGal == g)

/-- They wait no longer. -/
def dropWaiting (s : State) (g : Nat) : State :=
  { s with
    core := { s.core with gals := s.core.gals.map (fun e => (e.1, { e.2 with outWait := e.2.outWait.filter (fun p => p.dstGal != g) })) }
    port := { s.port with ports := s.port.ports.map (fun e => (e.1, { e.2 with
      waiting := e.2.waiting.filter (fun w => w.pkt.dstGal != g), forming := e.2.forming.filter (fun w => w.cell.pkt.dstGal != g) })) } }

/-- Gallery `i` discards what it holds for `g`: its queue, its relay cells, and what a replay buffer keeps; a cell that only hops
through `g` goes back to its queue. Held cells of flows from `g` are discarded. -/
def purge (g : Nat) (s : State) (i : Nat) : State :=
  let cs := (List.range 7).flatMap (fun cls => voqOf s i g cls)
  let relay := fun (x : Gal) => (List.range 7).flatMap (fun cls => tget [] x.relayQ (qKey g cls))
  let s := s.modGal i (fun x => (List.range 7).foldl (fun x cls => { x with
    voq := tput [] x.voq (qKey g cls) []
    voqOcc := tmod 0 x.voqOcc (qKey g cls) (fun v => v - (cs.filter (fun c => c.pkt.cls == cls)).length) }) x)
  let s := s.modGal i (fun x =>
    let n := (relay x).length
    chargeRelay ((List.range 7).foldl (fun x cls => { x with relayQ := tput [] x.relayQ (qKey g cls) [] }) x) g (fun v => v - n))
  let s := forEach (List.range 4) s (fun s c =>
    let p := 4 * i + c
    let es := (s.pas p).replay
    let gone := es.filter (fun e => e.cell.pkt.dstGal == g)
    let back := es.filter (fun e => e.cell.pkt.dstGal != g && e.m == g)
    let placed := (s.pas p).plan.filter (fun e => e.cell.pkt.dstGal == g)
    let s := s.modPas p (fun x => { x with
      replay := x.replay.filter (fun e => e.cell.pkt.dstGal != g && e.m != g), plan := x.plan.filter (fun e => e.cell.pkt.dstGal != g) })
    let s := s.modGal i (fun x => placed.foldl (fun x e => freeSent x e.hop2 e.cell) (gone.foldl (fun x e => freeSent x e.hop2 e.cell) x))
    replayInto (unplan s p (fun e => e.m == g)) i p back)
  let s := forEach (((s.gal i).flows.map (·.1)).filter (fun k => k / 512 == g)) s (fun s k =>
    let fl := tget {} (s.gal i).flows k
    let cs := fl.held ++ fl.part
    let s := match (if fl.started then fl.part.head? else none) with
      | some c => endPacket s i { c.pkt with bad := true }
      | none => s
    let s := s.modGal i (fun x => { x with flows := tput {} x.flows k {} })
    forEach (packetsOf cs.length cs) s (fun s e =>
      let s := if fl.started && e.1.first then s else forgetPacket s i e.1
      if isReply e.1.pkt then replyGone s e.1.pkt else s))
  let r := releaseIo s i
  deliverAll r.1 i r.2

/-- A request that was on its way to gallery `g` is answered at its ingress as for an unreachable device; a packet for a host is
lost. -/
def answerLost (s : State) (p : Pkt) : State :=
  match p.kind with
  | .ioNonPosted => sendToPort s p.srcGal (ioCompletion p.srcGal p.srcPort p 1 [])
  | .ioPosted => postedLost s (64 * p.dstGal + p.dstPort) p
  | .memReq =>
    match accOf s p.id with
    | some a => accessEnd s a false [] false
    | none => privateFail s p.srcGal p.srcPort p
  | .devReq =>
    match accOf s p.id with
    | some a => accessEnd s a false [] false
    | none => noTarget s p.srcGal (64 * p.dstGal + p.dstPort) p
  | _ => lostForHost s p

/-- The lost gallery holds nothing any more: queues, flows, schedulers, slices and their arrays, Echo messages and the ring writes its
island kept. -/
def clearGallery (s : State) (g : Nat) : State :=
  let x := s.gal g
  let pkts := x.egIn.flatMap (·.2) ++ (List.range 64).flatMap (fun k => waitingPkts (s.sch (64 * g + k)))
  let own := distinctPkts ((x.voq ++ x.relayQ).flatMap (·.2))
  let s := s.modGal g (fun x => { x with
    voq := [], relayQ := [], flows := [], egIn := [], admitted := [], voqOcc := [], egOcc := [], relayOcc := [], ioHeld := [], outWait := [] })
  let s := forEach (List.range 64) s (fun s k => s.modPrt (64 * g + k) (fun x => { x with waiting := [], forming := [] }))
  let s := forEach (List.range 64) s (fun s k => s.modSch (64 * g + k) emptySched)
  let s := forEach (List.range 9) s (fun s sl => s.modSlice g sl (fun v => { v with
    intake := [], paused := [], retry := [], snoopPath := [], answers := [], held := [] }))
  let s := { s with dir := { s.dir with
    full := s.dir.full.filter (fun e => e.1 / 65536 / 9 != g), ptr := s.dir.ptr.filter (fun e => e.1 / 16384 / 9 != g)
    shFull := s.dir.shFull.filter (fun e => e.1 / 65536 / 9 != g), shPtr := s.dir.shPtr.filter (fun e => e.1 / 16384 / 9 != g)
    stash := s.dir.stash.filter (fun e => e.1 / 65536 != g), migs := tput none s.dir.migs g none } }
  let s := s.modSvc g (fun v => { v with unacked := [], held := [] })
  let s := forEach ((s.cfg.hiers.filter (fun h => h.2.home == g)).flatMap (fun h => (List.range 16).map (16 * h.1 + ·))) s
    (fun s e => s.modEndp e (fun x => { x with queue := [] }))
  forEach ((pkts ++ own).filter isReply) s replyGone

/-! ## Homes (R339) -/

/-- A move launches: the endpoints start afresh in the new home with their committed settings, and every check slot is released. -/
def moveHome (s : State) (a : Nat) : State :=
  match newHome s a with
  | none => s
  | some u =>
    let hs := (List.range 32).filter (fun h => (s.cfg.check a h).assigned)
    let s := { s with cfg := { s.cfg with
      hiers := tmod {} s.cfg.hiers a (fun h => { h with home := galOf u, homePort := u, homeless := false })
      checks := hs.foldl (fun t h => tput {} t (32 * a + h) { change := s.drip }) s.cfg.checks } }
    let s := forEach hs s (fun s h => s.modCtx a h releaseCtx)
    forEach ((List.range 16).map (16 * a + ·)) (resetMsix s a) (fun s e =>
      let c := s.cfg.endp e
      s.modEndp e (fun x => { tc := 800 * c.cbs, tp := 800 * c.pbs, tokAt := s.now, txSent := x.txSent, txDropped := x.txDropped,
                              rxDropped := x.rxDropped }))

/-! ## The command -/

/-- `GALLERY_LOST_DECLARE` (R337, R338). Columns whose drain only the lost gallery had not ended are out (R44), and a column's admission goes on
without its passage. -/
def execGalleryLostDeclare (g : Nat) (s : State) : Out :=
  if !decide (g < 8) || (s.gal g).lost.isSome || !lostDue s g then .next s
  else
    let ups := galleryUp s g
    let pkts := distinctPkts (cellsToward s g) ++ waitingToward s g
    let s := dropWaiting s g
    let s := s.modGal g (fun x => { x with lost := some s.now })
    let s := dropFlights (clearGallery s g) (fun f => f.m == g)
    let s := forEach ((List.range 8).filter (· != g)) s (purge g)
    let s := forEach ups s (fun s b => takeDown s b 7 .down)
    let s := forEach (((List.range 64).map (64 * g + ·)).filter (fun b => isType3 s.cfg b)) s loseDevice
    let s := { s with cfg := { s.cfg with
      hiers := s.cfg.hiers.map (fun h => (h.1, if h.2.live && h.2.home == g then { h.2 with homeless := true } else h.2)) } }
    let s := forEach pkts s answerLost
    let s := forEach (List.range 4) s (fun s c => columnOut s c s.drip)
    .next (armMoves (forEach (List.range 4) s (fun s c => columnCalCheck s c)))

end Sys2Proof.Machine
end

