-- ==== Sys2Proof/Machine/DirCmds.lean ====
section
/-!
DEFINITION. `DIR_MODE` (its actions that are not staged), `DIR_SLICE_TEST` and `DIR_STATS` (R111-R113).
-/

namespace Sys2Proof.Machine

/-! ## Replies -/

/-- `MODE` of R111. -/
def modeCode : SliceMode → Nat
  | .full => 0
  | .pointer => 1
  | .toFull _ => 2
  | .toPointer _ => 2
  | .down => 1

/-- `MIG_SET`: P of the gallery's migration. -/
def migSet (s : State) (g : Nat) : Nat :=
  match tget none s.dir.migs g with
  | some m => m.p
  | none => 0xFFFFFFFF

/-- The 24-byte reply of `DIR_MODE` (R111). -/
def dirReply (s : State) (g sl : Nat) : Bytes :=
  let x := s.slice g sl
  leBytes 1 g ++ leBytes 1 sl ++ leBytes 1 (roleCode x.role) ++ leBytes 1 (modeCode x.mode) ++ leBytes 1 ((logicalOf s g sl).getD 255) ++
    leBytes 1 ((spareOf s g).getD 255) ++ zeros 2 ++ leBytes 4 s.cfg.biTimeout ++ leBytes 4 (migSet s g) ++ leBytes 8 x.change

/-- The 24-byte reply of `DIR_SLICE_TEST` (R112). -/
def testReply (s : State) (g sl : Nat) : Bytes :=
  let x := s.slice g sl
  leBytes 1 g ++ leBytes 1 sl ++ leBytes 1 (roleCode x.role) ++ leBytes 1 x.testRes ++ leBytes 1 x.testArray ++ zeros 3 ++
    leBytes 4 x.testAddr ++ zeros 4 ++ leBytes 8 x.testEnd

/-- Entries of a slice that occupy a way and satisfy a test. -/
def countEntries (s : State) (g sl : Nat) (p : Entry → Bool) : Nat :=
  ((allEntries s g sl).filter (fun e => realWay e && p e)).length

/-- Stable entries of a slice in a state. -/
def countState (s : State) (g sl : Nat) (st : DSt) : Nat :=
  countEntries s g sl (fun e => e.txn.isNone && e.st == st)

/-- `STASH_LINES`: the stash lines of the slice's entries, and the pinned lines without an entry that are the slice's (R101, R113). -/
def stashLines (s : State) (g sl : Nat) : Nat :=
  countEntries s g sl (·.stash) + sumOf (fun (e : Nat × List StashLine) =>
    if e.1 / 65536 == g then
      (e.2.filter (fun l => (homeEntry s g l.key).isNone && intakeSlice s g l.key == sl)).length
    else 0) s.dir.stash

/-- The 120-byte reply of `DIR_STATS` (R113). -/
def statsReply (s : State) (g sl : Nat) : Bytes :=
  let x := s.slice g sl
  let c := x.counts
  leBytes 1 g ++ leBytes 1 sl ++ leBytes 1 (roleCode x.role) ++ leBytes 1 (modeCode x.mode) ++ leBytes 1 ((logicalOf s g sl).getD 255) ++
    zeros 3 ++ leBytes 4 (countState s g sl .s) ++ leBytes 4 (countState s g sl .e) ++ leBytes 4 (countState s g sl .m) ++
    leBytes 4 (countState s g sl .o) ++ leBytes 4 (countEntries s g sl (fun e => e.txn.isSome)) ++ leBytes 4 (migSet s g) ++
    leBytes 8 c.lookups ++ leBytes 8 c.hits ++ leBytes 8 c.evictions ++ leBytes 8 c.snoops ++ leBytes 8 c.bcastSnoops ++
    leBytes 8 c.stashFills ++ leBytes 8 c.stashWb ++ leBytes 8 c.retries ++ leBytes 4 c.corrected ++ leBytes 4 c.uncorrected ++
    leBytes 4 (stashLines s g sl) ++ zeros 4 ++ leBytes 8 s.drip

/-! ## DIR_MODE (R111) -/

/-- A field of `DIR_MODE` is out of range. -/
def dirModeBad (p : Bytes) : Bool :=
  let act := byteAt p 2
  let us := fieldAt p 4 4
  badLen p 8 || nonZero p 3 1 || decide (7 < byteAt p 0) || decide (8 < byteAt p 1) || decide (4 < act) ||
    (if act == 4 then decide (us < 100) || decide (100000 < us) || nonZero p 0 2 else !(us == 0))

/-- An action 1-3 of `DIR_MODE` lies outside its condition. -/
def dirModeBarred (s : State) (g sl act : Nat) : Bool :=
  let x := s.slice g sl
  match act with
  | 1 => !(x.role == .active && x.mode == .full)
  | 2 => !(x.mode == .pointer && x.fullPassed)
  | 3 => !(x.role == .active && (spareOf s g).isSome && !sliceBusy s g)
  | _ => false

/-- Perform an action 1-3 of `DIR_MODE`. -/
def dirModeAct (s : State) (g sl act : Nat) : State :=
  match act with
  | 1 => enterPointer s g sl 4
  | 2 => startConv s g sl (.toFull 0) 4
  | 3 => startMigration s g sl 3
  | _ => s

/-- `DIR_MODE` when it is not staged: a query, or an action 1-3. -/
def dirModeNow (p : Bytes) (s : State) : Res :=
  let g := byteAt p 0
  let sl := byteAt p 1
  let act := byteAt p 2
  guarded s
    [(stBusy, act != 0 && commitArmed s),
     (stBadParam, dirModeBad p),
     (stNotInState, dirModeBarred s g sl act)]
    (let t := dirModeAct s g sl act
     .reply t (if act == 0 then stOk else stPending) (dirReply t g sl))

/-! ## DIR_SLICE_TEST (R112) -/

/-- A slice out of the map is tested at once. -/
def testNow (s : State) (g sl : Nat) : State :=
  s.modSlice g sl (fun x => { x with role := .testing, testRes := 3, change := s.drip })

/-- An active slice is tested in pointer mode, into which it converts first (R105). -/
def testInPointer (s : State) (g sl : Nat) : State :=
  let s := s.modSlice g sl (fun x => { x with testPending := true, testRes := 3 })
  if (s.slice g sl).mode == .full then enterPointer s g sl 2 else s

/-- Start a test. -/
def startTest (s : State) (g sl : Nat) : State :=
  if (s.slice g sl).role == .active then
    (if (spareOf s g).isSome then startMigration (s.modSlice g sl (fun x => { x with testRes := 3 })) g sl 4
     else testInPointer s g sl)
  else testNow s g sl

/-- The body of `DIR_SLICE_TEST`. -/
def sliceTestBody (p : Bytes) (s : State) : Res :=
  let g := byteAt p 0
  let sl := byteAt p 1
  let act := byteAt p 2
  let barred := sliceBusy s g || ((s.slice g sl).role == .active && (spareOf s g).isNone && byteAt p 3 == 0)
  guarded s
    [(stBusy, act == 1 && commitArmed s),
     (stBadParam, badLen p 4 || decide (7 < g) || decide (8 < sl) || decide (1 < act) || decide (1 < byteAt p 3)),
     (stNotInState, act == 1 && barred)]
    (if act == 0 then .reply s stOk (testReply s g sl)
     else
       let t := startTest s g sl
       .reply t stPending (testReply t g sl))

/-- `DIR_SLICE_TEST` (R112). -/
def execDirSliceTest (t : Transport) (r : Req) (s : State) : Out :=
  vendorCmd 0xC081 t r (mixed 2 [0] r) (fun s _ => sliceTestBody r.payload s) s

/-- `DIR_STATS` (R113). -/
def execDirStats (t : Transport) (r : Req) (s : State) : Out :=
  vendorCmd 0xC082 t r (permits .any) (fun s _ =>
    guarded s
      [(stBadParam, badLen r.payload 4 || nonZero r.payload 2 2 || decide (7 < byteAt r.payload 0) || decide (8 < byteAt r.payload 1))]
      (.reply s stOk (statsReply s (byteAt r.payload 0) (byteAt r.payload 1)))) s

end Sys2Proof.Machine
end

