-- ==== Sys2Proof/Machine/Operands.lean ====
section
/-!
DEFINITION. The operands of the staged commands, read from a request's payload (R170, R173, R194, R198, R217, R240, R369-R371).
-/

namespace Sys2Proof.Machine

/-! ## Fields of the requests -/

/-- The `USP` entries of `HIER_CREATE` that count (R173). -/
def hierUsps (p : Bytes) : List Nat :=
  (List.range (min 4 (byteAt p 1))).map (fun i => fieldAt p (4 + 2 * i) 2)

/-- The windows of `GROTTO_CREATE` with their bases (R198). -/
def grottoWins (p : Bytes) : List (Nat × Nat) :=
  (List.range (byteAt p 3)).map (fun i => (fieldAt p (4 + 8 * i) 2, fieldAt p (8 + 8 * i) 4))

/-- Bytes of a segment record of `WINDOW_DEFINE` (R194). -/
def segSize (ways : Nat) (twinned : Bool) : Nat :=
  8 + 8 * ways * (if twinned then 2 else 1)

/-- Way entries from an offset. -/
def wayList (p : Bytes) (off ways : Nat) : List (Nat × Nat) :=
  (List.range ways).map (fun i => (fieldAt p (off + 8 * i) 2, fieldAt p (off + 8 * i + 4) 4))

/-- A window as `WINDOW_DEFINE` gives it. -/
def windowOf (p : Bytes) : WinCfg :=
  let ty := byteAt p 2
  let wl := min 4 (byteAt p 3)
  let ways := 2 ^ wl
  let tw := bitOf ty 1
  let size := segSize ways tw
  { live := true, fresh := true, shared := bitOf ty 0, twinned := tw, assumeClean := bitOf ty 2, waysLog := wl, gran := byteAt p 4,
    twinAck := byteAt p 6, base := fieldAt p 8 8, export_ := fieldAt p 16 2
    segs := (List.range (min 16 (byteAt p 5))).map (fun k =>
      let o := 24 + size * k
      { units := fieldAt p o 4, ways := wayList p (o + 8) ways, twins := if tw then wayList p (o + 8 + 8 * ways) ways else [] }) }

/-- Bits [111:0] of a stored rule (R207). -/
def ruleWord (r : Rule) : Nat :=
  r.base + 2 ^ 52 * r.end_ + 2 ^ 105 * bit r.valid + 2 ^ 106 * r.space + 2 ^ 107 * bit r.rd + 2 ^ 108 * bit r.wr + 2 ^ 109 * bit r.at_ +
    2 ^ 110 * bit r.sealed

/-- A rule with its check bits (R207, log 159). -/
def withEcc (r : Rule) : Rule :=
  { r with ecc := Config.checkBits 112 (ruleWord r) % 256 }

/-- A rule as `GUARD_RULE_SET` gives it (R217). -/
def ruleOf (p : Bytes) : Rule :=
  let f := byteAt p 4
  withEcc { base := fieldAt p 8 8, end_ := fieldAt p 16 8, valid := true, space := f % 2, rd := bitOf f 1, wr := bitOf f 2, at_ := bitOf f 3,
            sealed := bitOf f 4 }

/-- The port settings that `PORT_CONFIG` gives (R170). -/
def portOf (p : Bytes) : PortCfg :=
  { role := byteAt p 2, width := byteAt p 3, maxRate := byteAt p 4, flitModes := byteAt p 5, clocking := byteAt p 6, lp := byteAt p 7,
    idleUs := fieldAt p 8 2, devTo := fieldAt p 10 2, localPbr := fieldAt p 12 2, peerPbr := fieldAt p 14 2,
    passAgent := fieldAt p 16 2, passVppb := byteAt p 18 }

/-- A gate list as `GATE_LIST_SET` gives it; no entries are a removal (R232, R240). -/
def gateOf (p : Bytes) : Option GateList :=
  if byteAt p 2 == 0 then none
  else some {
    base := fieldAt p 8 8, guard := byteAt p 3
    entries := (List.range (byteAt p 2)).map (fun i => (8 * fieldAt p (16 + 16 * i) 4, fieldAt p (24 + 16 * i) 8)) }

/-- The filters of `TRACE_CONFIG` (R369). -/
def filtersOf (p : Bytes) : List Filter :=
  (List.range (byteAt p 1)).map (fun i =>
    let o := 8 + 16 * i
    { type := byteAt p o, galMask := byteAt p (o + 1), classMask := byteAt p (o + 2), pointMask := byteAt p (o + 3), lo := fieldAt p (o + 4) 2,
      hi := fieldAt p (o + 6) 2, agent := fieldAt p (o + 8) 2, kindMask := fieldAt p (o + 10) 2, sampleLog := byteAt p (o + 12) })

/-- The counters of `COUNTER_CONFIG` (R370). -/
def progsOf (p : Bytes) : List ProgCfg :=
  (List.range 8).map (fun i =>
    let o := 8 + 16 * i
    { select := byteAt p o, mode := byteAt p (o + 1), wrapEvent := bitOf (byteAt p (o + 2)) 0, freezeAll := bitOf (byteAt p (o + 2)) 1
      qual := fieldAt p (o + 4) 2 })

/-- A sampler as `SAMPLE_CONFIG` gives it (R371). -/
def samplerOf (p : Bytes) : SampCfg :=
  { enable := byteAt p 1 == 1, kindMask := fieldAt p 2 2, lo := fieldAt p 4 2, hi := fieldAt p 6 2, agent := fieldAt p 8 2
    period := fieldAt p 12 4 }

end Sys2Proof.Machine
end

