-- ==== Sys2Proof/Machine/Staging.lean ====
section
/-!
DEFINITION. Stages (R323): what each staged command makes of a configuration, a stage's view, and the objects of a command.
-/

namespace Sys2Proof.Machine

/-! ## What a command makes of a configuration -/

/-- Change a port. -/
def Cfg.setPort (c : Cfg) (b : Nat) (v : PortCfg) : Cfg :=
  { c with ports := tput {} c.ports b v }

/-- The ports that a bundle absorbs. -/
def tailPorts (b w : Nat) : List Nat :=
  (List.range (widthPorts (min w 3) - 1)).map (fun k => b + 1 + k)

/-- `PORT_CONFIG` (R152, R170): the ports the bundle had absorbed are `UNUSED`, then it absorbs those of its new width. -/
def applyPort (c : Cfg) (p : Bytes) : Cfg :=
  let b := fieldAt p 0 2
  let v := portOf p
  let c := (tailPorts b (c.port b).width).foldl (fun c q => if (c.port q).role == 5 then c.setPort q {} else c) c
  (tailPorts b v.width).foldl (fun c q => c.setPort q { role := 5 }) (c.setPort b v)

/-- `HIER_CREATE` (R158, R243). -/
def applyCreate (c : Cfg) (p : Bytes) : Cfg :=
  let us := hierUsps p
  let u := us.headD 0
  let h : HierCfg := { live := true, fresh := true, usps := us, vppbs := byteAt p 2, home := galOf u, homePort := u }
  { c with hiers := tput {} c.hiers (byteAt p 0) h }

/-- `HIER_DESTROY` (R174, R183, R242, R272): the grottos are deleted, the endpoints disabled, the check slots released. -/
def applyDestroy (c : Cfg) (p : Bytes) : Cfg :=
  let a := byteAt p 0
  { c with
    hiers := tput {} c.hiers a {}
    grottos := c.grottos.filter (fun e => e.2.agent != a)
    endps := (List.range 16).foldl (fun t i => tmod {} t (16 * a + i) (fun e => { e with enable := false })) c.endps
    checks := (List.range 32).foldl (fun t h => tmod {} t (32 * a + h) (fun k => { change := k.change })) c.checks }

/-- `GROTTO_CREATE` (R198). -/
def applyGrotto (c : Cfg) (p : Bytes) : Cfg :=
  let n := fieldAt p 0 2
  let ws := grottoWins p
  { c with grottos := tmod {} c.grottos n (fun g =>
      if ws.isEmpty then {}
      else if g.live then { g with wins := ws }
      else { live := true, fresh := true, agent := byteAt p 2, wins := ws }) }

/-- `GROTTO_BIND` (R199). -/
def applyBind (c : Cfg) (p : Bytes) : Cfg :=
  { c with grottos := tmod {} c.grottos (fieldAt p 0 2) (fun g => { g with
      bound := true, rebound := true, unbinding := false, vppb := byteAt p 2, sanitise := byteAt p 3 == 1, drainMs := fieldAt p 4 2 }) }

/-- `GROTTO_UNBIND` (R200). -/
def applyUnbind (c : Cfg) (p : Bytes) : Cfg :=
  { c with grottos := tmod {} c.grottos (fieldAt p 0 2) (fun g => { g with
      bound := false, rebound := false, unbinding := true, vppb := 255, sanitise := false }) }

/-- Change a bundle's scheduler settings. -/
def Cfg.modSch (c : Cfg) (b : Nat) (f : SchedCfg → SchedCfg) : Cfg :=
  { c with scheds := tmod {} c.scheds b f }

/-- `SCHED_QUEUE_SET` (R238). -/
def applySched (c : Cfg) (p : Bytes) : Cfg :=
  let b := fieldAt p 2 2
  match byteAt p 0 with
  | 0 =>
    let q : QCfg := { share := fieldAt p 8 2, rate := fieldAt p 10 2, burst := byteAt p 12 }
    c.modSch b (fun x => { x with queues := tput {} x.queues (byteAt p 4) q })
  | 1 =>
    c.modSch b (fun x => { x with
      sysQ := if byteAt p 9 == 255 then x.sysQ else byteAt p 9
      map := (List.range (fieldAt p 10 2)).foldl (fun t i =>
        let q := byteAt p (16 + i)
        if q == 255 then t else tput 0 t (byteAt p 8 + i) (q + 1)) x.map })
  | _ => { c with alpha := tput [] c.alpha (byteAt p 1) ((List.range 7).map (fun i => sfieldAt p (8 + i) 1)) }

/-- Change an endpoint's settings. -/
def Cfg.modEndp (c : Cfg) (e : Nat) (f : EndpCfg → EndpCfg) : Cfg :=
  { c with endps := tmod {} c.endps e f }

/-- `ECHO_ENDPOINT_SET` (R258). -/
def applyEndp (c : Cfg) (p : Bytes) : Cfg :=
  c.modEndp (fieldAt p 0 2) (fun e => { e with
    enable := byteAt p 3 == 1, domain := fieldAt p 4 2, green := byteAt p 6, yellow := byteAt p 7, weight := byteAt p 8 })

/-- `POLICER_SET` (R259). -/
def applyPolicer (c : Cfg) (p : Bytes) : Cfg :=
  c.modEndp (fieldAt p 0 2) (fun e => { e with
    cir := fieldAt p 4 4, pir := fieldAt p 8 4, cbs := fieldAt p 12 4, pbs := fieldAt p 16 4 })

/-- `CHECK_CONTEXT_ASSIGN` (R272). -/
def applyCheck (c : Cfg) (p : Bytes) : Cfg :=
  let f := byteAt p 3
  { c with checks := tmod {} c.checks (32 * byteAt p 0 + byteAt p 1) (fun k =>
      if byteAt p 2 == 0 then
        { assigned := true, alg := f % 4, mode := f / 4 % 2, engine := byteAt p 4, ctx := byteAt p 5, change := k.change }
      else { change := k.change }) }

/-- `COUNTER_CONFIG` (R370). -/
def applyCounter (c : Cfg) (p : Bytes) : Cfg :=
  let c := if bitOf (byteAt p 1) 0 then { c with sweep := fieldAt p 4 4 } else c
  if bitOf (byteAt p 1) 1 then { c with progs := tput [] c.progs (byteAt p 0) (progsOf p) } else c

/-- What a staged command other than a guard's makes of a configuration. -/
def applyOne (c : Cfg) (op : Nat) (p : Bytes) : Cfg :=
  match op with
  | 0xC020 => applyPort c p
  | 0xC030 => applyCreate c p
  | 0xC031 => applyDestroy c p
  | 0xC032 => applyGrotto c p
  | 0xC033 => applyBind c p
  | 0xC034 => applyUnbind c p
  | 0xC040 => { c with wins := tput {} c.wins (fieldAt p 0 2) (windowOf p) }
  | 0xC041 => { c with wins := tput {} c.wins (fieldAt p 0 2) {} }
  | 0xC060 => applySched c p
  | 0xC061 => c.modSch (fieldAt p 0 2) (fun x => { x with gate := gateOf p })
  | 0xC062 => applyPolicer c p
  | 0xC063 => { c with wred := tput {} c.wred (byteAt p 0) { minTh := fieldAt p 4 4, maxTh := fieldAt p 8 4, maxP := fieldAt p 12 2 } }
  | 0xC070 => applyEndp c p
  | 0xC071 => applyCheck c p
  | 0xC080 => { c with biTimeout := fieldAt p 4 4 }
  | 0xC0B0 => { c with traceOn := byteAt p 0 == 1, filters := filtersOf p }
  | 0xC0B1 => applyCounter c p
  | 0xC0B3 => { c with samps := tput {} c.samps (byteAt p 0) (samplerOf p) }
  | _ => c

/-! ## Guards (R208, R217, R218) -/

/-- Change a guard. -/
def Cfg.modGrd (c : Cfg) (b : Nat) (f : GuardCfg → GuardCfg) : Cfg :=
  { c with guards := tmod {} c.guards b f }

/-- A rule cleared: only the drip of its last change stays. -/
def bareRule (r : Rule) : Rule :=
  { change := r.change }

/-- Role or width of a port differ between two configurations (R208). -/
def roleChanged (a b : Cfg) (port : Nat) : Bool :=
  (a.port port).role != (b.port port).role || (a.port port).width != (b.port port).width

/-- A guard with every rule cleared and both spaces open. -/
def clearedGuard (g : GuardCfg) : GuardCfg :=
  { rules := g.rules.foldl (fun t e => tput {} t e.1 (bareRule e.2)) [] }

/-- One staged command's effect on the guards. `later` holds the commands after it: a role or width change clears the rules at the place
of the bundle's last `PORT_CONFIG`, which replaces the earlier ones (R170, R208). -/
def guardOne (base final : Cfg) (later : List Staged) (c : Cfg) (k : Staged) : Cfg :=
  let b := fieldAt k.payload 0 2
  match k.op with
  | 0xC050 => c.modGrd b (fun g => { g with rules := tmod {} g.rules (byteAt k.payload 2) (fun r =>
      { ruleOf k.payload with change := r.change }) })
  | 0xC051 =>
    let i := byteAt k.payload 2
    c.modGrd b (fun g =>
      let rules := if i == 255 then g.rules.foldl (fun t e => tput {} t e.1 (if e.2.sealed then e.2 else bareRule e.2)) []
        else tmod {} g.rules i bareRule
      { g with rules := rules })
  | 0xC020 =>
    if roleChanged base final b && !later.any (fun l => l.op == 0xC020 && fieldAt l.payload 0 2 == b) then c.modGrd b clearedGuard
    else c
  | _ => c

/-- The guards of a stage, in the stage's order. -/
def guardFold (base final : Cfg) : List Staged → Cfg → Cfg
  | [], c => c
  | k :: ks, c => guardFold base final ks (guardOne base final ks c k)

/-! ## The view (R323) -/

/-- A configuration with staged commands applied in order, each as it was when it was accepted. -/
def viewOf (base : Cfg) (cmds : List Staged) : Cfg :=
  let final := cmds.foldl (fun c k => applyOne c k.op k.payload) base
  guardFold base final cmds final

/-- The view of a session's stage; the committed configuration when none is open. -/
def stageView (s : State) (n : Nat) : Cfg :=
  viewOf s.cfg ((s.stage n).getD [])

/-- The state of a grotto in a stage's view (R183, R200). -/
def viewSt (s : State) (v : Cfg) (n : Nat) : GrSt :=
  let g := v.gr n
  if g.bound then (if !g.rebound && (s.gr n).st == .binding then .binding else .bound)
  else if g.unbinding || (s.gr n).st == .draining then .draining
  else .unbound

/-! ## Objects (R323) -/

/-- The objects a staged command names: ports 0, agents 1, windows 2, grottos 3, guards 4, bundles' queues 5, exponents 6, gate lists 7,
endpoints 8, policers 9, profiles 10, check slots 11, contexts 12, Lantern 13, the sweep 14, counters 15, samplers 16, the snoop timeout
17. -/
def objsOf (v : Cfg) (op : Nat) (p : Bytes) : List (Nat × Nat) :=
  let b := fieldAt p 0 2
  match op with
  | 0xC020 => (b :: (tailPorts b (byteAt p 3) ++ (if (v.port b).role == 5 then [] else tailPorts b (v.port b).width))).map (fun q => (0, q))
  | 0xC030 => (1, byteAt p 0) :: (hierUsps p).map (fun u => (0, u))
  | 0xC031 => [(1, byteAt p 0)]
  | 0xC032 => [(3, b)]
  | 0xC033 => [(3, b)]
  | 0xC034 => [(3, b)]
  | 0xC040 => [(2, b)]
  | 0xC041 => [(2, b)]
  | 0xC050 => [(4, b)]
  | 0xC051 => [(4, b)]
  | 0xC060 => if byteAt p 0 == 2 then [(6, byteAt p 1)] else [(5, fieldAt p 2 2)]
  | 0xC061 => [(7, b)]
  | 0xC062 => [(9, b)]
  | 0xC063 => [(10, byteAt p 0)]
  | 0xC070 => [(8, b)]
  | 0xC071 =>
    let a := byteAt p 0
    let k := v.check a (byteAt p 1)
    [(11, 32 * a + byteAt p 1),
     (12, 1024 * (v.hier a).home + (if byteAt p 2 == 0 then 256 * byteAt p 4 + byteAt p 5 else 256 * k.engine + k.ctx))]
  | 0xC080 => [(17, 0)]
  | 0xC0B0 => [(13, 0)]
  | 0xC0B1 => (if bitOf (byteAt p 1) 0 then [(14, 0)] else []) ++ (if bitOf (byteAt p 1) 1 then [(15, byteAt p 0)] else [])
  | 0xC0B3 => [(16, byteAt p 0)]
  | _ => []

/-- The fabric range of a window that a command names. -/
def rangeOf (v : Cfg) (op : Nat) (p : Bytes) : Option (Nat × Nat) :=
  let r := fun (c : WinCfg) => some (c.base, c.base + c.size)
  match op with
  | 0xC040 => r (windowOf p)
  | 0xC041 => r (v.win (fieldAt p 0 2))
  | _ => none

/-- The stages that are not session `n`'s, and an armed commit that is not its own. -/
def otherStages (s : State) (n : Nat) : List (List Staged) :=
  let own := match s.proto.commit with
    | some c => c.session == n && !c.closed
    | none => false
  ((List.range 8).filter (· != n)).map (fun k => (s.stage k).getD []) ++
    (if own then [] else (s.proto.commit.map (fun c => [c.cmds])).getD [])

/-- What they hold. -/
def othersStaged (s : State) (n : Nat) : List Staged :=
  (otherStages s n).flatten

/-- Two ranges meet. -/
def meet (a b : Nat × Nat) : Bool :=
  decide (a.1 < b.2) && decide (b.1 < a.2)

/-- Another session has staged an object of this command (R323), or a window that meets its range (R194). -/
def stagedElsewhere (s : State) (n : Nat) (v : Cfg) (op : Nat) (p : Bytes) : Bool :=
  let os := objsOf v op p
  let r := rangeOf v op p
  (othersStaged s n).any (fun k => k.objs.any (fun o => os.contains o) ||
    (match k.range, r with
     | some a, some b => meet a b
     | _, _ => false))

/-- Payload bytes of a stage. -/
def stageBytes (cmds : List Staged) : Nat :=
  cmds.foldl (fun n k => n + k.payload.length) 0

end Sys2Proof.Machine
end

