-- ==== Sys2Proof/Machine/StageChecks.lean ====
section
/-!
DEFINITION. The tests of the staged commands against a stage's view: the statuses of step 10 with their conditions (R170, R173, R174,
R194, R195, R198-R200, R217, R218, R238, R240, R258-R260, R272, R369-R371).
-/

namespace Sys2Proof.Machine

/-- The refusal conditions of a command. -/
abbrev Conds := List (Nat × Bool)

/-! ## Ports and hierarchies (R170, R173, R174) -/

/-- A mode that is enabled is permitted at some rate up to `MAX_RATE` (R154). -/
def someMode (modes maxRate : Nat) : Bool :=
  (List.range 7).any (fun r => decide (r ≤ maxRate) && (List.range 3).any (fun m => bitOf modes m && modeAt m r))

/-- Some extent of a defined window lies on a bundle. -/
def holdsExtent (v : Cfg) (b : Nat) : Bool :=
  v.wins.any (fun e => e.2.live && onPort e.2 b)

/-- The role, width and clocking of a bundle may not change (R170). -/
def rolePinned (v : Cfg) (b : Nat) : Bool :=
  match (v.port b).role with
  | 1 => (uspAgent v b).isSome
  | 2 => (v.port b).passAgent != 65535 || holdsExtent v b
  | _ => false

/-- Another `FPT` has another `LOCAL_PBR_ID`. -/
def pbrDiffers (v : Cfg) (b l : Nat) : Bool :=
  v.ports.any (fun e => e.1 != b && e.2.role == 3 && e.2.localPbr != l)

/-- Fields of `PORT_CONFIG` out of range. -/
def portBad (v : Cfg) (p : Bytes) : Bool :=
  let b := fieldAt p 0 2
  let n := portOf p
  let h := v.hier n.passAgent
  badLen p 20 || nonZero p 19 1 || decide (511 < b) || decide (3 < n.role) || decide (3 < n.width) || decide (6 < n.maxRate) ||
    n.flitModes == 0 || decide (7 < n.flitModes) || decide (2 < n.clocking) || decide (15 < n.lp) ||
    ((bitOf n.lp 2 || bitOf n.lp 3) && !bitOf n.lp 1) || n.idleUs == 0 ||
    !(b % widthPorts (min n.width 3) == 0) || !someMode n.flitModes n.maxRate ||
    (if n.role == 2 then decide (n.devTo < 10) || decide (10000 < n.devTo) else !(n.devTo == 0)) ||
    (if n.role == 3 then decide (4095 < n.localPbr) || decide (4095 < n.peerPbr) || n.localPbr == n.peerPbr || pbrDiffers v b n.localPbr
     else !(n.localPbr == 0) || !(n.peerPbr == 0)) ||
    (if n.role == 2 && n.passAgent != 65535 then decide (255 < n.passAgent) || (h.live && decide (h.vppbs ≤ n.passVppb))
     else n.passAgent != 65535 || !(n.passVppb == 0))

/-- DSP bundles of a configuration, `b` apart. -/
def dspCount (v : Cfg) (b : Nat) : Nat :=
  (v.ports.filter (fun e => e.1 != b && e.2.role == 2)).length

/-- `PORT_CONFIG` (R170). -/
def portConds (s : State) (v : Cfg) (p : Bytes) : Conds :=
  let b := fieldAt p 0 2
  let n := portOf p
  let o := v.port b
  [(stBadParam, portBad v p),
   (stNotInState, b == s.mgmt.bootPort || (n.role == 2 && n.passAgent != 65535 && !(v.hier n.passAgent).live) ||
     (rolePinned v b && (o.role != n.role || o.width != n.width || o.clocking != n.clocking))),
   (stOverlap, o.role == 5 ||
     (tailPorts b n.width).any (fun q => roleIn s v q != 0 && !((v.port q).role == 5 && (tailPorts b o.width).contains q)) ||
     (n.role == 2 && n.passAgent != 65535 &&
       v.grottos.any (fun e => e.2.live && e.2.agent == n.passAgent && e.2.bound && e.2.vppb == n.passVppb))),
   (stNoResource, n.role == 2 && decide (256 ≤ dspCount v b))]

/-- `HIER_CREATE` (R173). -/
def createConds (s : State) (v : Cfg) (p : Bytes) : Conds :=
  let us := hierUsps p
  let n := byteAt p 1
  [(stBadParam, badLen p 12 || nonZero p 3 1 || n == 0 || decide (4 < n) || byteAt p 2 == 0 || decide (64 < byteAt p 2) ||
      us.any (fun u => !isBundle s v u) || !us.Nodup || (List.range 4).any (fun i => decide (n ≤ i) && fieldAt p (4 + 2 * i) 2 != 65535)),
   (stNotInState, (v.hier (byteAt p 0)).live || us.any (fun u => roleIn s v u != 1)),
   (stOverlap, us.any (fun u => (uspAgent v u).isSome))]

/-- `HIER_DESTROY` (R174). -/
def destroyConds (s : State) (v : Cfg) (p : Bytes) : Conds :=
  let a := byteAt p 0
  [(stBadParam, badLen p 4 || nonZero p 1 3 || !(v.hier a).live),
   (stNotInState, v.grottos.any (fun e => e.2.live && e.2.agent == a && viewSt s v e.1 != .unbound) ||
     v.ports.any (fun e => e.2.role == 2 && e.2.passAgent == a) || (s.fence a).sweeping)]

/-! ## Windows (R179, R194, R195) -/

/-- An extent on a device: bundle, first unit, first unit after it. -/
structure Piece where
  port : Nat
  lo : Nat
  hi : Nat
  deriving DecidableEq, Repr

/-- The extents of a window, primary copies and twins. -/
def pieces (c : WinCfg) : List Piece :=
  c.segs.flatMap (fun g => (g.ways ++ g.twins).map (fun w => { port := w.1, lo := w.2, hi := w.2 + g.units }))

/-- Two extents overlap. -/
def piecesMeet (a b : Piece) : Bool :=
  a.port == b.port && decide (a.lo < b.hi) && decide (b.lo < a.hi)

/-- Some two extents of a list overlap. -/
def selfMeet : List Piece → Bool
  | [] => false
  | x :: xs => xs.any (piecesMeet x) || selfMeet xs

/-- Windows that a stage removes and whose extents will be swept (R195). -/
def sweptByStage (s : State) (v : Cfg) : List WinCfg :=
  (s.cfg.wins.filter (fun e => e.2.live && (e.2.shared || e.2.twinned) && (!(v.win e.1).live || (v.win e.1).fresh))).map (·.2)

/-- Extents in use: of the windows of a view, of those still being swept, and of those the stage's commit would leave to be swept (R179,
R194, R195). -/
def piecesInUse (s : State) (v : Cfg) : List Piece :=
  (v.wins.filter (·.2.live)).flatMap (fun e => pieces e.2) ++ s.mem.removed.flatMap (fun r => pieces r.cfg) ++
    (sweptByStage s v).flatMap pieces

/-- A twin lies in the gallery of its primary (R179). -/
def twinNear (c : WinCfg) : Bool :=
  c.twinned && c.segs.any (fun g => (List.zip g.ways g.twins).any (fun w => galOf w.1.1 == galOf w.2.1))

/-- A device's capacity in units is known and the extent passes it (R179). -/
def pastCapacity (s : State) (x : Piece) : Bool :=
  match (s.prt x.port).capacity with
  | some n => decide (n < x.hi)
  | none => false

/-- A breach of R179 by one extent. -/
def pieceBad (s : State) (v : Cfg) (shared : Bool) (x : Piece) : Bool :=
  decide (511 < x.port) || x.port == s.mgmt.bootPort || !isType3 v x.port || (shared && decide (2 ^ 17 < x.hi)) || pastCapacity s x

/-- A reserved field of a segment record is not zero. -/
def segReserved (p : Bytes) (c : WinCfg) (k : Nat) : Bool :=
  let n := c.w * (if c.twinned then 2 else 1)
  let o := 24 + (8 + 8 * n) * k
  nonZero p (o + 4) 4 || (List.range n).any (fun i => nonZero p (o + 8 + 8 * i + 2) 2)

/-- Fields of `WINDOW_DEFINE` out of range. -/
def windowBad (s : State) (v : Cfg) (p : Bytes) : Bool :=
  let c := windowOf p
  let ty := byteAt p 2
  badLen p (24 + segSize c.w c.twinned * c.segs.length) || decide (1023 < fieldAt p 0 2) || decide (7 < ty) || (c.shared && c.assumeClean) ||
    decide (4 < byteAt p 3) || decide (1 < c.gran) || byteAt p 5 == 0 || decide (16 < byteAt p 5) || decide (1 < c.twinAck) ||
    (c.twinAck == 1 && !c.twinned) || nonZero p 7 1 || nonZero p 18 6 || !(c.base % unit256 == 0) || decide (2 ^ 50 < c.base + c.size) ||
    (c.export_ != 65535 && (decide (4095 < c.export_) || c.shared)) || (List.range c.segs.length).any (segReserved p c) ||
    c.segs.any (fun g => g.units == 0 || decide (1048576 < g.units)) || twinNear c || (pieces c).any (pieceBad s v c.shared)

/-- `WINDOW_DEFINE` (R194). -/
def defineConds (s : State) (v : Cfg) (p : Bytes) : Conds :=
  let c := windowOf p
  let ps := pieces c
  let used := piecesInUse s v
  [(stBadParam, windowBad s v p),
   (stNotInState, (v.win (fieldAt p 0 2)).live || ps.any (fun x => (s.prt x.port).capacity.isNone)),
   (stOverlap, v.wins.any (fun e => e.2.live && meet (e.2.base, e.2.base + e.2.size) (c.base, c.base + c.size)) ||
     selfMeet ps || ps.any (fun x => used.any (piecesMeet x))),
   (stNoResource, decide (32768 < used.length + ps.length))]

/-- A window is in a grotto of a configuration. -/
def inGrottos (v : Cfg) (w : Nat) : Bool :=
  v.grottos.any (fun e => e.2.live && e.2.wins.any (fun x => x.1 == w))

/-- Another session has staged a grotto that holds a window. -/
def inStagedGrotto (s : State) (who w : Nat) : Bool :=
  (othersStaged s who).any (fun k => k.op == 0xC032 && (grottoWins k.payload).any (fun x => x.1 == w))

/-- `WINDOW_REMOVE` (R195). -/
def removeConds (s : State) (v : Cfg) (who : Nat) (p : Bytes) : Conds :=
  let w := fieldAt p 0 2
  [(stBadParam, badLen p 4 || nonZero p 2 2 || !(v.win w).live),
   (stNotInState, inGrottos v w || inGrottos s.cfg w || inStagedGrotto s who w || (s.win w).sanSt == 1 ||
     (s.win w).exts.any (fun e => e.2.resync))]

/-! ## Grottos (R198-R200) -/

/-- Placed ranges of a grotto meet (R181). -/
def placedMeet (v : Cfg) : List (Nat × Nat) → Bool
  | [] => false
  | x :: xs =>
    let r := fun (e : Nat × Nat) => (e.2, e.2 + (v.win e.1).size / unit256)
    xs.any (fun y => meet (r x) (r y)) || placedMeet v xs

/-- `GROTTO_CREATE` (R198). -/
def grottoConds (s : State) (v : Cfg) (p : Bytes) : Conds :=
  let n := fieldAt p 0 2
  let a := byteAt p 2
  let ws := grottoWins p
  let g := v.gr n
  let others := v.grottos.filter (fun e => e.1 != n && e.2.live)
  let holds := fun (e : Nat × GrCfg) (w : Nat) => e.2.wins.any (fun x => x.1 == w)
  [(stBadParam, decide (4095 < n) || decide (16 < byteAt p 3) || badLen p (4 + 8 * byteAt p 3) ||
      (List.range (min 16 (byteAt p 3))).any (fun i => nonZero p (6 + 8 * i) 2) ||
      ws.any (fun e => !(v.win e.1).live || (v.win e.1).export_ != 65535) || !(ws.map (·.1)).Nodup),
   (stNotInState, (g.live && (viewSt s v n != .unbound || g.agent != a)) || !(v.hier a).live || (ws.isEmpty && !g.live)),
   (stOverlap, placedMeet v ws ||
     ws.any (fun w => others.any (fun e => holds e w.1 && (e.2.agent == a || !(v.win w.1).shared)))),
   (stNoResource, !g.live && decide (64 ≤ (others.filter (fun e => e.2.agent == a)).length))]

/-- `CLEAN` and `LAST_AGENT` of a window as a view has it: a window that the stage defines is as at its definition (R189). -/
def mustCleanIn (s : State) (v : Cfg) (agent w : Nat) : Bool :=
  let c := v.win w
  if c.shared then false
  else if c.fresh then !c.assumeClean
  else !(s.win w).clean && (s.win w).lastAgent != agent

/-- Another session has staged another grotto, or a pass-through device, on a vPPB (R199). -/
def vppbStaged (s : State) (who n agent vppb : Nat) : Bool :=
  (otherStages s who).any (fun ks =>
    let v := viewOf s.cfg ks
    ks.any (fun k => k.op == 0xC033 && fieldAt k.payload 0 2 != n && byteAt k.payload 2 == vppb && (v.gr (fieldAt k.payload 0 2)).agent == agent) ||
      ks.any (fun k => k.op == 0xC020 &&
        (let x := v.port (fieldAt k.payload 0 2)
         x.role == 2 && x.passAgent == agent && x.passVppb == vppb)))

/-- `GROTTO_BIND` (R199), for a session. -/
def bindConds (s : State) (v : Cfg) (who : Nat) (p : Bytes) : Conds :=
  let n := fieldAt p 0 2
  let g := v.gr n
  let b := byteAt p 2
  let st := viewSt s v n
  [(stBadParam, badLen p 8 || nonZero p 6 2 || decide (4095 < n) || decide (1 < byteAt p 3) || fieldAt p 4 2 == 0 || decide (1000 < fieldAt p 4 2) ||
      !g.live || decide ((v.hier g.agent).vppbs ≤ b)),
   (stNotInState, st == .bound || st == .binding ||
     v.grottos.any (fun e => e.1 != n && e.2.live && e.2.agent == g.agent && e.2.bound && e.2.vppb == b) ||
     v.ports.any (fun e => e.2.role == 2 && e.2.passAgent == g.agent && e.2.passVppb == b) || vppbStaged s who n g.agent b ||
     (byteAt p 3 == 0 && g.wins.any (fun w => mustCleanIn s v g.agent w.1)) || ((s.fence g.agent).on && holdsShared v n))]

/-- `GROTTO_UNBIND` (R200). -/
def unbindConds (s : State) (v : Cfg) (p : Bytes) : Conds :=
  let n := fieldAt p 0 2
  [(stBadParam, badLen p 4 || nonZero p 2 2 || decide (4095 < n) || !(v.gr n).live),
   (stNotInState, viewSt s v n != .bound)]

/-! ## Guards (R217, R218) -/

/-- Fields of `GUARD_RULE_SET` that both actions test. -/
def ruleFormBad (p : Bytes) : Bool :=
  badLen p 24 || nonZero p 5 3 || decide (511 < fieldAt p 0 2) || decide (63 < byteAt p 2) || decide (1 < byteAt p 3)

/-- Two rules meet (R211). -/
def rulesMeet (a b : Rule) : Bool :=
  b.valid && a.space == b.space && decide (a.base < b.end_) && decide (b.base < a.end_)

/-- The index holds a committed sealed rule. -/
def sealedAt (s : State) (b i : Nat) : Bool :=
  let r := tget {} (s.cfg.grd b).rules i
  r.valid && r.sealed

/-- A guarded bundle of a view: not the boot port (R204). -/
def guardedIn (s : State) (v : Cfg) (b : Nat) : Bool :=
  decide (b < 512) && b != s.mgmt.bootPort && isGuarded v b

/-- `GUARD_RULE_SET` `SET` (R217). -/
def ruleConds (s : State) (v : Cfg) (p : Bytes) : Conds :=
  let b := fieldAt p 0 2
  let r := ruleOf p
  [(stBadParam, ruleFormBad p || decide (31 < byteAt p 4) || decide (r.end_ ≤ r.base) || decide ((if r.space == 0 then 2 ^ 38 else 2 ^ 52) < r.end_)),
   (stNotInState, !guardedIn s v b),
   (stOverlap, (v.grd b).rules.any (fun e => e.1 != byteAt p 2 && rulesMeet r e.2)),
   (stSealed, sealedAt s b (byteAt p 2))]

/-- `GUARD_RULE_CLEAR` (R218). -/
def ruleClearConds (s : State) (v : Cfg) (p : Bytes) : Conds :=
  let b := fieldAt p 0 2
  let i := byteAt p 2
  [(stBadParam, badLen p 4 || nonZero p 3 1 || (decide (63 < i) && i != 255)),
   (stNotInState, !guardedIn s v b || (i != 255 && !(tget {} (v.grd b).rules i).valid)),
   (stSealed, i != 255 && sealedAt s b i)]

/-! ## Egress (R238, R240) -/

/-- A bundle with an egress scheduler: role `USP`, `DSP` or `FPT`. -/
def scheduled (s : State) (v : Cfg) (b : Nat) : Bool :=
  let r := roleIn s v b
  decide (b < 512) && (r == 1 || r == 2 || r == 3)

/-- The length of `SCHED_QUEUE_SET` by its action. -/
def schedLen (p : Bytes) : Nat :=
  match byteAt p 0 with
  | 0 => 16
  | 1 => 16 + fieldAt p 10 2
  | 2 => 16
  | _ => 8

/-- A body field of `QUEUE` is out of range. -/
def queueBad (p : Bytes) : Bool :=
  let rate := fieldAt p 10 2
  let burst := byteAt p 12
  nonZero p 13 3 || fieldAt p 8 2 == 0 || decide (320 < rate) || (if rate == 0 then !(burst == 0) else burst == 0 || decide (64 < burst))

/-- A body field of `MAP` is out of range. -/
def mapBad (p : Bytes) : Bool :=
  let n := fieldAt p 10 2
  let sys := byteAt p 9
  let tooHigh := fun (q : Nat) => decide (63 < q) && q != 255
  nonZero p 12 4 || decide (256 < byteAt p 8 + n) || (n == 0 && sys == 255) || tooHigh sys || (List.range n).any (fun i => tooHigh (byteAt p (16 + i)))

/-- A body field of `ALPHA` is out of range. -/
def alphaBad (p : Bytes) : Bool :=
  nonZero p 15 1 || (List.range 7).any (fun i => decide (sfieldAt p (8 + i) 1 < -6) || decide (3 < sfieldAt p (8 + i) 1))

/-- Fields of `SCHED_QUEUE_SET` out of range; `v` is the configuration it is judged in. -/
def schedBad (s : State) (v : Cfg) (p : Bytes) : Bool :=
  let act := byteAt p 0
  let b := fieldAt p 2 2
  let q := byteAt p 4
  let r := roleIn s v b
  decide (3 < act) || badLen p (schedLen p) || nonZero p 5 3 || decide (63 < q) || ((act == 1 || act == 2) && q != 0) ||
    (decide (b < 512) && (r == 1 || r == 3) && q != 0) || (if act == 2 then decide (7 < byteAt p 1) || b != 0 else byteAt p 1 != 0) ||
    (match act with
     | 0 => queueBad p
     | 1 => mapBad p
     | 2 => alphaBad p
     | _ => false)

/-- `SCHED_QUEUE_SET`, actions 0-2 (R238). -/
def schedConds (s : State) (v : Cfg) (p : Bytes) : Conds :=
  let act := byteAt p 0
  let b := fieldAt p 2 2
  [(stBadParam, schedBad s v p),
   (stNotInState, (act != 2 && !scheduled s v b) || (act == 1 && roleIn s v b != 2))]

/-- `GATE_LIST_SET` (R240). -/
def gateConds (s : State) (v : Cfg) (p : Bytes) : Conds :=
  let b := fieldAt p 0 2
  let n := byteAt p 2
  let r := roleIn s v b
  let es := List.range (min 64 n)
  [(stBadParam, decide (64 < n) || badLen p (16 + 16 * n) || nonZero p 4 4 || decide (64 < byteAt p 3) || !(fieldAt p 8 8 % 8 == 0) ||
      es.any (fun i => fieldAt p (16 + 16 * i) 4 == 0 || nonZero p (20 + 16 * i) 4 ||
        ((r == 1 || r == 3) && decide (1 < fieldAt p (24 + 16 * i) 8))) ||
      decide (800000 < sumOf (fun i => 8 * fieldAt p (16 + 16 * i) 4) es)),
   (stNotInState, !scheduled s v b)]

/-! ## Echo and check values (R258-R260, R272) -/

/-- `ECHO_ENDPOINT_SET` `SET` (R258). -/
def endpConds (v : Cfg) (p : Bytes) : Conds :=
  let e := fieldAt p 0 2
  [(stBadParam, badLen p 16 || decide (4095 < e) || decide (1 < byteAt p 2) || decide (1 < byteAt p 3) || decide (15 < byteAt p 6) ||
      decide (15 < byteAt p 7) || decide (15 < byteAt p 8) || nonZero p 9 7),
   (stNotInState, !(v.hier (e / 16)).live)]

/-- A bucket size is out of range. -/
def bucketBad (n : Nat) : Bool :=
  decide (n < 2048) || decide (16777216 < n)

/-- `POLICER_SET` `SET` (R259). -/
def policerConds (v : Cfg) (p : Bytes) : Conds :=
  let e := fieldAt p 0 2
  let cir := fieldAt p 4 4
  let pir := fieldAt p 8 4
  [(stBadParam, badLen p 24 || decide (4095 < e) || decide (1 < byteAt p 2) || nonZero p 3 1 || nonZero p 20 4 ||
      (if cir == 0 then nonZero p 8 12
       else decide (32000 < cir) || decide (pir < cir) || decide (32000 < pir) || bucketBad (fieldAt p 12 4) || bucketBad (fieldAt p 16 4))),
   (stNotInState, !(v.hier (e / 16)).live)]

/-- `WRED_PROFILE_SET` `SET` (R260). -/
def profileConds (p : Bytes) : Conds :=
  let mn := fieldAt p 4 4
  let mx := fieldAt p 8 4
  let m := fieldAt p 12 2
  [(stBadParam, badLen p 16 || decide (15 < byteAt p 0) || decide (1 < byteAt p 1) || nonZero p 2 2 || nonZero p 14 2 || decide (262143 < mn) ||
      decide (mx ≤ mn) || decide (262144 < mx) || m == 0 || decide (256 < m))]

/-- A context serves another slot of a configuration. -/
def contextTaken (v : Cfg) (slot gal engine ctx : Nat) : Bool :=
  v.checks.any (fun e => e.1 != slot && e.2.assigned && (v.hier (e.1 / 32)).home == gal && e.2.engine == engine && e.2.ctx == ctx)

/-- `CHECK_CONTEXT_ASSIGN`, `ASSIGN` and `RELEASE` (R272). -/
def checkConds (v : Cfg) (p : Bytes) : Conds :=
  let a := byteAt p 0
  let h := byteAt p 1
  let act := byteAt p 2
  let k := v.check a h
  [(stBadParam, badLen p 8 || decide (31 < h) || decide (2 < act) || nonZero p 6 2 ||
      (if act == 0 then decide (7 < byteAt p 3) || decide (3 < byteAt p 4) else nonZero p 3 3)),
   (stNotInState, !(v.hier a).live ||
     (if act == 0 then k.assigned || contextTaken v (32 * a + h) (v.hier a).home (byteAt p 4) (byteAt p 5) else !k.assigned))]

/-! ## Lantern and counters (R369-R371) -/

/-- `KIND_MASK` names only the codes of R205. -/
def kindMaskBad (m : Nat) : Bool :=
  decide (2 ^ 11 ≤ m) || bitOf m 0

/-- An `AGENT` field with FFFFh for any. -/
def anyAgentBad (a : Nat) : Bool :=
  decide (255 < a) && a != 65535

/-- A filter of `TRACE_CONFIG` is out of range. -/
def filterBad (p : Bytes) (i : Nat) : Bool :=
  let o := 8 + 16 * i
  let lo := fieldAt p (o + 4) 2
  let hi := fieldAt p (o + 6) 2
  byteAt p o == 0 || decide (4 < byteAt p o) || decide (127 < byteAt p (o + 2)) || decide (15 < byteAt p (o + 3)) || decide (hi < lo) ||
    decide (2047 < hi) || anyAgentBad (fieldAt p (o + 8) 2) || kindMaskBad (fieldAt p (o + 10) 2) || decide (16 < byteAt p (o + 12)) ||
    nonZero p (o + 13) 3

/-- `TRACE_CONFIG` (R369). -/
def traceConds (p : Bytes) : Conds :=
  let n := byteAt p 1
  [(stBadParam, badLen p (8 + 16 * n) || decide (1 < byteAt p 0) || decide (8 < n) || nonZero p 2 6 || (List.range (min 8 n)).any (filterBad p))]

/-- The bits of `QUAL` that a select uses (R365). -/
def qualMask : Nat → Nat
  | 0x01 => 0xFF7F
  | 0x02 => 0xFF7F
  | 0x03 => 0xFF00
  | 0x04 => 0x007F
  | 0x05 => 0xFF7F
  | 0x06 => 0x007F
  | 0x07 => 0x007F
  | 0x09 => 0x01FF
  | 0x0A => 0x01FF
  | 0x0B => 0x01FF
  | 0x0C => 0x01FF
  | 0x0D => 0x003F
  | 0x0E => 0x003F
  | 0x0F => 0x0FFF
  | 0x10 => 0x01FF
  | _ => 0

/-- A counter of `COUNTER_CONFIG` is out of range. -/
def counterBad (p : Bytes) (i : Nat) : Bool :=
  let o := 8 + 16 * i
  decide (0x10 < byteAt p o) || decide (1 < byteAt p (o + 1)) || decide (3 < byteAt p (o + 2)) || nonZero p (o + 3) 1 ||
    (fieldAt p (o + 4) 2 &&& qualMask (byteAt p o)) != fieldAt p (o + 4) 2 || nonZero p (o + 6) 2 || nonZero p (o + 14) 2

/-- `COUNTER_CONFIG` (R370). -/
def counterConds (p : Bytes) : Conds :=
  let f := byteAt p 1
  let per := fieldAt p 4 4
  [(stBadParam, badLen p 136 || decide (7 < byteAt p 0) || f == 0 || decide (3 < f) || (!bitOf f 1 && byteAt p 0 != 0) || nonZero p 2 2 ||
      (if bitOf f 0 then !(per % 800 == 0) || decide (per < 80000) || decide (80000000 < per) else !(per == 0)) ||
      (List.range 8).any (counterBad p))]

/-- `SAMPLE_CONFIG` (R371). -/
def sampleConds (p : Bytes) : Conds :=
  let x := samplerOf p
  [(stBadParam, badLen p 16 || decide (7 < byteAt p 0) || decide (1 < byteAt p 1) || kindMaskBad x.kindMask || (x.enable && x.kindMask == 0) ||
      decide (x.hi < x.lo) || decide (511 < x.hi) || anyAgentBad x.agent || nonZero p 10 2 || x.period == 0 || decide (16777216 < x.period))]

/-! ## All of them -/

/-- The conditions of a staged command in a view, for session `n`. -/
def stagedConds (s : State) (n : Nat) (v : Cfg) (op : Nat) (p : Bytes) : Conds :=
  match op with
  | 0xC020 => portConds s v p
  | 0xC030 => createConds s v p
  | 0xC031 => destroyConds s v p
  | 0xC032 => grottoConds s v p
  | 0xC033 => bindConds s v n p
  | 0xC034 => unbindConds s v p
  | 0xC040 => defineConds s v p
  | 0xC041 => removeConds s v n p
  | 0xC050 => ruleConds s v p
  | 0xC051 => ruleClearConds s v p
  | 0xC060 => schedConds s v p
  | 0xC061 => gateConds s v p
  | 0xC062 => policerConds v p
  | 0xC063 => profileConds p
  | 0xC070 => endpConds v p
  | 0xC071 => checkConds v p
  | 0xC080 => [(stBadParam, dirModeBad p)]
  | 0xC0B0 => traceConds p
  | 0xC0B1 => counterConds p
  | 0xC0B3 => sampleConds p
  | _ => []

end Sys2Proof.Machine
end

