-- ==== Sys2Proof/Machine/Grottos.lean ====
section
/-!
DEFINITION. Drains, recalls and generations of grottos (R183-R188, R201, R203), and the grotto mailbox (R182).
-/

namespace Sys2Proof.Machine

/-- Raise `EV_GROTTO_DRAINED` (R203). -/
def raiseDrained (s : State) (n cause gen vppb count : Nat) : State :=
  raise s (1300 + (s.cfg.gr n).agent) evGrottoDrained (if cause == 2 || cause == 4 then 2 else 0) 284
    (evData (leBytes 1 cause ++ leBytes 1 gen ++ leBytes 2 n ++ leBytes 1 vppb ++ leBytes 1 0 ++ leBytes 2 (sat 16 count)) s.drip)

/-- A drain ends: the generation is no longer live, a `DRAINING` grotto without another drain is `UNBOUND`, and a `BINDING` one may
become `BOUND` (R183, R188). -/
def endDrain (s : State) (n : Nat) (v : LiveGen) (cause : Nat) : State :=
  let s := s.modGr n (fun x => { x with gens := x.gens.filter (fun u => u.gen != v.gen) })
  let s := if (s.gr n).st == .draining && (s.gr n).gens.all (fun u => !u.draining) then
      s.modGr n (fun x => { x with st := .unbound, change := s.drip, vppb := 255 })
    else s
  let s := raiseDrained s n cause v.gen v.vppb v.count
  bindSettle s n

/-- A draining generation. -/
def drainOf (s : State) (n gen : Nat) : Option LiveGen :=
  (s.gr n).gens.find? (fun v => v.gen == gen && v.draining)

/-- `DRAIN_END` (R188): the count is 0 and the sweep has ended. -/
def execDrainEnd (grotto gen : Nat) (s : State) : Out :=
  match drainOf s grotto gen with
  | none => .next s
  | some v => due (v.count == 0 && v.sweepDone) s (endDrain s grotto v 1)

/-- `DRAIN_TIMEOUT` (R187, R188): the drain's time is up; the generation is held for 16,000,000 drips. -/
def execDrainTimeout (grotto gen : Nat) (s : State) : Out :=
  match drainOf s grotto gen with
  | none => .next s
  | some v =>
    due (decide (v.deadline ≤ s.now)) s
      (endDrain (s.modGr grotto (fun x => { x with holds := x.holds ++ [(gen, s.now + 16000000)] })) grotto v 2)

/-- `GENERATION_HOLD_EXPIRY` (R187). -/
def execGenerationHoldExpiry (grotto gen : Nat) (s : State) : Out :=
  due ((s.gr grotto).holds.any (fun h => h.1 == gen && decide (h.2 ≤ s.now))) s
    (s.modGr grotto (fun x => { x with holds := x.holds.filter (fun h => !(h.1 == gen && decide (h.2 ≤ s.now))) }))

/-! ## Recall sweeps (R188, R201) -/

/-- A line lies in an extent of one of the grotto's SHARED windows. -/
def inGrotto (s : State) (n g k : Nat) : Bool :=
  match keyLine s g k with
  | some l => l.cfg.shared && !l.removed && (s.cfg.gr n).wins.any (fun e => e.1 == l.win)
  | none => false

/-- An agent holds a line, as far as its entry says. -/
def grottoHoldsLine (s : State) (g a : Nat) (e : Entry) : Bool :=
  if isOwned e then e.owner == a else bitOf e.sharers a || (e.bcast && (bcastSet s g e.key).contains a)

/-- Entries a recall of a grotto acts on. -/
def recallHit (s : State) (n g : Nat) (e : Entry) : Bool :=
  inGrotto s n g e.key && grottoHoldsLine s g (s.cfg.gr n).agent e

/-- Recall one line: `BISnpInv` to the agent (R188). -/
def recallEntry (g a : Nat) (s : State) (h : Nat × Entry) : State :=
  let s := modEntry s g h.1 h.2.key (fun e => { e with txn := some { kind := .own } })
  let s := sendSnoops s g h.1 h.2.key [a] .inv false
  progress s g h.1 h.2.key

/-- `RECALL_SWEEP_STEP` (R188): one set of one slice. -/
def execRecallSweepStep (grotto g sl set : Nat) (s : State) : Out :=
  let x := s.gr grotto
  let a := (s.cfg.gr grotto).agent
  let next := tget 0 x.sweep (sweepKey s g sl)
  let es := (sweepEntries s g sl set).filter (fun h => recallHit s grotto g h.2)
  due (x.recallOn && (activeSlices s).contains (g, sl) &&
      sweepMay next set (sweepHits s g sl (recallHit s grotto g)) && es.all (fun h => h.2.txn.isNone)) s
    (let s := s.modGr grotto (fun y => { y with
       sweep := tput 0 y.sweep (sweepKey s g sl) (set + 1), recalled := y.recalled + es.length })
     let s := traceDir s g sl 8 a 0 0 (if es.isEmpty then 0 else 3) 255 es.length 0 false
     forEach es s (recallEntry g a))

/-- `RECALL_SWEEP_END` (R188, R201): the sweep has taken every set and its last snoops are answered. -/
def execRecallSweepEnd (grotto : Nat) (s : State) : Out :=
  let x := s.gr grotto
  let a := (s.cfg.gr grotto).agent
  let done := (activeSlices s).all (fun p =>
    sweepDone (tget 0 x.sweep (sweepKey s p.1 p.2)) (sweepHits s p.1 p.2 (recallHit s grotto p.1)) &&
      !(sweptEntries s p.1 p.2).any (fun e => inGrotto s grotto p.1 e.key && e.txn.any (fun t =>
        t.req.isNone && t.kind == .own && t.snoops.any (fun n => n.agent == a))))
  due (x.recallOn && done) s
    (let s := s.modGr grotto (fun y => { y with
       recallOn := false, recallCmd := false, sweep := [], recalled := 0
       gens := y.gens.map (fun v => if v.draining then { v with sweepDone := true } else v) })
     if x.recallCmd then raiseDrained s grotto 3 x.gen x.vppb x.recalled else s)

/-! ## The grotto mailbox (R182) -/

/-- A grotto presents its mailbox while it is `BOUND`. -/
def mailboxUp (s : State) (n : Nat) : Bool :=
  (s.gr n).st == .bound

/-- A mailbox answer: nothing answers for a grotto that is not bound. -/
def mailReply (s : State) (n op rc : Nat) (vals : List Nat) (t : State) : Out :=
  .next (if mailboxUp s n then extReply t 2 n op rc vals else s)

/-- `IDENTIFY_MEMORY_DEVICE` (R182): the capacity. -/
def execIdentifyMemoryDevice (grotto : Nat) (s : State) : Out :=
  mailReply s grotto 0x4000 0 [capacityOf s.cfg grotto] s

/-- `GET_PARTITION_INFO` (R182): one range, all of it volatile or not as the devices are; the spec states the capacity. -/
def execGetPartitionInfo (grotto : Nat) (s : State) : Out :=
  mailReply s grotto 0x4100 0 [capacityOf s.cfg grotto] s

/-- `GET_EVENT_RECORDS` (R182, R167): the records of a log, oldest first, each as handle, kind and address. Records of lost writes
lie in the log of code 2, the failure log. -/
def execGetEventRecords (grotto log : Nat) (s : State) : Out :=
  let rs := if log == 2 then (s.gr grotto).log else []
  mailReply s grotto 0x0100 0 (rs.flatMap (fun r => [r.handle, r.kind, r.addr])) s

/-- `CLEAR_EVENT_RECORDS` (R182). -/
def execClearEventRecords (grotto log : Nat) (handles : List Nat) (s : State) : Out :=
  mailReply s grotto 0x0101 0 []
    (if log == 2 then s.modGr grotto (fun x => { x with log := x.log.filter (fun r => !handles.contains r.handle) }) else s)

/-- `GET_EVENT_INTERRUPT_POLICY` (R182). -/
def execGetEventInterruptPolicy (grotto : Nat) (s : State) : Out :=
  mailReply s grotto 0x0102 0 [(s.gr grotto).policy] s

/-- `SET_EVENT_INTERRUPT_POLICY` (R182). -/
def execSetEventInterruptPolicy (grotto policy : Nat) (s : State) : Out :=
  mailReply s grotto 0x0103 0 [] (s.modGr grotto (fun x => { x with policy := policy }))

/-- `UNSUPPORTED_MAILBOX_COMMAND` (R182): any other command returns Unsupported. -/
def execUnsupportedMailboxCommand (grotto op : Nat) (s : State) : Out :=
  mailReply s grotto op 1 [] s

end Sys2Proof.Machine
end

