-- ==== Sys2Proof/Machine/WinCmds.lean ====
section
/-!
DEFINITION. Commands on windows, grottos and guards that are not staged: `WINDOW_SANITIZE`, `WINDOW_RESYNC`, `GROTTO_RECALL`,
`GROTTO_STATE` (R196, R197, R201, R202), `GUARD_VIOLATION_READ` and `GUARD_VIOLATION_CLEAR` (R213, R219, R220).
-/

namespace Sys2Proof.Machine

/-! ## WINDOW_SANITIZE (R196) -/

/-- The 24-byte reply of `WINDOW_SANITIZE` (R196). -/
def sanitiseReply (s : State) (w : Nat) : Bytes :=
  let v := s.win w
  leBytes 2 w ++ leBytes 1 v.sanSt ++ leBytes 1 (bit v.clean) ++ leBytes 2 v.lastAgent ++ zeros 2 ++ leBytes 8 (sanUnits s w) ++ leBytes 8 v.sanChange

/-- A window's sanitise as it stands. -/
def sanitiseShow (s : State) (w : Nat) : Res :=
  .reply s stOk (sanitiseReply s w)

/-- Some extent of a window is being resynced. -/
def resyncRuns (s : State) (w : Nat) : Bool :=
  (s.win w).exts.any (fun e => e.2.resync)

/-- A window is held by a committed grotto that is not `UNBOUND`. -/
def heldBusy (s : State) (w : Nat) : Bool :=
  s.cfg.grottos.any (fun e => e.2.live && e.2.wins.any (fun x => x.1 == w) && (s.gr e.1).st != .unbound)

/-- The entries of a window's extents are freed, and their stash lines discarded (R196). -/
def dropLines (w : Nat) (s : State) (h : Nat × Nat) : State :=
  let g := h.1
  let c := s.cfg.win w
  let mine := fun (k : Nat) => (lineIn w c [] false (keyPort g k) (keyDpa k) 0 c.segs).isSome
  let es := (allEntries s g h.2).filter (fun e => mine e.key)
  let s := forEach es s (fun s e =>
    if isBusy e then modTxn s g h.2 e.key (fun t => { t with freeAfter := true })
    else wakeSet (modEntries s g h.2 (keySet e.key) (dropEntry e.key)) g h.2 (keySet e.key) e.way)
  { s with dir := { s.dir with stash := s.dir.stash.foldl (fun t e =>
    tput [] t e.1 (if e.1 / 65536 == g then e.2.filter (fun l => !mine l.key) else e.2)) [] } }

/-- A sanitise starts, by itself or for the bind of a grotto: a SHARED window's entries and stash lines go first, then the pattern's writes to
every copy of every extent begin (R196). One write of a copy is under way at a time (log 172). -/
def startSanitise (s : State) (w fill : Nat) (who : Option Nat) : State :=
  let s := if (s.cfg.win w).shared then forEach (activeSlices s) s (dropLines w) else s
  let s := dropUses s (fun u => match u with
    | .sanitise n _ _ => n == w
    | _ => false)
  let s := s.modWin w (fun v => { v with sanSt := 1, sanChange := s.drip, sanPos := [], sanFill := fill, sanGrotto := who })
  forEach (copiesOf (s.cfg.win w)) s (fun s x => sanWrite s w x.1 x.2)

/-- The body of `WINDOW_SANITIZE`. -/
def sanitiseBody (p : Bytes) (s : State) : Res :=
  let w := fieldAt p 0 2
  let act := byteAt p 2
  let pat := byteAt p 3
  guarded s
    [(stBusy, act == 1 && commitArmed s),
     (stBadParam, badLen p 16 || nonZero p 4 4 || decide (1 < act) || decide (1 < pat) || decide (1023 < w) ||
       !(s.cfg.win w).live || (act == 0 && pat != 0) || (pat == 0 && nonZero p 8 8)),
     (stNotInState, act == 1 && ((s.cfg.win w).export_ != 65535 || heldBusy s w || (s.win w).sanSt == 1 || resyncRuns s w))]
    (if act == 0 then sanitiseShow s w else sanitiseShow (startSanitise s w (fieldAt p 8 8) none) w)

/-- `WINDOW_SANITIZE` (R196). -/
def execWindowSanitize (t : Transport) (r : Req) (s : State) : Out :=
  vendorCmd 0xC042 t r (mixed 2 [0] r) (fun s _ => sanitiseBody r.payload s) s

/-! ## WINDOW_RESYNC (R197) -/

/-- Extents of a window whose state satisfies a test. -/
def countExts (s : State) (w : Nat) (p : ExtRt → Bool) : Nat :=
  ((s.win w).exts.filter (fun e => p e.2)).length

/-- An extent is `DEGRADED`. -/
def degraded (x : ExtRt) : Bool :=
  (x.lost == 1 || x.lost == 2) && !x.resync

/-- The 24-byte reply. -/
def resyncReply (s : State) (w : Nat) : Bytes :=
  leBytes 2 w ++ leBytes 1 (bit (resyncRuns s w)) ++ zeros 1 ++ leBytes 2 (countExts s w degraded) ++
    leBytes 2 (countExts s w (·.resync)) ++ leBytes 2 (countExts s w (fun x => x.lost == 3)) ++ zeros 6 ++ leBytes 8 (s.win w).copied

/-- The `DEGRADED` extents whose lost copy's device is up. -/
def resyncable (s : State) (w : Nat) : List Nat :=
  ((extents (s.cfg.win w)).filter (fun e =>
    let x := tget {} (s.win w).exts e.1
    degraded x && s.up (if x.lost == 1 then e.2.1 else e.2.2))).map (·.1)

/-- A resync starts: each extent that can be copied is `RESYNCING`, and its first block is begun (R193). -/
def startResync (s : State) (w rate : Nat) : State :=
  let es := resyncable s w
  let s := dropUses s (fun u => match u with
    | .resyncRead n _ _ => n == w
    | .resyncWrite n _ _ => n == w
    | _ => false)
  let s := forEach es s (fun s e => modExt s w e (fun x => { x with resync := true, p := 0, done := 0 }))
  let s := s.modWin w (fun v => { v with resyncRate := rate, copied := 0 })
  forEach es s (fun s e => copyBlock s w e)

/-- The body of `WINDOW_RESYNC`. -/
def resyncBody (p : Bytes) (s : State) : Res :=
  let w := fieldAt p 0 2
  let act := byteAt p 2
  let rate := byteAt p 3
  guarded s
    [(stBusy, act == 1 && commitArmed s),
     (stBadParam, badLen p 8 || nonZero p 4 4 || decide (1 < act) || decide (1023 < w) || !(s.cfg.win w).live ||
       (if act == 1 then rate == 0 || decide (16 < rate) else !(rate == 0))),
     (stNotInState, act == 1 && (!(s.cfg.win w).twinned || (resyncable s w).isEmpty || resyncRuns s w || (s.win w).sanSt == 1))]
    (if act == 0 then .reply s stOk (resyncReply s w)
     else
       let t := startResync s w rate
       .reply t stPending (resyncReply t w))

/-- `WINDOW_RESYNC` (R197). -/
def execWindowResync (t : Transport) (r : Req) (s : State) : Out :=
  vendorCmd 0xC043 t r (mixed 2 [0] r) (fun s _ => resyncBody r.payload s) s

/-! ## GROTTO_RECALL and GROTTO_STATE (R201, R202) -/

/-- A recall on command starts: the sweep of R188 begins at set 0 of each slice. -/
def startRecall (s : State) (n : Nat) : State :=
  s.modGr n (fun x => { x with recallOn := true, recallCmd := true, recalled := 0, sweep := [] })

/-- `GROTTO_RECALL` (R201). -/
def execGrottoRecall (t : Transport) (r : Req) (s : State) : Out :=
  vendorCmd 0xC035 t r (permits .owner) (fun s _ =>
    let n := fieldAt r.payload 0 2
    guarded s
      [(stBusy, commitArmed s),
       (stBadParam, badLen r.payload 4 || nonZero r.payload 2 2 || decide (4095 < n) || !(s.cfg.gr n).live),
       (stNotInState, !((s.gr n).st == .bound) || !holdsShared s.cfg n || (s.gr n).recallCmd)]
      (.reply (startRecall s n) stPending [])) s

/-- `STATE` of R202. -/
def grottoCode : GrSt → Nat
  | .unbound => 0
  | .binding => 1
  | .bound => 2
  | .draining => 3

/-- The generation being drained: the oldest, if several are. -/
def drainGen (x : GrRt) : Option LiveGen :=
  x.gens.find? (·.draining)

/-- The 32-byte reply of `GROTTO_STATE`. -/
def grottoReply (s : State) (n : Nat) : Bytes :=
  let c := s.cfg.gr n
  let x := s.gr n
  if !c.live then
    leBytes 2 n ++ leBytes 1 255 ++ zeros 1 ++ leBytes 1 255 ++ zeros 27
  else
    let d := drainGen x
    leBytes 2 n ++ leBytes 1 (grottoCode x.st) ++ leBytes 1 c.agent ++ leBytes 1 x.vppb ++ leBytes 1 x.gen ++
      leBytes 1 ((d.map (·.gen)).getD x.gen) ++ leBytes 1 c.wins.length ++ leBytes 4 (capacityOf s.cfg n) ++
      leBytes 4 (genCount x x.gen) ++ leBytes 4 ((d.map (·.count)).getD 0) ++ leBytes 4 (sat 32 x.late) ++ leBytes 8 x.change

/-- `GROTTO_STATE` (R202). -/
def execGrottoState (t : Transport) (r : Req) (s : State) : Out :=
  vendorCmd 0xC036 t r (permits .any) (fun s _ =>
    guarded s [(stBadParam, badLen r.payload 4 || nonZero r.payload 2 2 || decide (4095 < fieldAt r.payload 0 2))]
      (.reply s stOk (grottoReply s (fieldAt r.payload 0 2)))) s

/-! ## The violation record (R213, R219, R220) -/

/-- A violation record as the 48-byte reply shows it; `red` when its span is sealed and the session is not `OWNER`. A port that names
no guarded bundle shows an empty record. -/
def violReply (s : State) (b : Nat) (owner : Bool) : Bytes :=
  let v := if isGuarded s.cfg b then (s.grd b).viol else {}
  let c : Checked := { port := b, kind := v.kind, space := v.flags % 2, addr := v.addr, len := v.length, requester := 0, agent := 0 }
  let red := v.valid && !owner && sealedSpan s c
  leBytes 2 b ++ leBytes 1 (bit v.valid) ++ leBytes 1 v.reason ++ leBytes 1 v.kind ++ leBytes 1 (v.flags + 2 * bit red) ++
    leBytes 1 v.need ++ leBytes 1 v.rule ++ leBytes 2 v.count ++ leBytes 2 v.requester ++ leBytes 4 v.length ++
    leBytes 8 (if red then 0 else v.addr) ++ leBytes 8 (if red then 0 else v.failPage) ++ leBytes 8 v.drip ++ leBytes 8 v.lastDrip

/-- Whether a session is `OWNER`. -/
def isOwner (s : State) (n : Option Nat) : Bool :=
  match n.bind (fun k => s.sess k) with
  | some x => x.priv == 0
  | none => false

/-- The form that `GUARD_VIOLATION_READ` and `GUARD_VIOLATION_CLEAR` refuse. -/
def violBad (p : Bytes) : Bool :=
  badLen p 4 || nonZero p 2 2 || decide (511 < fieldAt p 0 2)

/-- `GUARD_VIOLATION_READ` (R219). -/
def execGuardViolationRead (t : Transport) (r : Req) (s : State) : Out :=
  vendorCmd 0xC052 t r (permits .any) (fun s n =>
    guarded s [(stBadParam, violBad r.payload)]
      (.reply s stOk (violReply s (fieldAt r.payload 0 2) (isOwner s n)))) s

/-- `GUARD_VIOLATION_CLEAR` (R220): the record is emptied, and the reply holds it as it stood. -/
def execGuardViolationClear (t : Transport) (r : Req) (s : State) : Out :=
  vendorCmd 0xC053 t r (permits .owner) (fun s n =>
    let b := fieldAt r.payload 0 2
    guarded s [(stBadParam, violBad r.payload)]
      (.reply (s.modGrd b (fun g => { g with viol := {} })) stOk (violReply s b (isOwner s n)))) s

end Sys2Proof.Machine
end

