-- ==== Sys2Proof/Machine/StageCmds.lean ====
section
/-!
DEFINITION. The staged commands (R323) and their queries (R170, R173, R174, R194, R195, R198-R200, R217, R218, R238-R240, R258-R260, R272,
R369-R371).
-/

namespace Sys2Proof.Machine

/-! ## Staging (R323, R326) -/

/-- A session's stage with one more command, which names its objects in the view it was checked in. -/
def addStaged (s : State) (k : Nat) (v : Cfg) (op : Nat) (p : Bytes) : State :=
  let c : Staged := { op := op, payload := p, objs := objsOf v op p, range := rangeOf v op p }
  s.setStage k (some ((s.stage k).getD [] ++ [c]))

/-- The refusal conditions of a staged command in session `k`: the stage frozen (R326), none open, those of its own, an object of another
session, the stage full. -/
def stageConds (op : Nat) (p : Bytes) (k : Nat) (s : State) : Conds :=
  let v := stageView s k
  let cmds := (s.stage k).getD []
  [(stBusy, commitArmedIn s k), (stNotInState, (s.stage k).isNone)] ++ stagedConds s k v op p ++
    [(stConflict, stagedElsewhere s k v op p),
     (stNoResource, decide (4096 ≤ cmds.length) || decide (2097152 < stageBytes cmds + p.length))]

/-- The body of a staged command. -/
def stageBody (op : Nat) (p : Bytes) (s : State) (n : Option Nat) : Res :=
  let k := n.getD 0
  guarded s (stageConds op p k s) (.reply (addStaged s k (stageView s k) op p) stOk [])

/-- A command that is only ever staged. -/
def stagedCmd (op : Nat) (t : Transport) (r : Req) (s : State) : Out :=
  vendorCmd op t r (permits .owner) (fun s n => stageBody op r.payload s n) s

/-! ## Ports, hierarchies, windows, grottos -/

/-- `PORT_CONFIG` (R170). -/
def execPortConfig (t : Transport) (r : Req) (s : State) : Out :=
  stagedCmd 0xC020 t r s

/-- `HIER_CREATE` (R173). -/
def execHierCreate (t : Transport) (r : Req) (s : State) : Out :=
  stagedCmd 0xC030 t r s

/-- `HIER_DESTROY` (R174). -/
def execHierDestroy (t : Transport) (r : Req) (s : State) : Out :=
  stagedCmd 0xC031 t r s

/-- `GROTTO_CREATE` (R198). -/
def execGrottoCreate (t : Transport) (r : Req) (s : State) : Out :=
  stagedCmd 0xC032 t r s

/-- `GROTTO_BIND` (R199). -/
def execGrottoBind (t : Transport) (r : Req) (s : State) : Out :=
  stagedCmd 0xC033 t r s

/-- `GROTTO_UNBIND` (R200). -/
def execGrottoUnbind (t : Transport) (r : Req) (s : State) : Out :=
  stagedCmd 0xC034 t r s

/-- `WINDOW_DEFINE` (R194). -/
def execWindowDefine (t : Transport) (r : Req) (s : State) : Out :=
  stagedCmd 0xC040 t r s

/-- `WINDOW_REMOVE` (R195). -/
def execWindowRemove (t : Transport) (r : Req) (s : State) : Out :=
  stagedCmd 0xC041 t r s

/-! ## Guards (R217, R218) -/

/-- The 32-byte reply to `QUERY`: a sealed rule's pages show as 0 to a session that is not `OWNER`. -/
def ruleReply (s : State) (b i : Nat) (owner : Bool) : Bytes :=
  let g := s.cfg.grd b
  let r := tget {} g.rules i
  let hide := !r.valid || (r.sealed && !owner)
  leBytes 2 b ++ leBytes 1 i ++ leBytes 1 (bit r.valid) ++
    leBytes 1 (if r.valid then r.space + 2 * bit r.rd + 4 * bit r.wr + 8 * bit r.at_ + 16 * bit r.sealed else 0) ++
    leBytes 1 (bit g.closedF + 2 * bit g.closedP) ++ zeros 2 ++ leBytes 8 (if hide then 0 else r.base) ++
    leBytes 8 (if hide then 0 else r.end_) ++ leBytes 8 r.change

/-- `GUARD_RULE_SET` `QUERY`. -/
def ruleQuery (p : Bytes) (s : State) (n : Option Nat) : Res :=
  guarded s [(stBadParam, ruleFormBad p || nonZero p 4 1 || nonZero p 8 16)]
    (.reply s stOk (ruleReply s (fieldAt p 0 2) (byteAt p 2) (isOwner s n)))

/-- `GUARD_RULE_SET` (R217). -/
def execGuardRuleSet (t : Transport) (r : Req) (s : State) : Out :=
  vendorCmd 0xC050 t r (mixed 3 [1] r) (fun s n =>
    if byteAt r.payload 3 == 1 then ruleQuery r.payload s n else stageBody 0xC050 r.payload s n) s

/-- `GUARD_RULE_CLEAR` (R218). -/
def execGuardRuleClear (t : Transport) (r : Req) (s : State) : Out :=
  stagedCmd 0xC051 t r s

/-! ## Egress (R238-R240) -/

/-- The 48-byte reply to `QUERY` (R239). -/
def schedReply (s : State) (b q : Nat) : Bytes :=
  let x := s.sch b
  let c := s.cfg.queue b q
  let f := tget {} x.queues q
  let l := gateAt x s.drip
  let entry := (l.bind (fun l => entryAt l s.drip)).map (·.1)
  leBytes 2 b ++ leBytes 1 q ++ leBytes 1 (bit (gateOpen s b q) + 2 * bit f.stalled + 4 * bit (shaperOk s b q)) ++ leBytes 2 c.share ++
    leBytes 2 c.rate ++ leBytes 1 c.burst ++ leBytes 1 (entry.getD 255) ++
    leBytes 1 (if s.role b == 2 then (s.cfg.sch b).sysQ else 0) ++ zeros 1 ++ leBytes 4 ((l.map cycleOf).getD 0) ++
    leBytes 4 f.pkts.length ++ leInt 4 (if c.rate == 0 then 0 else tokensNow c f s.now) ++ leBytes 8 (x.v % 2 ^ 48) ++
    leBytes 8 (f.fLast % 2 ^ 48) ++ leBytes 8 s.drip

/-- `SCHED_QUEUE_SET` `QUERY`, judged in the committed configuration (R238). -/
def schedQuery (p : Bytes) (s : State) : Res :=
  let b := fieldAt p 2 2
  guarded s [(stBadParam, schedBad s s.cfg p), (stNotInState, !scheduled s s.cfg b)] (.reply s stOk (schedReply s b (byteAt p 4)))

/-- `SCHED_QUEUE_SET` (R238). -/
def execSchedQueueSet (t : Transport) (r : Req) (s : State) : Out :=
  vendorCmd 0xC060 t r (mixed 0 [3] r) (fun s n =>
    if byteAt r.payload 0 == 3 then schedQuery r.payload s else stageBody 0xC060 r.payload s n) s

/-- `GATE_LIST_SET` (R240). -/
def execGateListSet (t : Transport) (r : Req) (s : State) : Out :=
  stagedCmd 0xC061 t r s

/-! ## Echo (R258-R260) -/

/-- `POLICER_SET` (R259). -/
def execPolicerSet (t : Transport) (r : Req) (s : State) : Out :=
  vendorCmd 0xC062 t r (mixed 2 [1] r) (fun s n =>
    let p := r.payload
    let e := fieldAt p 0 2
    if byteAt p 2 == 1 then
      guarded s [(stBadParam, badLen p 24 || decide (4095 < e) || nonZero p 3 21)] (.reply s stOk (policerReply s e))
    else stageBody 0xC062 p s n) s

/-- `WRED_PROFILE_SET` (R260). -/
def execWredProfileSet (t : Transport) (r : Req) (s : State) : Out :=
  vendorCmd 0xC063 t r (mixed 1 [1] r) (fun s n =>
    let p := r.payload
    if byteAt p 1 == 1 then
      guarded s [(stBadParam, badLen p 16 || decide (15 < byteAt p 0) || nonZero p 2 14)] (.reply s stOk (profileReply s (byteAt p 0)))
    else stageBody 0xC063 p s n) s

/-- `ECHO_ENDPOINT_SET` (R258). -/
def execEchoEndpointSet (t : Transport) (r : Req) (s : State) : Out :=
  vendorCmd 0xC070 t r (mixed 2 [1] r) (fun s n =>
    let p := r.payload
    let e := fieldAt p 0 2
    if byteAt p 2 == 1 then
      guarded s [(stBadParam, badLen p 16 || decide (4095 < e) || nonZero p 3 13)] (.reply s stOk (endpointReply s e))
    else stageBody 0xC070 p s n) s

/-! ## Check values and the directory (R272, R111) -/

/-- `CHECK_CONTEXT_ASSIGN` (R272). -/
def execCheckContextAssign (t : Transport) (r : Req) (s : State) : Out :=
  vendorCmd 0xC071 t r (mixed 2 [2] r) (fun s n =>
    let p := r.payload
    if byteAt p 2 == 2 then
      guarded s [(stBadParam, badLen p 8 || decide (31 < byteAt p 1) || nonZero p 3 5)]
        (.reply s stOk (checkReply s (byteAt p 0) (byteAt p 1)))
    else stageBody 0xC071 p s n) s

/-- `DIR_MODE` (R111): action 4 is staged, and answers with the 24-byte report. -/
def execDirMode (t : Transport) (r : Req) (s : State) : Out :=
  vendorCmd 0xC080 t r (mixed 2 [0] r) (fun s n =>
    let p := r.payload
    if byteAt p 2 == 4 then
      let k := n.getD 0
      guarded s (stageConds 0xC080 p k s)
        (.reply (addStaged s k (stageView s k) 0xC080 p) stOk (dirReply s (byteAt p 0) (byteAt p 1)))
    else dirModeNow p s) s

/-! ## Lantern and counters (R369-R371) -/

/-- `TRACE_CONFIG` (R369). -/
def execTraceConfig (t : Transport) (r : Req) (s : State) : Out :=
  stagedCmd 0xC0B0 t r s

/-- `COUNTER_CONFIG` (R370). -/
def execCounterConfig (t : Transport) (r : Req) (s : State) : Out :=
  stagedCmd 0xC0B1 t r s

/-- `SAMPLE_CONFIG` (R371). -/
def execSampleConfig (t : Transport) (r : Req) (s : State) : Out :=
  stagedCmd 0xC0B3 t r s

end Sys2Proof.Machine
end

