-- ==== Sys2Proof/Machine/Install.lean ====
section
/-!
DEFINITION. The islands a stage changes (R21, R326), and what installing a stage's result does at its drip, chapter by chapter (R170,
R173, R174, R183, R184, R188, R189, R194, R195, R208, R216, R231, R232, R250, R272, R366-R371).
-/

namespace Sys2Proof.Machine

/-! ## Islands (R21, R326) -/

/-- Keys at which two tables differ. -/
def diffKeys {α : Type} [DecidableEq α] (d : α) (a b : Tbl α) : List Nat :=
  ((a ++ b).map (·.1)).eraseDups.filter (fun k => tget d a k != tget d b k)

/-- Quad islands and core of the ports that a bundle covers in a configuration. -/
def bundleIslands (c : Cfg) (b : Nat) : List Nat :=
  coreIsl (galOf b) :: (List.range (widthPorts (min 3 (c.port b).width))).map (fun k => quadIsl (b + k))

/-- Gallery cores of an agent's USPs. -/
def agentCores (c : Cfg) (a : Nat) : List Nat :=
  (c.hier a).usps.map (fun u => coreIsl (galOf u))

/-- Every gallery core. -/
def allCores : List Nat :=
  (List.range 8).map coreIsl

/-- Islands whose counters a sweep latches (R364). -/
def sweepIslands : List Nat :=
  [1, 2, 3, 4, 5, 6, 7].flatMap (fun b => (List.range (instCount b)).flatMap (instIslands b))

/-- Ports, hierarchies, windows and grottos that change between two configurations, as islands. -/
def touchedMem (old new : Cfg) : List Nat :=
  (diffKeys {} old.ports new.ports).flatMap (fun b => bundleIslands old b ++ bundleIslands new b) ++
    (diffKeys {} old.hiers new.hiers).flatMap (fun a =>
      agentCores old a ++ agentCores new a ++ [svcIsl (old.hier a).home, svcIsl (new.hier a).home]) ++
    (if (diffKeys {} old.wins new.wins).isEmpty then [] else allCores) ++
    (diffKeys {} old.grottos new.grottos).flatMap (fun n => agentCores old (old.gr n).agent ++ agentCores new (new.gr n).agent) ++
    (diffKeys {} old.guards new.guards).flatMap (fun b => [coreIsl (galOf b), 287])

/-- The other tables that change, as islands. -/
def touchedRest (old new : Cfg) : List Nat :=
  (diffKeys {} old.scheds new.scheds).map quadIsl ++ (diffKeys [] old.alpha new.alpha).map coreIsl ++
    (diffKeys {} old.endps new.endps).map (fun e => svcIsl (new.hier (e / 16)).home) ++
    (diffKeys {} old.checks new.checks).map (fun k => svcIsl (new.hier (k / 32)).home) ++
    (if old.wred == new.wred then [] else (List.range 8).map svcIsl) ++
    (if old.biTimeout == new.biTimeout then [] else (List.range 8).flatMap (fun g => (List.range 9).map (sliceIsl g))) ++
    (if old.traceOn == new.traceOn && old.filters == new.filters then [] else 289 :: allCores) ++
    (if old.sweep == new.sweep then [] else sweepIslands) ++
    (diffKeys [] old.progs new.progs ++ diffKeys {} old.samps new.samps).map coreIsl

/-- The tables that a command renews even if their values stay: gate lists and check slots. -/
def touchedBy (new : Cfg) (k : Staged) : List Nat :=
  let b := fieldAt k.payload 0 2
  match k.op with
  | 0xC061 => [quadIsl b]
  | 0xC071 => [svcIsl (new.hier (byteAt k.payload 0)).home]
  | 0xC0B1 => if bitOf (byteAt k.payload 1) 1 then [coreIsl (byteAt k.payload 0)] else []
  | _ => []

/-- The islands a stage would change: not those of a lost gallery, nor an island that is powered down. -/
def touched (s : State) (cmds : List Staged) : List Nat :=
  let new := viewOf s.cfg cmds
  ((touchedMem s.cfg new ++ touchedRest s.cfg new ++ cmds.flatMap (touchedBy new)).eraseDups).filter (fun i =>
    !((s.isl i).st == .poweredDown) && (match islandGal i with
      | some g => (s.gal g).lost.isNone
      | none => true))

/-! ## Ports (R170) -/

/-- A change that takes a bundle down. -/
def retrains (a b : PortCfg) : Bool :=
  a.role != b.role || a.width != b.width || a.maxRate != b.maxRate || a.flitModes != b.flitModes || a.clocking != b.clocking ||
    a.localPbr != b.localPbr || a.peerPbr != b.peerPbr || a.passAgent != b.passAgent || a.passVppb != b.passVppb

/-- Bundles that a new configuration takes down. -/
def retrained (old new : Cfg) : List Nat :=
  (diffKeys {} old.ports new.ports).filter (fun b => retrains (old.port b) (new.port b))

/-- The configuration in which bundles go down: old ports, with the hierarchies that stay. -/
def leavingCfg (old new : Cfg) : Cfg :=
  { old with hiers := new.hiers.filter (fun h => !h.2.fresh) }

/-- A bundle goes down for its new settings; one that was up raises `EV_LINK_DOWN` (R170). -/
def leaveForCfg (s : State) (b : Nat) : State :=
  let s := stopLoop s b
  match (s.prt b).link with
  | .down => s
  | .disabled => s
  | _ => takeDown s b (if s.up b then 2 else 0) .down

/-- A bundle under its new settings: it trains, or it is down, or it stays disabled. -/
def enterCfg (old : Cfg) (s : State) (b : Nat) : State :=
  let r := (s.cfg.port b).role
  let s := setLink s b (if r == 5 then .down else if !(s.prt b).enabled then .disabled else if r == 0 then .down else .training)
  let keep := r == 2 && (old.port b).role == 2 && (old.port b).passAgent == (s.cfg.port b).passAgent
  let s := s.modPrt b (fun x => { x with capacity := if keep then x.capacity else none })
  powerQuads s b

/-! ## Guards (R208, R216) -/

/-- A rule with the drip of its last change. -/
def stampRule (t : Nat) (old new : Rule) : Rule :=
  if { new with change := old.change } = old then new else { new with change := t }

/-- A guard's rules stamped, and its `CLOSED` bits set for the spaces that hold a rule. -/
def closeGuard (t : Nat) (old new : GuardCfg) : GuardCfg :=
  let keys := ((old.rules ++ new.rules).map (·.1)).eraseDups
  let rules := keys.foldl (fun r i => tput {} r i (stampRule t (tget {} old.rules i) (tget {} new.rules i))) []
  { rules := rules
    closedF := new.closedF || rules.any (fun e => e.2.valid && e.2.space == 0)
    closedP := new.closedP || rules.any (fun e => e.2.valid && e.2.space == 1) }

/-- Every guard of a new configuration. -/
def closeGuards (t : Nat) (old new : Cfg) : Tbl GuardCfg :=
  (((old.guards ++ new.guards).map (·.1)).eraseDups).foldl (fun g b => tput {} g b (closeGuard t (old.grd b) (new.grd b))) []

/-- A role or width change ends a fault of the guard's rule store. -/
def endFault (s : State) (b : Nat) : State :=
  if (s.grd b).fault then
    raiseFault (s.modGrd b (fun g => { g with fault := false, copyLost := false })) b 4 255 255 0
  else s

/-! ## Windows (R189, R192, R194, R195) -/

/-- Windows that a commit removes. -/
def windowsGone (old new : Cfg) : List Nat :=
  (old.wins.filter (fun e => e.2.live && (!(new.win e.1).live || (new.win e.1).fresh))).map (·.1)

/-- A removed window: what is SHARED is swept, and a TWINNED window waits for its hold-buffer lines. -/
def goneWindow (old : Cfg) (s : State) (w : Nat) : State :=
  let c := old.win w
  let r : Removed := { win := w, cfg := { c with fresh := false }, exts := (s.win w).exts }
  let s := if c.shared || c.twinned then { s with mem := { s.mem with removed := s.mem.removed ++ [r] } } else s
  s.modWin w (fun _ => {})

/-- Devices of a window that are not up. -/
def devicesDown (s : State) (c : WinCfg) : List Nat :=
  (((pieces c).map (·.port)).eraseDups).filter (fun b => !s.up b)

/-- A new window. -/
def newWindow (s : State) (w : Nat) : State :=
  let c := s.cfg.win w
  let s := s.modWin w (fun _ => { clean := c.assumeClean })
  forEach (devicesDown s c) s (fun s b => loseInWindow s b w)

/-! ## Grottos (R183, R184, R187-R189, R198) -/

/-- The generation after `g`, held ones skipped (R184). -/
def nextGen (holds : List (Nat × Nat)) (g : Nat) : Nat :=
  (((List.range 256).map (fun k => (g + 1 + k) % 256)).find? (fun h => !holds.any (fun x => x.1 == h))).getD ((g + 1) % 256)

/-- A bind: the grotto takes a new generation. -/
def bindNow (n vppb drainMs : Nat) (san : Bool) (s : State) : State :=
  s.modGr n (fun x =>
    let g := nextGen x.holds x.gen
    { x with
      st := .binding, change := s.drip, vppb := vppb, gen := g, oldGen := x.gen, drainMs := drainMs, sanitise := san, sanWins := []
      sanLeft := [], gens := x.gens ++ [{ gen := g, vppb := vppb }] })

/-- An unbind: the generation drains, and SHARED lines are recalled. -/
def unbindNow (c : Cfg) (n : Nat) (s : State) : State :=
  let x := s.gr n
  if !(x.st == .bound || x.st == .binding) then s
  else
    let sh := holdsShared c n
    let s := if x.present then hotplug s (c.gr n).agent x.vppb false else s
    let out := fun (v : LiveGen) =>
      if v.gen == x.gen then { v with draining := true, drainAt := s.drip, deadline := s.now + x.drainMs * 800000, sweepDone := !sh }
      else v
    s.modGr n (fun x => { x with
      st := .draining, change := s.drip, vppb := 255, present := false, gens := x.gens.map out, recallVppb := x.vppb, recallOn := sh || x.recallOn
      sweep := if sh then [] else x.sweep })

/-- A grotto deleted: generations that are held stay held. -/
def deleteGrotto (s : State) (n : Nat) : State :=
  s.modGr n (fun x => { holds := x.holds, late := x.late })

/-- One command's effect on the grottos; `c` is the new configuration. -/
def grottoStep (c : Cfg) (s : State) (k : Staged) : State :=
  let p := k.payload
  let n := fieldAt p 0 2
  match k.op with
  | 0xC031 => forEach ((s.cfg.grottos.filter (fun e => e.2.agent == byteAt p 0)).map (·.1)) s deleteGrotto
  | 0xC032 =>
    if (grottoWins p).isEmpty then deleteGrotto s n
    else if (c.gr n).fresh && (s.gr n).gens.isEmpty && (s.gr n).gen == 0 then s.modGr n (fun x => { x with change := s.drip })
    else s
  | 0xC033 => bindNow n (byteAt p 2) (fieldAt p 4 2) (byteAt p 3 == 1) s
  | 0xC034 => unbindNow c n s
  | _ => s

/-- The sanitises that a bind needs start, or are joined if they run (R189). -/
def startBindSanitise (s : State) (n : Nat) : State :=
  let x := s.gr n
  if !(x.st == .binding) || !x.sanitise || !x.sanLeft.isEmpty then s
  else
    let ws := ((s.cfg.gr n).wins.map (·.1)).filter (mustSanitise s s.cfg n)
    let s := forEach ws s (fun s w =>
      if (s.win w).sanSt == 1 then s.modWin w (fun v => { v with sanGrotto := some n }) else startSanitise s w 0 (some n))
    s.modGr n (fun x => { x with sanWins := ws, sanLeft := ws, sanitise := !ws.isEmpty })

/-- Grottos that a stage binds. -/
def boundBy (cmds : List Staged) : List Nat :=
  ((cmds.filter (fun k => k.op == 0xC033)).map (fun k => fieldAt k.payload 0 2)).eraseDups

/-! ## Hierarchies (R162, R173, R174, R243, R320) -/

/-- Hierarchies that a commit destroys. -/
def hiersGone (old new : Cfg) : List Nat :=
  (old.hiers.filter (fun e => e.2.live && (!(new.hier e.1).live || (new.hier e.1).fresh))).map (·.1)

/-- Hierarchies that a commit creates. -/
def hiersNew (new : Cfg) : List Nat :=
  (new.hiers.filter (fun e => e.2.live && e.2.fresh)).map (·.1)

/-- A destroyed hierarchy: its mailbox sessions close and its check slots are released. -/
def goneHier (s : State) (a : Nat) : State :=
  forEach (List.range 32) (closeMailbox s a) (fun s h => s.modCtx a h releaseCtx)

/-- A new hierarchy: its endpoints' registers are at their reset values, and a home in a lost gallery is none. -/
def newHier (s : State) (a : Nat) : State :=
  let s := forEach ((List.range 16).map (16 * a + ·)) s (fun s e => s.modEndp e (fun x =>
    { tc := x.tc, tp := x.tp, tokAt := x.tokAt, avg := x.avg, queue := x.queue, txSent := x.txSent, txDropped := x.txDropped,
      rxDropped := x.rxDropped }))
  let s := forEach (s.cfg.hier a).usps (resetMsix s a) (fun s u => resetFns s u (· != 0))
  if (s.gal (s.cfg.hier a).home).lost.isSome then
    { s with cfg := { s.cfg with hiers := tmod {} s.cfg.hiers a (fun h => { h with homeless := true }) } }
  else s

/-! ## Queues, policers, check slots, Lantern -/

/-- A queue whose rate or burst changed starts with a full count (R231). -/
def fillQueue (b : Nat) (old new : SchedCfg) (s : State) (q : Nat) : State :=
  let o := tget {} old.queues q
  let n := tget {} new.queues q
  if o.rate == n.rate && o.burst == n.burst then s
  else s.modSch b (fun x => { x with queues := tmod {} x.queues q (fun f => { f with
    tokens := ((n.burst * 8192 : Nat) : Int), tokAt := s.now }) })

/-- Shapers of a bundle. -/
def fillQueues (old new : Cfg) (s : State) (b : Nat) : State :=
  forEach (((old.sch b).queues ++ (new.sch b).queues).map (·.1)).eraseDups s (fillQueue b (old.sch b) (new.sch b))

/-- A policer that changed starts full (R250). -/
def fillPolicer (old new : Cfg) (s : State) (e : Nat) : State :=
  let o := old.endp e
  let n := new.endp e
  if o.cir == n.cir && o.pir == n.pir && o.cbs == n.cbs && o.pbs == n.pbs then s
  else s.modEndp e (fun x => { x with tc := 800 * n.cbs, tp := 800 * n.pbs, tokAt := s.now })

/-- One command's effect on gate lists, check slots, Lantern, counters and samplers; `t` is the commit drip. -/
def settingStep (t : Nat) (s : State) (k : Staged) : State :=
  let p := k.payload
  match k.op with
  | 0xC061 => s.modSch (fieldAt p 0 2) (fun x => armGates x t (gateOf p))
  | 0xC071 =>
    let f := if byteAt p 2 == 0 then assignCtx (byteAt p 3 % 4) else releaseCtx
    s.modCtx (byteAt p 0) (byteAt p 1) f
  | 0xC0B0 => { s with lan := { s.lan with matches_ := [] } }
  | 0xC0B1 =>
    if bitOf (byteAt p 1) 1 then
      let counts := (List.range 8).foldl (fun c i => tput 0 c i (fieldAt p (16 + 16 * i) 6)) []
      let g := byteAt p 0
      edgeProgs { s with lan := { s.lan with progs := tput {} s.lan.progs g { counts := counts, levels := levelBits s g } } } g
    else s
  | 0xC0B3 => { s with lan := { s.lan with samps := tmod {} s.lan.samps (byteAt p 0) (fun x => { x with seen := 0, due := false }) } }
  | _ => s

/-- The drip of the last change of the check slots that a stage assigns or releases, or that lose their hierarchy (R272). -/
def stampChecks (t : Nat) (old new : Cfg) (cmds : List Staged) : Tbl CheckCfg :=
  let named := (cmds.filter (fun k => k.op == 0xC071)).map (fun k => 32 * byteAt k.payload 0 + byteAt k.payload 1)
  let ks := (named ++ diffKeys {} old.checks new.checks).eraseDups
  ks.foldl (fun c k => tmod {} c k (fun x => { x with change := t })) new.checks

/-! ## The whole of it (R326 step 3) -/

/-- A view without the marks that its stage left in it. -/
def settledCfg (c : Cfg) : Cfg :=
  { c with
    hiers := c.hiers.foldl (fun t e => tput {} t e.1 { e.2 with fresh := false }) []
    grottos := c.grottos.foldl (fun t e => tput {} t e.1 { e.2 with fresh := false, rebound := false, unbinding := false }) []
    wins := c.wins.foldl (fun t e => tput {} t e.1 { e.2 with fresh := false }) [] }

/-- Ports leave under the old settings; then the new configuration is in force. -/
def installPorts (old new : Cfg) (s : State) : State :=
  let bs := retrained old new
  let s := forEach bs { s with cfg := leavingCfg old new } leaveForCfg
  let s := { s with cfg := new }
  let s := forEach bs s (enterCfg old)
  forEach (bs.filter (fun b => roleChanged old new b)) s endFault

/-- Windows and grottos. -/
def installMem (old new : Cfg) (cmds : List Staged) (s : State) : State :=
  let s := forEach (windowsGone old new) s (goneWindow old)
  let s := forEach ((new.wins.filter (fun e => e.2.fresh)).map (·.1)) s newWindow
  let s := cmds.foldl (grottoStep new) { s with cfg := { s.cfg with grottos := old.grottos } }
  let s := { s with cfg := { s.cfg with grottos := new.grottos } }
  let s := forEach (boundBy cmds) s startBindSanitise
  forEach (List.range 256) s fenceSettle

/-- Hierarchies and the settings of queues, endpoints, slots, Lantern. -/
def installRest (old new : Cfg) (cmds : List Staged) (t : Nat) (s : State) : State :=
  let s := forEach (hiersGone old new) s goneHier
  let s := forEach (hiersNew new) s newHier
  let s := forEach (diffKeys {} old.scheds new.scheds) s (fillQueues old new)
  let s := forEach (diffKeys {} old.endps new.endps) s (fillPolicer old new)
  let s := if new.traceOn && !old.traceOn then { s with lan := { s.lan with frameSeq := 0 } } else s
  cmds.foldl (settingStep t) s

/-- A stage's result is installed at drip `t`, all of it on one edge. -/
def installCmds (cmds : List Staged) (t : Nat) (s : State) : State :=
  let old := s.cfg
  let v := viewOf old cmds
  let new := { v with guards := closeGuards t old v, checks := stampChecks t old v cmds }
  let s := copyGuards (installPorts old new s)
  let s := installMem old new cmds s
  let s := installRest old new cmds t s
  let s := { s with cfg := settledCfg s.cfg }
  armMoves (bindAll s)

end Sys2Proof.Machine
end

