-- ==== Sys2Proof/Machine/Sha384.lean ====
section
/-!
DEFINITION. SHA-384, which R292, R299, R306 and R328 name, over runs of bytes. Its constants are computed, as the standard derives them, from
the roots of the first primes.
-/

namespace Sys2Proof.Machine

/-! ## Constants -/

/-- The primes below 410: the first 80. -/
def smallPrimes : List Nat :=
  (List.range 410).filter (fun n => decide (2 ≤ n) && (List.range 19).all (fun d => n == d + 2 || n % (d + 2) != 0))

/-- The largest number whose `e`th power is at most `n`, bit by bit from bit `k - 1` down, on top of `r`. -/
def rootFrom (e n : Nat) : Nat → Nat → Nat
  | 0, r => r
  | k + 1, r => rootFrom e n k (if (r + 2 ^ k) ^ e ≤ n then r + 2 ^ k else r)

/-- The first 64 bits of the fraction of the `e`th root of a small number. -/
def rootBits (e p : Nat) : Nat :=
  rootFrom e (p * 2 ^ (64 * e)) 70 0 % 2 ^ 64

/-- What each round adds: from the cube roots of the 80 primes. -/
def roundAdds : List Nat :=
  smallPrimes.map (rootBits 3)

/-- What the hash starts from: the square roots of the ninth to the sixteenth prime. -/
def hashStart : List Nat :=
  ((smallPrimes.drop 8).take 8).map (rootBits 2)

/-! ## Words and bytes -/

/-- A number cut to 64 bits. -/
def w64 (v : Nat) : Nat :=
  v % 2 ^ 64

/-- Exclusive-or of a 64-bit word turned right by each of some amounts. -/
def turned (v : Nat) (ns : List Nat) : Nat :=
  ns.foldl (fun x n => x ^^^ (v / 2 ^ n + v % 2 ^ n * 2 ^ (64 - n))) 0

/-- A big-endian number. -/
def beNat (bs : Bytes) : Nat :=
  bs.foldl (fun a b => a * 256 + b.toNat) 0

/-- `n` bytes of a number, highest first. -/
def beBytes (n v : Nat) : Bytes :=
  (leBytes n v).reverse

/-- Cut bytes into words or blocks of `n`. The first argument bounds the number of pieces. -/
def chunksOf (n : Nat) : Nat → Bytes → List Bytes
  | 0, _ => []
  | k + 1, bs => if bs.isEmpty then [] else bs.take n :: chunksOf n k (bs.drop n)

/-- The message padded to whole 128-byte blocks, with its length in bits at the end. -/
def shaPad (bs : Bytes) : Bytes :=
  let z := (239 - bs.length % 128) % 128
  bs ++ [0x80] ++ List.replicate z 0 ++ beBytes 16 (8 * bs.length)

/-! ## A block -/

/-- `n` more words of a block's schedule, the newest first. -/
def moreWords : Nat → List Nat → List Nat
  | 0, ws => ws
  | n + 1, ws =>
    let at_ := fun (i : Nat) => ws.getD i 0
    let low := turned (at_ 14) [1, 8] ^^^ (at_ 14 / 128)
    let high := turned (at_ 1) [19, 61] ^^^ (at_ 1 / 64)
    moreWords n (w64 (at_ 15 + low + at_ 6 + high) :: ws)

/-- The 80 words of a block. -/
def blockWords (b : Bytes) : List Nat :=
  (moreWords 64 ((chunksOf 8 16 b).map beNat).reverse).reverse

/-- One round on the eight working words: `x` is the round's word and constant together. -/
def shaRound (v : List Nat) (x : Nat) : List Nat :=
  match v with
  | [p, q, r, s, t, u, y, z] =>
    let choice := y ^^^ (t &&& (u ^^^ y))
    let common := (p &&& q) ||| (r &&& (p ||| q))
    let step := z + turned t [14, 18, 41] + choice + x
    [w64 (step + turned p [28, 34, 39] + common), p, q, r, w64 (s + step), t, u, y]
  | v => v

/-- Absorb one block. -/
def shaBlock (h : List Nat) (b : Bytes) : List Nat :=
  let v := (List.zipWith (· + ·) roundAdds (blockWords b)).foldl shaRound h
  List.zipWith (fun x y => w64 (x + y)) h v

/-- SHA-384, 48 bytes. -/
def sha384 (bs : Bytes) : Bytes :=
  let p := shaPad bs
  (((chunksOf 128 (p.length / 128) p).foldl shaBlock hashStart).take 6).flatMap (beBytes 8)

end Sys2Proof.Machine
end

