-- ==== Sys2Proof/Machine/Commit.lean ====
section
/-!
DEFINITION. `COMMIT` and its course (R325-R328): shadows posted, a late cancel, the time master's decision and the launch of every armed
action (R27), among them the commit's.
-/

namespace Sys2Proof.Machine

/-! ## The end of a commit (R327, R328) -/

/-- What the digest is taken over (R328). -/
def digestInput (s : State) (c : Commit) : Bytes :=
  s.proto.digest ++ leBytes 4 ((s.proto.epoch + 1) % 2 ^ 32) ++ leBytes 8 c.at_ ++ leBytes 1 c.session ++
    c.cmds.flatMap (fun k => leBytes 2 k.op ++ leBytes 2 k.payload.length ++ k.payload)

/-- Raise `EV_EPOCH_COMMITTED` from the active cluster. -/
def raiseEpoch (s : State) (c : Commit) (outcome : Nat) : State :=
  let m := s.mgmt.token
  raise s (1556 + m) evEpochCommitted 0 (285 + m)
    (evData (leBytes 1 outcome ++ leBytes 1 c.session ++ leBytes 2 (sat 16 c.cmds.length) ++ s.proto.digest.take 4) c.at_)

/-- The commit ends with an outcome. A committed stage ends; a cancelled one is open again, unless its session has closed. -/
def endCommit (s : State) (c : Commit) (outcome : Nat) : State :=
  let s := { s with proto := { s.proto with commit := none, lastOutcome := outcome } }
  let s := if outcome == 0 && !c.closed then s.setStage c.session none else s
  tryResetReply (raiseEpoch s c outcome)

/-- The epoch record at a launch (R328). -/
def nextEpoch (s : State) (c : Commit) : State :=
  { s with proto := { s.proto with
    epoch := (s.proto.epoch + 1) % 2 ^ 32, digest := sha384 (digestInput s c), epochDrip := c.at_, committedOnce := true } }

/-- The commit launches (R326 step 3). -/
def launchCommit (s : State) : State :=
  match s.proto.commit with
  | none => s
  | some c => endCommit (installCmds c.cmds c.at_ (nextEpoch s c)) c 0

/-! ## COMMIT (R325) -/

/-- The 16-byte payload. -/
def commitReply (s : State) (index op at_ : Nat) : Bytes :=
  leBytes 4 ((s.proto.epoch + 1) % 2 ^ 32) ++ leBytes 2 index ++ leBytes 2 op ++ leBytes 8 at_

/-- A staged `PORT_CONFIG` that a later one for the same bundle replaces (R170). -/
def replaced (later : List Staged) (k : Staged) : Bool :=
  k.op == 0xC020 && later.any (fun l => l.op == 0xC020 && fieldAt l.payload 0 2 == fieldAt k.payload 0 2)

/-- The commands of a stage's beginning that its rest `tail` does not replace. -/
def standing (tail : List Staged) : List Staged → List Staged
  | [] => []
  | k :: ks => if replaced (ks ++ tail) k then standing tail ks else k :: standing tail ks

/-- The first command that fails its second check, with its place and its status; `done` are those before it. A command that a later one
replaces is not part of what is installed (R170, R211). -/
def firstFailing (s : State) (n : Nat) (done : List Staged) : List Staged → Option (Nat × Nat × Nat)
  | [] => none
  | k :: ks =>
    if replaced ks k then firstFailing s n (done ++ [k]) ks
    else
      match refusalOf (stagedConds s n (viewOf s.cfg (standing (k :: ks) done)) k.op k.payload) with
      | 0 => firstFailing s n (done ++ [k]) ks
      | st => some (done.length, k.op, st)

/-- An island that a stage would change is unsure (R21). -/
def unsureTouched (s : State) (cmds : List Staged) : Bool :=
  (touched s cmds).any s.unsure

/-- `LAUNCH_DRIP` is out of range. -/
def launchBad (s : State) (p : Bytes) : Bool :=
  let t := fieldAt p 0 8
  badLen p 8 || (t != 0 && (decide (t < s.drip + 8000) || decide (s.drip + 80000000 < t)))

/-- The first multiple of 1,024 at least 1,024 drips later. -/
def nextLaunch (d : Nat) : Nat :=
  (d + 1024 + 1023) / 1024 * 1024

/-- Accept a commit. With `LAUNCH_DRIP` 0 the launch drip depends on when the last shadow write will be posted, which the spec does not
fix: a free value (log 2), and the shadows are posted in time for exactly that drip. -/
def acceptCommit (s : State) (n ask : Nat) (cmds : List Staged) : Res :=
  let (f, s) := if ask == 0 then draw s else (0, s)
  let t := if ask == 0 then nextLaunch (s.drip + f) else ask
  let s := { s with proto := { s.proto with commit := some { session := n, cmds := cmds, asked := ask, at_ := t } } }
  let s := forEach (touched s cmds) s (fun s i => postBurst s true i (Config.shadowAt i) (sumOf (fun k => k.payload.length) cmds))
  .reply s stPending (commitReply s 65535 0 t)

/-- The body of `COMMIT`: the refusals in the order of R325's table, each with the 16-byte payload. -/
def commitBody (p : Bytes) (s : State) (n : Option Nat) : Res :=
  let k := n.getD 0
  let no := fun (st index op : Nat) => Res.reply s st (commitReply s index op 0)
  if commitArmed s then no stBusy 65535 0
  else if launchBad s p then no stBadParam 65535 0
  else
    match s.stage k with
    | none => no stNotInState 65535 0
    | some cmds =>
      match firstFailing s k [] cmds with
      | some (i, op, st) => no st i op
      | none => if unsureTouched s cmds then no stNotInState 65535 0 else acceptCommit s k (fieldAt p 0 8) cmds

/-- `COMMIT` (R325). -/
def execCommit (t : Transport) (r : Req) (s : State) : Out :=
  vendorCmd 0xC012 t r (permits .owner) (fun s n => commitBody r.payload s n) s

/-- The time master arms the commit's launch. -/
def armCommit (s : State) (c : Commit) : State :=
  let c := { c with posted := true, arm := some s.time.nextArm }
  armFor { s with proto := { s.proto with commit := some c } } .commit c.at_ (touched s c.cmds)

/-- The last shadow write may be posted now: by T - 1,024, and with `LAUNCH_DRIP` 0 at a drip from which T follows (R326). -/
def mayPost (s : State) (c : Commit) : Bool :=
  decide (s.drip + 1024 ≤ c.at_) && (c.asked != 0 || nextLaunch s.drip == c.at_)

/-- `COMMIT_SHADOWS_POSTED` (R326): every shadow write is posted, and the launch is armed. -/
def execCommitShadowsPosted (s : State) : Out :=
  match s.proto.commit with
  | none => .next s
  | some c => due (!c.posted && firmwareUp s && mayPost s c && !writesFor s (touched s c.cmds)) s (armCommit s c)

/-- `COMMIT_LATE_CANCEL` (R327): shadow writes not all posted by T - 1,024. -/
def execCommitLateCancel (s : State) : Out :=
  match s.proto.commit with
  | none => .next s
  | some c => due (!c.posted && decide (c.at_ ≤ s.drip + 1024)) s (endCommit s c 1)

/-! ## The time master's decision (R27) -/

/-- Arm an action again, for the next rotation boundary at least 1,024 drips later (R46, R47, R64, R65). -/
def rearm (s : State) (k : ArmKind) : State :=
  armFor s k (nextRotation (s.drip + 1024)) (coreIslands s)

/-- An end island of a passage is unsure. -/
def pasUnsure (s : State) (p : Nat) : Bool :=
  s.unsure (pasIslG (p / 4) (p % 4)) || s.unsure (pasIslC (p / 4) (p % 4))

/-- Arm a passage's return again (R65). -/
def rearmReturn (s : State) (p : Nat) : State :=
  armFor s (.passageReturn p) (nextRotation (s.drip + 1024)) (returnIslands s p)

/-- A cancelled action of a kind. -/
def cancelled (s : State) (k : ArmKind) : State :=
  match k with
  | .commit =>
    match s.proto.commit with
    | some c => endCommit s c 2
    | none => s
  | .columnDrain _ => rearm s k
  | .columnReturn _ => rearm s k
  | .passageDrain _ => rearm s k
  | .passageReturn p => if pasUnsure s p || admitOver s p then failPassageAdmit s p 9 else rearmReturn s p
  | .timeLoad _ => s
  | .homeMove _ _ => armMoves s

/-- The master cancels an action, and raises `LAUNCH_CANCELLED` (R27, R33). -/
def cancelArm (s : State) (a : Arm) : State :=
  let s := { s with time := { s.time with arms := removeFirst (fun x => x.id == a.id) s.time.arms } }
  cancelled (raiseTime s 1572 7 0 65535 a.at_) a.kind

/-- `LAUNCH_DECIDE` (R27): at T - 512 the master checks the acknowledgements, and cancels if any is missing. -/
def execLaunchDecide (arm : Nat) (s : State) : Out :=
  match armOf s arm with
  | none => .next s
  | some a =>
    due (!a.decided && decide (a.at_ ≤ s.drip + 512)) s
      (if armComplete s a then modArm s arm (fun a => { a with decided := true }) else cancelArm s a)

/-! ## Launches (R22, R27) -/

/-- Perform an action of a kind. -/
def perform (s : State) (k : ArmKind) : State :=
  match k with
  | .commit => launchCommit s
  | .columnDrain c => launchColumnDrain s c
  | .columnReturn c => launchColumnReturn s c
  | .passageDrain p => launchPassageDrain s p
  | .passageReturn p => launchPassageReturn s p
  | .timeLoad d => launchLoad s d
  | .homeMove a _ => moveHome s a

/-- The order of actions that fall on one edge: a load before any other (R30), then the commit, then changes of columns, passages and
homes (R23). -/
def launchRank : ArmKind → Nat
  | .timeLoad _ => 0
  | .commit => 1
  | .columnDrain _ => 2
  | .columnReturn _ => 2
  | .passageDrain _ => 2
  | .passageReturn _ => 2
  | .homeMove _ _ => 2

/-- No decided action of this edge goes before this one. -/
def inTurn (s : State) (a : Arm) : Bool :=
  !s.time.arms.any (fun b => b.decided && launchHere s b && decide (launchRank b.kind < launchRank a.kind))

/-- `LAUNCH` (R27): at drip T every armed island performs the action, in the order of its edge. Past that edge every island refuses it, and
the refusal is reported: no island performs it (R22). -/
def execLaunch (arm : Nat) (s : State) : Out :=
  match armOf s arm with
  | none => .next s
  | some a =>
    if !a.decided then .next s
    else if launchHere s a then
      due (inTurn s a) s
        (perform { s with time := { s.time with arms := removeFirst (fun x => x.id == a.id) s.time.arms } } a.kind)
    else due (decide (a.at_ < s.drip)) s
      (cancelArm { s with time := { s.time with refusals := s.time.refusals + 1 } } a)

end Sys2Proof.Machine
end

