-- ==== Sys2Proof/Machine/FmApi.lean ====
section
/-!
DEFINITION. The standard interfaces of the management plane: FM API commands (R309, R310), MCTP control messages and the I3C address
assignment (R299, R308). A reply carries the values the spec states; the encodings are those of the CXL and DMTF specifications.
-/

namespace Sys2Proof.Machine

/-- An FM API command is served: on the boot port and on I3C, while anything answers (R308, R309). -/
def fmUp (s : State) (t : Transport) : Bool :=
  answering s && (mailboxAgent t).isNone

/-- Answer an FM API command with a return code and values; without a listener nothing happens. -/
def fmReply (s : State) (t : Transport) (op rc : Nat) (vals : List Nat) : Out :=
  due (fmUp s t) s (extReply s 0 (transportNo t) op rc vals)

/-- The hierarchies that exist, by agent. -/
def liveHiers (s : State) : List Nat :=
  (s.cfg.hiers.filter (fun h => h.2.live)).map (·.1)

/-- `IDENTIFY` (R310): vendor, device and serial number, as `GET_IDENTITY` gives them. -/
def execIdentify (t : Transport) (s : State) : Out :=
  fmReply s t 0x0001 0 [0x1B47, 0x5120, Config.serial.toNat]

/-- `BACKGROUND_OPERATION_STATUS` (R310): no operation. -/
def execBackgroundOperationStatus (t : Transport) (s : State) : Out :=
  fmReply s t 0x0002 0 [0]

/-- `GET_RESPONSE_MESSAGE_LIMIT` (R310). -/
def execGetResponseMessageLimit (t : Transport) (s : State) : Out :=
  fmReply s t 0x0003 0 [s.proto.fmLimit]

/-- `SET_RESPONSE_MESSAGE_LIMIT` (R310): the limit of FM API replies. -/
def execSetResponseMessageLimit (t : Transport) (limit : Nat) (s : State) : Out :=
  fmReply (if fmUp s t then { s with proto := { s.proto with fmLimit := limit % 256 } } else s) t 0x0004 0 [limit % 256]

/-- `IDENTIFY_SWITCH_DEVICE` (R310): 512 ports, one virtual switch per hierarchy. -/
def execIdentifySwitchDevice (t : Transport) (s : State) : Out :=
  fmReply s t 0x5100 0 [512, (liveHiers s).length]

/-- `GET_PHYSICAL_PORT_STATE` (R310): port, role and link of each port asked for. -/
def execGetPhysicalPortState (t : Transport) (ports : List Nat) (s : State) : Out :=
  fmReply s t 0x5101 (if ports.all (fun b => decide (b < 512)) then 0 else 2)
    (if ports.all (fun b => decide (b < 512)) then (ports.map (fun b => [b, s.role b, linkShown s b])).flatten else [])

/-- `GET_VIRTUAL_CXL_SWITCH_INFO` (R310): a hierarchy's vPPBs and USPs; the VCS ID is the agent ID. -/
def execGetVirtualCxlSwitchInfo (t : Transport) (vcs : Nat) (s : State) : Out :=
  let h := s.cfg.hier vcs
  fmReply s t 0x5200 (if h.live then 0 else 2) (if h.live then [vcs, h.vppbs] ++ h.usps else [])

/-- `PHYSICAL_PORT_CONTROL` (R310): Unsupported. -/
def execPhysicalPortControl (t : Transport) (s : State) : Out :=
  fmReply s t 0x5102 1 []

/-- `SEND_PPB_CXL_IO_CONFIG_REQUEST` (R310): Unsupported. -/
def execSendPpbCxlIoConfigRequest (t : Transport) (s : State) : Out :=
  fmReply s t 0x5103 1 []

/-- `BIND_VPPB` (R310): Unsupported. -/
def execBindVppb (t : Transport) (s : State) : Out :=
  fmReply s t 0x5201 1 []

/-- `UNBIND_VPPB` (R310): Unsupported. -/
def execUnbindVppb (t : Transport) (s : State) : Out :=
  fmReply s t 0x5202 1 []

/-- `GENERATE_AER_EVENT` (R310): Unsupported. -/
def execGenerateAerEvent (t : Transport) (s : State) : Out :=
  fmReply s t 0x5203 1 []

/-- The opcodes of R310. -/
def fmOpcodes : List Nat :=
  [0x0001, 0x0002, 0x0003, 0x0004, 0x5100, 0x5101, 0x5102, 0x5103, 0x5200, 0x5201, 0x5202, 0x5203]

/-- `UNSUPPORTED_FM_API_COMMAND` (R310): any other opcode is answered Unsupported. -/
def execUnsupportedFmApiCommand (t : Transport) (op : Nat) (s : State) : Out :=
  if fmOpcodes.contains op then .next s else fmReply s t op 1 []

/-! ## MCTP control (R308) -/

/-- A transport exists: hierarchy mailboxes only while firmware runs (R308). -/
def mctpUp (s : State) (t : Transport) : Bool :=
  answering s && ((mailboxAgent t).isNone || firmwareUp s)

/-- Answer an MCTP control message. -/
def mctpReply (s : State) (t : Transport) (op : Nat) (vals : List Nat) : Out :=
  due (mctpUp s t) s (extReply s 1 (transportNo t) op 0 vals)

/-- `SET_ENDPOINT_ID` (R308): the bus owner assigns the transport's endpoint ID. -/
def execSetEndpointId (t : Transport) (eid : Nat) (s : State) : Out :=
  mctpReply (if mctpUp s t then { s with proto := { s.proto with eids := tput 0 s.proto.eids (transportNo t) (eid % 256) } } else s)
    t 1 [eid % 256]

/-- `GET_ENDPOINT_ID` (R308). -/
def execGetEndpointId (t : Transport) (s : State) : Out :=
  mctpReply s t 2 [tget 0 s.proto.eids (transportNo t)]

/-- `GET_MCTP_VERSION_SUPPORT` (R308): which versions is a free value (log 2). -/
def execGetMctpVersionSupport (t : Transport) (msgType : Nat) (s : State) : Out :=
  let (v, s') := draw s
  mctpReply (if mctpUp s t then s' else s) t 4 [msgType, v]

/-- `GET_MESSAGE_TYPE_SUPPORT` (R308, R309): vendor packets, 7Eh; FM API commands, of the CXL Specification's type, on the boot port and
I3C. -/
def execGetMessageTypeSupport (t : Transport) (s : State) : Out :=
  mctpReply s t 5 (if (mailboxAgent t).isNone then [0x7E, 0x07] else [0x7E])

/-- `GET_VENDOR_DEFINED_MESSAGE_SUPPORT` (R308, R309): PCI vendor ID 1B47h, the only set. -/
def execGetVendorDefinedMessageSupport (t : Transport) (sel : Nat) (s : State) : Out :=
  mctpReply s t 6 (if sel == 0 then [0xFF, 0, 0x1B47] else [])

/-- `SETDASA` (R308): the controller assigns a dynamic address to an I3C target. -/
def execSetdasa (t : Transport) (addr : Nat) (s : State) : Out :=
  due (answering s && (t == .i3cA || t == .i3cB)) s
    { s with proto := { s.proto with i3cAddr := tput 0 s.proto.i3cAddr (transportNo t) (addr % 128) } }

end Sys2Proof.Machine
end

