-- ==== Sys2Proof/Machine/P384.lean ====
section
/-!
DEFINITION. ECDSA P-384 verification (R301, after FIPS 186), in affine coordinates.
-/

namespace Sys2Proof.Machine

/-- The field prime of P-384. -/
def p384P : Nat := 0xFFFFFFFFFFFFFFFFFFFFFFFFFFFFFFFFFFFFFFFFFFFFFFFFFFFFFFFFFFFFFFFEFFFFFFFF0000000000000000FFFFFFFF

/-- The group order. -/
def p384N : Nat := 0xFFFFFFFFFFFFFFFFFFFFFFFFFFFFFFFFFFFFFFFFFFFFFFFFC7634D81F4372DDF581A0DB248B0A77AECEC196ACCC52973

/-- The curve's b. -/
def p384B : Nat := 0xB3312FA7E23EE7E4988E056BE3F82D19181D9C6EFE8141120314088F5013875AC656398D8A2ED19D2A85C8EDD3EC2AEF

/-- The base point. -/
def p384G : Option (Nat × Nat) :=
  some (0xAA87CA22BE8B05378EB1C71EF320AD746E1D3B628BA79B9859F741E082542A385502F25DBF55296C3A545E3872760AB7,
    0x3617DE4A96262C6F5D9E98BF9292DC29F8F41DBD289A147CE9DA3113B5F0B8C00A60B1CE1D7E819D7A431D7C90EA0E5F)

/-- `a ^ e mod m` over the lowest `k` bits of `e`, highest first. -/
def powMod (a e m : Nat) : Nat → Nat → Nat
  | 0, acc => acc
  | k + 1, acc =>
    let sq := acc * acc % m
    powMod a e m k (if e.testBit k then sq * a % m else sq)

/-- The inverse modulo a prime. -/
def invMod (a m : Nat) : Nat :=
  powMod (a % m) (m - 2) m 384 1

/-- The sum of two points; `none` is the point at infinity. -/
def p384Add : Option (Nat × Nat) → Option (Nat × Nat) → Option (Nat × Nat)
  | none, q => q
  | p, none => p
  | some (x1, y1), some (x2, y2) =>
    if x1 = x2 ∧ (y1 + y2) % p384P = 0 then none
    else
      let l :=
        if x1 = x2 then (3 * x1 * x1 + (p384P - 3)) * invMod (2 * y1) p384P % p384P
        else (y2 + p384P - y1) * invMod (x2 + p384P - x1) p384P % p384P
      let x3 := (l * l + 2 * p384P - x1 - x2) % p384P
      some (x3, (l * (x1 + p384P - x3) + p384P - y1) % p384P)

/-- A multiple of a point, over the lowest `k` bits of `e`, highest first. -/
def p384Mul (e : Nat) (q : Option (Nat × Nat)) : Nat → Option (Nat × Nat) → Option (Nat × Nat)
  | 0, acc => acc
  | k + 1, acc =>
    let d := p384Add acc acc
    p384Mul e q k (if e.testBit k then p384Add d q else d)

/-- The point lies on the curve. -/
def p384On (x y : Nat) : Bool :=
  decide (x < p384P) && decide (y < p384P) && decide (y * y % p384P = (x * x * x + (p384P - 3) * x + p384B) % p384P)

/-- ECDSA P-384 verification of a 48-byte digest: `key` is an uncompressed SEC 1 point (97 bytes), `sig` r then s. -/
def ecdsaOk (key digest sig : Bytes) : Bool :=
  let x := beNat ((key.drop 1).take 48)
  let y := beNat ((key.drop 49).take 48)
  let r := beNat (sig.take 48)
  let s := beNat ((sig.drop 48).take 48)
  let w := invMod s p384N
  let u1 := beNat digest * w % p384N
  let u2 := r * w % p384N
  byteAt key 0 == 4 && key.length == 97 && sig.length == 96 && p384On x y &&
    decide (0 < r) && decide (r < p384N) && decide (0 < s) && decide (s < p384N) &&
    match p384Add (p384Mul u1 p384G 384 none) (p384Mul u2 (some (x, y)) 384 none) with
    | none => false
    | some (px, _) => px % p384N == r

end Sys2Proof.Machine
end

