-- ==== Sys2Proof/Machine/Loader.lean ====
section
/-!
DEFINITION. The boot ROM: its states, the image tests, the fuses and the loader commands (R291, R299-R306), `FW_INFO` and
`GET_IDENTITY`.
-/

namespace Sys2Proof.Machine

/-! ## The image (R301) -/

/-- `STEPPING` of the part, A1 (R292). -/
def stepping : Nat := 1

/-- A field of the image header. -/
def hdr (h : Bytes) (off size : Nat) : Nat :=
  fieldAt h off size

/-- `IMAGE_LEN`. -/
def imageLen (h : Bytes) : Nat :=
  hdr h 8 4

/-- `KEY_INDEX`. -/
def keyIndex (h : Bytes) : Nat :=
  hdr h 15 1

/-- `PUBKEY`. -/
def pubKey (h : Bytes) : Bytes :=
  (h.drop 32).take 97

/-- Section i: image offset, length, destination. -/
def sect (h : Bytes) (i : Nat) : Nat × Nat × Nat :=
  (hdr h (136 + 16 * i) 4, hdr h (140 + 16 * i) 4, hdr h (144 + 16 * i) 4)

/-- A section lies where the header table lets it. -/
def sectOk (h : Bytes) (i : Nat) : Bool :=
  let (o, l, d) := sect h i
  decide (512 ≤ o) && decide (o + l + 96 ≤ imageLen h) && decide (d + l ≤ 8388608) && hdr h (148 + 16 * i) 4 == 0

/-- Two sections overlap in the cluster SRAM. -/
def sectsMeet (h : Bytes) (i j : Nat) : Bool :=
  let (_, l, d) := sect h i
  let (_, m, e) := sect h j
  decide (d < e + m) && decide (e < d + l) && decide (0 < l) && decide (0 < m)

/-- Test 1 of R301. -/
def headerTest (h : Bytes) : Bool :=
  let n := hdr h 132 4
  hdr h 0 4 == 0x4E554D4F && hdr h 4 2 == 1 && hdr h 6 2 == 512 && decide (1024 ≤ imageLen h) && decide (imageLen h ≤ 33554432) &&
    imageLen h % 16 == 0 && hdr h 12 2 == 0x5120 && decide (hdr h 14 1 ≤ stepping) && decide (keyIndex h ≤ 3) &&
    decide (hdr h 24 4 ≤ 64) && decide (hdr h 28 4 ≤ 3) && byteAt h 32 == 4 && hdr h 129 3 == 0 && decide (1 ≤ n) &&
    decide (n ≤ 8) && (List.range n).all (sectOk h) && hdr h (136 + 16 * n) (128 - 16 * n) == 0 &&
    (List.range n).all (fun i => (List.range i).all (fun j => !sectsMeet h i j)) && decide (hdr h 264 4 < 8388608) &&
    hdr h 268 244 == 0

/-- Test 2 of R301: the key is programmed, not revoked, and the one the fuses name. -/
def keyTest (s : State) (h : Bytes) : Bool :=
  let k := keyIndex h
  let want := s.mgmt.keyHash.getD k 0
  !(want == 0) && !s.mgmt.keyRevoked.testBit k && want == leNat (sha384 (pubKey h))

/-- The rollback counter: the number of fuses set (R292). -/
def rollbackCount (s : State) : Nat :=
  popcount 64 s.mgmt.rollback

/-- Tests 1-3 of R301: the failure code of `LAST_FAIL`, 0 for none. -/
def headerFail (s : State) (h : Bytes) : Nat :=
  if !headerTest h then 1
  else if !keyTest s h then 2
  else if hdr h 24 4 < rollbackCount s then 3
  else 0

/-- The signed bytes of an image. -/
def signedBytes (img : Bytes) : Bytes :=
  img.take (imageLen img - 96)

/-- All of R301's tests, with the digest of the signed bytes. -/
def imageFail (s : State) (img digest : Bytes) : Nat :=
  match headerFail s img with
  | 0 => if ecdsaOk (pubKey img) digest ((img.drop (imageLen img - 96)).take 96) then 0 else 4
  | f => f

/-- The fuse bits an image asks for (R302): bits 0-63 of `ROLLBACK_FUSES`, 64 + k for `KEY_REVOKED` bit k. -/
def fusesFor (s : State) (h : Bytes) : List Nat :=
  let up := (List.range 64).filter (fun i => !s.mgmt.rollback.testBit i)
  let adv := if (hdr h 28 4).testBit 0 then up.take (hdr h 24 4 - rollbackCount s) else []
  let rev := if (hdr h 28 4).testBit 1 then (List.range (keyIndex h)).filter (fun k => !s.mgmt.keyRevoked.testBit k) else []
  adv ++ rev.map (64 + ·)

/-! ## Boot states (R299) -/

/-- Change the boot state. -/
def toBoot (s : State) (b : Boot) : State :=
  { s with mgmt := { s.mgmt with boot := b, bootAt := s.now } }

/-- Enter `LOADER`: no image, no contexts (R300), and no reply to a `MGMT_RESET` (R331). A failure code other than 0 is `LAST_FAIL`. -/
def toLoader (s : State) (fail : Nat) : State :=
  let s := toBoot s .loader
  { s with mgmt := { s.mgmt with
    kept := [], keptValid := false, keptEcc := false, fromKept := false, source := 0, digest := [], fusePlan := [], fuseTries := 0
    rom := [], loadEnd := none, resetWait := none, lastFail := if fail == 0 then s.mgmt.lastFail else fail } }

/-- Answer the `LOAD_END` that waits. -/
def answerLoadEnd (s : State) (status : Nat) : State :=
  match s.mgmt.loadEnd with
  | none => s
  | some (t, r) => finishRom 0xC0F2 t r (.reply { s with mgmt := { s.mgmt with loadEnd := none } } status [])

/-- A verify or fusing fails: `LOAD_END` is answered `AUTH_FAIL` and the ROM is in `LOADER` (R305). -/
def bootFailed (s : State) (fail : Nat) : State :=
  toLoader (answerLoadEnd s stAuthFail) fail

/-- The image is accepted and its fuses are blown: `LOAD_END` is `OK`, the tag is set, `STARTING` begins (R305). -/
def bootAccepted (s : State) : State :=
  let s := toBoot { s with mgmt := { s.mgmt with keptValid := true } } .starting
  answerLoadEnd s stOk

/-- The ROM runs: neither reset input is low and a cluster is not left failed. -/
def romRuns (s : State) : Bool :=
  !s.mgmt.coldRst && !s.mgmt.mgmtRst && !leftFailed s

/-- `ROM_INIT_END` (R299): a cluster that fails its self-test takes no part; with both failed the state is `HALTED`. -/
def execRomInitEnd (passA passB keptOk : Bool) (s : State) : Out :=
  if !(s.mgmt.boot == .romInit) || !romRuns s then .next s
  else
    let mark := fun (s : State) (n : Nat) (pass : Bool) =>
      if pass then s else s.modCluster n (fun c => { c with st := .failed })
    let s := mark (mark s 0 passA) 1 passB
    let s := if passA && passB then s else { s with mgmt := { s.mgmt with lastFail := 9 } }
    if (s.cluster 0).st == .failed && (s.cluster 1).st == .failed then
      .next (toBoot { s with mgmt := { s.mgmt with resetWait := none } } .halted)
    else if s.mgmt.keptValid && keptOk then
      let s := toBoot s .verifying
      .next { s with mgmt := { s.mgmt with fromKept := true, source := 4, loadDrip := s.drip } }
    else .next (toLoader s (if s.mgmt.keptValid || s.mgmt.keptEcc then 6 else 0))

/-- `KEPT_IMAGE_UNCORRECTABLE` (R291): the tag is cleared; firmware that runs keeps running. -/
def execKeptImageUncorrectable (s : State) : Out :=
  due (!s.mgmt.coldRst && s.mgmt.keptValid) s { s with mgmt := { s.mgmt with keptValid := false, keptEcc := true } }

/-- `RECEIVE_TIMEOUT` (R299): no loader command for 10 s. -/
def execReceiveTimeout (s : State) : Out :=
  due (s.mgmt.boot == .receiving && romRuns s && decide (s.mgmt.bootAt + 8000000000 ≤ s.now)) s (toLoader s 7)

/-- `VERIFY_END` (R301): the tests of the image end. `eccOk` is false where the kept-image SRAM has an uncorrectable error. -/
def execVerifyEnd (eccOk : Bool) (s : State) : Out :=
  if !(s.mgmt.boot == .verifying) || !romRuns s then .next s
  else if !eccOk then .next (bootFailed s 6)
  else
    let img := s.mgmt.kept
    let d := sha384 (signedBytes img)
    match imageFail s img d with
    | 0 =>
      let plan := fusesFor s img
      let s := { s with mgmt := { s.mgmt with digest := d, fusePlan := plan, fuseTries := 0 } }
      .next (if plan == [] then bootAccepted s else toBoot s .fusing)
    | f => .next (bootFailed s f)

/-- Blow one fuse of the plan. -/
def blow (s : State) (b : Nat) : State :=
  if b < 64 then { s with mgmt := { s.mgmt with rollback := setBit s.mgmt.rollback b } }
  else { s with mgmt := { s.mgmt with keyRevoked := setBit s.mgmt.keyRevoked (b - 64) } }

/-- `FUSE_BIT` (R302): a bit is blown and read back; one that does not read back after three attempts ends the boot with `FUSE`. -/
def execFuseBit (readsBack : Bool) (s : State) : Out :=
  if !(s.mgmt.boot == .fusing) || !romRuns s then .next s
  else
    match s.mgmt.fusePlan with
    | [] => .next (bootAccepted s)
    | b :: rest =>
      if readsBack then
        let s := blow { s with mgmt := { s.mgmt with fusePlan := rest, fuseTries := 0, bootAt := s.now } } b
        .next (if rest == [] then bootAccepted s else s)
      else if s.mgmt.fuseTries < 2 then .next { s with mgmt := { s.mgmt with fuseTries := s.mgmt.fuseTries + 1 } }
      else .next (bootFailed s 8)

/-! ## Loader commands (R303-R305) -/

/-- Bytes received so far. -/
def received (s : State) : Nat :=
  s.mgmt.kept.length

/-- The body of `LOAD_BEGIN`. -/
def loadBeginBody (t : Transport) (r : Req) (s : State) : Res :=
  let p := r.payload
  let h := (p.drop 8).take 512
  let badForm := badLen p 520 || nonZero p 4 4
  let badHdr := !(fieldAt p 0 4 == imageLen h) || !headerTest h
  let fail := if badHdr then 1 else headerFail s h
  let here := s.mgmt.boot == .receiving && s.mgmt.rxTransport == transportNo t
  let other := s.mgmt.boot == .receiving && !here
  let noState := !(s.mgmt.boot == .loader || s.mgmt.boot == .receiving)
  let s' := if !badForm && !noState && !other && !(fail == 0) then { s with mgmt := { s.mgmt with lastFail := fail } } else s
  guarded s'
    [(stBusy, other), (stBadParam, badForm || badHdr), (stNotInState, noState), (stAuthFail, !(fail == 0))]
    (let s := toBoot s .receiving
     .reply { s with mgmt := { s.mgmt with
       kept := h, keptValid := false, keptEcc := false, fromKept := false, source := transportNo t, rxTransport := transportNo t
       rxLen := imageLen h, digest := [] } } stOk [])

/-- `LOAD_BEGIN` (R303). -/
def execLoadBegin (t : Transport) (r : Req) (s : State) : Out :=
  vendorCmd 0xC0F0 t r (permits .any) (fun s _ => loadBeginBody t r s) s

/-- The body of `LOAD_DATA`. -/
def loadDataBody (t : Transport) (r : Req) (s : State) : Res :=
  let p := r.payload
  let n := p.length - 8
  let rx := s.mgmt.boot == .receiving
  guarded s
    [(stBusy, rx && !(s.mgmt.rxTransport == transportNo t)),
     (stBadParam, decide (p.length < 9) || decide (16392 < p.length) || nonZero p 4 4 ||
       (rx && (!(fieldAt p 0 4 == received s) || decide (s.mgmt.rxLen < received s + n)))),
     (stNotInState, !rx)]
    (.reply { s with mgmt := { s.mgmt with kept := s.mgmt.kept ++ p.drop 8 } } stOk [])

/-- `LOAD_DATA` (R304). -/
def execLoadData (t : Transport) (r : Req) (s : State) : Out :=
  vendorCmd 0xC0F1 t r (permits .any) (fun s _ => loadDataBody t r s) s

/-- The body of `LOAD_END`. -/
def loadEndBody (t : Transport) (r : Req) (s : State) : Res :=
  let p := r.payload
  let rx := s.mgmt.boot == .receiving
  guarded s
    [(stBusy, rx && !(s.mgmt.rxTransport == transportNo t)),
     (stBadParam, badLen p 4 || nonZero p 0 4),
     (stNotInState, !rx || decide (received s < s.mgmt.rxLen))]
    (let s := toBoot s .verifying
     .wait { s with mgmt := { s.mgmt with loadEnd := some (t, r), loadDrip := s.drip } })

/-- `LOAD_END` (R305): the reply waits on `VERIFYING` and `FUSING`. -/
def execLoadEnd (t : Transport) (r : Req) (s : State) : Out :=
  vendorCmd 0xC0F2 t r (permits .any) (fun s _ => loadEndBody t r s) s

/-! ## FW_INFO and GET_IDENTITY (R306, R332) -/

/-- Code of a boot state (R299). -/
def bootCode : Boot → Nat
  | .romInit => 0
  | .loader => 1
  | .receiving => 2
  | .verifying => 3
  | .fusing => 4
  | .starting => 5
  | .running => 6
  | .halted => 7

/-- The header of the running or loading image, empty if none. -/
def imageHeader (s : State) : Bytes :=
  if s.mgmt.source == 0 then [] else s.mgmt.kept.take 512

/-- `STANDBY` of `FW_INFO`. -/
def standbyCode (s : State) : Nat :=
  match (s.cluster (1 - s.mgmt.token)).st with
  | .standby => 0
  | .rom => if firmwareUp s then 1 else 3
  | .failed => 2
  | .active => 3

/-- The 104-byte reply of `FW_INFO`. -/
def fwInfoReply (s : State) : Bytes :=
  let m := s.mgmt
  let h := imageHeader s
  leBytes 1 (bootCode m.boot) ++ leBytes 1 (if firmwareUp s then m.token else 255) ++ leBytes 1 (standbyCode s) ++
    leBytes 1 m.source ++ leBytes 2 Config.romVersion.toNat ++ leBytes 1 (if h == [] then 255 else keyIndex h) ++
    leBytes 1 (m.keyRevoked % 16) ++ leBytes 8 (hdr h 16 8) ++ leBytes 4 (hdr h 24 4) ++ leBytes 4 (rollbackCount s) ++
    leBytes 4 (imageLen h) ++ leBytes 1 m.lastFail ++ zeros 1 ++ leBytes 2 m.starts ++ leBytes 4 m.bridgeTo ++ zeros 4 ++
    leBytes 8 m.loadDrip ++ leBytes 8 m.runDrip ++ (m.digest ++ zeros 48).take 48

/-- `FW_INFO` (R306). -/
def execFwInfo (t : Transport) (r : Req) (s : State) : Out :=
  vendorCmd 0xC0D0 t r (permits .any) (fun s _ =>
    guarded s [(stBadParam, badLen r.payload 0)] (.reply s stOk (fwInfoReply s))) s

/-- The 40-byte reply of `GET_IDENTITY`. -/
def identityReply (s : State) : Bytes :=
  leBytes 2 0x1B47 ++ leBytes 2 0x5120 ++ leBytes 1 stepping ++ leBytes 1 (bootCode s.mgmt.boot) ++
    leBytes 1 (if firmwareUp s then sessionsFree s else 0) ++ zeros 1 ++ leBytes 8 Config.serial.toNat ++
    leBytes 8 (hdr (imageHeader s) 16 8) ++ leBytes 2 Config.romVersion.toNat ++ leBytes 2 16392 ++ leBytes 2 16384 ++ zeros 2 ++
    leBytes 8 s.drip

/-- `GET_IDENTITY` (R332). -/
def execGetIdentity (t : Transport) (r : Req) (s : State) : Out :=
  vendorCmd 0xC003 t r (permits .any) (fun s _ =>
    guarded s [(stBadParam, badLen r.payload 0)] (.reply s stOk (identityReply s))) s

end Sys2Proof.Machine
end

