-- ==== Sys2Proof/Machine/Dispatch.lean ====
section
/-!
DEFINITION. The meaning of each command, one arm per row of spec/opcode_table.json.
-/

namespace Sys2Proof.Machine

/-- The effect of a command on everything but the queue. -/
def exec (i : Instr) (s : State) : Host.Outcome State Fault Refusal :=
  match i with
  | .coldResetAssert pwrOk => Sys2Proof.Machine.execColdResetAssert pwrOk s
  | .coldResetRelease bootSel => Sys2Proof.Machine.execColdResetRelease bootSel s
  | .mgmtResetAssert => Sys2Proof.Machine.execMgmtResetAssert s
  | .mgmtResetRelease => Sys2Proof.Machine.execMgmtResetRelease s
  | .thermalTrip die temp => Sys2Proof.Machine.execThermalTrip die temp s
  | .monitorSample temps rails => Sys2Proof.Machine.execMonitorSample temps rails s
  | .refClockLost ref => Sys2Proof.Machine.execRefClockLost ref s
  | .refGoodTimer ref => Sys2Proof.Machine.execRefGoodTimer ref s
  | .masterSplit bad => Sys2Proof.Machine.execMasterSplit bad s
  | .beaconSend => Sys2Proof.Machine.execBeaconSend s
  | .beaconReceived island beacon at64 crcOk phase => Sys2Proof.Machine.execBeaconReceived island beacon at64 crcOk phase s
  | .beaconMissed island beacon => Sys2Proof.Machine.execBeaconMissed island beacon s
  | .recalibrationStart island => Sys2Proof.Machine.execRecalibrationStart island s
  | .calibrationEnd island delay => Sys2Proof.Machine.execCalibrationEnd island delay s
  | .armMessage arm island => Sys2Proof.Machine.execArmMessage arm island s
  | .launchDecide arm => Sys2Proof.Machine.execLaunchDecide arm s
  | .launch arm => Sys2Proof.Machine.execLaunch arm s
  | .ppsEdge at16 => Sys2Proof.Machine.execPpsEdge at16 s
  | .ppsMissing => Sys2Proof.Machine.execPpsMissing s
  | .ppsOutPulse => Sys2Proof.Machine.execPpsOutPulse s
  | .slotBoundary r => Sys2Proof.Machine.execSlotBoundary r s
  | .rotationBoundary g => Sys2Proof.Machine.execRotationBoundary g s
  | .columnCrossbarChange c agree => Sys2Proof.Machine.execColumnCrossbarChange c agree s
  | .columnDrainEnd g c => Sys2Proof.Machine.execColumnDrainEnd g c s
  | .probingEnd c => Sys2Proof.Machine.execProbingEnd c s
  | .admissionTimeout c => Sys2Proof.Machine.execAdmissionTimeout c s
  | .cellArrival g c mask => Sys2Proof.Machine.execCellArrival g c mask s
  | .ackTimer g c i0 => Sys2Proof.Machine.execAckTimer g c i0 s
  | .ackReceived g c m seq check => Sys2Proof.Machine.execAckReceived g c m seq check s
  | .ackTimeout g c => Sys2Proof.Machine.execAckTimeout g c s
  | .receiveBufferRelease g c => Sys2Proof.Machine.execReceiveBufferRelease g c s
  | .advert g c m relayOpen xoff => Sys2Proof.Machine.execAdvert g c m relayOpen xoff s
  | .flow g c m xoff => Sys2Proof.Machine.execFlow g c m xoff s
  | .grantSend g c cls => Sys2Proof.Machine.execGrantSend g c cls s
  | .grant g c m cls count slot => Sys2Proof.Machine.execGrant g c m cls count slot s
  | .grantExpiry g c cls slot => Sys2Proof.Machine.execGrantExpiry g c cls slot s
  | .notice g code num => Sys2Proof.Machine.execNotice g code num s
  | .passageError p endp cause lane => Sys2Proof.Machine.execPassageError p endp cause lane s
  | .forwardedClockLost p endp lane => Sys2Proof.Machine.execForwardedClockLost p endp lane s
  | .kill p endp => Sys2Proof.Machine.execKill p endp s
  | .passageDrainEnd p => Sys2Proof.Machine.execPassageDrainEnd p s
  | .passageTestEnd p errors outMask inMask => Sys2Proof.Machine.execPassageTestEnd p errors outMask inMask s
  | .passageAdmitEnd p result errors => Sys2Proof.Machine.execPassageAdmitEnd p result errors s
  | .reseqHoleTimeout g srcGal srcPort cls => Sys2Proof.Machine.execReseqHoleTimeout g srcGal srcPort cls s
  | .rdShared g sl f => Sys2Proof.Machine.execRdShared g sl f s
  | .rdAny g sl f => Sys2Proof.Machine.execRdAny g sl f s
  | .rdOwn g sl f => Sys2Proof.Machine.execRdOwn g sl f s
  | .invOwn g sl f => Sys2Proof.Machine.execInvOwn g sl f s
  | .rdCur g sl f => Sys2Proof.Machine.execRdCur g sl f s
  | .writeReq g sl f => Sys2Proof.Machine.execWriteReq g sl f s
  | .evict g sl f => Sys2Proof.Machine.execEvict g sl f s
  | .retry g sl f => Sys2Proof.Machine.execRetry g sl f s
  | .birsp g sl agent key a => Sys2Proof.Machine.execBirsp g sl agent key a s
  | .biconflict g sl agent key => Sys2Proof.Machine.execBiconflict g sl agent key s
  | .snoopPathWrite g sl => Sys2Proof.Machine.execSnoopPathWrite g sl s
  | .deviceAccessComplete id ok data poison => Sys2Proof.Machine.execDeviceAccessComplete id ok data poison s
  | .snoopTimerCheck g sl => Sys2Proof.Machine.execSnoopTimerCheck g sl s
  | .discardReport g sl agent key => Sys2Proof.Machine.execDiscardReport g sl agent key s
  | .fenceSweepStep g sl agent set => Sys2Proof.Machine.execFenceSweepStep g sl agent set s
  | .fenceSweepEnd agent => Sys2Proof.Machine.execFenceSweepEnd agent s
  | .pointerStorePass g sl => Sys2Proof.Machine.execPointerStorePass g sl s
  | .fullArraySelfTestEnd g sl pass => Sys2Proof.Machine.execFullArraySelfTestEnd g sl pass s
  | .conversionStep g sl => Sys2Proof.Machine.execConversionStep g sl s
  | .conversionEnd g sl => Sys2Proof.Machine.execConversionEnd g sl s
  | .migrationSetCopy g => Sys2Proof.Machine.execMigrationSetCopy g s
  | .migrationEnd g => Sys2Proof.Machine.execMigrationEnd g s
  | .eccIntervalEnd g sl => Sys2Proof.Machine.execEccIntervalEnd g sl s
  | .sliceTestEnd g sl pass failArray failAddr => Sys2Proof.Machine.execSliceTestEnd g sl pass failArray failAddr s
  | .linkUp port p => Sys2Proof.Machine.execLinkUp port p s
  | .linkDown port cause => Sys2Proof.Machine.execLinkDown port cause s
  | .packetAtDownPort port => Sys2Proof.Machine.execPacketAtDownPort port s
  | .laneRefclkLost j => Sys2Proof.Machine.execLaneRefclkLost j s
  | .laneRefclkGood j => Sys2Proof.Machine.execLaneRefclkGood j s
  | .adaptationUpdate lane dirs ctleDir => Sys2Proof.Machine.execAdaptationUpdate lane dirs ctleDir s
  | .tapPinned lane tap => Sys2Proof.Machine.execTapPinned lane tap s
  | .idleTimerExpiry port target => Sys2Proof.Machine.execIdleTimerExpiry port target s
  | .lowPowerExitComplete port rate t => Sys2Proof.Machine.execLowPowerExitComplete port rate t s
  | .partnerMarginRequest q => Sys2Proof.Machine.execPartnerMarginRequest q s
  | .marginMeasurementEnd lane bits errors => Sys2Proof.Machine.execMarginMeasurementEnd lane bits errors s
  | .devTimeout port id => Sys2Proof.Machine.execDevTimeout port id s
  | .ingressDecode port q => Sys2Proof.Machine.execIngressDecode port q s
  | .guardRestoreEnd port copyOk => Sys2Proof.Machine.execGuardRestoreEnd port copyOk s
  | .egressEnqueue port => Sys2Proof.Machine.execEgressEnqueue port s
  | .egressPick port i0 => Sys2Proof.Machine.execEgressPick port i0 s
  | .gateEntryChange port => Sys2Proof.Machine.execGateEntryChange port s
  | .doorbell agent ep win usp => Sys2Proof.Machine.execDoorbell agent ep win usp s
  | .echoDeliveryPick g ep prio => Sys2Proof.Machine.execEchoDeliveryPick g ep prio s
  | .intDelayExpiry agent ep => Sys2Proof.Machine.execIntDelayExpiry agent ep s
  | .ringWriteAck g => Sys2Proof.Machine.execRingWriteAck g s
  | .ringRpWrite agent ep value => Sys2Proof.Machine.execRingRpWrite agent ep value s
  | .ringEnWrite agent ep value => Sys2Proof.Machine.execRingEnWrite agent ep value s
  | .registerWrite agent bar off size value => Sys2Proof.Machine.execRegisterWrite agent bar off size value s
  | .feed agent slot off bytes => Sys2Proof.Machine.execFeed agent slot off bytes s
  | .startOp agent slot => Sys2Proof.Machine.execStartOp agent slot s
  | .sealOp agent slot short => Sys2Proof.Machine.execSealOp agent slot short s
  | .verifyOp agent slot short => Sys2Proof.Machine.execVerifyOp agent slot short s
  | .scanOp agent slot => Sys2Proof.Machine.execScanOp agent slot s
  | .scanLineArrival agent slot => Sys2Proof.Machine.execScanLineArrival agent slot s
  | .drainEnd grotto gen => Sys2Proof.Machine.execDrainEnd grotto gen s
  | .drainTimeout grotto gen => Sys2Proof.Machine.execDrainTimeout grotto gen s
  | .recallSweepStep grotto g sl set => Sys2Proof.Machine.execRecallSweepStep grotto g sl set s
  | .recallSweepEnd grotto => Sys2Proof.Machine.execRecallSweepEnd grotto s
  | .generationHoldExpiry grotto gen => Sys2Proof.Machine.execGenerationHoldExpiry grotto gen s
  | .sanitizeEnd win ok => Sys2Proof.Machine.execSanitizeEnd win ok s
  | .twinWriteComplete g id copy ok => Sys2Proof.Machine.execTwinWriteComplete g id copy ok s
  | .resyncBlock win ext => Sys2Proof.Machine.execResyncBlock win ext s
  | .resyncEnd win ext => Sys2Proof.Machine.execResyncEnd win ext s
  | .windowRemoveSweepEnd win => Sys2Proof.Machine.execWindowRemoveSweepEnd win s
  | .slotLoopSample slot vin vout cur => Sys2Proof.Machine.execSlotLoopSample slot vin vout cur s
  | .faultTimerExpiry slot => Sys2Proof.Machine.execFaultTimerExpiry slot s
  | .faultTimerClear slot => Sys2Proof.Machine.execFaultTimerClear slot s
  | .fastTrip slot cur => Sys2Proof.Machine.execFastTrip slot cur s
  | .powerGood slot => Sys2Proof.Machine.execPowerGood slot s
  | .warnLeadEnd slot => Sys2Proof.Machine.execWarnLeadEnd slot s
  | .cooldownEnd slot => Sys2Proof.Machine.execCooldownEnd slot s
  | .presenceDebounced slot => Sys2Proof.Machine.execPresenceDebounced slot s
  | .slotRemoved slot => Sys2Proof.Machine.execSlotRemoved slot s
  | .fetShort slot => Sys2Proof.Machine.execFetShort slot s
  | .busSample bus mv => Sys2Proof.Machine.execBusSample bus mv s
  | .busWarningClear bus => Sys2Proof.Machine.execBusWarningClear bus s
  | .romInitEnd passA passB keptOk => Sys2Proof.Machine.execRomInitEnd passA passB keptOk s
  | .receiveTimeout => Sys2Proof.Machine.execReceiveTimeout s
  | .verifyEnd eccOk => Sys2Proof.Machine.execVerifyEnd eccOk s
  | .fuseBit readsBack => Sys2Proof.Machine.execFuseBit readsBack s
  | .startingEnd => Sys2Proof.Machine.execStartingEnd s
  | .bridgeReadTimeout id => Sys2Proof.Machine.execBridgeReadTimeout id s
  | .heartbeat cluster => Sys2Proof.Machine.execHeartbeat cluster s
  | .heartbeatIntervalEnd => Sys2Proof.Machine.execHeartbeatIntervalEnd s
  | .clusterSelfReport cluster ecc => Sys2Proof.Machine.execClusterSelfReport cluster ecc s
  | .standbyReady cluster => Sys2Proof.Machine.execStandbyReady cluster s
  | .bothRestarted cluster => Sys2Proof.Machine.execBothRestarted cluster s
  | .galleryLostDeclare g => Sys2Proof.Machine.execGalleryLostDeclare g s
  | .galleryLostHoleClose g srcGal srcPort cls => Sys2Proof.Machine.execGalleryLostHoleClose g srcGal srcPort cls s
  | .eventRecordArrival i0 => Sys2Proof.Machine.execEventRecordArrival i0 s
  | .eventNotice => Sys2Proof.Machine.execEventNotice s
  | .sessionIdleTimeout n => Sys2Proof.Machine.execSessionIdleTimeout n s
  | .commitShadowsPosted => Sys2Proof.Machine.execCommitShadowsPosted s
  | .commitLateCancel => Sys2Proof.Machine.execCommitLateCancel s
  | .lanternFrame => Sys2Proof.Machine.execLanternFrame s
  | .traceRecordAgeDrop => Sys2Proof.Machine.execTraceRecordAgeDrop s
  | .counterSweep => Sys2Proof.Machine.execCounterSweep s
  | .sweepComplete => Sys2Proof.Machine.execSweepComplete s
  | .counterWrap g k skid => Sys2Proof.Machine.execCounterWrap g k skid s
  | .sampleEnd g id port => Sys2Proof.Machine.execSampleEnd g id port s
  | .loopbackEnd port bits errors aborted => Sys2Proof.Machine.execLoopbackEnd port bits errors aborted s
  | .sessionOpen t r => Sys2Proof.Machine.execSessionOpen t r s
  | .sessionClose t r => Sys2Proof.Machine.execSessionClose t r s
  | .mgmtReset t r => Sys2Proof.Machine.execMgmtReset t r s
  | .getIdentity t r => Sys2Proof.Machine.execGetIdentity t r s
  | .getEpoch t r => Sys2Proof.Machine.execGetEpoch t r s
  | .stageBegin t r => Sys2Proof.Machine.execStageBegin t r s
  | .stageAbort t r => Sys2Proof.Machine.execStageAbort t r s
  | .commit t r => Sys2Proof.Machine.execCommit t r s
  | .portConfig t r => Sys2Proof.Machine.execPortConfig t r s
  | .portState t r => Sys2Proof.Machine.execPortState t r s
  | .portEnable t r => Sys2Proof.Machine.execPortEnable t r s
  | .laneEqTableLoad t r => Sys2Proof.Machine.execLaneEqTableLoad t r s
  | .laneMargin t r => Sys2Proof.Machine.execLaneMargin t r s
  | .hierCreate t r => Sys2Proof.Machine.execHierCreate t r s
  | .hierDestroy t r => Sys2Proof.Machine.execHierDestroy t r s
  | .grottoCreate t r => Sys2Proof.Machine.execGrottoCreate t r s
  | .grottoBind t r => Sys2Proof.Machine.execGrottoBind t r s
  | .grottoUnbind t r => Sys2Proof.Machine.execGrottoUnbind t r s
  | .grottoRecall t r => Sys2Proof.Machine.execGrottoRecall t r s
  | .grottoState t r => Sys2Proof.Machine.execGrottoState t r s
  | .windowDefine t r => Sys2Proof.Machine.execWindowDefine t r s
  | .windowRemove t r => Sys2Proof.Machine.execWindowRemove t r s
  | .windowSanitize t r => Sys2Proof.Machine.execWindowSanitize t r s
  | .windowResync t r => Sys2Proof.Machine.execWindowResync t r s
  | .guardRuleSet t r => Sys2Proof.Machine.execGuardRuleSet t r s
  | .guardRuleClear t r => Sys2Proof.Machine.execGuardRuleClear t r s
  | .guardViolationRead t r => Sys2Proof.Machine.execGuardViolationRead t r s
  | .guardViolationClear t r => Sys2Proof.Machine.execGuardViolationClear t r s
  | .schedQueueSet t r => Sys2Proof.Machine.execSchedQueueSet t r s
  | .gateListSet t r => Sys2Proof.Machine.execGateListSet t r s
  | .policerSet t r => Sys2Proof.Machine.execPolicerSet t r s
  | .wredProfileSet t r => Sys2Proof.Machine.execWredProfileSet t r s
  | .echoEndpointSet t r => Sys2Proof.Machine.execEchoEndpointSet t r s
  | .checkContextAssign t r => Sys2Proof.Machine.execCheckContextAssign t r s
  | .dirMode t r => Sys2Proof.Machine.execDirMode t r s
  | .dirSliceTest t r => Sys2Proof.Machine.execDirSliceTest t r s
  | .dirStats t r => Sys2Proof.Machine.execDirStats t r s
  | .eventRead t r => Sys2Proof.Machine.execEventRead t r s
  | .eventMask t r => Sys2Proof.Machine.execEventMask t r s
  | .columnState t r => Sys2Proof.Machine.execColumnState t r s
  | .passageTest t r => Sys2Proof.Machine.execPassageTest t r s
  | .portLoopback t r => Sys2Proof.Machine.execPortLoopback t r s
  | .slotConfig t r => Sys2Proof.Machine.execSlotConfig t r s
  | .slotPower t r => Sys2Proof.Machine.execSlotPower t r s
  | .slotState t r => Sys2Proof.Machine.execSlotState t r s
  | .traceConfig t r => Sys2Proof.Machine.execTraceConfig t r s
  | .counterConfig t r => Sys2Proof.Machine.execCounterConfig t r s
  | .counterSnapshot t r => Sys2Proof.Machine.execCounterSnapshot t r s
  | .sampleConfig t r => Sys2Proof.Machine.execSampleConfig t r s
  | .timeConfig t r => Sys2Proof.Machine.execTimeConfig t r s
  | .timeRead t r => Sys2Proof.Machine.execTimeRead t r s
  | .fwInfo t r => Sys2Proof.Machine.execFwInfo t r s
  | .loadBegin t r => Sys2Proof.Machine.execLoadBegin t r s
  | .loadData t r => Sys2Proof.Machine.execLoadData t r s
  | .loadEnd t r => Sys2Proof.Machine.execLoadEnd t r s
  | .identify t => Sys2Proof.Machine.execIdentify t s
  | .backgroundOperationStatus t => Sys2Proof.Machine.execBackgroundOperationStatus t s
  | .getResponseMessageLimit t => Sys2Proof.Machine.execGetResponseMessageLimit t s
  | .setResponseMessageLimit t limit => Sys2Proof.Machine.execSetResponseMessageLimit t limit s
  | .identifySwitchDevice t => Sys2Proof.Machine.execIdentifySwitchDevice t s
  | .getPhysicalPortState t ports => Sys2Proof.Machine.execGetPhysicalPortState t ports s
  | .getVirtualCxlSwitchInfo t vcs => Sys2Proof.Machine.execGetVirtualCxlSwitchInfo t vcs s
  | .physicalPortControl t => Sys2Proof.Machine.execPhysicalPortControl t s
  | .sendPpbCxlIoConfigRequest t => Sys2Proof.Machine.execSendPpbCxlIoConfigRequest t s
  | .bindVppb t => Sys2Proof.Machine.execBindVppb t s
  | .unbindVppb t => Sys2Proof.Machine.execUnbindVppb t s
  | .generateAerEvent t => Sys2Proof.Machine.execGenerateAerEvent t s
  | .setEndpointId t eid => Sys2Proof.Machine.execSetEndpointId t eid s
  | .getEndpointId t => Sys2Proof.Machine.execGetEndpointId t s
  | .getMctpVersionSupport t msgType => Sys2Proof.Machine.execGetMctpVersionSupport t msgType s
  | .getMessageTypeSupport t => Sys2Proof.Machine.execGetMessageTypeSupport t s
  | .getVendorDefinedMessageSupport t sel => Sys2Proof.Machine.execGetVendorDefinedMessageSupport t sel s
  | .identifyMemoryDevice grotto => Sys2Proof.Machine.execIdentifyMemoryDevice grotto s
  | .getPartitionInfo grotto => Sys2Proof.Machine.execGetPartitionInfo grotto s
  | .getEventRecords grotto log => Sys2Proof.Machine.execGetEventRecords grotto log s
  | .clearEventRecords grotto log handles => Sys2Proof.Machine.execClearEventRecords grotto log handles s
  | .getEventInterruptPolicy grotto => Sys2Proof.Machine.execGetEventInterruptPolicy grotto s
  | .setEventInterruptPolicy grotto policy => Sys2Proof.Machine.execSetEventInterruptPolicy grotto policy s
  | .sysRefclkRestored ref => Sys2Proof.Machine.execSysRefclkRestored ref s
  | .laneRefclkRestored j => Sys2Proof.Machine.execLaneRefclkRestored j s
  | .slotPrsntNChange slot high => Sys2Proof.Machine.execSlotPrsntNChange slot high s
  | .deviceReply port id c d => Sys2Proof.Machine.execDeviceReply port id c d s
  | .undefinedOpcodeRequest t op r => Sys2Proof.Machine.execUndefinedOpcodeRequest t op r s
  | .unsupportedFmApiCommand t op => Sys2Proof.Machine.execUnsupportedFmApiCommand t op s
  | .unsupportedMailboxCommand grotto op => Sys2Proof.Machine.execUnsupportedMailboxCommand grotto op s
  | .setdasa t addr => Sys2Proof.Machine.execSetdasa t addr s
  | .vidCodeValid => Sys2Proof.Machine.execVidCodeValid s
  | .keptImageUncorrectable => Sys2Proof.Machine.execKeptImageUncorrectable s
  | .linkStateChange port state rate t => Sys2Proof.Machine.execLinkStateChange port state rate t s
  | .windowSweepStep win g sl set => Sys2Proof.Machine.execWindowSweepStep win g sl set s

end Sys2Proof.Machine
end

