-- ==== Sys2Proof/Machine/Tick.lean ====
section
/-!
DEFINITION. The passing of one drip.
-/

namespace Sys2Proof.Machine

/-- What goes on by itself in the present drip: transfers cross the bridge (R298), the cells of the slots start (R38), bytes arrive and packets that wait are tried again
(R70, R83), messages that wait for a seal (R271), the waits inside the galleries after them (log 155), and what has become whole leaves (R85). -/
def serveDrip (s : State) : State :=
  let s := servePorts (launchAll (drainBridge s))
  let s := forEach ((s.echo.isls.filter (fun e => !e.2.held.isEmpty)).map (·.1)) s serveHeld
  let s := forEach ((s.core.gals.filter (fun e => !e.2.outWait.isEmpty)).map (·.1)) s retryOut
  forEach ((s.sched.filter (fun e => !e.2.sending.isEmpty)).map (·.1)) s settleSent

/-- One drip passes: what counts drips counts, every counter in phase counts by one, modulo 2^64 (R14), the edge's counters are kept (R26),
and the new drip's own work is done; none counts while cold reset holds it. -/
def tick (s : State) : State :=
  if s.mgmt.coldRst then s
  else
    let s := countDrip s
    serveDrip (takeEdge { s with time := { s.time with drip := (s.time.drip + 1) % 2 ^ 64, elapsed := s.time.elapsed + 1 } })

end Sys2Proof.Machine
end

