-- ==== Sys2Proof/WellFormed.lean ====
section
/-!
DEFINITION. Which commands the outside can send: every operand within the range the spec gives what it names. A command that
is not well formed still has a meaning (it names nothing there is); `Instr.wf` says which ones the wires and messages can spell.
-/

namespace Sys2Proof

/-- One of two: a counter of the time master, an end of a passage, the level of `BOOT_SEL` (R15, R50, R308). -/
def isHalf (n : Nat) : Bool :=
  decide (n < 2)

/-- A die: galleries 0-7, columns 8-11, the management die 12 (R354). -/
def isDie (n : Nat) : Bool :=
  decide (n ≤ 12)

/-- A reading of every die (R354). -/
def isTemps (l : List Nat) : Bool :=
  decide (l.length = 13)

/-- A reading of every rail (R354). -/
def isRails (l : List Nat) : Bool :=
  decide (l.length = 31)

/-- A system reference, A or B (R16). -/
def isReference (n : Nat) : Bool :=
  decide (n < 2)

/-- An island (R13). -/
def isIsland (n : Nat) : Bool :=
  decide (n < 290)

/-- A gallery (R2). -/
def isGallery (n : Nat) : Bool :=
  decide (n < 8)

/-- A column (R2). -/
def isColumn (n : Nat) : Bool :=
  decide (n < 4)

/-- The bits a cell header lost on the wires (R34). -/
def isHeaderMask (n : Nat) : Bool :=
  decide (n < 2 ^ 128)

/-- One bit per gallery (R42). -/
def isGalleryMask (n : Nat) : Bool :=
  decide (n < 256)

/-- One bit per class (R57). -/
def isClassMask (n : Nat) : Bool :=
  decide (n < 128)

/-- A traffic class (R35). -/
def isClass (n : Nat) : Bool :=
  decide (n < 7)

/-- A byte of a message. -/
def isByte (n : Nat) : Bool :=
  decide (n < 256)

/-- A passage, 4g + c (R50). -/
def isPassage (n : Nat) : Bool :=
  decide (n < 32)

/-- A source port of a gallery: its 64 ports and what its core sends from (R34). -/
def isLocalPort (n : Nat) : Bool :=
  decide (n < 72)

/-- A directory slice, S0-S8 (R89). -/
def isSliceNo (n : Nat) : Bool :=
  decide (n < 9)

/-- An agent ID (R11). -/
def isAgent (n : Nat) : Bool :=
  decide (n < 256)

/-- A directory key K (R87). -/
def isLineKey (n : Nat) : Bool :=
  decide (n < 2 ^ 45)

/-- A directory set (R88). -/
def isSet (n : Nat) : Bool :=
  decide (n < 65536)

/-- A port (R2). -/
def isBundle (n : Nat) : Bool :=
  decide (n < 512)

/-- A lane reference clock (R2). -/
def isLaneClock (n : Nat) : Bool :=
  decide (n < 32)

/-- A lane (R2). -/
def isLane (n : Nat) : Bool :=
  decide (n < 1024)

/-- A receiver tap (R138). -/
def isTap (n : Nat) : Bool :=
  decide (n < 12)

/-- A sign of the sign-sign LMS update (R142). -/
def isStep (d : Int) : Bool :=
  decide (-1 ≤ d) && decide (d ≤ 1)

/-- The signs of the taps (R142). -/
def isSteps (l : List Int) : Bool :=
  l.all isStep

/-- An endpoint of a hierarchy (R242). -/
def isLocalEndpoint (n : Nat) : Bool :=
  decide (n < 16)

/-- An endpoint of the part: 16 of each hierarchy (R242). -/
def isEndpoint (n : Nat) : Bool :=
  decide (n < 4096)

/-- A send window of an endpoint (R245). -/
def isSendWindow (n : Nat) : Bool :=
  decide (n < 4)

/-- A register block of the service function (R245, R247, R264). -/
def isBar (n : Nat) : Bool :=
  decide (n < 3)

/-- An offset inside a register block. -/
def isOffset (n : Nat) : Bool :=
  decide (n < 65536)

/-- The size of a register access (R4). -/
def isAccessSize (n : Nat) : Bool :=
  n == 1 || n == 2 || n == 4 || n == 8

/-- A check-value slot of a hierarchy (R261). -/
def isCheckSlot (n : Nat) : Bool :=
  decide (n < 32)

/-- A grotto (R198). -/
def isGrotto (n : Nat) : Bool :=
  decide (n ≤ 4095)

/-- A window (R177). -/
def isWindow (n : Nat) : Bool :=
  decide (n ≤ 1023)

/-- An extent of a window: 16 segments of 16 ways (R177). -/
def isExtent (n : Nat) : Bool :=
  decide (n < 256)

/-- A power slot (R273). -/
def isPowerSlot (n : Nat) : Bool :=
  decide (n < 128)

/-- An input bus (R284). -/
def isBus (n : Nat) : Bool :=
  decide (n < 4)

/-- A processor cluster (R293). -/
def isCluster (n : Nat) : Bool :=
  decide (n < 2)

/-- A session (R319). -/
def isSession (n : Nat) : Bool :=
  decide (n < 8)

/-- A programmable counter (R364). -/
def isProgCounter (n : Nat) : Bool :=
  decide (n < 8)

/-- An opcode of 16 bits (R311). -/
def isOpcode (n : Nat) : Bool :=
  decide (n < 65536)

/-- An I3C address (R308). -/
def isBusAddress (n : Nat) : Bool :=
  decide (n < 128)

/-- A `LINK` code of `PORT_STATE` (R171). -/
def isLinkCode (n : Nat) : Bool :=
  decide (n ≤ 7)

/-- Event record handles (R182). -/
def isHandles (l : List Nat) : Bool :=
  l.all (fun h => decide (h < 65536))

/-- A transport; a hierarchy mailbox names its agent (R308). -/
def isTransport (t : Transport) : Bool :=
  match t with
  | .boot => true
  | .i3cA => true
  | .i3cB => true
  | .mailbox a => isAgent a

/-- A request whose header fields fit the 16 bytes of R311. -/
def isRequest (r : Req) : Bool :=
  decide (r.eid < 256) && decide (r.session < 256) && decide (r.alive < 256) && decide (r.flags < 256) && decide (r.rsv < 256) &&
    decide (r.plen < 65536) && decide (r.epoch < 2 ^ 32) && decide (r.crc < 2 ^ 32)

/-- One of a grotto's 8 decoders, with interleave ways and granularity that are not 0 (R182). -/
def isDecoder (d : Option (Nat × Hdm)) : Bool :=
  match d with
  | some (i, h) => decide (i < 8) && decide (1 ≤ h.ways) && decide (1 ≤ h.gran)
  | none => true

/-- A fault of one of a guard's 64 rules (R207, R216). -/
def isRuleFault (f : RuleFault) : Bool :=
  match f with
  | .none => true
  | .corrected r => decide (r < 64)
  | .uncorrectable r => decide (r < 64)

/-- A message whose fields fit its format; it carries no more data than its length (R205). -/
def isHostReq (q : HostReq) : Bool :=
  decide (q.vppb < 256) && decide (q.addr < 2 ^ 64) && decide (q.len ≤ 4096) && decide (q.tag < 65536) && decide (q.requester < 65536) &&
    q.data.length ≤ q.len && decide (q.data.length ≤ 512) && decide (q.spid < 4096) && decide (q.dpid < 4096) && decide (q.dev < 32) &&
    decide (q.fn < 8) && isDecoder q.hdm && isRuleFault q.store

/-- An array error at a way the arrays have (R88, R129). -/
def isFault (f : LookupFault) : Bool :=
  match f with
  | .none => true
  | .corrected w => decide (w < 96)
  | .uncorrectable w _ _ => decide (w < 96)
  | .shadowLost w => decide (w < 96)
  | .stashCopy => true
  | .stashBoth => true

/-- A partner with a rate of R131 and 1-16 lanes (R152). -/
def isPartner (p : Partner) : Bool :=
  decide (p.rate ≤ 6) && decide (p.maxRate ≤ 6) && decide (1 ≤ p.lanes) && decide (p.lanes ≤ 16)

/-- A flit boundary inside the present drip, and a packet of at least one flit (R223). -/
def isPickIn (i : PickIn) : Bool :=
  decide (i.credit < 128) && decide (i.frac < 3200) && decide (1 ≤ i.flits) && i.each.all (fun e => decide (1 ≤ e.2))

/-- The command is one the outside can send. -/
def Instr.wf : Instr → Bool
  | .coldResetAssert _ => true
  | .coldResetRelease bootSel => isHalf bootSel
  | .mgmtResetAssert => true
  | .mgmtResetRelease => true
  | .thermalTrip die _ => isDie die
  | .monitorSample temps rails => isTemps temps && isRails rails
  | .refClockLost ref => isReference ref
  | .refGoodTimer ref => isReference ref
  | .masterSplit bad => isHalf bad
  | .beaconSend => true
  | .beaconReceived island _ _ _ _ => isIsland island
  | .beaconMissed island _ => isIsland island
  | .recalibrationStart island => isIsland island
  | .calibrationEnd island _ => isIsland island
  | .armMessage _ island => isIsland island
  | .launchDecide _ => true
  | .launch _ => true
  | .ppsEdge _ => true
  | .ppsMissing => true
  | .ppsOutPulse => true
  | .slotBoundary r => isGallery r.gal && r.bad.all (fun e => isColumn e.1 && decide (e.2 < 168))
  | .rotationBoundary g => isGallery g
  | .columnCrossbarChange c _ => isColumn c
  | .columnDrainEnd g c => isGallery g && isColumn c
  | .probingEnd c => isColumn c
  | .admissionTimeout c => isColumn c
  | .cellArrival g c mask => isGallery g && isColumn c && isHeaderMask mask
  | .ackTimer g c i => isGallery g && isColumn c && isGallery i
  | .ackReceived g c m _ _ => isGallery g && isColumn c && isGallery m
  | .ackTimeout g c => isGallery g && isColumn c
  | .receiveBufferRelease g c => isGallery g && isColumn c.col
  | .advert g c m relayOpen xoff => isGallery g && isColumn c && isGallery m && isGalleryMask relayOpen && isClassMask xoff
  | .flow g c m xoff => isGallery g && isColumn c && isGallery m && isClassMask xoff
  | .grantSend g c cls => isGallery g && isColumn c && isClass cls
  | .grant g c m cls count _ => isGallery g && isColumn c && isGallery m && isClass cls && isByte count
  | .grantExpiry g c cls _ => isGallery g && isColumn c && isClass cls
  | .notice g _ _ => isGallery g
  | .passageError p endp _ _ => isPassage p && isHalf endp
  | .forwardedClockLost p endp _ => isPassage p && isHalf endp
  | .kill p endp => isPassage p && isHalf endp
  | .passageDrainEnd p => isPassage p
  | .passageTestEnd p _ _ _ => isPassage p
  | .passageAdmitEnd p _ _ => isPassage p
  | .reseqHoleTimeout g srcGal srcPort cls => isGallery g && isGallery srcGal && isLocalPort srcPort && isClass cls
  | .rdShared g sl f => isGallery g && isSliceNo sl && isFault f
  | .rdAny g sl f => isGallery g && isSliceNo sl && isFault f
  | .rdOwn g sl f => isGallery g && isSliceNo sl && isFault f
  | .invOwn g sl f => isGallery g && isSliceNo sl && isFault f
  | .rdCur g sl f => isGallery g && isSliceNo sl && isFault f
  | .writeReq g sl f => isGallery g && isSliceNo sl && isFault f
  | .evict g sl f => isGallery g && isSliceNo sl && isFault f
  | .retry g sl f => isGallery g && isSliceNo sl && isFault f
  | .birsp g sl agent key a => isGallery g && isSliceNo sl && isAgent agent && isLineKey key && isFault a.fault
  | .biconflict g sl agent key => isGallery g && isSliceNo sl && isAgent agent && isLineKey key
  | .snoopPathWrite g sl => isGallery g && isSliceNo sl
  | .deviceAccessComplete _ _ _ _ => true
  | .snoopTimerCheck g sl => isGallery g && isSliceNo sl
  | .discardReport g sl agent key => isGallery g && isSliceNo sl && isAgent agent && isLineKey key
  | .fenceSweepStep g sl agent set => isGallery g && isSliceNo sl && isAgent agent && isSet set
  | .fenceSweepEnd agent => isAgent agent
  | .pointerStorePass g sl => isGallery g && isSliceNo sl
  | .fullArraySelfTestEnd g sl _ => isGallery g && isSliceNo sl
  | .conversionStep g sl => isGallery g && isSliceNo sl
  | .conversionEnd g sl => isGallery g && isSliceNo sl
  | .migrationSetCopy g => isGallery g
  | .migrationEnd g => isGallery g
  | .eccIntervalEnd g sl => isGallery g && isSliceNo sl
  | .sliceTestEnd g sl _ _ _ => isGallery g && isSliceNo sl
  | .linkUp port p => isBundle port && isPartner p
  | .linkDown port _ => isBundle port
  | .packetAtDownPort port => isBundle port
  | .laneRefclkLost j => isLaneClock j
  | .laneRefclkGood j => isLaneClock j
  | .adaptationUpdate lane dirs ctleDir => isLane lane && isSteps dirs && isStep ctleDir
  | .tapPinned lane tap => isLane lane && isTap tap
  | .idleTimerExpiry port _ => isBundle port
  | .lowPowerExitComplete port rate _ => isBundle port && decide (rate ≤ 6)
  | .partnerMarginRequest q => isLane q.lane
  | .marginMeasurementEnd lane _ _ => isLane lane
  | .devTimeout port _ => isBundle port
  | .ingressDecode port q => isBundle port && isHostReq q
  | .guardRestoreEnd port _ => isBundle port
  | .egressEnqueue port => isBundle port
  | .egressPick port i => isBundle port && isPickIn i
  | .gateEntryChange port => isBundle port
  | .doorbell agent ep win usp => isAgent agent && isLocalEndpoint ep && isSendWindow win && isBundle usp
  | .echoDeliveryPick g ep prio => isGallery g && isEndpoint ep && decide (prio < 8)
  | .intDelayExpiry agent ep => isAgent agent && isLocalEndpoint ep
  | .ringWriteAck g => isGallery g
  | .ringRpWrite agent ep _ => isAgent agent && isLocalEndpoint ep
  | .ringEnWrite agent ep _ => isAgent agent && isLocalEndpoint ep
  | .registerWrite agent bar off size _ => isAgent agent && isBar bar && isOffset off && isAccessSize size
  | .feed agent slot off _ => isAgent agent && isCheckSlot slot.slot && isOffset off
  | .startOp agent slot => isAgent agent && isCheckSlot slot.slot
  | .sealOp agent slot _ => isAgent agent && isCheckSlot slot.slot
  | .verifyOp agent slot _ => isAgent agent && isCheckSlot slot.slot
  | .scanOp agent slot => isAgent agent && isCheckSlot slot
  | .scanLineArrival agent slot => isAgent agent && isCheckSlot slot.slot
  | .drainEnd grotto _ => isGrotto grotto
  | .drainTimeout grotto _ => isGrotto grotto
  | .recallSweepStep grotto g sl set => isGrotto grotto && isGallery g && isSliceNo sl && isSet set
  | .recallSweepEnd grotto => isGrotto grotto
  | .generationHoldExpiry grotto _ => isGrotto grotto
  | .sanitizeEnd win _ => isWindow win
  | .twinWriteComplete g _ _ _ => isGallery g
  | .resyncBlock win ext => isWindow win && isExtent ext
  | .resyncEnd win ext => isWindow win && isExtent ext
  | .windowRemoveSweepEnd win => isWindow win
  | .slotLoopSample slot _ _ _ => isPowerSlot slot
  | .faultTimerExpiry slot => isPowerSlot slot
  | .faultTimerClear slot => isPowerSlot slot
  | .fastTrip slot _ => isPowerSlot slot
  | .powerGood slot => isPowerSlot slot
  | .warnLeadEnd slot => isPowerSlot slot
  | .cooldownEnd slot => isPowerSlot slot
  | .presenceDebounced slot => isPowerSlot slot
  | .slotRemoved slot => isPowerSlot slot
  | .fetShort slot => isPowerSlot slot
  | .busSample bus _ => isBus bus
  | .busWarningClear bus => isBus bus
  | .romInitEnd _ _ _ => true
  | .receiveTimeout => true
  | .verifyEnd _ => true
  | .fuseBit _ => true
  | .startingEnd => true
  | .bridgeReadTimeout _ => true
  | .heartbeat cluster => isCluster cluster
  | .heartbeatIntervalEnd => true
  | .clusterSelfReport cluster _ => isCluster cluster
  | .standbyReady cluster => isCluster cluster
  | .bothRestarted cluster => isCluster cluster
  | .galleryLostDeclare g => isGallery g
  | .galleryLostHoleClose g srcGal srcPort cls => isGallery g && isGallery srcGal && isLocalPort srcPort && isClass cls
  | .eventRecordArrival _ => true
  | .eventNotice => true
  | .sessionIdleTimeout n => isSession n
  | .commitShadowsPosted => true
  | .commitLateCancel => true
  | .lanternFrame => true
  | .traceRecordAgeDrop => true
  | .counterSweep => true
  | .sweepComplete => true
  | .counterWrap g k _ => isGallery g && isProgCounter k
  | .sampleEnd g _ port => isGallery g && isBundle port
  | .loopbackEnd port _ _ _ => isBundle port
  | .sessionOpen t r => isTransport t && isRequest r
  | .sessionClose t r => isTransport t && isRequest r
  | .mgmtReset t r => isTransport t && isRequest r
  | .getIdentity t r => isTransport t && isRequest r
  | .getEpoch t r => isTransport t && isRequest r
  | .stageBegin t r => isTransport t && isRequest r
  | .stageAbort t r => isTransport t && isRequest r
  | .commit t r => isTransport t && isRequest r
  | .portConfig t r => isTransport t && isRequest r
  | .portState t r => isTransport t && isRequest r
  | .portEnable t r => isTransport t && isRequest r
  | .laneEqTableLoad t r => isTransport t && isRequest r
  | .laneMargin t r => isTransport t && isRequest r
  | .hierCreate t r => isTransport t && isRequest r
  | .hierDestroy t r => isTransport t && isRequest r
  | .grottoCreate t r => isTransport t && isRequest r
  | .grottoBind t r => isTransport t && isRequest r
  | .grottoUnbind t r => isTransport t && isRequest r
  | .grottoRecall t r => isTransport t && isRequest r
  | .grottoState t r => isTransport t && isRequest r
  | .windowDefine t r => isTransport t && isRequest r
  | .windowRemove t r => isTransport t && isRequest r
  | .windowSanitize t r => isTransport t && isRequest r
  | .windowResync t r => isTransport t && isRequest r
  | .guardRuleSet t r => isTransport t && isRequest r
  | .guardRuleClear t r => isTransport t && isRequest r
  | .guardViolationRead t r => isTransport t && isRequest r
  | .guardViolationClear t r => isTransport t && isRequest r
  | .schedQueueSet t r => isTransport t && isRequest r
  | .gateListSet t r => isTransport t && isRequest r
  | .policerSet t r => isTransport t && isRequest r
  | .wredProfileSet t r => isTransport t && isRequest r
  | .echoEndpointSet t r => isTransport t && isRequest r
  | .checkContextAssign t r => isTransport t && isRequest r
  | .dirMode t r => isTransport t && isRequest r
  | .dirSliceTest t r => isTransport t && isRequest r
  | .dirStats t r => isTransport t && isRequest r
  | .eventRead t r => isTransport t && isRequest r
  | .eventMask t r => isTransport t && isRequest r
  | .columnState t r => isTransport t && isRequest r
  | .passageTest t r => isTransport t && isRequest r
  | .portLoopback t r => isTransport t && isRequest r
  | .slotConfig t r => isTransport t && isRequest r
  | .slotPower t r => isTransport t && isRequest r
  | .slotState t r => isTransport t && isRequest r
  | .traceConfig t r => isTransport t && isRequest r
  | .counterConfig t r => isTransport t && isRequest r
  | .counterSnapshot t r => isTransport t && isRequest r
  | .sampleConfig t r => isTransport t && isRequest r
  | .timeConfig t r => isTransport t && isRequest r
  | .timeRead t r => isTransport t && isRequest r
  | .fwInfo t r => isTransport t && isRequest r
  | .loadBegin t r => isTransport t && isRequest r
  | .loadData t r => isTransport t && isRequest r
  | .loadEnd t r => isTransport t && isRequest r
  | .identify t => isTransport t
  | .backgroundOperationStatus t => isTransport t
  | .getResponseMessageLimit t => isTransport t
  | .setResponseMessageLimit t limit => isTransport t && isByte limit
  | .identifySwitchDevice t => isTransport t
  | .getPhysicalPortState t _ => isTransport t
  | .getVirtualCxlSwitchInfo t vcs => isTransport t && isAgent vcs
  | .physicalPortControl t => isTransport t
  | .sendPpbCxlIoConfigRequest t => isTransport t
  | .bindVppb t => isTransport t
  | .unbindVppb t => isTransport t
  | .generateAerEvent t => isTransport t
  | .setEndpointId t eid => isTransport t && isByte eid
  | .getEndpointId t => isTransport t
  | .getMctpVersionSupport t msgType => isTransport t && isByte msgType
  | .getMessageTypeSupport t => isTransport t
  | .getVendorDefinedMessageSupport t sel => isTransport t && isByte sel
  | .identifyMemoryDevice grotto => isGrotto grotto
  | .getPartitionInfo grotto => isGrotto grotto
  | .getEventRecords grotto log => isGrotto grotto && isByte log
  | .clearEventRecords grotto log handles => isGrotto grotto && isByte log && isHandles handles
  | .getEventInterruptPolicy grotto => isGrotto grotto
  | .setEventInterruptPolicy grotto _ => isGrotto grotto
  | .sysRefclkRestored ref => isReference ref
  | .laneRefclkRestored j => isLaneClock j
  | .slotPrsntNChange slot _ => isPowerSlot slot
  | .deviceReply port _ _ d => isBundle port && decide (d.bytes.length ≤ 64)
  | .undefinedOpcodeRequest t op r => isTransport t && isOpcode op && isRequest r
  | .unsupportedFmApiCommand t op => isTransport t && isOpcode op
  | .unsupportedMailboxCommand grotto op => isGrotto grotto && isOpcode op
  | .setdasa t addr => isTransport t && isBusAddress addr
  | .vidCodeValid => true
  | .keptImageUncorrectable => true
  | .linkStateChange port state rate _ => isBundle port && isLinkCode state && decide (rate ≤ 6)
  | .windowSweepStep win g sl set => isWindow win && isGallery g && isSliceNo sl && isSet set

/-- The gallery whose parts a command works on, where an operand names it (R2). -/
def Instr.gallery : Instr → Option Nat
  | .coldResetAssert _ => none
  | .coldResetRelease _ => none
  | .mgmtResetAssert => none
  | .mgmtResetRelease => none
  | .thermalTrip _ _ => none
  | .monitorSample _ _ => none
  | .refClockLost _ => none
  | .refGoodTimer _ => none
  | .masterSplit _ => none
  | .beaconSend => none
  | .beaconReceived _ _ _ _ _ => none
  | .beaconMissed _ _ => none
  | .recalibrationStart _ => none
  | .calibrationEnd _ _ => none
  | .armMessage _ _ => none
  | .launchDecide _ => none
  | .launch _ => none
  | .ppsEdge _ => none
  | .ppsMissing => none
  | .ppsOutPulse => none
  | .slotBoundary r => some r.gal
  | .rotationBoundary g => some g
  | .columnCrossbarChange _ _ => none
  | .columnDrainEnd g _ => some g
  | .probingEnd _ => none
  | .admissionTimeout _ => none
  | .cellArrival g _ _ => some g
  | .ackTimer g _ _ => some g
  | .ackReceived g _ _ _ _ => some g
  | .ackTimeout g _ => some g
  | .receiveBufferRelease g _ => some g
  | .advert g _ _ _ _ => some g
  | .flow g _ _ _ => some g
  | .grantSend g _ _ => some g
  | .grant g _ _ _ _ _ => some g
  | .grantExpiry g _ _ _ => some g
  | .notice g _ _ => some g
  | .passageError _ _ _ _ => none
  | .forwardedClockLost _ _ _ => none
  | .kill _ _ => none
  | .passageDrainEnd _ => none
  | .passageTestEnd _ _ _ _ => none
  | .passageAdmitEnd _ _ _ => none
  | .reseqHoleTimeout g _ _ _ => some g
  | .rdShared g _ _ => some g
  | .rdAny g _ _ => some g
  | .rdOwn g _ _ => some g
  | .invOwn g _ _ => some g
  | .rdCur g _ _ => some g
  | .writeReq g _ _ => some g
  | .evict g _ _ => some g
  | .retry g _ _ => some g
  | .birsp g _ _ _ _ => some g
  | .biconflict g _ _ _ => some g
  | .snoopPathWrite g _ => some g
  | .deviceAccessComplete _ _ _ _ => none
  | .snoopTimerCheck g _ => some g
  | .discardReport g _ _ _ => some g
  | .fenceSweepStep g _ _ _ => some g
  | .fenceSweepEnd _ => none
  | .pointerStorePass g _ => some g
  | .fullArraySelfTestEnd g _ _ => some g
  | .conversionStep g _ => some g
  | .conversionEnd g _ => some g
  | .migrationSetCopy g => some g
  | .migrationEnd g => some g
  | .eccIntervalEnd g _ => some g
  | .sliceTestEnd g _ _ _ _ => some g
  | .linkUp _ _ => none
  | .linkDown _ _ => none
  | .packetAtDownPort _ => none
  | .laneRefclkLost _ => none
  | .laneRefclkGood _ => none
  | .adaptationUpdate _ _ _ => none
  | .tapPinned _ _ => none
  | .idleTimerExpiry _ _ => none
  | .lowPowerExitComplete _ _ _ => none
  | .partnerMarginRequest _ => none
  | .marginMeasurementEnd _ _ _ => none
  | .devTimeout _ _ => none
  | .ingressDecode _ _ => none
  | .guardRestoreEnd _ _ => none
  | .egressEnqueue _ => none
  | .egressPick _ _ => none
  | .gateEntryChange _ => none
  | .doorbell _ _ _ _ => none
  | .echoDeliveryPick g _ _ => some g
  | .intDelayExpiry _ _ => none
  | .ringWriteAck g => some g
  | .ringRpWrite _ _ _ => none
  | .ringEnWrite _ _ _ => none
  | .registerWrite _ _ _ _ _ => none
  | .feed _ _ _ _ => none
  | .startOp _ _ => none
  | .sealOp _ _ _ => none
  | .verifyOp _ _ _ => none
  | .scanOp _ _ => none
  | .scanLineArrival _ _ => none
  | .drainEnd _ _ => none
  | .drainTimeout _ _ => none
  | .recallSweepStep _ g _ _ => some g
  | .recallSweepEnd _ => none
  | .generationHoldExpiry _ _ => none
  | .sanitizeEnd _ _ => none
  | .twinWriteComplete g _ _ _ => some g
  | .resyncBlock _ _ => none
  | .resyncEnd _ _ => none
  | .windowRemoveSweepEnd _ => none
  | .slotLoopSample _ _ _ _ => none
  | .faultTimerExpiry _ => none
  | .faultTimerClear _ => none
  | .fastTrip _ _ => none
  | .powerGood _ => none
  | .warnLeadEnd _ => none
  | .cooldownEnd _ => none
  | .presenceDebounced _ => none
  | .slotRemoved _ => none
  | .fetShort _ => none
  | .busSample _ _ => none
  | .busWarningClear _ => none
  | .romInitEnd _ _ _ => none
  | .receiveTimeout => none
  | .verifyEnd _ => none
  | .fuseBit _ => none
  | .startingEnd => none
  | .bridgeReadTimeout _ => none
  | .heartbeat _ => none
  | .heartbeatIntervalEnd => none
  | .clusterSelfReport _ _ => none
  | .standbyReady _ => none
  | .bothRestarted _ => none
  | .galleryLostDeclare g => some g
  | .galleryLostHoleClose g _ _ _ => some g
  | .eventRecordArrival _ => none
  | .eventNotice => none
  | .sessionIdleTimeout _ => none
  | .commitShadowsPosted => none
  | .commitLateCancel => none
  | .lanternFrame => none
  | .traceRecordAgeDrop => none
  | .counterSweep => none
  | .sweepComplete => none
  | .counterWrap g _ _ => some g
  | .sampleEnd g _ _ => some g
  | .loopbackEnd _ _ _ _ => none
  | .sessionOpen _ _ => none
  | .sessionClose _ _ => none
  | .mgmtReset _ _ => none
  | .getIdentity _ _ => none
  | .getEpoch _ _ => none
  | .stageBegin _ _ => none
  | .stageAbort _ _ => none
  | .commit _ _ => none
  | .portConfig _ _ => none
  | .portState _ _ => none
  | .portEnable _ _ => none
  | .laneEqTableLoad _ _ => none
  | .laneMargin _ _ => none
  | .hierCreate _ _ => none
  | .hierDestroy _ _ => none
  | .grottoCreate _ _ => none
  | .grottoBind _ _ => none
  | .grottoUnbind _ _ => none
  | .grottoRecall _ _ => none
  | .grottoState _ _ => none
  | .windowDefine _ _ => none
  | .windowRemove _ _ => none
  | .windowSanitize _ _ => none
  | .windowResync _ _ => none
  | .guardRuleSet _ _ => none
  | .guardRuleClear _ _ => none
  | .guardViolationRead _ _ => none
  | .guardViolationClear _ _ => none
  | .schedQueueSet _ _ => none
  | .gateListSet _ _ => none
  | .policerSet _ _ => none
  | .wredProfileSet _ _ => none
  | .echoEndpointSet _ _ => none
  | .checkContextAssign _ _ => none
  | .dirMode _ _ => none
  | .dirSliceTest _ _ => none
  | .dirStats _ _ => none
  | .eventRead _ _ => none
  | .eventMask _ _ => none
  | .columnState _ _ => none
  | .passageTest _ _ => none
  | .portLoopback _ _ => none
  | .slotConfig _ _ => none
  | .slotPower _ _ => none
  | .slotState _ _ => none
  | .traceConfig _ _ => none
  | .counterConfig _ _ => none
  | .counterSnapshot _ _ => none
  | .sampleConfig _ _ => none
  | .timeConfig _ _ => none
  | .timeRead _ _ => none
  | .fwInfo _ _ => none
  | .loadBegin _ _ => none
  | .loadData _ _ => none
  | .loadEnd _ _ => none
  | .identify _ => none
  | .backgroundOperationStatus _ => none
  | .getResponseMessageLimit _ => none
  | .setResponseMessageLimit _ _ => none
  | .identifySwitchDevice _ => none
  | .getPhysicalPortState _ _ => none
  | .getVirtualCxlSwitchInfo _ _ => none
  | .physicalPortControl _ => none
  | .sendPpbCxlIoConfigRequest _ => none
  | .bindVppb _ => none
  | .unbindVppb _ => none
  | .generateAerEvent _ => none
  | .setEndpointId _ _ => none
  | .getEndpointId _ => none
  | .getMctpVersionSupport _ _ => none
  | .getMessageTypeSupport _ => none
  | .getVendorDefinedMessageSupport _ _ => none
  | .identifyMemoryDevice _ => none
  | .getPartitionInfo _ => none
  | .getEventRecords _ _ => none
  | .clearEventRecords _ _ _ => none
  | .getEventInterruptPolicy _ => none
  | .setEventInterruptPolicy _ _ => none
  | .sysRefclkRestored _ => none
  | .laneRefclkRestored _ => none
  | .slotPrsntNChange _ _ => none
  | .deviceReply _ _ _ _ => none
  | .undefinedOpcodeRequest _ _ _ => none
  | .unsupportedFmApiCommand _ _ => none
  | .unsupportedMailboxCommand _ _ => none
  | .setdasa _ _ => none
  | .vidCodeValid => none
  | .keptImageUncorrectable => none
  | .linkStateChange _ _ _ _ => none
  | .windowSweepStep _ g _ _ => some g

end Sys2Proof
end

