-- ==== Sys2Proof/Safety.lean ====
section
/-!
DEFINITION. The terms the claims use: the fuses that stay burnt, and a request that passes every check of R314.
-/

namespace Sys2Proof.Machine

/-- Every fuse bit of `K` and `R` is burnt: the revoked keys and the rollback fuses (R292). -/
def burnt (K R : Nat) (s : State) : Prop :=
  K &&& s.mgmt.keyRevoked = K ∧ R &&& s.mgmt.rollback = R

/-- Nothing is under way that a drip would carry on by itself: no counter counts a state (R365, R364), nothing crosses the bridge
(R298), no cell is planned for later in its slot (R40), no message waits for a seal (R251), and no packet forms, waits at a port or in a
gallery, or is being sent (R72, R83, R85). -/
def atRest (s : State) : Bool :=
  (List.range 8).all (fun g => (tget [] s.cfg.progs g).isEmpty) && (List.range 32).all (fun p => (s.pas p).xoff == 0) &&
    s.mgmt.bridge.isEmpty && s.core.pas.all (fun e => (s.pas e.1).plan.isEmpty) &&
    s.port.ports.all (fun e => e.2.forming.isEmpty && e.2.waiting.isEmpty) && s.echo.isls.all (fun e => e.2.held.isEmpty) &&
    s.core.gals.all (fun e => e.2.outWait.isEmpty) && s.sched.all (fun e => e.2.sending.isEmpty)

/-- The vendor commands with their opcodes (R333). -/
def vendorCmds : List (Nat × (Transport → Req → Instr)) :=
  [(0xC000, .sessionOpen), (0xC001, .sessionClose), (0xC002, .mgmtReset), (0xC003, .getIdentity), (0xC004, .getEpoch)] ++
    [(0xC010, .stageBegin), (0xC011, .stageAbort), (0xC012, .commit), (0xC020, .portConfig), (0xC021, .portState)] ++
    [(0xC022, .portEnable), (0xC023, .laneEqTableLoad), (0xC024, .laneMargin), (0xC030, .hierCreate), (0xC031, .hierDestroy)] ++
    [(0xC032, .grottoCreate), (0xC033, .grottoBind), (0xC034, .grottoUnbind), (0xC035, .grottoRecall), (0xC036, .grottoState)] ++
    [(0xC040, .windowDefine), (0xC041, .windowRemove), (0xC042, .windowSanitize), (0xC043, .windowResync), (0xC050, .guardRuleSet)] ++
    [(0xC051, .guardRuleClear), (0xC052, .guardViolationRead), (0xC053, .guardViolationClear), (0xC060, .schedQueueSet), (0xC061, .gateListSet)] ++
    [(0xC062, .policerSet), (0xC063, .wredProfileSet), (0xC070, .echoEndpointSet), (0xC071, .checkContextAssign), (0xC080, .dirMode)] ++
    [(0xC081, .dirSliceTest), (0xC082, .dirStats), (0xC090, .eventRead), (0xC091, .eventMask), (0xC092, .columnState)] ++
    [(0xC093, .passageTest), (0xC094, .portLoopback), (0xC0A0, .slotConfig), (0xC0A1, .slotPower), (0xC0A2, .slotState)] ++
    [(0xC0B0, .traceConfig), (0xC0B1, .counterConfig), (0xC0B2, .counterSnapshot), (0xC0B3, .sampleConfig), (0xC0C0, .timeConfig)] ++
    [(0xC0C1, .timeRead), (0xC0D0, .fwInfo), (0xC0F0, .loadBegin), (0xC0F1, .loadData), (0xC0F2, .loadEnd)]

/-- The commands that only an `OWNER` session may use, whatever their payload (R319, R333). -/
def ownerCmds : List (Nat × (Transport → Req → Instr)) :=
  [(0xC010, .stageBegin), (0xC011, .stageAbort), (0xC012, .commit), (0xC020, .portConfig), (0xC022, .portEnable)] ++
    [(0xC023, .laneEqTableLoad), (0xC030, .hierCreate), (0xC031, .hierDestroy), (0xC032, .grottoCreate), (0xC033, .grottoBind)] ++
    [(0xC034, .grottoUnbind), (0xC035, .grottoRecall), (0xC040, .windowDefine), (0xC041, .windowRemove), (0xC051, .guardRuleClear)] ++
    [(0xC053, .guardViolationClear), (0xC061, .gateListSet), (0xC0B0, .traceConfig), (0xC0B1, .counterConfig), (0xC0B3, .sampleConfig)] ++
    [(0xC0C0, .timeConfig)]

/-- The staged commands with their opcodes; a mixed one with the offset and the code of its query action, which is not staged
(R323, R333). -/
def stagedForms : List (Nat × (Transport → Req → Instr) × Option (Nat × Nat)) :=
  [(0xC020, .portConfig, none), (0xC030, .hierCreate, none), (0xC031, .hierDestroy, none), (0xC032, .grottoCreate, none)] ++
    [(0xC033, .grottoBind, none), (0xC034, .grottoUnbind, none), (0xC040, .windowDefine, none), (0xC041, .windowRemove, none)] ++
    [(0xC050, .guardRuleSet, some (3, 1)), (0xC051, .guardRuleClear, none), (0xC060, .schedQueueSet, some (0, 3)), (0xC061, .gateListSet, none)] ++
    [(0xC062, .policerSet, some (2, 1)), (0xC063, .wredProfileSet, some (1, 1)), (0xC070, .echoEndpointSet, some (2, 1)), (0xC071, .checkContextAssign, some (2, 2))] ++
    [(0xC0B0, .traceConfig, none), (0xC0B1, .counterConfig, none), (0xC0B3, .sampleConfig, none)]

/-- The payload asks for a mixed command's query action. -/
def asks (p : Bytes) : Option (Nat × Nat) → Bool
  | some (off, q) => byteAt p off == q
  | none => false

/-- A request that passes steps 1 and 2 of R314 on a transport that is served (R308, R311). -/
def arrives (op : Nat) (t : Transport) (r : Req) (s : State) : Bool :=
  answering s && lengthOk r && crcOk op r && !ungranted s t

/-- A request with `SESSION` FFh that passes steps 1 to 8 of R314 while firmware runs (R315). -/
def freeTurn (op : Nat) (t : Transport) (r : Req) (s : State) : Bool :=
  arrives op t r s && !inRom s && isFreeOp op && r.session == 255 && (repeatedOpen s op t r).isNone && headerOk r && epochOk s r

/-- A request that the ROM takes as its transport's next command (R300). -/
def romTurn (op : Nat) (t : Transport) (r : Req) (s : State) : Bool :=
  arrives op t r s && inRom s && (mailboxAgent t).isNone && isRomOp op && r.session == 0 && !(romSess s t).waiting &&
    (match (romSess s t).last with
     | some l => r.alive == (l + 1) % 256 && !(r.alive == l)
     | none => true) && headerOk r && r.epoch == 0 && epochOk s r

/-- A vendor command with opcode `op` that reaches step 10 of R314: it arrives while firmware runs, well formed, in session `x`,
with the next `ALIVE` and the committed epoch. -/
def inSession (op : Nat) (t : Transport) (r : Req) (s : State) (x : Sess) : Bool :=
  arrives op t r s && !inRom s && opcodes.contains op && !isLoaderOp op && decide (r.session < 8) && s.sess r.session == some x &&
    x.transport == t && x.eid == r.eid && !x.busy && !(r.alive == x.last) && r.alive == (x.last + 1) % 256 && headerOk r && epochOk s r

/-- The state as the body of a command sees it: the session was served now (R320). -/
def served (r : Req) (s : State) : State :=
  modSess s r.session (fun x => { x with lastAt := s.now })

/-- The outcome of a command that its session answers at once with `status` and `payload`, its work having left `s'` (R312, R315). -/
def answered (op : Nat) (t : Transport) (r : Req) (s' : State) (status : Nat) (payload : Bytes) : Out :=
  .next (finishSession op t r r.session (.reply s' status payload))

/-- The command that looks up the next intake request of a slice, if it is of this type (R92, R93). -/
def lookupCmd (k : ReqKind) (g sl : Nat) (f : LookupFault) : Instr :=
  match k with
  | .rdShared => .rdShared g sl f
  | .rdAny => .rdAny g sl f
  | .rdOwn => .rdOwn g sl f
  | .invOwn => .invOwn g sl f
  | .rdCur => .rdCur g sl f
  | .write => .writeReq g sl f
  | .evict => .evict g sl f

end Sys2Proof.Machine
end

