-- ==== Sys2Proof/Certificates/Slice0/Obligations.lean ====
section
/-!
DEFINITION. What the spec's rules say of this model, for the provers: every family of commands and every kind of state.
-/

open Sys2Proof Sys2Proof.Machine

/-- A step is `exec` of the front command on the rest of the queue. The queue is the model's own; every other statement reaches a run through this one. -/
def Obligations.StepRunsTheFrontCommand : Prop :=
  ∀ (c : Instr) (rest : List Instr) (s : State),
    step { s with pending := c :: rest } = exec c { s with pending := rest }

/-- That a step on an empty queue is one drip is the model's choice (log 6). What is under way goes on by itself at a drip; with nothing under way the two drip counts go up by one and, at an edge of the counter sweep, the latch takes the counters. -/
def Obligations.StepOnEmptyQueueIsOneDrip : Prop :=
  (∀ (s : State),
      s.pending = [] →
      ∃ t, step s = .next t ∧ t.pending = [] ∧ t.mgmt.keyRevoked = s.mgmt.keyRevoked ∧ t.mgmt.rollback = s.mgmt.rollback) ∧
  (∀ (s : State),
      s.pending = [] →
      s.mgmt.coldRst = true →
      step s = .next s) ∧
  (∀ (s : State),
      s.pending = [] →
      s.mgmt.coldRst = false →
      atRest s = true →
      (s.drip + 1) % 2 ^ 64 % 800 ≠ 0 →
      step s = .next { s with time := { s.time with drip := (s.time.drip + 1) % 2 ^ 64, elapsed := s.time.elapsed + 1 } }) ∧
  (∀ (s : State),
      s.pending = [] →
      s.mgmt.coldRst = false →
      atRest s = true →
      (s.drip + 1) % 2 ^ 64 % 800 = 0 →
      step s = .next { s with
          time := { s.time with drip := (s.time.drip + 1) % 2 ^ 64, elapsed := s.time.elapsed + 1 }
          lan := { s.lan with edge := some ((s.time.drip + 1) % 2 ^ 64,
            latchNow { s with time := { s.time with drip := (s.time.drip + 1) % 2 ^ 64, elapsed := s.time.elapsed + 1 } }) } })

/-- The fuses of R292 are one-time: a step may burn more of them (R302) and never clears one, whatever the command; a cold reset keeps them. `K` and `R` are any set of bits already burnt. -/
def Obligations.FusesStayBurnt : Prop :=
  ∀ (K R : Nat) (s t : State),
    burnt K R s →
    step s = .next t →
    burnt K R t

/-- For any K and R, they are burnt at reset if and only if they are among the bits of the manufactured KEY_REVOKED and ROLLBACK_FUSES, which are constants of the part (log 3). -/
def Obligations.FusesAtReset : Prop :=
  ∀ (K R : Nat),
    burnt K R State.reset ↔ (K &&& Config.keyRevoked.toNat = K ∧ R &&& Config.rollbackFuses.toNat = R)

/-- `exec` changes everything but the queue. The queue is the model's own; the statement says that no command adds, drops or reorders what waits. -/
def Obligations.QueueIsUntouchedByCommands : Prop :=
  ∀ (c : Instr) (s t : State),
    exec c s = .next t →
    t.pending = s.pending

/-- For every command c and state s there is a state t with exec c s = next t: no command of the table faults or is refused. -/
def Obligations.EveryCommandIsAnswered : Prop :=
  ∀ (c : Instr) (s : State),
    ∃ t, exec c s = .next t

/-- At State.reset the drip count is 0, the ROM is in ROM_INIT with no kept image, port 0 is the boot port and every other port is UNUSED, every slice 8 is the spare of its gallery and no slice holds an entry, every queue, session, stage, grant and event queue is empty, no window, grotto, hierarchy or guard rule is committed, epoch 0 is committed, every power slot is UNCONFIGURED, and the column and passage counters are 0. -/
def Obligations.ResetLeavesTheStatedState : Prop :=
  State.reset.time.drip = 0 ∧ State.reset.mgmt.boot = .romInit ∧ State.reset.mgmt.keptValid = false ∧ State.reset.mgmt.bootPort = 0 ∧
      (∀ b, State.reset.role b = if b = 0 then 4 else 0) ∧ State.reset.sched = [] ∧
      (∀ g < 8, ∀ sl < 9, State.reset.slice g sl = { role := if sl = 8 then .spare else .active }) ∧ State.reset.dir.full = [] ∧ State.reset.dir.ptr = [] ∧ State.reset.dir.stash = [] ∧
      (∀ n, State.reset.sess n = none ∧ State.reset.stage n = none) ∧ State.reset.proto.grants = [] ∧ State.reset.proto.epoch = 0 ∧
      State.reset.ev.inbound = [] ∧ State.reset.ev.queue = [] ∧ State.reset.cfg = {} ∧ State.reset.guard = [] ∧ State.reset.echo = {} ∧
      State.reset.check = [] ∧ State.reset.mem = {} ∧ State.reset.lan = {} ∧ (∀ n, (State.reset.slot n).st = .unconfigured) ∧
      State.reset.core.flights = [] ∧ State.reset.pending = []

/-- COLD_RESET_ASSERT leaves the reset state but for: cold reset held; the fuses and key hashes, MGMT_RST_N and the boot port as they were; which system and lane references are good; the lanes whose input reference is lost on the internal one; the raw presence of the slots; the pins; the outputs, the free-value counter and the queue. With COLD_RST_N it drives that pin low; with PWR_OK low it also clears the trip. COLD_RESET_RELEASE in cold reset, with no trip and a good system reference, leaves the same with the reset ended, both pins high and the boot port of BOOT_SEL, and takes reference A if it is good, else B. THERMAL_TRIP at 118 degrees or more with power good leaves the same with cold reset held and THERM_TRIP_N low. In each the drip count is 0, the ROM is in ROM_INIT, the kept image is invalid and no event is queued, as in the reset state. A release out of turn, a cooler reading, a die above 12 and a trip without power change nothing. -/
def Obligations.ColdReset : Prop :=
  (∀ (s : State),
      exec (.coldResetAssert true) s = .next { State.reset with
          time := { refA := { good := s.time.refA.good }, refB := { good := s.time.refB.good } }
          port := {
            refclks := s.port.refclks.map (fun x => (x.1, { x.2 with goodSince := 0 }))
            lanes := ((List.range 1024).filter (fun k => !(s.refclk (k / 32)).good)).map (fun k => (k, ({ internal := true } : Lane))) }
          power := { slots := s.power.slots.foldl (fun t x => tput {} t x.1 ({ rawHigh := x.2.rawHigh } : Slot)) [] }
          mgmt := {
            keyRevoked := s.mgmt.keyRevoked, rollback := s.mgmt.rollback, keyHash := s.mgmt.keyHash, mgmtRst := s.mgmt.mgmtRst
            coldRst := true, bootPort := s.mgmt.bootPort }
          pin := { State.reset.pin with pwrOk := s.pin.pwrOk, coldRstN := false, thermTripN := s.pin.thermTripN, mgmtRstN := s.pin.mgmtRstN, vidValid := s.pin.vidValid }
          out := s.out, free := s.free, pending := s.pending }) ∧
  (∀ (s : State),
      exec (.coldResetAssert false) s = .next { State.reset with
          time := { refA := { good := s.time.refA.good }, refB := { good := s.time.refB.good } }
          port := {
            refclks := s.port.refclks.map (fun x => (x.1, { x.2 with goodSince := 0 }))
            lanes := ((List.range 1024).filter (fun k => !(s.refclk (k / 32)).good)).map (fun k => (k, ({ internal := true } : Lane))) }
          power := { slots := s.power.slots.foldl (fun t x => tput {} t x.1 ({ rawHigh := x.2.rawHigh } : Slot)) [] }
          mgmt := {
            keyRevoked := s.mgmt.keyRevoked, rollback := s.mgmt.rollback, keyHash := s.mgmt.keyHash, mgmtRst := s.mgmt.mgmtRst
            coldRst := true, bootPort := s.mgmt.bootPort }
          pin := { State.reset.pin with pwrOk := false, coldRstN := s.pin.coldRstN, thermTripN := true, mgmtRstN := s.pin.mgmtRstN, vidValid := s.pin.vidValid }
          out := s.out, free := s.free, pending := s.pending }) ∧
  (∀ (bootSel : Nat) (s : State),
      s.mgmt.coldRst = true →
      s.pin.thermTripN = true →
      s.time.refA.good = true →
      exec (.coldResetRelease bootSel) s = .next { State.reset with
          time := { refA := { good := s.time.refA.good }, refB := { good := s.time.refB.good } }
          port := {
            refclks := s.port.refclks.map (fun x => (x.1, { x.2 with goodSince := 0 }))
            lanes := ((List.range 1024).filter (fun k => !(s.refclk (k / 32)).good)).map (fun k => (k, ({ internal := true } : Lane))) }
          power := { slots := s.power.slots.foldl (fun t x => tput {} t x.1 ({ rawHigh := x.2.rawHigh } : Slot)) [] }
          mgmt := {
            keyRevoked := s.mgmt.keyRevoked, rollback := s.mgmt.rollback, keyHash := s.mgmt.keyHash, mgmtRst := s.mgmt.mgmtRst
            bootPort := if bootSel % 2 = 0 then 0 else 256 }
          pin := { State.reset.pin with pwrOk := true, coldRstN := true, thermTripN := true, mgmtRstN := s.pin.mgmtRstN, vidValid := s.pin.vidValid }
          out := s.out, free := s.free, pending := s.pending }) ∧
  (∀ (bootSel : Nat) (s : State),
      s.mgmt.coldRst = true →
      s.pin.thermTripN = true →
      s.time.refA.good = false →
      s.time.refB.good = true →
      exec (.coldResetRelease bootSel) s = .next { State.reset with
          time := { refA := { good := s.time.refA.good }, refB := { good := s.time.refB.good }, sel := 1 }
          port := {
            refclks := s.port.refclks.map (fun x => (x.1, { x.2 with goodSince := 0 }))
            lanes := ((List.range 1024).filter (fun k => !(s.refclk (k / 32)).good)).map (fun k => (k, ({ internal := true } : Lane))) }
          power := { slots := s.power.slots.foldl (fun t x => tput {} t x.1 ({ rawHigh := x.2.rawHigh } : Slot)) [] }
          mgmt := {
            keyRevoked := s.mgmt.keyRevoked, rollback := s.mgmt.rollback, keyHash := s.mgmt.keyHash, mgmtRst := s.mgmt.mgmtRst
            bootPort := if bootSel % 2 = 0 then 0 else 256 }
          pin := { State.reset.pin with pwrOk := true, coldRstN := true, thermTripN := true, mgmtRstN := s.pin.mgmtRstN, vidValid := s.pin.vidValid }
          out := s.out, free := s.free, pending := s.pending }) ∧
  (∀ (bootSel : Nat) (s : State),
      (s.mgmt.coldRst = false ∨ s.pin.thermTripN = false ∨ s.time.refA.good = false ∧ s.time.refB.good = false) →
      exec (.coldResetRelease bootSel) s = .next s) ∧
  (∀ (die temp : Nat) (s : State),
      die ≤ 12 →
      118 ≤ temp →
      s.pin.pwrOk = true →
      exec (.thermalTrip die temp) s = .next { State.reset with
          time := { refA := { good := s.time.refA.good }, refB := { good := s.time.refB.good } }
          port := {
            refclks := s.port.refclks.map (fun x => (x.1, { x.2 with goodSince := 0 }))
            lanes := ((List.range 1024).filter (fun k => !(s.refclk (k / 32)).good)).map (fun k => (k, ({ internal := true } : Lane))) }
          power := { slots := s.power.slots.foldl (fun t x => tput {} t x.1 ({ rawHigh := x.2.rawHigh } : Slot)) [] }
          mgmt := {
            keyRevoked := s.mgmt.keyRevoked, rollback := s.mgmt.rollback, keyHash := s.mgmt.keyHash, mgmtRst := s.mgmt.mgmtRst
            coldRst := true, bootPort := s.mgmt.bootPort }
          pin := { State.reset.pin with pwrOk := true, coldRstN := s.pin.coldRstN, thermTripN := false, mgmtRstN := s.pin.mgmtRstN, vidValid := s.pin.vidValid }
          out := s.out, free := s.free, pending := s.pending }) ∧
  (∀ (die temp : Nat) (s : State),
      (12 < die ∨ temp < 118 ∨ s.pin.pwrOk = false) →
      exec (.thermalTrip die temp) s = .next s)

/-- MGMT_RST_N going low outside cold reset gives a next state in which: every session and stage is gone; every grant and event mask is; a commit not yet armed is; the ROM is in ROM_INIT with its state cleared; both clusters are to restart; the bridge keeps only outbound transfers; and the pin and the reset flag say so. The time master, directory, schedulers, windows, guards, Echo, check engines, power slots, counters, committed configuration, fuses, kept image, journal, epoch, digest, last outcome, event queues, outputs and the queue of commands are unchanged; of the cell core and the ports only the session an operation would have answered may be dropped from a passage or a lane. In cold reset the assertion only sets the pin and the flag. Its release raises the pin, clears the flag and, if the flag was set, starts the time of ROM_INIT. -/
def Obligations.MgmtReset : Prop :=
  (∀ (s : State),
      s.mgmt.coldRst = false →
      ∃ t, exec .mgmtResetAssert s = .next t ∧ (∀ n < 8, t.sess n = none ∧ t.stage n = none) ∧ t.proto.grants = [] ∧ t.ev = { s.ev with masks := [] } ∧
        (unarmedCommit s = true → t.proto.commit = none) ∧ t.mgmt.boot = .romInit ∧ t.mgmt.bootAt = s.now ∧ t.mgmt.rom = [] ∧ t.mgmt.loadEnd = none ∧ t.mgmt.fusePlan = [] ∧
        t.mgmt.cl = [] ∧ t.mgmt.bothDown = false ∧ t.mgmt.mgmtRst = true ∧ t.mgmt.bridge = s.mgmt.bridge.filter (·.outbound) ∧ t.pin = { s.pin with mgmtRstN := false } ∧
        t.time = s.time ∧ t.dir = s.dir ∧ t.sched = s.sched ∧ t.mem = s.mem ∧ t.guard = s.guard ∧ t.echo = s.echo ∧ t.check = s.check ∧ t.power = s.power ∧
        t.cfg = s.cfg ∧ t.lan = s.lan ∧ t.out = s.out ∧ t.free = s.free ∧ t.pending = s.pending ∧
        t.mgmt.keyRevoked = s.mgmt.keyRevoked ∧ t.mgmt.rollback = s.mgmt.rollback ∧ t.mgmt.keptValid = s.mgmt.keptValid ∧ t.mgmt.journal = s.mgmt.journal ∧
        t.proto.epoch = s.proto.epoch ∧ t.proto.digest = s.proto.digest ∧ t.proto.lastOutcome = s.proto.lastOutcome ∧
        t.core = { s.core with pas := t.core.pas } ∧ t.port = { s.port with lanes := t.port.lanes } ∧
        (∀ p, ∃ q, t.pas p = { s.pas p with op := { (s.pas p).op with session := q } } ∧ (q = none ∨ q = (s.pas p).op.session)) ∧
        (∀ k, ∃ m, t.lane k = { s.lane k with margin := m } ∧ (m = (s.lane k).margin ∨ ∃ r, (s.lane k).margin = some r ∧ m = some { r with session := none }))) ∧
  (∀ (s : State),
      s.mgmt.coldRst = true →
      exec .mgmtResetAssert s = .next { s with pin := { s.pin with mgmtRstN := false }, mgmt := { s.mgmt with mgmtRst := true } }) ∧
  (∀ (s : State),
      exec .mgmtResetRelease s = .next { s with
          pin := { s.pin with mgmtRstN := true }
          mgmt := { s.mgmt with mgmtRst := false, bootAt := if s.mgmt.mgmtRst then s.now else s.mgmt.bootAt } })

/-- A lost selected reference gives way to the other good one in an automatic mode, with EV_TIME_UNSURE cause REF_LOST (03h); in a forced mode, or without another, the PLL enters holdover (cause REF_HOLDOVER, 04h). A lost reference that was not selected is only reported. A restored one is good again from now and, in an automatic mode, ends holdover. After 1 s a revertive or forced mode returns to its reference. A split of the two master counters is reported with cause 06h. -/
def Obligations.SystemReferences : Prop :=
  (∀ (ref : Nat) (s : State),
      ref < 2 →
      (refIn s ref).good = true →
      s.time.sel = ref →
      s.time.holdover = false →
      forced s = false →
      (refIn s (1 - ref)).good = true →
      exec (.refClockLost ref) s = .next (selectRef (raiseTime (modRef s ref (fun x => { x with good := false })) (1573 + ref) 3 1 65535 s.drip) (1 - ref))) ∧
  (∀ (ref : Nat) (s : State),
      ref < 2 →
      (refIn s ref).good = true →
      s.time.sel = ref →
      s.time.holdover = false →
      (forced s = true ∨ (refIn s (1 - ref)).good = false) →
      exec (.refClockLost ref) s = .next (enterHoldover (raiseTime (modRef s ref (fun x => { x with good := false })) (1573 + ref) 3 1 65535 s.drip))) ∧
  (∀ (ref : Nat) (s : State),
      ref < 2 →
      (refIn s ref).good = true →
      (s.time.sel ≠ ref ∨ s.time.holdover = true) →
      exec (.refClockLost ref) s = .next (raiseTime (modRef s ref (fun x => { x with good := false })) (1573 + ref) 3 1 65535 s.drip)) ∧
  (∀ (ref : Nat) (s : State),
      ref < 2 →
      (refIn s ref).good = false →
      exec (.sysRefclkRestored ref) s = .next (if s.time.holdover && !forced s
          then selectRef (modRef s ref (fun _ => { good := true, goodSince := s.now })) ref
          else modRef s ref (fun _ => { good := true, goodSince := s.now }))) ∧
  (∀ (s : State),
      s.time.refA.good = true →
      s.time.refA.goodSince + 800000000 ≤ s.now →
      s.time.refMode = 1 →
      (s.time.sel = 1 ∨ s.time.holdover = true) →
      exec (.refGoodTimer 0) s = .next (selectRef s 0)) ∧
  (∀ (ref : Nat) (s : State),
      ref < 2 →
      (refIn s ref).good = true →
      (refIn s ref).goodSince + 800000000 ≤ s.now →
      s.time.refMode = 2 + ref →
      s.time.holdover = true →
      exec (.refGoodTimer ref) s = .next (selectRef s ref)) ∧
  (∀ (bad : Nat) (s : State),
      bad < 2 →
      exec (.masterSplit bad) s = .next (raiseTime { s with time := { s.time with splitBad := some bad } } 1572 6 1 65535 s.drip))

/-- At a multiple of 1,024 drips the master sends a beacon. A good copy at an island that is not powered down clears its misses, counts toward 16 and, at a sure island, slews by at most 1/64 drip toward the phase measured. A copy with a good CRC more than 1/4 drip out makes the island unsure. A beacon with no good copy by B + 32 adds a miss, and the eighth in a row makes the island unsure. An island that was sure or calibrating and becomes unsure starts its good count again, and raises EV_TIME_UNSURE unless it had been unsure since its last calibration; another stays as it is. -/
def Obligations.Beacons : Prop :=
  (∀ (s : State),
      s.drip % 1024 = 0 →
      exec .beaconSend s = .next { s with time := { s.time with lastBeacon := s.drip }, out := { s.out with beacons := s.out.beacons + 1 } }) ∧
  (∀ (island beacon at64 : Nat) (crcOk : Bool) (phase : Int) (s : State),
      watched island = true →
      (s.isl island).st ≠ .poweredDown →
      beacon % 1024 = 0 →
      beaconGood beacon at64 crcOk phase = true →
      (s.isl island).judged ≤ beacon →
      exec (.beaconReceived island beacon at64 crcOk phase) s = .next ((s.modIsl island (fun x => { x with phase := sat16 phase })).modIsl island (fun x => { x with
          missed := 0, judged := beacon + 1, goodRun := min 16 (x.goodRun + 1)
          slew := if x.st == .sure then x.slew + max (-1) (min 1 phase) else x.slew }))) ∧
  (∀ (island beacon at64 : Nat) (phase : Int) (s : State),
      watched island = true →
      (s.isl island).st ≠ .poweredDown →
      beacon % 1024 = 0 →
      16 < phase.natAbs →
      exec (.beaconReceived island beacon at64 true phase) s = .next (becomeUnsure (s.modIsl island (fun x => { x with phase := sat16 phase })) island)) ∧
  (∀ (island beacon : Nat) (s : State),
      watched island = true →
      (s.isl island).st ≠ .poweredDown →
      beacon % 1024 = 0 →
      beacon + 32 ≤ s.drip →
      (s.isl island).judged ≤ beacon →
      ∃ u, u = s.modIsl island (fun x => { x with missed := min 8 (x.missed + 1), fails := sat 32 (x.fails + 1), goodRun := runAfterMiss x, judged := beacon + 1 }) ∧
        exec (.beaconMissed island beacon) s = .next (if 8 ≤ (u.isl island).missed then becomeUnsure u island else u)) ∧
  (∀ (island : Nat) (s : State),
      ((s.isl island).st = .sure ∨ (s.isl island).st = .calibrating) →
      ∃ u, u = s.modIsl island (fun x => { x with st := .unsure, unsure := true, goodRun := 0, since := s.drip }) ∧
        becomeUnsure s island = unsureEffect (if (s.isl island).unsure then u else raiseTime u 1576 1 (unsureSev island) island s.drip) island) ∧
  (∀ (island : Nat) (s : State),
      (s.isl island).st ≠ .sure →
      (s.isl island).st ≠ .calibrating →
      becomeUnsure s island = s)

/-- Firmware recalibrates an unsure island that no admission owns after 16 consecutive good beacons. Calibration of any island ends only once 16 good beacons have come in a row, which a missed beacon sets back unless they have come. When calibration ends the island is sure, its path delay is stored, its misses are 0 and EV_TIME_UNSURE cause ISLAND_SURE is raised. A quad or service island needs nothing more; a gallery core sends notice 07h on its live passages and, if it had been unsure, resumes at a later boundary; a column or passage island lets its admission go on. -/
def Obligations.Recalibration : Prop :=
  (∀ (island : Nat) (s : State),
      firmwareUp s = true →
      watched island = true →
      admittedIsland island = false →
      (s.isl island).st = .unsure →
      16 ≤ (s.isl island).goodRun →
      exec (.recalibrationStart island) s = .next (s.modIsl island (fun x => { x with st := .calibrating, since := s.drip }))) ∧
  (∀ (island delay : Nat) (s : State),
      watched island = true →
      (s.isl island).st = .calibrating →
      firmwareUp s = true →
      calReady s island = true →
      (284 ≤ island ∨ island < 248 ∧ island % 31 ≠ 16 ∧ island % 31 < 27) →
      exec (.calibrationEnd island delay) s = .next (raiseTime (s.modIsl island (fun x => { x with st := .sure, unsure := false, missed := 0, cal := delay % 65536, since := s.drip })) 1576 2 0 island s.drip)) ∧
  (∀ (island delay : Nat) (s : State),
      watched island = true →
      (s.isl island).st = .calibrating →
      firmwareUp s = true →
      calReady s island = true →
      island < 248 →
      island % 31 = 16 →
      ∃ u, u = (raiseTime (s.modIsl island (fun x => { x with st := .sure, unsure := false, missed := 0, cal := delay % 65536, since := s.drip })) 1576 2 0 island s.drip).modGal (island / 31) (fun x => if x.unsureSince.isSome then { x with resumeAt := some s.now } else x) ∧
        exec (.calibrationEnd island delay) s = .next (forEach ((List.range 4).filter (fun c => pasAlive u (4 * (island / 31) + c))) u (fun v c =>
          sendSb v { type := 5, from_ := island / 31, col := c, dest := 8, body := [7, island / 31, v.drip % 2 ^ 32] }))) ∧
  (∀ (island delay : Nat) (s : State),
      watched island = true →
      (s.isl island).st = .calibrating →
      firmwareUp s = true →
      calReady s island = true →
      island < 248 →
      27 ≤ island % 31 →
      exec (.calibrationEnd island delay) s = .next (passageCalCheck (columnCalCheck (raiseTime (s.modIsl island (fun x => { x with st := .sure, unsure := false, missed := 0, cal := delay % 65536, since := s.drip })) 1576 2 0 island s.drip)
          (island % 31 - 27)) (4 * (island / 31) + (island % 31 - 27)))) ∧
  (∀ (island delay : Nat) (s : State),
      watched island = true →
      (s.isl island).st = .calibrating →
      firmwareUp s = true →
      calReady s island = true →
      248 ≤ island →
      island < 284 →
      ∃ u, u = columnCalCheck (raiseTime (s.modIsl island (fun x => { x with st := .sure, unsure := false, missed := 0, cal := delay % 65536, since := s.drip })) 1576 2 0 island s.drip) ((island - 248) / 9) ∧
        exec (.calibrationEnd island delay) s = .next (if 1 ≤ (island - 248) % 9 then
          passageCalCheck u (4 * ((island - 248) % 9 - 1) + (island - 248) / 9) else u)) ∧
  (∀ (i : Nat) (s : State),
      calReady s i = decide (16 ≤ (s.isl i).goodRun)) ∧
  (∀ (x : Island),
      runAfterMiss x = if x.st = .calibrating ∧ x.goodRun = 16 then 16 else 0)

/-- An island of the action that neither calibrates nor is powered down and has not yet acknowledged: an arm message before T - 512 is acknowledged, one after that changes nothing, and one at or after T is refused and counted. From T - 512 the master decides: with every island acknowledged and sure as of T - 512 the action stands, otherwise it is cancelled. On the edge of T, or on the edge on which a load steps the count over T, a decided action is removed from the list and performed, unless another decided action of an earlier rank is due on that edge. Once that edge has passed it is refused, counted and cancelled. A launched load steps the drip count on by its distance and notes the range skipped, unless the first epoch has been committed: then it only raises EV_TIME_UNSURE cause LAUNCH_CANCELLED (07h). -/
def Obligations.Arming : Prop :=
  (∀ (arm island : Nat) (a : Arm) (s : State),
      armOf s arm = some a →
      a.islands.contains island = true →
      a.acked.contains island = false →
      (s.isl island).st ≠ .calibrating →
      (s.isl island).st ≠ .poweredDown →
      exec (.armMessage arm island) s = .next (if a.at_ ≤ s.drip
          then { s with time := { s.time with refusals := s.time.refusals + 1 } }
          else if a.at_ < s.drip + 512 then s
          else modArm s arm (fun a => { a with acked := a.acked ++ [island] }))) ∧
  (∀ (arm : Nat) (a : Arm) (s : State),
      armOf s arm = some a →
      a.decided = false →
      a.at_ ≤ s.drip + 512 →
      exec (.launchDecide arm) s = .next (if a.islands.all (fun i => a.acked.contains i && sureBy s i a.at_)
          then modArm s arm (fun a => { a with decided := true }) else cancelArm s a)) ∧
  (∀ (i T : Nat) (s : State),
      sureBy s i T = true ↔ (i = 284 ∨ (s.isl i).st = .sure ∧ (s.isl i).since + 512 ≤ T ∨ (s.isl i).st = .unsure ∧ T < (s.isl i).since + 512)) ∧
  (∀ (arm : Nat) (a : Arm) (s : State),
      armOf s arm = some a →
      a.decided = true →
      launchHere s a = true →
      inTurn s a = true →
      exec (.launch arm) s = .next (perform { s with time := { s.time with arms := removeFirst (fun x => x.id == a.id) s.time.arms } } a.kind)) ∧
  (∀ (arm : Nat) (a : Arm) (s : State),
      armOf s arm = some a →
      a.decided = true →
      launchHere s a = false →
      a.at_ < s.drip →
      exec (.launch arm) s = .next (cancelArm { s with time := { s.time with refusals := s.time.refusals + 1 } } a)) ∧
  (∀ (a : Arm) (s : State),
      s.time.skip = none →
      launchHere s a = decide (a.at_ = s.drip)) ∧
  (∀ (a : Arm) (lo hi : Nat) (s : State),
      s.time.skip = some (lo, hi) →
      s.drip = hi →
      launchHere s a = (decide (a.at_ = hi) || decide (lo ≤ a.at_) && decide (a.at_ ≤ hi))) ∧
  (∀ (d : Nat) (s : State),
      s.proto.committedOnce = false →
      ∃ u, u = { s with time := { s.time with drip := (s.time.drip + d) % 2 ^ 64, skip := some (s.time.drip, (s.time.drip + d) % 2 ^ 64) } } ∧
        perform s (.timeLoad d) = takeEdge u) ∧
  (∀ (d : Nat) (s : State),
      s.proto.committedOnce = true →
      perform s (.timeLoad d) = raiseTime s 1572 7 0 65535 s.drip)

/-- A follower that sees an edge stores its signed distance from the nearest whole second, leaves holdover, is aligned within 2 drips (32/16), and sets the trim that removes the error in one second, within SLEW_LIMIT (the law is the model's choice, log 33). A pending load is taken then: a step below 1,024 drips, or one after the first commit, is abandoned with LAUNCH_CANCELLED (07h) at the boundary it would have had (log 147); another is armed at the first rotation boundary at least 1,024 drips ahead. The third missing pulse in a row enters holdover with cause PPS_LOST (05h). -/
def Obligations.PpsFollower : Prop :=
  (∀ (at16 : Nat) (s : State),
      (s.time.ppsRole = 2 ∨ s.time.ppsRole = 3) →
      s.time.load = none →
      exec (.ppsEdge at16) s = .next { s with time := { s.time with ppsError := ppsErr (ppsCount s at16), ppsMissing := 0, ppsHold := false, ppsAligned := decide ((ppsErr (ppsCount s at16)).natAbs ≤ 32), freqTrim := trimFor s (ppsErr (ppsCount s at16)) } }) ∧
  (∀ (at16 v : Nat) (s : State),
      (s.time.ppsRole = 2 ∨ s.time.ppsRole = 3) →
      s.time.load = some v →
      (loadStep v (ppsCount s at16) < 1024 ∨ s.proto.committedOnce = true) →
      ∃ u, u = { s with time := { s.time with load := none, ppsError := ppsErr (ppsCount s at16), ppsMissing := 0, ppsHold := false, ppsAligned := decide ((ppsErr (ppsCount s at16)).natAbs ≤ 32), freqTrim := trimFor s (ppsErr (ppsCount s at16)) } } ∧
        exec (.ppsEdge at16) s = .next (raiseTime u 1572 7 0 65535 (nextRotation (s.drip + 1024)))) ∧
  (∀ (at16 v : Nat) (s : State),
      (s.time.ppsRole = 2 ∨ s.time.ppsRole = 3) →
      s.time.load = some v →
      1024 ≤ loadStep v (ppsCount s at16) →
      s.proto.committedOnce = false →
      ∃ u, u = { s with time := { s.time with load := none, ppsError := ppsErr (ppsCount s at16), ppsMissing := 0, ppsHold := false, ppsAligned := decide ((ppsErr (ppsCount s at16)).natAbs ≤ 32), freqTrim := trimFor s (ppsErr (ppsCount s at16)) } } ∧
        exec (.ppsEdge at16) s = .next (armFor u (.timeLoad (loadStep v (ppsCount s at16)).toNat) (nextRotation (s.drip + 1024)) (loadIslands u))) ∧
  (∀ (e : Int) (s : State),
      trimFor s e = withinSlew s.time.slewLimit (Int.tdiv (-(e * 5)) 64)) ∧
  (∀ (s : State),
      (s.time.ppsRole = 2 ∨ s.time.ppsRole = 3) →
      s.time.ppsMissing ≠ 2 →
      exec .ppsMissing s = .next { s with time := { s.time with ppsMissing := s.time.ppsMissing + 1 } }) ∧
  (∀ (s : State),
      (s.time.ppsRole = 2 ∨ s.time.ppsRole = 3) →
      s.time.ppsMissing = 2 →
      exec .ppsMissing s = .next (raiseTime
          { s with time := { s.time with ppsMissing := 3, ppsHold := true, ppsAligned := false } } 1575 5 0 65535 s.drip))

/-- With PPS_ROLE 1 (leader) or 3 (repeating follower) and a drip count that is a multiple of 800,000,000, the pulse starts and ends 80,000 elapsed drips later (a step of the count does not shorten it) and nothing else changes. In another role, or at another drip, nothing changes. -/
def Obligations.PpsOutPulse : Prop :=
  ∀ (s : State),
    exec .ppsOutPulse s = .next (if (s.time.ppsRole = 1 ∨ s.time.ppsRole = 3) ∧ s.time.drip % 800000000 = 0
        then { s with pin := { s.pin with ppsOutUntil := some (s.now + 80000) } } else s)

/-- In every slot n, the gallery that column c carries gallery i toward is (i + 1 + ((n mod 7) + 2c) mod 7) mod 8; that is never i itself, the reception map is its inverse, and the four columns of a gallery serve four different galleries. A load of a multiple of 56 drips leaves the slot index as it is. -/
def Obligations.RotationSchedule : Prop :=
  (∀ (n c i : Nat),
      c < 4 →
      i < 8 →
      slotDest n c i = (i + (1 + (n % 7 + 2 * c) % 7)) % 8 ∧ slotDest n c i ≠ i ∧ slotDest n c i < 8 ∧ slotSource n c (slotDest n c i) = i) ∧
  (∀ (n c d i : Nat),
      c < 4 →
      d < 4 →
      c ≠ d →
      i < 8 →
      slotDest n c i ≠ slotDest n d i) ∧
  (∀ (drip k : Nat),
      slotNo (drip + 56 * k) % 7 = slotNo drip % 7)

/-- However a gallery fills a slot toward another (starved classes first, then relayed, direct and first-hop relay cells), the places left and the cells placed always sum to the places there were: with 168 places, at most 168 cells are placed. -/
def Obligations.SlotFillsStayWithinRoom : Prop :=
  ∀ (g m : Nat) (un : List Cell) (f : Fill),
    (fillSlot g m un f).placed.length + (fillSlot g m un f).room = f.placed.length + f.room

/-- At a slot boundary, once no launch is due on that edge, a gallery that is not lost and has not yet filled this slot does what a rotation boundary asks if the slot starts a rotation, checks that the probes due arrived, fills each of its four outbound passages, moves its relay pointer on, and sends its advertisements. At a rotation boundary it takes columns out of use that it learned of at least 16 drips ago, and stops or resumes sending as its core time state asks. A column goes on to slot n once its count reaches 8n + 9, counting the slot used or idle; generators that disagree make it untrusted. -/
def Obligations.SlotAndRotationBoundaries : Prop :=
  (∀ (g : Nat) (bad : List (Nat × Nat)) (s : State),
      g < 8 →
      s.drip % 8 = 0 →
      (s.gal g).lastSlot ≠ some (slotNo s.drip) →
      (s.gal g).lost = none →
      launchWaits s = false →
      ∃ u v, u = forEach (List.range 4) (if isRotation s.drip then rotateGallery s g else s) (checkProbes g) ∧
        v = forEach (List.range 4) (u.modGal g (fun x => { x with lastSlot := some (slotNo s.drip) })) (fillPassage g (slotNo s.drip) bad) ∧
        exec (.slotBoundary ⟨g, bad⟩) s = .next (forEach (List.range 4) (v.modGal g (fun x => { x with relayPtr := (x.relayPtr + 1) % 8 }))
          (advertise g (slotNo s.drip)))) ∧
  (∀ (g : Nat) (s : State),
      g < 8 →
      isRotation s.drip = true →
      (s.gal g).lost = none →
      launchWaits s = false →
      ∃ u, u = forEach (List.range 4) s (rotateColumn g) ∧ exec (.rotationBoundary g) s = .next (u.modGal g (fun x =>
          match x.resumeAt, x.unsureSince with
          | some t, _ => if t + 16 ≤ u.now then { x with stopped := false, resumeAt := none, unsureSince := none } else { x with stopped := true }
          | none, some _ => { x with stopped := true }
          | none, none => x))) ∧
  (∀ (g c t : Nat) (s : State),
      useOf s g c = .stopping t →
      rotateColumn g s c = if t + 16 ≤ s.now then
          disarm (beginDrain s g c (s.col c).untrusted) (fun k => k == .columnDrain c) else s) ∧
  (∀ (c n : Nat) (agree : Bool) (s : State),
      c < 4 →
      17 ≤ s.drip →
      n = (s.drip - 9) / 8 →
      (s.col c).slotN < n →
      ∃ u, u = s.modCol c (fun x => { x with
            slotN := n
            carry := x.carry.filter (fun k => !decide (k < n))
            slotsUsed := if (s.col c).carry.any (fun k => decide (k < n)) then (x.slotsUsed + 1) % 2 ^ 64 else x.slotsUsed
            slotsIdle := if !(s.col c).carry.any (fun k => decide (k < n)) && colInUse s c then (x.slotsIdle + 1) % 2 ^ 64 else x.slotsIdle }) ∧
        exec (.columnCrossbarChange c agree) s = .next (if agree then u else columnUntrusted u c 3))

/-- 112 drips after its drain began a gallery ends its use of the column, clears its replay buffer there and replays those cells elsewhere; when the last gallery has, the column is OFFLINE with the cause it left for, and EV_COLUMN_OFFLINE is raised. After 64 rotations (3,584 drips) clean probing arms the return at the first rotation boundary at least 1,024 drips ahead; a bad or missing probe, or no live passage, fails the admission. A return not launched within 160,000 drips of the end of clean probing fails it too. -/
def Obligations.ColumnsLeaveAndReturn : Prop :=
  (∀ (g c b : Nat) (s : State),
      g < 8 →
      c < 4 →
      useOf s g c = .draining b →
      b + 112 ≤ s.now →
      ∃ u, u = replayInto ((setUse s g c .off).modPas (4 * g + c) (fun x => { x with replay := [] })) g (4 * g + c)
            ((s.pas (4 * g + c)).replay) ∧
        exec (.columnDrainEnd g c) s = .next (columnOut u c (s.drip - (s.now - (b + 112))))) ∧
  (∀ (c at_ : Nat) (s : State),
      allOff s c = true →
      (s.col c).st = .draining →
      ∃ u, u = s.modCol c (fun x => { x with lastCause := (s.col c).outCause, drainAsked := false }) ∧
        columnOut s c at_ = raiseCol (setColSt u c .offline) c evColumnOffline (s.col c).outCause (colSev (colsInUse u)) at_) ∧
  (∀ (c at_ : Nat) (s : State),
      (allOff s c = false ∨ (s.col c).st ≠ .draining) →
      columnOut s c at_ = s) ∧
  (∀ (c : Nat) (s : State),
      c < 4 →
      firmwareUp s = true →
      (s.col c).st = .probing →
      (s.col c).cleanEnd = none →
      (s.col c).probeStart + 3584 ≤ s.now →
      exec (.probingEnd c) s = .next (if (s.col c).probeBad || probeMissing s c (fun _ => true) || aliveMask s c == 0 then failAdmission s c
          else armFor (s.modCol c (fun x => { x with cleanEnd := some s.now })) (.columnReturn c) (nextRotation (s.drip + 1024))
            (coreIslands (s.modCol c (fun x => { x with cleanEnd := some s.now }))))) ∧
  (∀ (c t : Nat) (s : State),
      c < 4 →
      firmwareUp s = true →
      (s.col c).st = .probing →
      (s.col c).cleanEnd = some t →
      t + 160000 ≤ s.now →
      exec (.admissionTimeout c) s = .next (failAdmission s c))

/-- The next cell at a passage end, once there, leaves the wire and counts for its column. At a gallery that knows the passage to be dead that is all. With a good header check and a header that names this gallery it is counted in its stream and stored in the receive buffer; otherwise the gallery counts a discard and the passage dies with cause HEADER (04h). A probe cell is checked instead. An ACK goes out 32 drips after the earliest unacknowledged cell. A valid ACK frees every replay entry of its stream up to it; one out of range or with a wrong check kills the outbound passage with cause 06h or 07h. A replay entry 256 drips old kills it with 08h. Each release takes the oldest admitted cell of the first class that may go; with a buffer fault the cell it will take is first marked bad. -/
def Obligations.CellsArriveAndAreAcknowledged : Prop :=
  (∀ (g c mask : Nat) (f : Flight) (s : State),
      nextFlight s g c = some f →
      f.at24 < 24 * s.now + 24 →
      (s.pas (4 * g + c)).galDead = true →
      exec (.cellArrival g c mask) s = .next (({ s with core := { s.core with flights := removeFirst (fun f => f.m == g && f.c == c) s.core.flights } } : State).modCol c (fun y => { y with cells := (y.cells + 1) % 2 ^ 64 }))) ∧
  (∀ (g c mask : Nat) (f : Flight) (s : State),
      nextFlight s g c = some f →
      f.at24 < 24 * s.now + 24 →
      (s.pas (4 * g + c)).galDead = false →
      f.cell.pkt.cls ≠ 7 →
      ∃ u, u = (({ s with core := { s.core with flights := removeFirst (fun f => f.m == g && f.c == c) s.core.flights } } : State).modCol c (fun y => { y with cells := (y.cells + 1) % 2 ^ 64 })) ∧
        exec (.cellArrival g c mask) s = .next (if headerGood (headerWord f.cell ^^^ (mask % 2 ^ 128)) && namesGallery (if mask % 2 ^ 128 = 0 then f.cell else cellWithHeader f.cell (headerWord f.cell ^^^ (mask % 2 ^ 128))) f.i g
          then storeRx (streamCell u g c f.i ((headerWord f.cell ^^^ (mask % 2 ^ 128)) / 2 ^ 112 % 65536)) g c f (if mask % 2 ^ 128 = 0 then f.cell else cellWithHeader f.cell (headerWord f.cell ^^^ (mask % 2 ^ 128)))
          else (killPassage (u.modGal g (fun x => { x with discarded := (x.discarded + 1) % 2 ^ 64 })) (4 * g + c) 4 0 65535))) ∧
  (∀ (g c mask : Nat) (f : Flight) (s : State),
      nextFlight s g c = some f →
      f.at24 < 24 * s.now + 24 →
      (s.pas (4 * g + c)).galDead = false →
      f.cell.pkt.cls = 7 →
      ∃ u, u = (({ s with core := { s.core with flights := removeFirst (fun f => f.m == g && f.c == c) s.core.flights } } : State).modCol c (fun y => { y with cells := (y.cells + 1) % 2 ^ 64 })) ∧
        exec (.cellArrival g c mask) s = .next (if headerGood (headerWord f.cell ^^^ (mask % 2 ^ 128)) && namesGallery (if mask % 2 ^ 128 = 0 then f.cell else cellWithHeader f.cell (headerWord f.cell ^^^ (mask % 2 ^ 128))) f.i g
          then probeArrival (countPas u (4 * g + c) 1 1) f true (if mask % 2 ^ 128 = 0 then f.cell else cellWithHeader f.cell (headerWord f.cell ^^^ (mask % 2 ^ 128)))
          else probeArrival (killPassage (u.modGal g (fun x => { x with discarded := (x.discarded + 1) % 2 ^ 64 })) (4 * g + c) 4 0 65535) f false (if mask % 2 ^ 128 = 0 then f.cell else cellWithHeader f.cell (headerWord f.cell ^^^ (mask % 2 ^ 128))))) ∧
  (∀ (f : Flight) (good : Bool) (x : Cell) (s : State),
      probeArrival s f good x = if good = true ∧ x.pkt.cls = 7 ∧ x.pkt.srcGal = slotSource f.slot f.c f.m then s else probeFails s f.c) ∧
  (∀ (g c i : Nat) (s : State),
      g < 8 →
      c < 4 →
      i < 8 →
      0 < (tget {} (s.pas (4 * g + c)).ins i).unacked →
      (tget {} (s.pas (4 * g + c)).ins i).stopped = false →
      (tget {} (s.pas (4 * g + c)).ins i).firstAt + 32 ≤ s.now →
      exec (.ackTimer g c i) s = .next (sendAck s g c i)) ∧
  (∀ (g c m seq check n : Nat) (e : ReplayEnt) (o : StreamOut) (s : State),
      g < 8 →
      c < 4 →
      m < 8 →
      pasAlive s (4 * g + c) = true →
      useOf s g c ≠ .off →
      o = tget {} (s.pas (4 * g + c)).outs m →
      n = (seq + 1 + 65536 - o.acked) % 65536 →
      0 < n →
      n ≤ (o.next + 65536 - o.acked) % 65536 →
      (s.pas (4 * g + c)).replay.find? (fun e => e.m == m && e.num == seq % 65536) = some e →
      e.check = check →
      ∃ u, u = (countPas s (4 * g + c) 5 1).modPas (4 * g + c) (fun x => { x with
            replay := x.replay.filter (fun e => !(e.m == m && decide ((e.num + 65536 - o.acked) % 65536 < n)))
            outs := tput {} x.outs m { o with acked := (seq + 1) % 65536 } }) ∧
        exec (.ackReceived g c m seq check) s = .next (u.modGal g (fun y =>
          ((s.pas (4 * g + c)).replay.filter (fun e => e.m == m && decide ((e.num + 65536 - o.acked) % 65536 < n))).foldl (fun y e => freeSent y e.hop2 e.cell) y))) ∧
  (∀ (g c m seq check n : Nat) (o : StreamOut) (s : State),
      g < 8 →
      c < 4 →
      m < 8 →
      pasAlive s (4 * g + c) = true →
      useOf s g c ≠ .off →
      o = tget {} (s.pas (4 * g + c)).outs m →
      n = (seq + 1 + 65536 - o.acked) % 65536 →
      (n = 0 ∨ (o.next + 65536 - o.acked) % 65536 < n) →
      exec (.ackReceived g c m seq check) s = .next (killPassage (countPas s (4 * g + c) 5 1) (4 * g + c) 6 0 65535)) ∧
  (∀ (g c m seq check n : Nat) (e : ReplayEnt) (o : StreamOut) (s : State),
      g < 8 →
      c < 4 →
      m < 8 →
      pasAlive s (4 * g + c) = true →
      useOf s g c ≠ .off →
      o = tget {} (s.pas (4 * g + c)).outs m →
      n = (seq + 1 + 65536 - o.acked) % 65536 →
      0 < n →
      n ≤ (o.next + 65536 - o.acked) % 65536 →
      (s.pas (4 * g + c)).replay.find? (fun e => e.m == m && e.num == seq % 65536) = some e →
      e.check ≠ check →
      exec (.ackReceived g c m seq check) s = .next (killPassage (countPas s (4 * g + c) 5 1) (4 * g + c) 7 0 65535)) ∧
  (∀ (g c : Nat) (e : ReplayEnt) (s : State),
      g < 8 →
      c < 4 →
      useOf s g c ≠ .off →
      e ∈ (s.pas (4 * g + c)).replay →
      e.at24 + 256 * 24 ≤ 24 * s.now →
      exec (.ackTimeout g c) s = .next (killPassage s (4 * g + c) 8 0 65535)) ∧
  (∀ (g c : Nat) (s : State),
      g < 8 →
      c < 4 →
      (s.gal g).lost = none →
      exec (.receiveBufferRelease g ⟨c, false⟩) s = .next (releaseFrom g (4 * g + c) classOrder s)) ∧
  (∀ (g c cls : Nat) (s : State),
      g < 8 →
      c < 4 →
      (s.gal g).lost = none →
      nextClass s g (4 * g + c) = some cls →
      exec (.receiveBufferRelease g ⟨c, true⟩) s = .next (releaseFrom g (4 * g + c) classOrder (faultHead s g (4 * g + c) cls))) ∧
  (∀ (g c : Nat) (s : State),
      g < 8 →
      c < 4 →
      (s.gal g).lost = none →
      nextClass s g (4 * g + c) = none →
      exec (.receiveBufferRelease g ⟨c, true⟩) s = .next (releaseFrom g (4 * g + c) classOrder s)) ∧
  (∀ (g p cls : Nat) (rest : List Nat) (e : RxCell) (s : State),
      classHead (s.pas p) cls = some e →
      releaseFrom g p (cls :: rest) s = match releaseOf s g e.cell with
        | .waits => releaseFrom g p rest (countRefused s g cls)
        | .relay => storeRelay (takeRx s p cls) g e.cell
        | .discard => takeRx s p cls
        | .go v => releaseCell (takeRx s p cls) g e.cell v)

/-- At a live passage end ADVERT stores the relay permission and hold-off mask of its sender and FLOW the mask, and the cells of a class now held off that wait to be launched in this slot go back to their queues, but for granted ones; GRANT lets up to 64 cells of a class be placed in the named slot; GRANT_SEND, after a class has been held off for 27 drips, promises the free cells of its reserve in the slot 4 ahead (the model's choice within R58, log 10); an unused grant expires 28 drips after its slot starts. A NOTICE of a dead passage, of an untrusted column, or of a gallery that is unsure, without supply or sure again teaches a sequencer of it. -/
def Obligations.SidebandWords : Prop :=
  (∀ (g c m relayOpen xoff : Nat) (s : State),
      g < 8 →
      c < 4 →
      m < 8 →
      pasAlive s (4 * g + c) = true →
      exec (.advert g c m relayOpen xoff) s = .next ((unplan (s.modPas (4 * g + c) (fun x => { x with peerXoff := tput 0 x.peerXoff m (xoff % 128) })) (4 * g + c)
          (fun e => e.m == m && bitOf (xoff % 128) e.cell.pkt.cls && !e.granted)).modGal g
          (fun x => { x with relayRx := tput 0 x.relayRx m (relayOpen % 256) }))) ∧
  (∀ (g c m xoff : Nat) (s : State),
      g < 8 →
      c < 4 →
      m < 8 →
      pasAlive s (4 * g + c) = true →
      exec (.flow g c m xoff) s = .next (unplan (s.modPas (4 * g + c) (fun x => { x with peerXoff := tput 0 x.peerXoff m (xoff % 128) })) (4 * g + c) (fun e => e.m == m && bitOf (xoff % 128) e.cell.pkt.cls && !e.granted))) ∧
  (∀ (g c m cls count slot : Nat) (s : State),
      g < 8 →
      c < 4 →
      m < 8 →
      cls < 7 →
      count ≤ 64 →
      pasAlive s (4 * g + c) = true →
      exec (.grant g c m cls count slot) s = .next (s.modPas (4 * g + c) (fun x => { x with
          grantsIn := x.grantsIn ++ [{ peer := m, cls := cls, count := count, slot := slot % 65536 }] }))) ∧
  (∀ (g c cls : Nat) (s : State),
      g < 8 →
      c < 4 →
      cls < 7 →
      pasAlive s (4 * g + c) = true →
      0 < tget 0 (s.pas (4 * g + c)).heldSince cls →
      tget 0 (s.pas (4 * g + c)).heldSince cls + 27 ≤ s.now + 1 →
      0 < grantRoom (s.pas (4 * g + c)) cls →
      ∃ n k, n = slotNo s.drip + 4 ∧ k = grantRoom (s.pas (4 * g + c)) cls ∧
        exec (.grantSend g c cls) s = .next (sendSb (countPas (s.modPas (4 * g + c) (fun x => { x with
            grantsOut := x.grantsOut ++ [{ peer := slotSource n c g, cls := cls, count := k, slot := n }] })) (4 * g + c) 7 1)
          { type := 4, from_ := g, col := c, dest := slotSource n c g, body := [cls, k, n % 65536] })) ∧
  (∀ (g c cls slot : Nat) (s : State),
      g < 8 →
      c < 4 →
      exec (.grantExpiry g c cls slot) s = .next (s.modPas (4 * g + c) (fun x => { x with grantsOut := x.grantsOut.filter (fun e =>
          !(e.cls == cls && e.slot % 65536 == slot % 65536 && decide (8 * e.slot + 28 ≤ s.drip))) }))) ∧
  (∀ (g p : Nat) (s : State),
      g < 8 →
      p < 32 →
      ((s.pas p).st = .dead ∨ (s.pas p).st = .testing) →
      exec (.notice g 1 p) s = .next (learnDeath s g p)) ∧
  (∀ (g c code : Nat) (s : State),
      g < 8 →
      c < 4 →
      (code = 2 ∧ (s.col c).untrusted = 2 ∨ code = 3 ∧ (s.col c).untrusted = 3 ∨ code = 4 ∧ (s.col c).untrusted = 5) →
      exec (.notice g code c) s = .next (if useOf s g c == .used then setUse s g c (.stopping s.now) else s)) ∧
  (∀ (g k : Nat) (s : State),
      g < 8 →
      k < 8 →
      s.unsure (coreIsl k) = true →
      exec (.notice g 5 k) s = .next (s.modGal g (fun x => { x with peerUnsure := setBit x.peerUnsure k }))) ∧
  (∀ (g k : Nat) (s : State),
      g < 8 →
      k < 8 →
      (s.gal k).supplyBad = true →
      exec (.notice g 6 k) s = .next (s.modGal g (fun x => { x with peerSupply := setBit x.peerSupply k }))) ∧
  (∀ (g k : Nat) (s : State),
      g < 8 →
      k < 8 →
      s.unsure (coreIsl k) = false →
      exec (.notice g 7 k) s = .next (s.modGal g (fun x => { x with peerUnsure := clrBit x.peerUnsure k })))

/-- A parity, marker, header or sideband error (causes 01h, 02h, 04h, 05h) and a lost forwarded clock (cause 03h) at either end kill the passage; a commanded drain kills it with cause 0Ah 112 drips after it began. Death makes a live passage with no accepted test dead, with that cause and the drip count stored and the error masks of the end that detected it; that end discards what it received and sends 64 KILL words (a drain ends both), an event is raised and the death noticed. A KILL word at the far end of a dead passage discards what that end received and tells its sequencer; a passage that is not live is not killed again. -/
def Obligations.PassagesDie : Prop :=
  (∀ (p endp cause lane : Nat) (s : State),
      p < 32 →
      endp < 2 →
      cause = 1 ∨ cause = 2 ∨ cause = 4 ∨ cause = 5 →
      exec (.passageError p endp cause lane) s = .next (killPassage s p cause endp (min lane 65535))) ∧
  (∀ (p endp lane : Nat) (s : State),
      p < 32 →
      endp < 2 →
      exec (.forwardedClockLost p endp lane) s = .next (killPassage s p 3 endp (min lane 65535))) ∧
  (∀ (p b : Nat) (s : State),
      p < 32 →
      (s.pas p).st = .draining b →
      b + 112 ≤ s.now →
      exec (.passageDrainEnd p) s = .next (killPassage s p 10 2 65535)) ∧
  (∀ (p cause endp lane : Nat) (s : State),
      endp < 3 →
      (s.pas p).st = .alive →
      (s.pas p).testAsked = none →
      ∃ u v w, u = disarm (s.modPas p (fun x => { x with
            st := .dead, testAsked := none, lastCause := cause, deathDrip := s.drip, noticed := 0
            errOut := if endp = 1 ∧ lane < 256 then 2 ^ lane else 0
            errIn := if endp = 0 ∧ lane < 256 then 2 ^ lane else 0 })) (fun k => k == .passageDrain p) ∧
        v = (if endp = 1 then sendKill (endDies u p 1) p 1 else if endp = 0 then sendKill (endDies u p 0) p 0 else endDies (endDies u p 0) p 1) ∧
        w = noteNoPas (noticeDeath (raisePas v p cause endp lane (pasSev (livePas v (p / 4))) v.drip) p endp) (p / 4) ∧
        killPassage s p cause endp lane = if endp = 1 then w else learnDeath w (p / 4) p) ∧
  (∀ (p cause endp lane : Nat) (s : State),
      (s.pas p).st = .dead ∨ (s.pas p).st = .testing ∨ (s.pas p).st = .admitting →
      killPassage s p cause endp lane = s) ∧
  (∀ (p endp : Nat) (s : State),
      p < 32 →
      endp < 2 →
      (s.pas p).st = .dead ∨ (s.pas p).st = .testing →
      ∃ u, u = noticeDeath (endDies s p endp) p endp ∧ exec (.kill p endp) s = .next (if endp = 0 then learnDeath u (p / 4) p else u)) ∧
  (∀ (p endp : Nat) (s : State),
      ∃ u, u = s.modPas p (fun x => if endp == 0 then { x with galDead := true } else { x with colDead := true }) ∧
        endDies s p endp = dropFlights u (deathDiscards u p endp))

/-- A pattern test ends once it has run its TEST_BLOCKS blocks of 65,536 lane words: the passage is dead, its error count and lane masks are stored, and an event with cause 0Ch is raised; a column that is being re-admitted then takes the passage into its admission. The end of an admission, firmware running: as part of a column it revives the passage, or fails its part with a bad result, any error or more than 160,000 drips; on its own, a bad result or any error fails it and answers the waiting session with the cause (01h for errors), and more than 160,000 drips fails it with cause 09h. Once its return has launched the reply carries result 0 if the passage is alive, else its last cause, and the operation is over. -/
def Obligations.PassageTestAndAdmissionEnd : Prop :=
  (∀ (p errors outMask inMask : Nat) (s : State),
      p < 32 →
      (s.pas p).st = .testing →
      (s.pas p).op.blocks * 65536 * 66 ≤ (s.now - (s.pas p).op.started) * 125 →
      ∃ u v, u = s.modPas p (fun x => { x with
            st := .dead, testErrors := sat 32 errors, errOut := outMask % 2 ^ 256, errIn := inMask % 2 ^ 256, op := {} }) ∧
        v = raisePas u p 12 2 65535 0 u.drip ∧
        exec (.passageTestEnd p errors outMask inMask) s = .next (if (v.col (p % 4)).st = .calibrating ∧ (v.gal (p / 4)).lost = none then startPart (p % 4) v (p / 4) else v)) ∧
  (∀ (p result errors : Nat) (s : State),
      p < 32 →
      firmwareUp s = true →
      (s.pas p).st = .admitting →
      (s.pas p).op.forColumn = true →
      ∃ u, u = s.modPas p (fun x => { x with testErrors := sat 32 errors }) ∧
        exec (.passageAdmitEnd p result errors) s = .next (
          if result = 0 ∧ errors = 0 ∧ admitOver u p = false then columnCalCheck ((revive u p).modPas p (fun x => { x with op := {} })) (p % 4)
          else columnCalCheck (failPart u p) (p % 4))) ∧
  (∀ (p result errors : Nat) (s : State),
      p < 32 →
      firmwareUp s = true →
      (s.pas p).st = .admitting →
      (s.pas p).op.forColumn = false →
      ∃ u, u = s.modPas p (fun x => { x with testErrors := sat 32 errors }) ∧
        exec (.passageAdmitEnd p result errors) s = .next (
          if result ≠ 0 then failPassageAdmit u p (result % 256)
          else if errors ≠ 0 then failPassageAdmit u p 1
          else if admitOver u p = true then failPassageAdmit u p 9
          else u)) ∧
  (∀ (p : Nat) (s : State),
      admitOver s p = decide ((s.pas p).op.started + 160000 ≤ s.now)) ∧
  (∀ (p result errors : Nat) (s : State),
      p < 32 →
      firmwareUp s = true →
      (s.pas p).st ≠ .admitting →
      (s.pas p).op.returned = true →
      exec (.passageAdmitEnd p result errors) s = .next ((answerAdmit s p (if pasAlive s p then 0 else (s.pas p).lastCause)).modPas p (fun x => { x with op := {} })))

/-- 1,600 drips (2 µs) after a hole opened: a flow of Echo (class 6) skips it, discarding the packet with the missing cell, and Echo counts a drop of cause 6; in another class EV_RESEQ_HOLE is raised once, with the class, source, next number and cells held. Once a gallery has been lost for 20 µs, a hole of a class below 6 that has been open for 2 µs is skipped, and the packet is handed on marked bad with zeros where its cells are missing. -/
def Obligations.ReorderHoles : Prop :=
  (∀ (g srcGal srcPort at_ drip : Nat) (s : State),
      g < 8 →
      srcGal < 8 →
      srcPort < 64 →
      (tget {} (s.gal g).flows (flowKey srcGal srcPort 6)).hole = some (drip, at_) →
      at_ + 1600 ≤ s.now →
      exec (.reseqHoleTimeout g srcGal srcPort 6) s = .next (echoDrop (forEach (packetsOf (skipFlow s g (flowKey srcGal srcPort 6)).2.length (skipFlow s g (flowKey srcGal srcPort 6)).2)
          (skipFlow s g (flowKey srcGal srcPort 6)).1 (fun u e => forgetPacket u g e.1)) g 6 none none)) ∧
  (∀ (g srcGal srcPort cls at_ drip : Nat) (fl : Flow) (s : State),
      g < 8 →
      srcGal < 8 →
      srcPort < 64 →
      cls < 6 →
      fl = tget {} (s.gal g).flows (flowKey srcGal srcPort cls) →
      fl.hole = some (drip, at_) →
      at_ + 1600 ≤ s.now →
      ∃ u, u = s.modGal g (fun x => { x with flows := tput {} x.flows (flowKey srcGal srcPort cls) { fl with reported := true } }) ∧
        exec (.reseqHoleTimeout g srcGal srcPort cls) s = .next (if fl.reported = true then s else raise u (1260 + g) evReseqHole 2 (coreIsl g)
          (evData (leBytes 1 cls ++ leBytes 1 srcGal ++ leBytes 1 srcPort ++ leBytes 1 0 ++ leBytes 2 fl.e ++
            leBytes 2 (sat 16 fl.held.length)) drip))) ∧
  (∀ (g srcGal srcPort cls at_ drip : Nat) (s : State),
      g < 8 →
      srcGal < 8 →
      srcPort < 64 →
      cls < 6 →
      (tget {} (s.gal g).flows (flowKey srcGal srcPort cls)).hole = some (drip, at_) →
      at_ + 1600 ≤ s.now →
      lostLongAgo s = true →
      exec (.galleryLostHoleClose g srcGal srcPort cls) s = .next (forEach (packetsOf (skipFlow s g (flowKey srcGal srcPort cls)).2.length (skipFlow s g (flowKey srcGal srcPort cls)).2)
          (skipFlow s g (flowKey srcGal srcPort cls)).1 (fun u e =>
            deliver (u.modGal g (fun x => { x with admitted := tput 0 x.admitted (admKey e.1) 0 })) g
              { e.1.pkt with bad := true, data := zeroMissing e.1.pkt e.2, stage := if (tget {} (s.gal g).flows (flowKey srcGal srcPort cls)).started &&
                (match (tget {} (s.gal g).flows (flowKey srcGal srcPort cls)).part.head? with | some h => pktSeq h == pktSeq e.1 | none => false) then .ended else .whole })))

/-- While a gallery is not lost and its supply is bad and another gallery has been told, or it has had no live passage for 1 ms, or its core has been unsure for 1 ms and another gallery has been told, the declaration drops the internal packets that wait for it, marks it lost from now, clears what it holds and what is on the way to it, makes every other gallery discard what it keeps for it, takes down its ports with cause 07h, loses its Type 3 devices, makes the hierarchies at home there homeless, answers the requests that were on their way to it, ends the drains and takes up the admissions that waited for it alone, and arms the moves of those homes. A sample of the monitors replaces the 13 die temperatures and the 31 rail voltages and then tests each in order against its range. A die not yet hot at 105.0 degrees or above becomes hot and raises EV_THERMAL cause 1; a hot die at 100.0 degrees or below ceases to be and raises cause 2; a rail not yet marked outside its range is marked bad, and a bad rail back in range is good with cause 4. -/
def Obligations.GalleryLossAndMonitors : Prop :=
  (∀ (g : Nat) (s : State),
      g < 8 →
      (s.gal g).lost = none →
      lostDue s g = true →
      ∃ u v w, u = forEach ((List.range 8).filter (· != g))
            (dropFlights (clearGallery ((dropWaiting s g).modGal g (fun x => { x with lost := some (dropWaiting s g).now })) g) (fun f => f.m == g)) (purge g) ∧
        v = forEach (((List.range 64).map (64 * g + ·)).filter (fun b => isType3 (forEach (galleryUp s g) u (fun w b => takeDown w b 7 .down)).cfg b))
          (forEach (galleryUp s g) u (fun w b => takeDown w b 7 .down)) loseDevice ∧
        w = forEach (distinctPkts (cellsToward s g) ++ waitingToward s g)
          { v with cfg := { v.cfg with hiers := v.cfg.hiers.map (fun h => (h.1, if h.2.live && h.2.home == g then { h.2 with homeless := true } else h.2)) } }
          answerLost ∧
        exec (.galleryLostDeclare g) s = .next (armMoves (forEach (List.range 4) (forEach (List.range 4) w (fun w c => columnOut w c w.drip))
          (fun w c => columnCalCheck w c)))) ∧
  (∀ (g : Nat) (s : State),
      g < 8 →
      (s.gal g).lost.isSome = true ∨ lostDue s g = false →
      exec (.galleryLostDeclare g) s = .next s) ∧
  (∀ (g : Nat) (s : State),
      lostDue s g = true ↔ ((s.gal g).supplyBad = true ∧ toldOf s g (·.peerSupply) = true) ∨
          (livePas s g = 0 ∧ ∃ a, (s.gal g).noPasSince = some a ∧ a + 800000 ≤ s.now) ∨
          (s.unsure (coreIsl g) = true ∧ (∃ a, (s.gal g).unsureSince = some a ∧ a + 800000 ≤ s.now) ∧ toldOf s g (·.peerUnsure) = true)) ∧
  (∀ (temps rails : List Nat) (s : State),
      ∃ u, u = { s with pin := { s.pin with die := (temps.take 13).map Int.ofNat, rails := rails.take 31 } } ∧
        exec (.monitorSample temps rails) s = .next (forEach ((List.range 31).zip rails) (forEach ((List.range 13).zip temps) u testTemp) testRail)) ∧
  (∀ (d v : Nat) (s : State),
      1050 ≤ v →
      bitOf s.pin.hot d = false →
      testTemp s (d, v) = raiseThermal { s with pin := { s.pin with hot := setBit s.pin.hot d } } 1584 1 1 d v 255) ∧
  (∀ (d v : Nat) (s : State),
      v ≤ 1000 →
      bitOf s.pin.hot d = true →
      testTemp s (d, v) = raiseThermal { s with pin := { s.pin with hot := clrBit s.pin.hot d } } 1584 2 0 d v 255) ∧
  (∀ (d v : Nat) (s : State),
      1000 < v →
      v < 1050 →
      testTemp s (d, v) = s) ∧
  (∀ (i v : Nat) (s : State),
      (railRange i).1 ≤ v →
      v ≤ (railRange i).2 →
      bitOf s.pin.railBad i = true →
      testRail s (i, v) = raiseThermal { s with pin := { s.pin with railBad := clrBit s.pin.railBad i } } 1585 4 0 (railDie i) (v / 10) i)

/-- For every key K below 2^45: the logical slice is K[2:0] xor K[21:19] xor K[40:38], the set index is K[18:3] xor K[34:19], the tag is K[44:19]; two keys with the same slice, set and tag are the same key, and K[18:3] = x xor K[34:19], K[2:0] = l xor K[21:19] xor K[40:38]. -/
def Obligations.DirectoryKeysSplit : Prop :=
  (∀ (k : Nat),
      keySlice k = (bitsOf k 2 0 ^^^ bitsOf k 21 19 ^^^ bitsOf k 40 38) ∧ keySet k = (bitsOf k 18 3 ^^^ bitsOf k 34 19) ∧ keyTag k = bitsOf k 44 19 ∧
          bitsOf k 18 3 = (keySet k ^^^ bitsOf k 34 19) ∧ bitsOf k 2 0 = (keySlice k ^^^ bitsOf k 21 19 ^^^ bitsOf k 40 38)) ∧
  (∀ (k j : Nat),
      k < 2 ^ 45 →
      j < 2 ^ 45 →
      keySlice k = keySlice j →
      keySet k = keySet j →
      keyTag k = keyTag j →
      k = j)

/-- A slice that has a store and two free records, with no Write or answer waiting ahead, and whose cycle belongs to the intake, takes the next intake request when it is of the command's type (each of the seven types); where it is of another type, or there is none, nothing changes. A request of a fenced agent is answered without a lookup; one whose set a migration or conversion moves goes there; any other is looked up. Its cells leave the egress buffer unless it went back to its list. In a cycle that belongs to a retry the first due deferred request is looked up again in the same way. -/
def Obligations.SliceLookups : Prop :=
  (∀ (g sl : Nat) (f : LookupFault) (r : SliceReq) (s : State),
      mayLook s g sl = true →
      retryTurn (s.slice g sl) = false →
      nextIntake (s.slice g sl) = some r →
      r.kind = .rdShared →
      ∃ u v, u = s.modSlice g sl (fun x => takeIntake x r) ∧ v = lookup u g sl r none f ∧
        exec (.rdShared g sl f) s = .next (
          if (u.fence r.agent).on then fencedReply (freeEg u g (localOf (keyPort g r.key)) 0 r.cells) g sl r
          else match routeAway u g sl { r with cells := 0 } with
            | some w => freeEg w g (localOf (keyPort g r.key)) 0 r.cells
            | none => if v.2 = 2 then v.1 else freeEg v.1 g (localOf (keyPort g r.key)) 0 r.cells)) ∧
  (∀ (g sl : Nat) (f : LookupFault) (r : SliceReq) (s : State),
      mayLook s g sl = true →
      retryTurn (s.slice g sl) = false →
      nextIntake (s.slice g sl) = some r →
      r.kind = .rdAny →
      ∃ u v, u = s.modSlice g sl (fun x => takeIntake x r) ∧ v = lookup u g sl r none f ∧
        exec (.rdAny g sl f) s = .next (
          if (u.fence r.agent).on then fencedReply (freeEg u g (localOf (keyPort g r.key)) 0 r.cells) g sl r
          else match routeAway u g sl { r with cells := 0 } with
            | some w => freeEg w g (localOf (keyPort g r.key)) 0 r.cells
            | none => if v.2 = 2 then v.1 else freeEg v.1 g (localOf (keyPort g r.key)) 0 r.cells)) ∧
  (∀ (g sl : Nat) (f : LookupFault) (r : SliceReq) (s : State),
      mayLook s g sl = true →
      retryTurn (s.slice g sl) = false →
      nextIntake (s.slice g sl) = some r →
      r.kind = .rdOwn →
      ∃ u v, u = s.modSlice g sl (fun x => takeIntake x r) ∧ v = lookup u g sl r none f ∧
        exec (.rdOwn g sl f) s = .next (
          if (u.fence r.agent).on then fencedReply (freeEg u g (localOf (keyPort g r.key)) 0 r.cells) g sl r
          else match routeAway u g sl { r with cells := 0 } with
            | some w => freeEg w g (localOf (keyPort g r.key)) 0 r.cells
            | none => if v.2 = 2 then v.1 else freeEg v.1 g (localOf (keyPort g r.key)) 0 r.cells)) ∧
  (∀ (g sl : Nat) (f : LookupFault) (r : SliceReq) (s : State),
      mayLook s g sl = true →
      retryTurn (s.slice g sl) = false →
      nextIntake (s.slice g sl) = some r →
      r.kind = .invOwn →
      ∃ u v, u = s.modSlice g sl (fun x => takeIntake x r) ∧ v = lookup u g sl r none f ∧
        exec (.invOwn g sl f) s = .next (
          if (u.fence r.agent).on then fencedReply (freeEg u g (localOf (keyPort g r.key)) 0 r.cells) g sl r
          else match routeAway u g sl { r with cells := 0 } with
            | some w => freeEg w g (localOf (keyPort g r.key)) 0 r.cells
            | none => if v.2 = 2 then v.1 else freeEg v.1 g (localOf (keyPort g r.key)) 0 r.cells)) ∧
  (∀ (g sl : Nat) (f : LookupFault) (r : SliceReq) (s : State),
      mayLook s g sl = true →
      retryTurn (s.slice g sl) = false →
      nextIntake (s.slice g sl) = some r →
      r.kind = .rdCur →
      ∃ u v, u = s.modSlice g sl (fun x => takeIntake x r) ∧ v = lookup u g sl r none f ∧
        exec (.rdCur g sl f) s = .next (
          if (u.fence r.agent).on then fencedReply (freeEg u g (localOf (keyPort g r.key)) 0 r.cells) g sl r
          else match routeAway u g sl { r with cells := 0 } with
            | some w => freeEg w g (localOf (keyPort g r.key)) 0 r.cells
            | none => if v.2 = 2 then v.1 else freeEg v.1 g (localOf (keyPort g r.key)) 0 r.cells)) ∧
  (∀ (g sl : Nat) (f : LookupFault) (r : SliceReq) (s : State),
      mayLook s g sl = true →
      retryTurn (s.slice g sl) = false →
      nextIntake (s.slice g sl) = some r →
      r.kind = .write →
      ∃ u v, u = s.modSlice g sl (fun x => takeIntake x r) ∧ v = lookup u g sl r none f ∧
        exec (.writeReq g sl f) s = .next (
          if (u.fence r.agent).on then fencedReply (freeEg u g (localOf (keyPort g r.key)) 0 r.cells) g sl r
          else match routeAway u g sl { r with cells := 0 } with
            | some w => freeEg w g (localOf (keyPort g r.key)) 0 r.cells
            | none => if v.2 = 2 then v.1 else freeEg v.1 g (localOf (keyPort g r.key)) 0 r.cells)) ∧
  (∀ (g sl : Nat) (f : LookupFault) (r : SliceReq) (s : State),
      mayLook s g sl = true →
      retryTurn (s.slice g sl) = false →
      nextIntake (s.slice g sl) = some r →
      r.kind = .evict →
      ∃ u v, u = s.modSlice g sl (fun x => takeIntake x r) ∧ v = lookup u g sl r none f ∧
        exec (.evict g sl f) s = .next (
          if (u.fence r.agent).on then fencedReply (freeEg u g (localOf (keyPort g r.key)) 0 r.cells) g sl r
          else match routeAway u g sl { r with cells := 0 } with
            | some w => freeEg w g (localOf (keyPort g r.key)) 0 r.cells
            | none => if v.2 = 2 then v.1 else freeEg v.1 g (localOf (keyPort g r.key)) 0 r.cells)) ∧
  (∀ (k : ReqKind) (g sl : Nat) (f : LookupFault) (s : State),
      (∀ r, nextIntake (s.slice g sl) = some r → r.kind ≠ k) →
      exec (lookupCmd k g sl f) s = .next s) ∧
  (∀ (g sl : Nat) (f : LookupFault) (e : RetryEnt) (s : State),
      mayLook s g sl = true →
      retryTurn (s.slice g sl) = true →
      nextRetry (s.slice g sl) = some e →
      ∃ u, u = s.modSlice g sl (fun x => { x with retryRun := x.retryRun + 1 }) ∧
        exec (.retry g sl f) s = .next (if (u.fence e.req.agent).on then fencedReply (retryDone u g sl e) g sl e.req
          else match routeAway u g sl e.req with
            | some v => retryDone v g sl e
            | none => (lookup u g sl e.req (some e) f).1))

/-- For an entry in I, S, O, or in E or M, and each request type, the agents snooped and the kind of snoop, the completion sent, and the next entry are those of the table of the spec: for example RdOwn on S snoops BISnpInv to SH - q, answers Cmp-E and leaves E with o = q; RdShared on E or M by another snoops BISnpData to o and answers Cmp-S; Write leaves I or S with SH = {q}. A request from the recorded owner takes the I rows with STASH kept and snoops nobody. A fifth sharer in the pointer store sets BCAST. -/
def Obligations.DirectoryTable : Prop :=
  (∀ (g : Nat) (e : Entry) (r : SliceReq) (s : State),
      e.st = .i →
      e.stash = false →
      snoopPlan s g e r = ([], .inv)) ∧
  (∀ (full : Bool) (e : Entry) (t : Txn) (r : SliceReq),
      e.st = .i →
      e.stash = false →
      r.kind = .rdShared →
      rowReply e r = .cmpS ∧ nextEntry full e t r = { e with st := .s, owner := 0, sharers := 2 ^ r.agent, bcast := false }) ∧
  (∀ (full : Bool) (e : Entry) (t : Txn) (r : SliceReq),
      e.st = .i →
      e.stash = false →
      r.kind = .rdAny ∨ r.kind = .rdOwn →
      rowReply e r = .cmpE ∧ nextEntry full e t r = { e with st := .e, owner := r.agent, sharers := 0, bcast := false }) ∧
  (∀ (full : Bool) (e : Entry) (t : Txn) (r : SliceReq),
      e.st = .i ∨ e.st = .s ∨ e.st = .o ∨ isOwned e = true ∧ e.owner ≠ r.agent ∨ isOwned e = true ∧ e.owner = r.agent →
      r.kind = .invOwn →
      rowReply e r = .cmpE ∧ nextEntry full e t r = { e with st := .m, owner := r.agent, sharers := 0, bcast := false }) ∧
  (∀ (full : Bool) (e : Entry) (t : Txn) (r : SliceReq),
      e.st = .i →
      e.stash = false →
      r.kind = .rdCur →
      rowReply e r = .cmp ∧ nextEntry full e t r = e) ∧
  (∀ (full : Bool) (e : Entry) (t : Txn) (r : SliceReq),
      e.st = .i →
      e.stash = false →
      r.kind = .write →
      rowReply e r = .cmp ∧ nextEntry full e t r = { e with st := if r.metaS then .s else .i, owner := 0, sharers := if r.metaS then 2 ^ r.agent else 0, bcast := false }) ∧
  (∀ (full : Bool) (g : Nat) (e : Entry) (t : Txn) (r : SliceReq) (s : State),
      e.st = .s ∨ e.st = .o →
      r.kind = .rdShared ∨ r.kind = .rdAny →
      rowReply e r = .cmpS ∧ snoopPlan s g e r = ([], .inv) ∧ nextEntry full e t r = addSharer full e r.agent) ∧
  (∀ (g : Nat) (e : Entry) (r : SliceReq) (s : State),
      e.st = .s ∨ e.st = .o →
      r.kind = .rdOwn ∨ r.kind = .invOwn ∨ r.kind = .write →
      snoopPlan s g e r = ((holders s g e).filter (· != r.agent), .inv)) ∧
  (∀ (full : Bool) (e : Entry) (t : Txn) (r : SliceReq),
      e.st = .s ∨ e.st = .o →
      r.kind = .rdOwn →
      rowReply e r = .cmpE ∧ nextEntry full e t r = { e with st := .e, owner := r.agent, sharers := 0, bcast := false }) ∧
  (∀ (full : Bool) (g : Nat) (e : Entry) (t : Txn) (r : SliceReq) (s : State),
      e.st = .s ∨ e.st = .o →
      r.kind = .rdCur →
      rowReply e r = .cmp ∧ snoopPlan s g e r = ([], .inv) ∧ nextEntry full e t r = e) ∧
  (∀ (full : Bool) (e : Entry) (t : Txn) (r : SliceReq),
      e.st = .s ∧ e.stash = false ∨ e.st = .o ∧ e.stash = true →
      r.kind = .write →
      rowReply e r = .cmp ∧ nextEntry full e t r = { e with st := if e.stash then .o else if r.metaS then .s else .i, owner := if e.stash then e.owner else 0, sharers := if r.metaS then 2 ^ r.agent else 0, bcast := false }) ∧
  (∀ (full : Bool) (g : Nat) (e : Entry) (t : Txn) (r : SliceReq) (s : State),
      isOwned e = true →
      e.owner ≠ r.agent →
      r.kind = .rdShared ∨ r.kind = .rdAny →
      snoopPlan s g e r = ([e.owner], .data) ∧ rowReply e r = .cmpS ∧ nextEntry full e t r = { e with st := if e.stash then .o else .s, owner := if e.stash then e.owner else 0, sharers := 2 ^ r.agent ||| (if answerOf t e.owner = .s then 2 ^ e.owner else 0), bcast := false }) ∧
  (∀ (g : Nat) (e : Entry) (r : SliceReq) (s : State),
      isOwned e = true →
      e.owner ≠ r.agent →
      r.kind = .rdOwn ∨ r.kind = .invOwn ∨ r.kind = .write →
      snoopPlan s g e r = ([e.owner], .inv)) ∧
  (∀ (full : Bool) (e : Entry) (t : Txn) (r : SliceReq),
      isOwned e = true →
      e.owner ≠ r.agent →
      r.kind = .rdOwn →
      rowReply e r = .cmpE ∧ nextEntry full e t r = { e with st := .e, owner := r.agent, sharers := 0, bcast := false }) ∧
  (∀ (full : Bool) (g : Nat) (e : Entry) (t : Txn) (r : SliceReq) (s : State),
      isOwned e = true →
      e.owner ≠ r.agent →
      r.kind = .rdCur →
      snoopPlan s g e r = ([e.owner], .cur) ∧ rowReply e r = .cmp ∧ (answerOf t e.owner = .e → nextEntry full e t r = e)) ∧
  (∀ (g : Nat) (e : Entry) (r : SliceReq) (s : State),
      isOwned e = true →
      e.owner = r.agent →
      snoopPlan s g e r = ([], .inv)) ∧
  (∀ (full : Bool) (e : Entry) (t : Txn) (r : SliceReq),
      isOwned e = true →
      e.owner = r.agent →
      r.kind = .write →
      rowReply e r = .cmp ∧ nextEntry full e t r = { e with st := if r.metaS then .s else .i, owner := 0, sharers := if r.metaS then 2 ^ r.agent else 0, bcast := false, stash := false }) ∧
  (∀ (full : Bool) (e : Entry) (t : Txn) (r : SliceReq),
      isOwned e = true →
      e.owner = r.agent →
      r.kind = .rdAny ∨ r.kind = .rdOwn →
      rowReply e r = .cmpE ∧ nextEntry full e t r = { e with st := .e, owner := r.agent, sharers := 0, bcast := false }) ∧
  (∀ (full : Bool) (e : Entry) (t : Txn) (r : SliceReq),
      isOwned e = true →
      e.owner = r.agent →
      r.kind = .rdCur →
      rowReply e r = .cmp ∧ nextEntry full e t r = { e with st := if e.stash then .o else .i, owner := if e.stash then e.owner else 0, sharers := 0, bcast := false }) ∧
  (∀ (e : Entry) (q : Nat),
      bitOf e.sharers q = false →
      addSharer true e q = { e with sharers := setBit e.sharers q } ∧
        addSharer false e q = if popcount 256 e.sharers < 4 then { e with sharers := setBit e.sharers q } else { e with bcast := true })

/-- An answer acts once it has arrived at the slice, and is taken then. A BIRsp that answers an outstanding snoop of the agent records its answer, a fault of the stash copy is applied, and the transaction goes on; one that matches none is discarded and counted as a stray. A BIConflict waits while a Write of the agent to the line is on the snoop-answer path; for no outstanding snoop it is counted and acknowledged at once; for an outstanding one the acknowledgement follows the reply owed to the agent for that line, if there is one, else it goes at once. The head of the snoop-answer path is served: an Evict is answered Cmp, a Write handed on after the snoop is captured as the write-back, an earlier one is written to the device. -/
def Obligations.SnoopAnswers : Prop :=
  (∀ (g sl agent key : Nat) (rsp : BiRsp) (f : LookupFault) (s u : State),
      g < 8 →
      sl < 9 →
      (s.slice g sl).answers.contains { agent := agent, key := key, rsp := some rsp } = true →
      u = takeAnswer s g sl { agent := agent, key := key, rsp := some rsp } →
      snoopOut u g sl key agent = true →
      exec (.birsp g sl agent key ⟨rsp, f⟩) s = .next (progress (applyFault (modTxn u g sl key (fun t => { t with
          snoops := replaceFirst (fun n => n.agent == agent && n.answer.isNone) (fun n => { n with answer := some rsp }) t.snoops })) g sl key agent key f) g sl key)) ∧
  (∀ (g sl agent key : Nat) (rsp : BiRsp) (f : LookupFault) (s u : State),
      g < 8 →
      sl < 9 →
      (s.slice g sl).answers.contains { agent := agent, key := key, rsp := some rsp } = true →
      u = takeAnswer s g sl { agent := agent, key := key, rsp := some rsp } →
      snoopOut u g sl key agent = false →
      exec (.birsp g sl agent key ⟨rsp, f⟩) s = .next (u.modSlice g sl (fun x => { x with counts := { x.counts with strayRsp := x.counts.strayRsp + 1 } }))) ∧
  (∀ (g sl agent key : Nat) (rsp : BiRsp) (f : LookupFault) (s : State),
      (s.slice g sl).answers.contains { agent := agent, key := key, rsp := some rsp } = false →
      exec (.birsp g sl agent key ⟨rsp, f⟩) s = .next s) ∧
  (∀ (g sl agent key : Nat) (s u : State),
      g < 8 →
      sl < 9 →
      (s.slice g sl).answers.contains { agent := agent, key := key, rsp := none } = true →
      onPath s g sl key agent = false →
      u = takeAnswer s g sl { agent := agent, key := key, rsp := none } →
      snoopOut u g sl key agent = false →
      exec (.biconflict g sl agent key) s = .next (sendAckMsg (countStray u g sl true) g key agent)) ∧
  (∀ (g sl agent key : Nat) (s u : State),
      g < 8 →
      sl < 9 →
      (s.slice g sl).answers.contains { agent := agent, key := key, rsp := none } = true →
      onPath s g sl key agent = false →
      u = takeAnswer s g sl { agent := agent, key := key, rsp := none } →
      snoopOut u g sl key agent = true →
      exec (.biconflict g sl agent key) s = .next ((ackAfter u g sl key agent).getD (sendAckMsg u g key agent))) ∧
  (∀ (g sl agent key : Nat) (s : State),
      (s.slice g sl).answers.contains { agent := agent, key := key, rsp := none } = false ∨ onPath s g sl key agent = true →
      exec (.biconflict g sl agent key) s = .next s) ∧
  (∀ (g sl : Nat) (r : SliceReq) (rs : List SliceReq) (s : State),
      (s.slice g sl).snoopPath = r :: rs →
      ∃ u, u = freeEg (s.modSlice g sl (fun x => { x with snoopPath := rs })) g (localOf (keyPort g r.key)) 0 r.cells ∧
        exec (.snoopPathWrite g sl) s = .next (progress (
          if r.kind = .evict then sliceReply u g sl r .cmp none false
          else match entryOf u g sl r.key with
            | none => earlyWrite u g sl r
            | some e => match e.txn with
              | none => earlyWrite u g sl r
              | some t => if r.beforeSnoop then earlyWrite u g sl r else captureWrite u g sl e t r) g sl r.key))

/-- At a multiple of 1,024 drips a slice declares lost every snoop that has been unanswered for its timeout: the snoop counts as BIRspI, EV_BI_TIMEOUT is raised unless the agent is fenced already, and the agent is fenced. A report of a discarded grant reply is consumed and the grant undone, at once or when the line is stable. A fence sweeps each active slice set by set, the target of a migration with its source: each entry that names the agent is cleared, or marked for when it is stable. Once every sweep is done EV_HOST_LINES_LOST is raised with the counts of the fence and the agent settles. -/
def Obligations.SnoopTimersReportsAndFences : Prop :=
  (∀ (g sl : Nat) (s : State),
      g < 8 →
      sl < 9 →
      s.drip % 1024 = 0 →
      exec (.snoopTimerCheck g sl) s = .next (forEach (lateSnoops s g sl) s (fun u e => declareLost u g sl e.1 e.2)) ∧
        (lateSnoops s g sl = [] → exec (.snoopTimerCheck g sl) s = .next s)) ∧
  (∀ (g sl k : Nat) (n : Snoop) (s : State),
      snoopOut s g sl k n.agent = true →
      ((loseSnoop s g sl k n.agent).1.fence n.agent).on = true →
      ∃ u, u = fenceAgent (loseSnoop s g sl k n.agent).1 n.agent 2 ∧
        declareLost s g sl k n =
          progress (if (loseSnoop s g sl k n.agent).2 then u.modFence n.agent (fun f => { f with poisoned := sat 16 (f.poisoned + 1) }) else u) g sl k) ∧
  (∀ (g sl k : Nat) (n : Snoop) (s : State),
      snoopOut s g sl k n.agent = true →
      ((loseSnoop s g sl k n.agent).1.fence n.agent).on = false →
      ∃ u, u = fenceAgent (raiseSlice (loseSnoop s g sl k n.agent).1 g sl evBiTimeout 3
            (leBytes 1 n.agent ++ leBytes 1 (snoopCode n.kind) ++ leBytes 1 (bit (loseSnoop s g sl k n.agent).2) ++
              leBytes 1 (((entryOf s g sl k).map (·.way)).getD 255) ++ leBytes 2 (keySet k)) n.sentDrip) n.agent 2 ∧
        declareLost s g sl k n =
          progress (if (loseSnoop s g sl k n.agent).2 then u.modFence n.agent (fun f => { f with poisoned := sat 16 (f.poisoned + 1) }) else u) g sl k) ∧
  (∀ (g sl agent key : Nat) (rep : Report) (s : State),
      rep = { g := g, sl := sl, agent := agent, key := key } →
      s.dir.reports.contains rep = true →
      ∃ u home, u = { s with dir := { s.dir with reports := s.dir.reports.erase rep } } ∧
        home = ((homeEntry u g key).map (·.1)).getD sl ∧
        exec (.discardReport g sl agent key) s = .next (if ((entryOf u g home key).bind (·.txn)).isSome
          then modTxn u g home key (fun t => { t with undo := agent :: t.undo }) else undoGrant u g home key agent)) ∧
  (∀ (g sl agent set : Nat) (s : State),
      (s.fence agent).on = true →
      (s.fence agent).sweeping = true →
      (activeSlices s).contains (g, sl) = true →
      sweepMay (tget 0 (s.fence agent).sweep (sweepKey s g sl)) set (sweepHits s g sl (names agent)) = true →
      ∃ u, u = s.modFence agent (fun f => { f with sweep := tput 0 f.sweep (sweepKey s g sl) (set + 1) }) ∧
        exec (.fenceSweepStep g sl agent set) s = .next (traceDir (forEach ((sweepEntries u g sl set).filter (fun h => names agent h.2)) u
          (fenceEntry g agent)) g sl 8 agent 0 0 0 255 0 0 false)) ∧
  (∀ (agent : Nat) (s : State),
      (s.fence agent).on = true →
      (s.fence agent).sweeping = true →
      ((activeSlices s).all (fun p =>
    sweepDone (tget 0 (s.fence agent).sweep (sweepKey s p.1 p.2)) (sweepHits s p.1 p.2 (names agent)) &&
      !(sweptEntries s p.1 p.2).any (fun e => e.txn.any (fun t => t.late.contains agent)))) = true →
      ∃ f u, f = s.fence agent ∧ u = s.modFence agent (fun f => { f with sweeping := false, sweep := [] }) ∧
        exec (.fenceSweepEnd agent) s = .next (fenceSettle (raise u (1300 + agent) evHostLinesLost (if 0 < f.poisoned then 3 else 1) 284
          (evData (leBytes 1 f.cause ++ leBytes 1 0 ++ leBytes 2 f.poisoned ++ leBytes 2 f.cleared ++ leBytes 2 f.undone) f.trigger)) agent))

/-- When the pointer store passes, a slice that was down serves in pointer mode and raises EV_DIR_POINTER_MODE. When the full array passes, the conversion to full mode starts; when it fails, a spare is FAILED with EV_SLICE_SPARED, an active slice starts a migration to the spare with cause 5, or stays in recovery pointer mode with cause 3 where none is free. A test on command that ends: a slice out of the map becomes SPARE or FAILED, one tested in pointer mode converts back or stays. A new error interval clears the interval's counts. -/
def Obligations.SliceSelfTests : Prop :=
  (∀ (g sl : Nat) (s : State),
      g < 8 →
      sl < 9 →
      (s.slice g sl).mode = .down →
      exec (.pointerStorePass g sl) s = .next (raiseMode (s.modSlice g sl (fun x => { x with mode := .pointer, modeCause := 1, change := s.drip })) g sl true 1)) ∧
  (∀ (g sl : Nat) (pass : Bool) (s : State),
      g < 8 →
      sl < 9 →
      (s.slice g sl).mode = .pointer →
      (s.slice g sl).fullTested = false →
      (s.slice g sl).modeCause = 1 →
      ∃ u, u = s.modSlice g sl (fun x => { x with fullTested := true, fullPassed := pass }) ∧
        exec (.fullArraySelfTestEnd g sl pass) s = .next (
          if pass then startConv u g sl (.toFull 0) 1
          else if (s.slice g sl).role = .spare then
            raiseSpared (u.modSlice g sl (fun x => { x with role := .failed, change := s.drip })) g sl .spare .failed none 5 none false
          else if (spareFree u g).isSome then startMigration u g sl 5
          else raiseMode (u.modSlice g sl (fun x => { x with modeCause := 3 })) g sl true 3)) ∧
  (∀ (g sl arr addr : Nat) (pass : Bool) (s : State),
      g < 8 →
      sl < 9 →
      (s.slice g sl).role = .testing →
      exec (.sliceTestEnd g sl pass arr addr) s = .next (raiseSpared ((testResult s g sl pass arr addr).modSlice g sl (fun y => { y with
          role := if pass then .spare else .failed, change := s.drip, mode := if pass then .full else y.mode })) g sl .testing
          (if pass then .spare else .failed) none 4 none pass)) ∧
  (∀ (g sl arr addr : Nat) (pass : Bool) (s : State),
      g < 8 →
      sl < 9 →
      (s.slice g sl).role = .active →
      (s.slice g sl).testPending = true →
      (s.slice g sl).mode = .pointer →
      ∃ u, u = (if pass then startConv (testResult s g sl pass arr addr) g sl (.toFull 0) 2 else (testResult s g sl pass arr addr).modSlice g sl (fun y => { y with modeCause := 3 })) ∧
        exec (.sliceTestEnd g sl pass arr addr) s = .next (raiseSpared u g sl .active .active (logicalOf u g sl) 4 none pass)) ∧
  (∀ (g sl : Nat) (s : State),
      g < 8 →
      sl < 9 →
      exec (.eccIntervalEnd g sl) s = .next (s.modSlice g sl (fun x =>
          if x.ivIndex = s.drip / 800000000 then x else { x with ivIndex := s.drip / 800000000, ivCorr := 0, ivUncorr := 0 }))) ∧
  (∀ (g sl cause : Nat) (m : SliceMode) (s : State),
      ∃ u, u = s.modSlice g sl (fun x => { x with mode := m, modeCause := cause, change := s.drip, evictedByConv := 0 }) ∧ startConv s g sl m cause = pinMoving u g sl)

/-- A conversion step moves the next set when none of its entries is under way: to the full array, or to the pointer store when at most 8 entries share the set, with the requests that wait for its lines; otherwise the entries beyond eight are evicted. With nothing left the conversion ends in the mode it went to, raises the event and puts the requests held back in front of the intake. A migration copies the next set once none of its entries is under way, with its blind flag and the requests waiting for it, which go to the target in the order retries, held, intake; at the end the map names the target, which takes over the waiting requests, the source becomes SPARE (cause 3), is tested (cause 4), or is FAILED, and EV_SLICE_SPARED is raised. -/
def Obligations.ConversionsAndMigrations : Prop :=
  (∀ (g sl n : Nat) (s : State),
      g < 8 →
      sl < 9 →
      (s.slice g sl).mode = .toFull n →
      n < 16384 →
      (convSource s g sl n true).any isBusy = false →
      exec (.conversionStep g sl) s = .next (convNext (moveToFull s g sl n) g sl n (.toFull (n + 1)) ((convSource s g sl n true).map (·.key)))) ∧
  (∀ (g sl n : Nat) (s : State),
      g < 8 →
      sl < 9 →
      (s.slice g sl).mode = .toPointer n →
      n < 16384 →
      (convSource s g sl n false).any isBusy = false →
      ∃ v out, out = ((convSource s g sl n false).foldr moveInsert []).drop 8 ∧
        v = s.modSlice g sl (fun x => { x with evictedByConv := x.evictedByConv + out.length }) ∧
        exec (.conversionStep g sl) s = .next (if (convSource s g sl n false).length ≤ 8
          then convNext (moveToPtr s g sl n) g sl n (.toPointer (n + 1)) ((convSource s g sl n false).map (·.key))
          else forEach out v (fun s e => progress (startEvict s g sl e .convert none (evictTargets s g e)) g sl e.key))) ∧
  (∀ (g sl n : Nat) (s : State),
      g < 8 →
      sl < 9 →
      (s.slice g sl).mode = .toFull n →
      convLeft s g sl n true = false →
      ∃ u, u = (raiseMode (s.modSlice g sl (fun x => { x with mode := .full, change := s.drip })) g sl false (s.slice g sl).modeCause).modSlice g sl
            (fun x => { x with intake := x.held ++ x.intake, held := [] }) ∧
        exec (.conversionEnd g sl) s = .next (if (s.slice g sl).testPending then enterPointer u g sl 2 else u)) ∧
  (∀ (g sl n : Nat) (s : State),
      g < 8 →
      sl < 9 →
      (s.slice g sl).mode = .toPointer n →
      convLeft s g sl n false = false →
      exec (.conversionEnd g sl) s = .next ((raiseMode (s.modSlice g sl (fun x => { x with mode := .pointer, change := s.drip })) g sl true (s.slice g sl).modeCause).modSlice g sl
            (fun x => { x with intake := x.held ++ x.intake, held := [] }))) ∧
  (∀ (g : Nat) (m : Mig) (s : State),
      g < 8 →
      tget none s.dir.migs g = some m →
      m.p < 65536 →
      ((entriesAt s g m.src m.p).filter (fun e => keySet e.key == m.p)).any isBusy = false →
      ∃ u v w i, u = modSet (modEntries s g m.src m.p (List.filter (fun e => keySet e.key != m.p))) true (storeKey true g m.dst m.p)
            (fun _ => migEntries s g m.src m.p) ∧
        v = { u with dir := { u.dir with
          blind := tput false (tput false u.dir.blind (sliceNo g m.src * 65536 + m.p) false) (sliceNo g m.dst * 65536 + m.p)
            (tget false u.dir.blind (sliceNo g m.src * 65536 + m.p))
          migs := tput none u.dir.migs g (some { m with p := m.p + 1, held := [] }) } } ∧
        w = takeRetries (v.slice g m.src) (fun k => keySet k == m.p) ∧ i = takeSet m.p w.2 ∧
        exec (.migrationSetCopy g) s = .next (pinMoving (forEach (migEntries s g m.src m.p)
          ((v.modSlice g m.src (fun _ => i.2)).modSlice g m.dst (fun y => { y with intake := y.intake ++ w.1 ++ m.held ++ i.1 }))
          (fun s e => unpin s g m.dst e.key)) g m.src)) ∧
  (∀ (g : Nat) (m : Mig) (s : State),
      g < 8 →
      tget none s.dir.migs g = some m →
      (allEntries s g m.src).any (fun e => decide (m.p ≤ keySet e.key)) = false →
      ∃ x u v w, x = s.slice g m.src ∧
        u = s.modSlice g m.src (fun y => { y with
          role := if m.cause = 3 then .spare else if m.cause = 4 then .testing else .failed
          change := s.drip, intake := [], retry := [], paused := [], snoopPath := [], held := []
          testRes := if m.cause = 4 then 3 else y.testRes }) ∧
        v = u.modSlice g m.dst (fun y => { y with
          role := .active, change := s.drip, tie := x.tie
          intake := y.intake ++ x.retry.map (·.req) ++ m.held ++ x.held ++ x.intake, snoopPath := y.snoopPath ++ x.snoopPath }) ∧
        w = { v with dir := { v.dir with
          migs := tput none v.dir.migs g none
          map := match logicalOf s g m.src with
            | some l => tput 0 v.dir.map (8 * g + l) (if m.dst = l then 0 else m.dst + 1)
            | none => v.dir.map } } ∧
        exec (.migrationEnd g) s = .next (raiseSpared w g m.src .active
          (if m.cause = 3 then .spare else if m.cause = 4 then .testing else .failed) (logicalOf s g m.src) m.cause (some m.dst) false))

/-- A port that may train comes up at the lower of the rates found and the first flit mode both ends permit, with the lanes trained and EV_LINK_UP raised, when the partner has the protocols its role needs. A CXL 1.1 partner, or one without those protocols, is held in L0 with EV_LINK_DEGRADED cause 05h or 06h. A COMMON port without a good reference raises cause 20h, and one without a common flit mode raises cause 06h; neither comes up. A port that may not train is unchanged. -/
def Obligations.LinksComeUp : Prop :=
  (∀ (port : Nat) (p : Partner) (s : State),
      mayTrain s port = true →
      refAbsent s port = false →
      p.version ≠ 3 →
      protocolsOk s port p = true →
      (flitMode (modesOf s port) p.flitModes (min p.rate (min (advertised s port) p.maxRate))).isSome = true →
      exec (.linkUp port p) s = .next (bindAll (bringUp s port (min p.rate (min (advertised s port) p.maxRate)) (trainedLanes (bundleLanes s port) p.lanes)
          ((flitMode (modesOf s port) p.flitModes (min p.rate (min (advertised s port) p.maxRate))).getD 0) p))) ∧
  (∀ (port : Nat) (p : Partner) (s : State),
      mayTrain s port = true →
      refAbsent s port = false →
      (p.version = 3 ∨ protocolsOk s port p = false ∧ (flitMode (modesOf s port) p.flitModes (min p.rate (min (advertised s port) p.maxRate))).isSome = true) →
      exec (.linkUp port p) s = .next (holdLink s port (if p.version = 3 then 5 else 6) p (min p.rate (min (advertised s port) p.maxRate)) (trainedLanes (bundleLanes s port) p.lanes))) ∧
  (∀ (port : Nat) (p : Partner) (s : State),
      mayTrain s port = true →
      refAbsent s port = true →
      exec (.linkUp port p) s = .next (raiseLink s port evLinkDegraded 0x20 1 65535)) ∧
  (∀ (port : Nat) (p : Partner) (s : State),
      mayTrain s port = true →
      refAbsent s port = false →
      p.version ≠ 3 →
      flitMode (modesOf s port) p.flitModes (min p.rate (min (advertised s port) p.maxRate)) = none →
      exec (.linkUp port p) s = .next (raiseLink s port evLinkDegraded 6 2 65535)) ∧
  (∀ (b : Nat) (s : State),
      refAbsent s b = true ↔ clockingOf s b = 0 ∧ ((s.refclk (refOfPort b)).lost = true ∨ (s.refclk (refOfPort b)).good = false)) ∧
  (∀ (port : Nat) (p : Partner) (s : State),
      mayTrain s port = false →
      exec (.linkUp port p) s = .next s)

/-- An up bundle that goes down leaves service with cause 04h for a hot reset and 03h otherwise: its link is down, what it had negotiated is forgotten, EV_LINK_DOWN is raised with the severity of its role, and its queued packets are handled at once. The next packet for a down port that is not still being assembled leaves its queue and is handled by the role of the port: a late one of a recalled generation is dropped, a CXL.io request at a DSP is answered UR, a request of CXL.mem at a DSP ends as unreachable, a CXL.io completion at a USP is counted as discarded. -/
def Obligations.LinksGoDown : Prop :=
  (∀ (port cause : Nat) (s : State),
      Machine.isBundle s s.cfg port = true →
      (s.up port) = true →
      exec (.linkDown port cause) s = .next (takeDown s port (if cause = 4 then 4 else 3) .down)) ∧
  (∀ (port : Nat) (p : Pkt) (ps : List Pkt) (s : State),
      port < 512 →
      s.up port = false →
      egHead s port = p :: ps →
      p.stage ≠ .begun →
      exec (.packetAtDownPort port) s = .next (bindAll (atDownPort (egPop s port) port p))) ∧
  (∀ (b : Nat) (p : Pkt) (s : State),
      s.role b = 2 →
      isLate s b p = false →
      p.kind = .ioNonPosted →
      atDownPort s b p = sendToPort (freePkt s b p) (galOf b) (ioCompletion (galOf b) (localOf b) p 1 [])) ∧
  (∀ (b : Nat) (p : Pkt) (s : State),
      s.role b = 2 →
      isLate s b p = false →
      p.kind = .memReq →
      atDownPort s b p = requestEnd (freePkt s b p) b p.id p false [] false) ∧
  (∀ (b : Nat) (p : Pkt) (s : State),
      s.role b = 1 →
      isLate s b p = false →
      p.kind = .ioCpl →
      atDownPort s b p = replyGone (countDropped (freePkt s b p) (64 * p.srcGal + p.srcPort)) p) ∧
  (∀ (b : Nat) (p : Pkt) (s : State),
      isLate s b p = true →
      atDownPort s b p = dropLate s b p)

/-- When a good LANE_REFCLK input is lost, its 32 lanes move to the internal reference; each COMMON port it serves is taken down with cause 20h if it was up, and raises EV_LINK_DEGRADED cause 20h if it was training or held; the ports of other clocking raise it, severity 01b. A restored input is good from now, and after 800,000,000 drips without a break it no longer counts as lost, so that its COMMON ports may train. -/
def Obligations.LaneReferences : Prop :=
  (∀ (j : Nat) (s : State),
      j < 32 →
      (s.refclk j).good = true →
      ∃ u, u = forEach (List.range 32) (s.modRefclk j (fun r => { r with good := false, lost := true })) (fun v k => v.modLane (32 * j + k) (fun l => { l with internal := true })) ∧
        exec (.laneRefclkLost j) s = .next (forEach (portsOfRef u j) u (fun v b =>
          if clockingOf v b = 0 then
            if v.up b then takeDown v b 0x20 .down
            else if (v.prt b).link = .training ∨ (v.prt b).link = .held then raiseLink (setLink v b .training) b evLinkDegraded 0x20 1 65535
            else v
          else raiseLink v b evLinkDegraded 0x20 1 65535))) ∧
  (∀ (j : Nat) (s : State),
      j < 32 →
      (s.refclk j).lost = true →
      (s.refclk j).good = false →
      exec (.laneRefclkRestored j) s = .next (s.modRefclk j (fun r => { r with good := true, goodSince := s.now }))) ∧
  (∀ (j : Nat) (s : State),
      j < 32 →
      (s.refclk j).lost = true →
      (s.refclk j).good = true →
      (s.refclk j).goodSince + 800000000 ≤ s.now →
      exec (.laneRefclkGood j) s = .next (s.modRefclk j (fun r => { r with lost := false })))

/-- After its idle timer a port with empty egress queues enters the low-power state it offers: from L0 or L0p all lanes that are active save their values, and in L1.1 or L1.2 the request for the reference clock is dropped. An exit that completes leaves the link in L0: out of L0p the idle lanes resume their saved values, out of L1, L1.1 and L1.2 the link comes back through Recovery, and after L1.1 or L1.2 the floating taps are placed anew. By its partner a link in L0 or L0p narrows to half its lanes or enters a low-power state it offers, one in a low-power state starts its exit, any up link goes to Recovery, and one in Recovery returns to L0 at the rate and width trained: lanes equalised anew, or without saved values for the rate, are equalised, the others resume. Another state code, or a port that is not up, changes nothing. -/
def Obligations.LowPowerAndRecovery : Prop :=
  (∀ (port target : Nat) (l : LinkSt) (s : State),
      lowState target = some l →
      (s.up port) = true →
      (s.prt port).link = .l0 ∨ (s.prt port).link = .l0p →
      bitOf (s.cfg.port port).lp target = true →
      egressEmpty s port = true →
      (s.prt port).emptySince + (s.cfg.port port).idleUs * 800 ≤ s.now →
      (s.prt port).l0At + (s.cfg.port port).idleUs * 800 ≤ s.now →
      ((lanesOf s port).any (fun k => (s.lane k).margin.isSome || (s.lane k).partnerMargin)) = false →
      gateStaged s port = false →
      exec (.idleTimerExpiry port target) s = .next (enterLow s port l)) ∧
  (∀ (b : Nat) (s : State),
      enterLow s b .l1 = (setLink (leaveL0 s b) b .l1).modPrt b (fun x => { x with exiting := false, narrow := 0 })) ∧
  (∀ (b : Nat) (l : LinkSt) (s : State),
      l ≠ .l1 →
      enterLow s b l = (setLink ((returnRefs (leaveL0 s b) b).modPrt b (fun x => { x with clkreq := false, refloat := true })) b l).modPrt b
          (fun x => { x with exiting := false, narrow := 0 })) ∧
  (∀ (port rate : Nat) (t : Retrain) (s : State),
      (s.up port) = true →
      (s.prt port).exiting = true →
      exec (.lowPowerExitComplete port rate t) s = .next (if (s.prt port).link = .l0p then reachL0 s port ((lanesOf s port).filter (fun k => !laneInL0 s k))
          else leaveRecovery s port rate t)) ∧
  (∀ (b : Nat) (ks : List Nat) (s : State),
      reachL0 s b ks = (setLink (if (s.prt b).refloat then replaceFloats (resumeLanes s b ks) b else resumeLanes s b ks) b .l0).modPrt b
          (fun x => { x with exiting := false, l0At := s.now, clkreq := true, refloat := false, narrow := 0 })) ∧
  (∀ (port rate : Nat) (t : Retrain) (s : State),
      (s.up port) = true →
      (s.prt port).link = .recovery →
      exec (.linkStateChange port 2 rate t) s = .next (leaveRecovery s port rate t)) ∧
  (∀ (port rate : Nat) (t : Retrain) (s : State),
      (s.up port) = true →
      (s.prt port).link = .l0p →
      exec (.linkStateChange port 2 rate t) s = .next (s.modPrt port (fun x => { x with exiting := true }))) ∧
  (∀ (port rate : Nat) (t : Retrain) (s : State),
      (s.up port) = true →
      (s.prt port).link = .l1 →
      exec (.linkStateChange port 2 rate t) s = .next (s.modPrt port (fun x => { x with exiting := true }))) ∧
  (∀ (port rate : Nat) (t : Retrain) (s : State),
      (s.up port) = true →
      ((s.prt port).link = .l11 ∨ (s.prt port).link = .l12) →
      exec (.linkStateChange port 2 rate t) s = .next (s.modPrt port (fun x => { x with exiting := true, clkreq := true }))) ∧
  (∀ (port rate : Nat) (t : Retrain) (s : State),
      (s.up port) = true →
      (s.prt port).link = .l0 →
      exec (.linkStateChange port 2 rate t) s = .next (s)) ∧
  (∀ (port rate : Nat) (t : Retrain) (s : State),
      (s.up port) = true →
      ((s.prt port).link = .l0 ∨ (s.prt port).link = .l0p) →
      bitOf (s.cfg.port port).lp 0 = true →
      1 < lanesNow (s.prt port) →
      exec (.linkStateChange port 3 rate t) s = .next (narrowLink s port)) ∧
  (∀ (port rate : Nat) (t : Retrain) (s : State),
      (s.up port) = true →
      ((s.prt port).link = .l0 ∨ (s.prt port).link = .l0p) →
      bitOf (s.cfg.port port).lp 1 = true →
      exec (.linkStateChange port 4 rate t) s = .next (enterLow s port .l1)) ∧
  (∀ (port rate : Nat) (t : Retrain) (s : State),
      (s.up port) = true →
      ((s.prt port).link = .l0 ∨ (s.prt port).link = .l0p) →
      bitOf (s.cfg.port port).lp 2 = true →
      exec (.linkStateChange port 5 rate t) s = .next (enterLow s port .l11)) ∧
  (∀ (port rate : Nat) (t : Retrain) (s : State),
      (s.up port) = true →
      ((s.prt port).link = .l0 ∨ (s.prt port).link = .l0p) →
      bitOf (s.cfg.port port).lp 3 = true →
      exec (.linkStateChange port 6 rate t) s = .next (enterLow s port .l12)) ∧
  (∀ (port rate : Nat) (t : Retrain) (s : State),
      (s.up port) = true →
      (s.prt port).link ≠ .recovery →
      exec (.linkStateChange port 7 rate t) s = .next ((setLink (leaveL0 s port) port .recovery).modPrt port (fun x => { x with exiting := false, narrow := 0, clkreq := true }))) ∧
  (∀ (port state rate : Nat) (t : Retrain) (s : State),
      (s.up port = false ∨ state < 2 ∨ 7 < state) →
      exec (.linkStateChange port state rate t) s = .next s) ∧
  (∀ (b rate0 : Nat) (t : Retrain) (s : State),
      ∃ rate u anew v, rate = min rate0 (min (advertised s b) (s.prt b).partner.maxRate) ∧
        u = s.modPrt b (fun x => { x with rate := rate, lanes := trainedLanes (bundleLanes s b) t.lanes
                                          flit := (flitMode (modesOf s b) x.partner.flitModes rate).getD x.flit }) ∧
        anew = (lanesOf u b).filter (fun k => t.equalised || ((u.lane k).saved.find? (fun e => e.1 == rate)).isNone) ∧
        v = measureSkew (reachL0 (forEach anew u (fun s k => equalise s b k rate)) b
          ((lanesOf (forEach anew u (fun s k => equalise s b k rate)) b).filter (fun k => !anew.contains k))) b ∧
        leaveRecovery s b rate0 t = if trainedLanes (bundleLanes s b) t.lanes = (s.prt b).lanes ∧ rate = (s.prt b).rate then v
          else raiseReduced v b (trainedLanes (bundleLanes s b) t.lanes) rate (s.prt b).partner)

/-- In L0, at most once per 1,024 drips, each tap moves one unit in its direction and the CTLE at most one code per 65,536 drips; a frozen value holds, one outside its limits moves toward them, and no other is moved past its limit. A tap of a lane in L0, not frozen, that has been at its limit for a second raises EV_LINK_DEGRADED cause 21h once. A partner's margining of a lane at 16 GT/s or above starts and ends alternately and waits while a measurement runs; its request for a report is answered with the capabilities of the lane (log 16). A measurement ends with its bits counted and the session answered. -/
def Obligations.AdaptationAndMargining : Prop :=
  (∀ (lane : Nat) (dirs : List Int) (ctleDir : Int) (e : EqEnt) (s : State),
      lane < 1024 →
      laneInL0 s lane = true →
      (s.lane lane).lastUpd + 1024 ≤ s.now →
      e = eqOf s lane (s.prt (laneBundle s lane)).rate →
      exec (.adaptationUpdate lane dirs ctleDir) s = .next (s.modLane lane (fun l => { l with
          lastUpd := s.now
          taps := (List.range 12).map (fun i => tapStep e i (dirs.getD i 0) s.now ((tapsOf l).getD i {}))
          ctle := if (s.lane lane).ctleAt + 65536 ≤ s.now then ctleStep e ctleDir l.ctle else l.ctle
          ctleAt := if (s.lane lane).ctleAt + 65536 ≤ s.now then s.now else l.ctleAt }))) ∧
  (∀ (e : EqEnt) (i now : Nat) (dir : Int) (t : Tap),
      tapFrozen e i = false →
      -(tapLimit e i : Int) ≤ t.val →
      t.val ≤ (tapLimit e i : Int) →
      -(tapLimit e i : Int) ≤ (tapStep e i dir now t).val ∧ (tapStep e i dir now t).val ≤ (tapLimit e i : Int) ∧
        ((tapStep e i dir now t).val - t.val).natAbs ≤ 1) ∧
  (∀ (e : EqEnt) (i now : Nat) (dir : Int) (t : Tap),
      tapFrozen e i = true →
      (tapStep e i dir now t).val = t.val) ∧
  (∀ (lane tap at_ : Nat) (t : Tap) (e : EqEnt) (s : State),
      lane < 1024 →
      tap < 12 →
      t = (tapsOf (s.lane lane)).getD tap {} →
      e = eqOf s lane (s.prt (laneBundle s lane)).rate →
      t.raised = false →
      t.pinnedSince = some at_ →
      at_ + 800000000 ≤ s.now →
      laneInL0 s lane = true →
      tapFrozen e tap = false →
      t.val.natAbs = tapLimit e tap →
      exec (.tapPinned lane tap) s = .next (raiseLink (s.modLane lane (fun l => { l with taps := (tapsOf l).set tap { t with raised := true } }))
          (laneBundle s lane) evLinkDegraded 0x21 0 lane)) ∧
  (∀ (lane tap : Nat) (s : State),
      ((tapsOf (s.lane lane)).getD tap {}).raised = true →
      exec (.tapPinned lane tap) s = .next s) ∧
  (∀ (lane : Nat) (s : State),
      lane < 1024 →
      laneInL0 s lane = true →
      3 ≤ (s.prt (laneBundle s lane)).rate →
      exec (.partnerMarginRequest ⟨lane, false⟩) s = .next (s.modLane lane (fun x =>
          if (s.lane lane).margin.isSome then { x with partnerWaits := true } else { x with partnerMargin := !x.partnerMargin }))) ∧
  (∀ (lane : Nat) (s : State),
      lane < 1024 →
      laneInL0 s lane = true →
      3 ≤ (s.prt (laneBundle s lane)).rate →
      exec (.partnerMarginRequest ⟨lane, true⟩) s = .next { s with out := { s.out with marginCaps := tput [] s.out.marginCaps lane (marginCaps s lane) } }) ∧
  (∀ (lane : Nat) (report : Bool) (s : State),
      (laneInL0 s lane = false ∨ (s.prt (laneBundle s lane)).rate < 3) →
      exec (.partnerMarginRequest ⟨lane, report⟩) s = .next s) ∧
  (∀ (lane bits errors : Nat) (m : Margin) (s : State),
      (s.lane lane).margin = some m →
      m.aborted = true ∨ 2 ^ m.dwell ≤ bits →
      ∃ r, r = marginReply (clearMargin s lane) lane m.action (if m.aborted then 2 else 1) (min bits (2 ^ m.dwell)) (min errors (min bits (2 ^ m.dwell))) ∧
        exec (.marginMeasurementEnd lane bits errors) s = .next (match m.session with
          | some k => lateReply r.1 k 0xC024 stOk r.2
          | none => r.1))

/-- A reply of a Type 3 device on an up DSP that matches an outstanding request ends that request well, and the device no longer counts as slow: when it did, the pinned lines are written to it. A reply of a pass-through device is passed to the host as the device sent it. One that matches none is discarded and counted as late. A request to a Type 3 device without a reply for its time limit is ended as failed, and the copies of the device are lost. The end of an access outstanding at a port ends it well at once, and as failed only after that time limit, in the same way. -/
def Obligations.DeviceAccesses : Prop :=
  (∀ (port id : Nat) (c : Cmp) (data : Bytes) (poison : Bool) (o : DevOut) (s : State),
      s.up port = true →
      (s.cfg.port port).role = 2 →
      isType3 s.cfg port = true →
      ((rxMsg s port data.length).prt port).outs.find? (fun o => o.id == id) = some o →
      ∃ u v, u = notePkt (takeOut (rxMsg s port data.length) port id) o.pkt (stampRun (takeOut (rxMsg s port data.length) port id) 4) ∧
        v = u.modPrt port (fun p => { p with slow := false }) ∧
        exec (.deviceReply port id c ⟨data, poison⟩) s = .next (bindAll (requestEnd (if (u.prt port).slow then writePinned v port else v) port id o.pkt true data poison))) ∧
  (∀ (port id : Nat) (c : Cmp) (data : Bytes) (poison : Bool) (o : DevOut) (s : State),
      s.up port = true →
      (s.cfg.port port).role = 2 →
      isType3 s.cfg port = false →
      ((rxMsg s port data.length).prt port).outs.find? (fun o => o.id == id) = some o →
      ∃ u, u = notePkt (takeOut (rxMsg s port data.length) port id) o.pkt (stampRun (takeOut (rxMsg s port data.length) port id) 4) ∧
        exec (.deviceReply port id c ⟨data, poison⟩) s = .next (sendToPort u (galOf port) (memReply (galOf port) (localOf port) o.pkt c (!data.isEmpty) (data.take 64) poison))) ∧
  (∀ (port id : Nat) (c : Cmp) (data : Bytes) (poison : Bool) (s : State),
      s.up port = true →
      (s.cfg.port port).role = 2 →
      ((rxMsg s port data.length).prt port).outs.find? (fun o => o.id == id) = none →
      exec (.deviceReply port id c ⟨data, poison⟩) s = .next (countLate (rxMsg s port data.length) port)) ∧
  (∀ (port id : Nat) (o : DevOut) (s : State),
      isType3 s.cfg port = true →
      (s.prt port).outs.find? (fun o => o.id == id) = some o →
      o.sentAt + devLimit s port ≤ s.now →
      exec (.devTimeout port id) s = .next (bindAll (serveAllTwins (requestEnd (loseDevice (noteTimeout (takeOut s port id) port) port) port id o.pkt false [] false)))) ∧
  (∀ (id port : Nat) (o : DevOut) (data : Bytes) (poison : Bool) (a : DevAcc) (s : State),
      accOf s id = some a →
      outAt s a.id = some (port, o) →
      exec (.deviceAccessComplete id true data poison) s = .next (bindAll (accessEnd (takeOut s port a.id) a true data poison))) ∧
  (∀ (id port : Nat) (o : DevOut) (data : Bytes) (poison : Bool) (a : DevAcc) (s : State),
      accOf s id = some a →
      outAt s a.id = some (port, o) →
      exec (.deviceAccessComplete id false data poison) s = .next (if o.sentAt + devLimit s port ≤ s.now
          then bindAll (serveAllTwins (accessEnd (loseDevice (noteTimeout (takeOut s port a.id) port) port) a false data poison)) else s))

/-- A message at an up bundle, once the cells of the packet before it are formed, is handled by the role of the port: at a USP by the hierarchy, its pass-through devices and its grottos; at a DSP with a Type 3 device as a message of that device, at one with a pass-through device toward the host; at an FPT by the identifiers of the peer and its exported windows; at the BOOT port by the management function. A message at a Type 3 DSP that needs a completion is answered UR; a CXL.mem message at an FPT under other identifiers is counted and discarded; a bundle that is not up takes nothing in. -/
def Obligations.IngressByRole : Prop :=
  (∀ (port : Nat) (q : HostReq) (s : State),
      Machine.isBundle s s.cfg port = true →
      s.up port = true →
      s.role port = 1 →
      exec (.ingressDecode port q) s = .next (uspIn (formCells s port true) port q)) ∧
  (∀ (port : Nat) (q : HostReq) (s : State),
      Machine.isBundle s s.cfg port = true →
      s.up port = true →
      s.role port = 2 →
      (s.cfg.port port).passAgent = 65535 →
      exec (.ingressDecode port q) s = .next (devIn (formCells s port true) port q)) ∧
  (∀ (port : Nat) (q : HostReq) (s : State),
      Machine.isBundle s s.cfg port = true →
      s.up port = true →
      s.role port = 2 →
      (s.cfg.port port).passAgent ≠ 65535 →
      exec (.ingressDecode port q) s = .next (passIn (formCells s port true) port q)) ∧
  (∀ (port : Nat) (q : HostReq) (s : State),
      Machine.isBundle s s.cfg port = true →
      s.up port = true →
      s.role port = 3 →
      exec (.ingressDecode port q) s = .next (fptIn (formCells s port true) port q)) ∧
  (∀ (port : Nat) (q : HostReq) (s : State),
      Machine.isBundle s s.cfg port = true →
      s.up port = true →
      s.role port = 4 →
      exec (.ingressDecode port q) s = .next (bootIn (formCells s port true) port q)) ∧
  (∀ (b : Nat) (q : HostReq) (s : State),
      isNonPosted q.op = true →
      devIn s b q = sendToPort (rxMsg s b q.data.length) (galOf b)
          (ioCompletion (galOf b) (localOf b) (reqPkt b noAgent q) 1 [])) ∧
  (∀ (b : Nat) (q : HostReq) (s : State),
      q.dpid ≠ (s.cfg.port b).localPbr ∨ q.spid ≠ (s.cfg.port b).peerPbr →
      fptIn s b q = countLate (rxMsg s b q.data.length) b) ∧
  (∀ (port : Nat) (q : HostReq) (s : State),
      s.up port = false →
      exec (.ingressDecode port q) s = .next s)

/-- The next packet handed on for an up port leaves the queue between, and is discarded when its generation is no longer live; otherwise MRSP and MSNP packets enter the strict stage, others the fair stage queue of their agent, those of the BOOT port a plain queue, and a port in L1 or deeper starts its exit. At a flit boundary in L0 or L0p: the strict stage goes first with link credit, but after 16 strict packets in a row a fair packet that may go is started; while the flits of a fair packet run no other fair packet starts, and a strict one only in a slot left unused. In another link state nothing is picked. Gate lists take force at their drip, once no launch is due on it, and the heads of a port in L0 or L0p are then judged for stalls. -/
def Obligations.EgressStages : Prop :=
  (∀ (port : Nat) (p : Pkt) (ps : List Pkt) (s : State),
      s.up port = true →
      egHead s port = p :: ps →
      isLate (egPop s port) port p = false →
      exec (.egressEnqueue port) s = .next (startExit (enqueuePkt (egPop s port) port p) port)) ∧
  (∀ (port : Nat) (p : Pkt) (ps : List Pkt) (s : State),
      s.up port = true →
      egHead s port = p :: ps →
      isLate (egPop s port) port p = true →
      exec (.egressEnqueue port) s = .next (noteEmpty s (dropLate (egPop s port) port p) port)) ∧
  (∀ (b : Nat) (p : Pkt) (s : State),
      s.role b ≠ 4 →
      enqueuePkt s b p = (if p.cls = 2 then s.modSch b (fun x => { x with mrsp := x.mrsp ++ [p] })
          else if p.cls = 1 then s.modSch b (fun x => { x with msnp := x.msnp ++ [p] })
          else s.modSch b (fairAdd (max 1 (s.cfg.queue b (queueOf s b p)).share) (queueOf s b p) p))) ∧
  (∀ (port : Nat) (i : PickIn) (s : State),
      s.up port = true →
      (s.prt port).link = .l0 ∨ (s.prt port).link = .l0p →
      ∃ u, u = watchStalls (settleSched (settleSent s port) port) port i ∧ exec (.egressPick port i) s = .next (bindAll (noteEmpty u (pickAt u port i) port))) ∧
  (∀ (port : Nat) (i : PickIn) (s : State),
      (s.up port = false ∨ (s.prt port).link ≠ .l0 ∧ (s.prt port).link ≠ .l0p) →
      exec (.egressPick port i) s = .next s) ∧
  (∀ (b : Nat) (i : PickIn) (s : State),
      s.role b ≠ 4 →
      pickAt s b i = match strictNow s b i, fairNow s b i with
          | some p, some (q, k, f) => if 16 ≤ (s.sch b).strictRun then startFair s b i q k f else startStrict s b i p
          | some p, none => startStrict s b i p
          | none, some (q, k, f) => startFair s b i q k f
          | none, none => s) ∧
  (∀ (b : Nat) (i : PickIn) (s : State),
      (strictNow s b i = if fairBusy s b i = true ∧ i.slot = false then none else strictChoice (s.sch b) i.credit) ∧
        (fairNow s b i = if fairBusy s b i then none else fairChoice s b i)) ∧
  (∀ (port : Nat) (s : State),
      port < 512 →
      launchWaits s = false →
      (s.up port = true ∧ ((s.prt port).link = .l0 ∨ (s.prt port).link = .l0p)) →
      ∃ u, u = s.modSch port (fun x => { x with
          gate := gateAt x s.drip, armed := x.armed.filter (fun a => decide (s.drip < a.2)) }) ∧
        exec (.gateEntryChange port) s = .next (forEach ((u.sch port).queues.map (·.1)) u (judgeStall port))) ∧
  (∀ (port : Nat) (s : State),
      port < 512 →
      launchWaits s = false →
      (s.up port = false ∨ (s.prt port).link ≠ .l0 ∧ (s.prt port).link ≠ .l0p) →
      exec (.gateEntryChange port) s = .next (s.modSch port (fun x => { x with
          gate := gateAt x s.drip, armed := x.armed.filter (fun a => decide (s.drip < a.2)) })))

/-- A packet of n cells enqueued to queue q with share phi gets start tag S = max(V, F_last) if the queue was empty and S = F_last otherwise, finish tag F = S + ceil(n x 4,194,304 / phi) (tags modulo 2^48), and F_last becomes F. It goes to the end of q; the tags of the packets already there do not change, and no other queue changes. -/
def Obligations.FairTags : Prop :=
  ∀ (share q : Nat) (p : Pkt) (x : Sched) (f : FairQ),
    1 ≤ share →
    share ≤ 65535 →
    f = tget {} x.queues q →
    x.v < 2 ^ 47 →
    f.fLast < 2 ^ 47 →
    ∃ st fin, st = (if f.pkts.isEmpty then max x.v f.fLast else f.fLast) ∧
      fin = (st + (cellCount p * 4194304 + share - 1) / share) % 2 ^ 48 ∧
      tget {} (fairAdd share q p x).queues q = { f with pkts := f.pkts ++ [{ pkt := p, s := st, f := fin, seq := x.seq }], fLast := fin } ∧
      (∀ k, k ≠ q → tget {} (fairAdd share q p x).queues k = tget {} x.queues k)

/-- While firmware runs and a guard is faulty with its copy not lost, a restore from a good copy rewrites the rules of the port from it, ends the fault and raises EV_GUARD_FAULT cause 4, severity 00b; a bad copy is lost, with cause 5 and severity 11b. With no fault, a lost copy or no firmware nothing changes. At a check, a corrected error of rule i of a guard without a fault raises cause 1, severity 00b; an uncorrectable one makes the guard faulty and raises cause 2, severity 11b. -/
def Obligations.GuardRestore : Prop :=
  (∀ (port : Nat) (copyOk : Bool) (s : State),
      (s.grd port).fault = true →
      (s.grd port).copyLost = false →
      firmwareUp s = true →
      exec (.guardRestoreEnd port copyOk) s = .next (if copyOk
          then raiseFault ((rewriteGuard s port).modGrd port (fun g => { g with fault := false })) port 4 255 255 0
          else raiseFault (s.modGrd port (fun g => { g with copyLost := true })) port 5 255 255 3)) ∧
  (∀ (port : Nat) (copyOk : Bool) (s : State),
      (s.grd port).fault = false ∨ (s.grd port).copyLost = true ∨ firmwareUp s = false →
      exec (.guardRestoreEnd port copyOk) s = .next s) ∧
  (∀ (c : Checked) (i : Nat) (s : State),
      (s.grd c.port).fault = false →
      c.store = .corrected i →
      i < 64 →
      ruleFault s c = raiseFault s c.port 1 i (tget {} (s.cfg.grd c.port).rules i).space 0) ∧
  (∀ (c : Checked) (i : Nat) (s : State),
      (s.grd c.port).fault = false →
      c.store = .uncorrectable i →
      i < 64 →
      ∃ u, u = s.modGrd c.port (fun g => { g with fault := true, faultAt := s.now }) ∧
        ruleFault s c = raiseFault u c.port 2 i (tget {} (s.cfg.grd c.port).rules i).space 3)

/-- In a closed space of a guard without a fault, a request passes if and only if for every page from A >> 12 to (A + n - 1) >> 12 the valid rules of the space that cover the page are exactly one, and it grants every permission needed. In an open space every request passes. When a request for which the link has credit does not pass, after what its check finds of the rule store, the whole of it is refused: it is answered by the refusal of its kind and nothing of it is sent on. -/
def Obligations.GuardChecks : Prop :=
  (∀ (c : Checked) (s : State),
      (s.grd c.port).fault = false →
      closedIn (s.cfg.grd c.port) c.space = true →
      1 ≤ c.len →
      (verdictOf s c = .pass ↔ ∀ page, c.addr / 4096 ≤ page → page ≤ (c.addr + c.len - 1) / 4096 →
          ∃ e, (s.cfg.grd c.port).rules.filter (fun e => covers e.2 c.space page) = [e] ∧ grants e.2 (needOf c.kind) = true)) ∧
  (∀ (c : Checked) (s : State),
      (s.grd c.port).fault = false →
      closedIn (s.cfg.grd c.port) c.space = false →
      verdictOf s c = .pass) ∧
  (∀ (g n : Nat) (c : Checked) (p : Pkt) (s : State),
      c.kind ≠ 0 →
      creditFor s c.port p = true →
      verdictOf (ruleFault s c) c ≠ .pass →
      ∃ u, u = (if p.gv then genAdd (rxMsg s c.port n) p.grotto p.gen else rxMsg s c.port n) ∧
        takeIn s g c p n = refuseReply (guardCheck u c).1 g c.port c.kind p) ∧
  (∀ (c : Checked) (s : State),
      c.store = .none →
      ruleFault s c = s)

/-- A doorbell of an existing hierarchy with a home, rung by one of its up USPs, sends the message of the window. In this order: a sender that is not enabled drops it with cause 04h; a header that fails its test with 02h; a receiver that is not enabled with 04h; another domain with 03h; a red message with 01h. Otherwise the message gets the sender's name and its colour. It then waits if its slot runs a scan or another message of its sender waits; else it is sealed if it asks for a seal, and is sent. A doorbell of a hierarchy without a home changes nothing. -/
def Obligations.EchoDoorbell : Prop :=
  (∀ (agent ep win usp e g : Nat) (h : Bytes) (s : State),
      e = 16 * agent + ep →
      agent < 256 →
      ep < 16 →
      win < 4 →
      homed s agent = true →
      (s.cfg.hier agent).usps.contains usp = true →
      s.up usp = true →
      g = (epHier s e).home →
      h = winBytes (s.endp e) win 16 →
      epEnabled s e = false →
      exec (.doorbell agent ep win usp) s = .next (echoDrop s g 4 (some e) none)) ∧
  (∀ (agent ep win usp e g : Nat) (h : Bytes) (s : State),
      e = 16 * agent + ep →
      agent < 256 →
      ep < 16 →
      win < 4 →
      homed s agent = true →
      (s.cfg.hier agent).usps.contains usp = true →
      s.up usp = true →
      g = (epHier s e).home →
      h = winBytes (s.endp e) win 16 →
      epEnabled s e = true →
      headerGoodEcho s (e / 16) h = false →
      exec (.doorbell agent ep win usp) s = .next (echoDrop s g 2 (some e) none)) ∧
  (∀ (agent ep win usp e g : Nat) (h : Bytes) (s : State),
      e = 16 * agent + ep →
      agent < 256 →
      ep < 16 →
      win < 4 →
      homed s agent = true →
      (s.cfg.hier agent).usps.contains usp = true →
      s.up usp = true →
      g = (epHier s e).home →
      h = winBytes (s.endp e) win 16 →
      epEnabled s e = true →
      headerGoodEcho s (e / 16) h = true →
      epEnabled s (fieldAt h 0 2) = false →
      exec (.doorbell agent ep win usp) s = .next (echoDrop s g 4 (some e) none)) ∧
  (∀ (agent ep win usp e g : Nat) (h : Bytes) (s : State),
      e = 16 * agent + ep →
      agent < 256 →
      ep < 16 →
      win < 4 →
      homed s agent = true →
      (s.cfg.hier agent).usps.contains usp = true →
      s.up usp = true →
      g = (epHier s e).home →
      h = winBytes (s.endp e) win 16 →
      epEnabled s e = true →
      headerGoodEcho s (e / 16) h = true →
      epEnabled s (fieldAt h 0 2) = true →
      (s.cfg.endp e).domain ≠ (s.cfg.endp (fieldAt h 0 2)).domain →
      exec (.doorbell agent ep win usp) s = .next (echoDrop s g 3 (some e) none)) ∧
  (∀ (agent ep win usp e g : Nat) (h : Bytes) (s : State),
      e = 16 * agent + ep →
      agent < 256 →
      ep < 16 →
      win < 4 →
      homed s agent = true →
      (s.cfg.hier agent).usps.contains usp = true →
      s.up usp = true →
      g = (epHier s e).home →
      h = winBytes (s.endp e) win 16 →
      epEnabled s e = true →
      headerGoodEcho s (e / 16) h = true →
      epEnabled s (fieldAt h 0 2) = true →
      (s.cfg.endp e).domain = (s.cfg.endp (fieldAt h 0 2)).domain →
      (police (s.cfg.endp e) s.now (64 * byteAt h 2) (s.endp e)).1 = 2 →
      exec (.doorbell agent ep win usp) s = .next (echoDrop (s.modEndp e (fun _ => (police (s.cfg.endp e) s.now (64 * byteAt h 2) (s.endp e)).2)) g 1 (some e) none)) ∧
  (∀ (agent ep win usp e g : Nat) (h : Bytes) (s : State),
      e = 16 * agent + ep →
      agent < 256 →
      ep < 16 →
      win < 4 →
      homed s agent = true →
      (s.cfg.hier agent).usps.contains usp = true →
      s.up usp = true →
      g = (epHier s e).home →
      h = winBytes (s.endp e) win 16 →
      epEnabled s e = true →
      headerGoodEcho s (e / 16) h = true →
      epEnabled s (fieldAt h 0 2) = true →
      (s.cfg.endp e).domain = (s.cfg.endp (fieldAt h 0 2)).domain →
      (police (s.cfg.endp e) s.now (64 * byteAt h 2) (s.endp e)).1 ≠ 2 →
      ∃ col x m, (col, x) = police (s.cfg.endp e) s.now (64 * byteAt h 2) (s.endp e) ∧
        m = { ep := e, dst := fieldAt h 0 2, prio := byteAt h 3 % 8, slot := if bitOf (byteAt h 3) 3 then some (byteAt h 6) else none,
              msg := spliceAt (spliceAt (winBytes x win (64 * byteAt h 2)) 4 (leBytes 2 e)) 7 (leBytes 1 col) } ∧
        exec (.doorbell agent ep win usp) s = .next (echoTry (s.modEndp e (fun _ => x)) g m)) ∧
  (∀ (g : Nat) (m : HeldMsg) (s : State),
      ((∃ h, m.slot = some h ∧ (s.ctx (m.ep / 16) h).busy = true) ∨ (s.svc g).held.any (fun h => h.ep == m.ep) = true) →
      echoTry s g m = s.modSvc g (fun v => { v with held := v.held ++ [m] })) ∧
  (∀ (g : Nat) (m : HeldMsg) (s : State),
      m.slot = none →
      (s.svc g).held.any (fun h => h.ep == m.ep) = false →
      echoTry s g m = echoSend s m.ep m.dst m.prio m.msg) ∧
  (∀ (g k : Nat) (m : HeldMsg) (s : State),
      m.slot = some k →
      (s.ctx (m.ep / 16) k).busy = false →
      assigned s (m.ep / 16) k = true →
      (s.svc g).held.any (fun h => h.ep == m.ep) = false →
      ∃ u, u = sealEcho s (m.ep / 16) k m.msg ∧
        echoTry s g m = echoSend u.1 m.ep m.dst m.prio (spliceAt m.msg 12 u.2)) ∧
  (∀ (agent ep win usp : Nat) (s : State),
      homed s agent = false →
      exec (.doorbell agent ep win usp) s = .next s)

/-- Once a drip, when no launch is due, a pick takes the head message of the endpoint that R252 chooses and frees its place; one that names another head changes nothing. An endpoint that is not enabled drops it with cause 04h; a ring that is not enabled with 0Bh; too little free space with 0Ah; no up USP, or no bus mastering at the service function of the first of them, with 0Ch; otherwise it is written into the ring by that USP in writes of its maximum payload. INT_DELAY x 1,024 drips after the oldest delivery since the last interrupt, an endpoint with INT_EN sends its vector by the USP of its last delivery, or by the first up one when that is down. When every write of a message is acknowledged the island releases it. -/
def Obligations.EchoDelivery : Prop :=
  (∀ (g e : Nat) (m : EchoMsg) (rest : List EchoMsg) (s u : State),
      g < 8 →
      (s.gal g).lost = none →
      launchWaits s = false →
      (s.svc g).pickedAt ≠ some s.now →
      pickEcho s g = some e →
      (s.endp e).queue = m :: rest →
      u = (freeEg (s.modEndp e (fun x => { x with queue := rest })) g (localOf (epHier s e).homePort) 6 m.units).modSvc g (fun v => { v with lastServed := e, pickedAt := some s.now }) →
      epEnabled u e = false →
      exec (.echoDeliveryPick g e m.prio) s = .next (echoDrop u g 4 none (some e))) ∧
  (∀ (g e : Nat) (m : EchoMsg) (rest : List EchoMsg) (s u : State),
      g < 8 →
      (s.gal g).lost = none →
      launchWaits s = false →
      (s.svc g).pickedAt ≠ some s.now →
      pickEcho s g = some e →
      (s.endp e).queue = m :: rest →
      u = (freeEg (s.modEndp e (fun x => { x with queue := rest })) g (localOf (epHier s e).homePort) 6 m.units).modSvc g (fun v => { v with lastServed := e, pickedAt := some s.now }) →
      epEnabled u e = true →
      (s.endp e).ringEn = false →
      exec (.echoDeliveryPick g e m.prio) s = .next (echoDrop u g 0x0B none (some e))) ∧
  (∀ (g e : Nat) (m : EchoMsg) (rest : List EchoMsg) (s u : State),
      g < 8 →
      (s.gal g).lost = none →
      launchWaits s = false →
      (s.svc g).pickedAt ≠ some s.now →
      pickEcho s g = some e →
      (s.endp e).queue = m :: rest →
      u = (freeEg (s.modEndp e (fun x => { x with queue := rest })) g (localOf (epHier s e).homePort) 6 m.units).modSvc g (fun v => { v with lastServed := e, pickedAt := some s.now }) →
      epEnabled u e = true →
      (s.endp e).ringEn = true →
      ringUnits (s.endp e) - ringUsed (s.endp e) < m.units →
      exec (.echoDeliveryPick g e m.prio) s = .next (echoDrop u g 0x0A none (some e))) ∧
  (∀ (g e : Nat) (m : EchoMsg) (rest : List EchoMsg) (s u : State),
      g < 8 →
      (s.gal g).lost = none →
      launchWaits s = false →
      (s.svc g).pickedAt ≠ some s.now →
      pickEcho s g = some e →
      (s.endp e).queue = m :: rest →
      u = (freeEg (s.modEndp e (fun x => { x with queue := rest })) g (localOf (epHier s e).homePort) 6 m.units).modSvc g (fun v => { v with lastServed := e, pickedAt := some s.now }) →
      epEnabled u e = true →
      (s.endp e).ringEn = true →
      m.units ≤ ringUnits (s.endp e) - ringUsed (s.endp e) →
      (firstLive u (e / 16) = none ∨ ∃ k, firstLive u (e / 16) = some k ∧ (u.fn k 1).busMaster = false) →
      exec (.echoDeliveryPick g e m.prio) s = .next (echoDrop u g 0x0C none (some e))) ∧
  (∀ (g e usp : Nat) (m : EchoMsg) (rest : List EchoMsg) (s u : State),
      g < 8 →
      (s.gal g).lost = none →
      launchWaits s = false →
      (s.svc g).pickedAt ≠ some s.now →
      pickEcho s g = some e →
      (s.endp e).queue = m :: rest →
      u = (freeEg (s.modEndp e (fun x => { x with queue := rest })) g (localOf (epHier s e).homePort) 6 m.units).modSvc g (fun v => { v with lastServed := e, pickedAt := some s.now }) →
      epEnabled u e = true →
      (s.endp e).ringEn = true →
      m.units ≤ ringUnits (s.endp e) - ringUsed (s.endp e) →
      firstLive u (e / 16) = some usp →
      (u.fn usp 1).busMaster = true →
      exec (.echoDeliveryPick g e m.prio) s = .next (deliverEcho u g e usp (maxPayload (u.fn usp 1)) m)) ∧
  (∀ (g e ep prio : Nat) (m : EchoMsg) (rest : List EchoMsg) (s : State),
      pickEcho s g = none ∨ pickEcho s g = some e ∧ (s.endp e).queue = m :: rest ∧ (e ≠ ep ∨ m.prio ≠ prio) →
      exec (.echoDeliveryPick g ep prio) s = .next s) ∧
  (∀ (agent ep t usp : Nat) (s : State),
      ep < 16 →
      homed s agent = true →
      (s.endp (16 * agent + ep)).oldest = some t →
      (if ((s.endp (16 * agent + ep)).via.map s.up).getD false then (s.endp (16 * agent + ep)).via else firstLive s agent) = some usp →
      (s.endp (16 * agent + ep)).intEn = true →
      (s.endp (16 * agent + ep)).intDelay ≠ 0 →
      t + 1024 * (s.endp (16 * agent + ep)).intDelay ≤ s.now →
      exec (.intDelayExpiry agent ep) s = .next (interrupt s (epHier s (16 * agent + ep)).home (16 * agent + ep) usp)) ∧
  (∀ (g : Nat) (s : State),
      g < 8 →
      exec (.ringWriteAck g) s = .next (s.modSvc g (fun v => { v with unacked := removeFirst (fun u => u.left == 0) v.unacked })))

/-- RING_RP is written unless more than N units would then be in use. Setting RING_EN clears both pointers and is ignored when SIZE_LOG lies outside 16-24; while RING_EN is 1 SIZE_LOG keeps its value. A write to BAR0 or BAR2 of a hierarchy with a home acts by its offset: a doorbell in 40h-5Fh of an endpoint's registers rings it, a shadow or base is not changed while the ring is enabled, and a write to any other BAR, or of a hierarchy without a home, changes nothing. -/
def Obligations.EchoRegisters : Prop :=
  (∀ (agent ep value : Nat) (s : State),
      ep < 16 →
      homed s agent = true →
      exec (.ringRpWrite agent ep value) s = .next (s.modEndp (16 * agent + ep) (fun x =>
          if ringUnits x < (x.wp + 2 ^ 32 - value % 2 ^ 32) % 2 ^ 32 then x else { x with rp := value % 2 ^ 32 }))) ∧
  (∀ (agent ep value : Nat) (s : State),
      ep < 16 →
      homed s agent = true →
      exec (.ringEnWrite agent ep value) s = .next (s.modEndp (16 * agent + ep) (writeRingCtl value))) ∧
  (∀ (v : Nat) (x : Endp),
      x.ringEn = false →
      bitOf v 8 = true →
      writeRingCtl v x = (if 16 ≤ v % 32 ∧ v % 32 ≤ 24
          then { x with sizeLog := v % 32, ringEn := true, intEn := bitOf v 9, wp := 0, rp := 0 } else x)) ∧
  (∀ (v : Nat) (x : Endp),
      x.ringEn = true →
      writeRingCtl v x = { x with ringEn := bitOf v 8, intEn := bitOf v 9 }) ∧
  (∀ (off size v : Nat) (x : Endp),
      x.ringEn = true →
      off / 8 = 1 ∨ off / 8 = 5 →
      endpReg off size v x = x) ∧
  (∀ (agent bar off size value : Nat) (s : State),
      homed s agent = true →
      agent < 256 →
      exec (.registerWrite agent bar off size value) s = .next (if bar = 0 then bar0Write s agent off size value
          else if bar = 2 then bar2Write s agent off size value else s)) ∧
  (∀ (a e w : Nat) (s : State),
      e < 16 →
      w < 4 →
      bar0Write s a (0x1000 + 256 * e + 0x40 + 8 * w) 8 1 = ringDoorbell s (16 * a + e) w) ∧
  (∀ (agent bar off size value : Nat) (s : State),
      homed s agent = false →
      exec (.registerWrite agent bar off size value) s = .next s)

/-- On an assigned slot with no scan running: a naturally aligned feed of 1, 2, 4 or 8 bytes feeds and counts them, any other sets BAD_FEED; START, SEAL and VERIFY act on the registers; SCAN starts a scan. While a scan runs a write waits in order. The next scan line in address order is fed and counted, and reads go on, or the scan ends: without error after its last line, with 04h for an unreachable one or a grotto no longer bound to the agent, 02h for one the guard refused, 03h for poison. An uncorrectable error of the context store instead restarts the context with ALIVE 0 and ERR 06h, and ends a scan with 06h. A slot without a context ignores every write. -/
def Obligations.CheckSlots : Prop :=
  (∀ (agent slot off : Nat) (bytes : Bytes) (lost : Bool) (s : State),
      assigned s agent slot = true →
      (s.ctx agent slot).busy = false →
      exec (.feed agent ⟨slot, lost⟩ off bytes) s = .next (s.modCtx agent slot (fun x => if lost then ctxLost (s.cfg.check agent slot).alg x else if [1, 2, 4, 8].contains bytes.length && off % bytes.length == 0 && decide (off + bytes.length ≤ 256) then ctxFeed (s.cfg.check agent slot).alg x bytes else { x with err := 1 }))) ∧
  (∀ (agent slot : Nat) (lost : Bool) (s : State),
      assigned s agent slot = true →
      (s.ctx agent slot).busy = false →
      exec (.startOp agent ⟨slot, lost⟩) s = .next (s.modCtx agent slot (if lost then ctxLost (s.cfg.check agent slot).alg else ctxStart (s.cfg.check agent slot).alg))) ∧
  (∀ (agent slot : Nat) (short lost : Bool) (s : State),
      assigned s agent slot = true →
      (s.ctx agent slot).busy = false →
      exec (.sealOp agent ⟨slot, lost⟩ short) s = .next (s.modCtx agent slot (if lost then ctxLost (s.cfg.check agent slot).alg else ctxSeal (s.cfg.check agent slot).alg short))) ∧
  (∀ (agent slot : Nat) (short lost : Bool) (s : State),
      assigned s agent slot = true →
      (s.ctx agent slot).busy = false →
      exec (.verifyOp agent ⟨slot, lost⟩ short) s = .next (s.modCtx agent slot (if lost then ctxLost (s.cfg.check agent slot).alg else ctxVerify (s.cfg.check agent slot).alg (s.cfg.check agent slot).mode short))) ∧
  (∀ (alg : Nat) (x : Ctx),
      ctxStart alg x = { x with running := algInit alg, count := 0, result := 0, err := 0 } ∧ ctxLost alg x = { x with running := algInit alg, count := 0, result := 0, err := 6, alive := 0 }) ∧
  (∀ (agent slot : Nat) (s : State),
      assigned s agent slot = true →
      (s.ctx agent slot).busy = false →
      exec (.scanOp agent slot) s = .next (startScan s agent slot)) ∧
  (∀ (agent slot : Nat) (w : SlotWr) (s : State),
      assigned s agent slot = true →
      (s.ctx agent slot).busy = true →
      slotWrite s agent slot w = s.modCtx agent slot (fun x => { x with waiting := x.waiting ++ [w] })) ∧
  (∀ (agent slot : Nat) (w : SlotWr) (s : State),
      assigned s agent slot = false →
      slotWrite s agent slot w = s) ∧
  (∀ (agent slot i : Nat) (l : ScanLine) (s : State),
      (s.ctx agent slot).busy = true →
      (s.cfg.hier agent).homeless = false →
      scanBound s agent (s.ctx agent slot).scanGrotto = true →
      (s.ctx agent slot).arrived.find? (fun e => e.1 == (s.ctx agent slot).scanNext) = some (i, l) →
      exec (.scanLineArrival agent ⟨slot, false⟩) s = .next (match l with
          | .data bs =>
            let u := s.modCtx agent slot (fun x => { ctxFeed (s.cfg.check agent slot).alg x bs with
              scanNext := i + 1, arrived := x.arrived.filter (fun e => e.1 != i) })
            if (s.ctx agent slot).scanLines ≤ i + 1 then endScan u agent slot 0 else issueScans u agent slot
          | .unreachable => endScan s agent slot 4
          | .guard => endScan s agent slot 2
          | .poison => endScan s agent slot 3)) ∧
  (∀ (agent slot : Nat) (lost : Bool) (s : State),
      (s.ctx agent slot).busy = true →
      (s.cfg.hier agent).homeless = false →
      lost = true ∨ scanBound s agent (s.ctx agent slot).scanGrotto = false →
      exec (.scanLineArrival agent ⟨slot, lost⟩) s = .next (if lost then endScan (s.modCtx agent slot (ctxLost (s.cfg.check agent slot).alg)) agent slot 6
          else endScan s agent slot 4))

/-- With X the ALIVE register, A the alive byte of the seal in SEAL_IN, and the check value formed after A is fed (compared whole, or in 24 bits with SHORT): a different check value gives CRC_BAD (2) and leaves X; A = X gives OK (1), and X + 1 in STREAM mode; A = X - 1 modulo 256 gives REPEAT (3) and leaves X; any other A gives GAP (4), and X = A + 1 in STREAM mode. In PAGE mode X never changes. -/
def Obligations.VerifyResults : Prop :=
  (∀ (alg mode v : Nat) (short same : Bool) (x : Ctx),
      x.alive < 256 →
      v = checkAfter alg x.running (x.inLo % 256) →
      same = (if short then decide (x.inLo / 2 ^ 8 % 2 ^ 24 = v % 2 ^ 24) else decide (x.inLo / 2 ^ 32 % 2 ^ 32 + x.inHi % 2 ^ 32 * 2 ^ 32 = v)) →
      same = false →
      (ctxVerify alg mode short x).result = 2 ∧ (ctxVerify alg mode short x).alive = x.alive) ∧
  (∀ (alg mode v : Nat) (short same : Bool) (x : Ctx),
      x.alive < 256 →
      v = checkAfter alg x.running (x.inLo % 256) →
      same = (if short then decide (x.inLo / 2 ^ 8 % 2 ^ 24 = v % 2 ^ 24) else decide (x.inLo / 2 ^ 32 % 2 ^ 32 + x.inHi % 2 ^ 32 * 2 ^ 32 = v)) →
      same = true →
      x.inLo % 256 = x.alive →
      (ctxVerify alg mode short x).result = 1 ∧ (ctxVerify alg mode short x).alive = if mode = 0 then (x.alive + 1) % 256 else x.alive) ∧
  (∀ (alg mode v : Nat) (short same : Bool) (x : Ctx),
      x.alive < 256 →
      v = checkAfter alg x.running (x.inLo % 256) →
      same = (if short then decide (x.inLo / 2 ^ 8 % 2 ^ 24 = v % 2 ^ 24) else decide (x.inLo / 2 ^ 32 % 2 ^ 32 + x.inHi % 2 ^ 32 * 2 ^ 32 = v)) →
      same = true →
      x.inLo % 256 = (x.alive + 255) % 256 →
      (ctxVerify alg mode short x).result = 3 ∧ (ctxVerify alg mode short x).alive = x.alive) ∧
  (∀ (alg mode v : Nat) (short same : Bool) (x : Ctx),
      x.alive < 256 →
      v = checkAfter alg x.running (x.inLo % 256) →
      same = (if short then decide (x.inLo / 2 ^ 8 % 2 ^ 24 = v % 2 ^ 24) else decide (x.inLo / 2 ^ 32 % 2 ^ 32 + x.inHi % 2 ^ 32 * 2 ^ 32 = v)) →
      same = true →
      x.inLo % 256 ≠ x.alive →
      x.inLo % 256 ≠ (x.alive + 255) % 256 →
      (ctxVerify alg mode short x).result = 4 ∧ (ctxVerify alg mode short x).alive = if mode = 0 then (x.inLo % 256 + 1) % 256 else x.alive)

/-- A drain with no request left and its sweep done ends with EV_GROTTO_DRAINED cause 1; one whose time is up ends with cause 2 and its generation is held for 16,000,000 drips (20 ms). A hold that is over is dropped. A recall sweep takes one set of a slice and sends BISnpInv for each line of the grotto that its agent holds; when it has taken every set and its snoops are answered it ends, with cause 3 when it was commanded. A sanitise that runs ends well once every copy is written, and as failed once a device of it is gone. The end of a twin copy ends the access it names, as failed only after the time limit of the device. A block of a resync is copied once its 64 lines are, and the copy of the next one begins; after its last block the extent is whole again, and EV_TWIN_RESYNCED is raised, from the gallery of the first resynced extent, once no extent of the window has lost a copy. A removal sweep evicts the lines of one set; once nothing of the window is left the removal is over. -/
def Obligations.GrottosAndWindows : Prop :=
  (∀ (grotto gen : Nat) (v : LiveGen) (s : State),
      drainOf s grotto gen = some v →
      v.count = 0 →
      v.sweepDone = true →
      exec (.drainEnd grotto gen) s = .next (endDrain s grotto v 1)) ∧
  (∀ (grotto gen : Nat) (v : LiveGen) (s : State),
      drainOf s grotto gen = some v →
      v.deadline ≤ s.now →
      exec (.drainTimeout grotto gen) s = .next (endDrain (s.modGr grotto (fun x => { x with holds := x.holds ++ [(gen, s.now + 16000000)] })) grotto v 2)) ∧
  (∀ (grotto gen : Nat) (s : State),
      ((s.gr grotto).holds.any (fun h => h.1 == gen && decide (h.2 ≤ s.now))) = true →
      exec (.generationHoldExpiry grotto gen) s = .next (s.modGr grotto (fun x => { x with holds := x.holds.filter (fun h => !(h.1 == gen && decide (h.2 ≤ s.now))) }))) ∧
  (∀ (grotto g sl set : Nat) (es : List (Nat × Entry)) (s : State),
      (s.gr grotto).recallOn = true →
      (activeSlices s).contains (g, sl) = true →
      sweepMay (tget 0 (s.gr grotto).sweep (sweepKey s g sl)) set (sweepHits s g sl (recallHit s grotto g)) = true →
      es = (sweepEntries s g sl set).filter (fun h => recallHit s grotto g h.2) →
      (es.all (fun h => h.2.txn.isNone)) = true →
      ∃ u, u = s.modGr grotto (fun y => { y with sweep := tput 0 y.sweep (sweepKey s g sl) (set + 1), recalled := y.recalled + es.length }) ∧
        exec (.recallSweepStep grotto g sl set) s = .next (forEach es (traceDir u g sl 8 (s.cfg.gr grotto).agent 0 0 (if es.isEmpty then 0 else 3) 255 es.length 0 false)
          (recallEntry g (s.cfg.gr grotto).agent))) ∧
  (∀ (g a sl : Nat) (e : Entry) (s : State),
      ∃ u, u = modEntry s g sl e.key (fun e => { e with txn := some { kind := .own } }) ∧
        recallEntry g a s (sl, e) = progress (sendSnoops u g sl e.key [a] .inv false) g sl e.key) ∧
  (∀ (grotto : Nat) (s : State),
      (s.gr grotto).recallOn = true →
      ((activeSlices s).all (fun p =>
    sweepDone (tget 0 (s.gr grotto).sweep (sweepKey s p.1 p.2)) (sweepHits s p.1 p.2 (recallHit s grotto p.1)) &&
      !(sweptEntries s p.1 p.2).any (fun e => inGrotto s grotto p.1 e.key && e.txn.any (fun t =>
        t.req.isNone && t.kind == .own && t.snoops.any (fun n => n.agent == (s.cfg.gr grotto).agent))))) = true →
      ∃ x u, x = s.gr grotto ∧ u = s.modGr grotto (fun y => { y with
            recallOn := false, recallCmd := false, sweep := [], recalled := 0
            gens := y.gens.map (fun v => if v.draining then { v with sweepDone := true } else v) }) ∧
        exec (.recallSweepEnd grotto) s = .next (if x.recallCmd then raiseDrained u grotto 3 x.gen x.vppb x.recalled else u)) ∧
  (∀ (win : Nat) (s : State),
      (s.win win).sanSt = 1 →
      sanWritten s win = true →
      exec (.sanitizeEnd win true) s = .next (sanitiseEnd s win true)) ∧
  (∀ (win : Nat) (s : State),
      (s.win win).sanSt = 1 →
      deviceGone s win = true →
      exec (.sanitizeEnd win false) s = .next (sanitiseEnd s win false)) ∧
  (∀ (g id copy port : Nat) (o : DevOut) (a : DevAcc) (s : State),
      s.dir.accs.find? (fun a => a.use == .copy g id copy) = some a →
      outAt s a.id = some (port, o) →
      exec (.twinWriteComplete g id copy true) s = .next (bindAll (accessEnd (takeOut s port a.id) a true [] false))) ∧
  (∀ (g id copy port : Nat) (o : DevOut) (a : DevAcc) (s : State),
      s.dir.accs.find? (fun a => a.use == .copy g id copy) = some a →
      outAt s a.id = some (port, o) →
      exec (.twinWriteComplete g id copy false) s = .next (if o.sentAt + devLimit s port ≤ s.now
          then bindAll (serveAllTwins (accessEnd (loseDevice (noteTimeout (takeOut s port a.id) port) port) a false [] false)) else s)) ∧
  (∀ (win ext : Nat) (x : ExtRt) (s : State),
      x = tget {} (s.win win).exts ext →
      resyncOn s win ext = true →
      x.p < extBlocks s win ext →
      64 ≤ x.done →
      ∃ u, u = (modExt s win ext (fun x => { x with p := x.p + 1, done := 0 })).modWin win (fun v => { v with copied := (v.copied + 1) % 2 ^ 64 }) ∧
        exec (.resyncBlock win ext) s = .next (serveAllTwins (if x.p + 1 < extBlocks s win ext then copyBlock u win ext else u))) ∧
  (∀ (win ext : Nat) (s : State),
      (tget {} (s.win win).exts ext).resync = true →
      (tget {} (s.win win).exts ext).p = extBlocks s win ext →
      ∃ u v, u = (modExt s win ext (fun _ => {})).modWin win (fun v => { v with resynced := v.resynced ++ [ext] }) ∧
        v = u.modWin win (fun x => { x with raised := x.raised.filter (fun b =>
          (extents (u.cfg.win win)).any (fun e => copyOn e b != 0 && (tget {} (u.win win).exts e.1).lost &&& copyOn e b != 0)) }) ∧
        exec (.resyncEnd win ext) s = .next (serveAllTwins (resyncOver v win))) ∧
  (∀ (win : Nat) (s : State),
      ((s.win win).exts.any (fun e => e.2.lost == 1 || e.2.lost == 2)) = true →
      resyncOver s win = s) ∧
  (∀ (win : Nat) (e : Nat × Nat × Nat) (s : State),
      ((s.win win).exts.any (fun e => e.2.lost == 1 || e.2.lost == 2)) = false →
      (s.win win).resynced ≠ [] →
      (extents (s.cfg.win win)).find? (fun e => (s.win win).resynced.contains e.1) = some e →
      resyncOver s win = raise (s.modWin win (fun v => { v with resynced := [] })) (1260 + galOf e.2.1) evTwinResynced 0 (coreIsl (galOf e.2.1))
          (evData (leBytes 1 0 ++ leBytes 1 0 ++ leBytes 2 win ++ leBytes 2 0 ++ leBytes 2 (sat 16 (s.win win).resynced.length)) s.drip)) ∧
  (∀ (win g sl set : Nat) (r : Removed) (es : List (Nat × Entry)) (s : State),
      removedOf s win = some r →
      es = (sweepEntries s g sl set).filter (fun h => inRemoved r g h.2.key) →
      r.cfg.shared = true →
      (activeSlices s).contains (g, sl) = true →
      sweepMay (tget 0 r.sweep (sweepKey s g sl)) set (removeHits s r g sl) = true →
      (es.all (fun h => h.2.txn.isNone)) = true →
      ∃ u os, u = { s with mem := { s.mem with removed := replaceFirst (fun x => x.win == win) (fun _ => { r with sweep := tput 0 r.sweep (sweepKey s g sl) (set + 1) }) s.mem.removed } } ∧
        os = (orphans s r g sl).filter (fun l => keySet l.key == set) ∧
        exec (.windowSweepStep win g sl set) s = .next (forEach os (forEach es u (fun v h =>
          progress (startEvict v g h.1 h.2 .removed none (evictTargets v g h.2)) g h.1 h.2.key)) (removeOrphan g sl))) ∧
  (∀ (win : Nat) (r : Removed) (s : State),
      removedOf s win = some r →
      ((activeSlices s).all (fun p => (removeHits s r p.1 p.2).isEmpty)) = true →
      (s.mem.twins.any (fun e => e.2.any (fun t => t.win == win)) ||
      s.mem.twinWait.any (fun e => e.2.any (fun p => inRemoved r e.1 (keyOf (64 * p.dstGal + p.dstPort) p.addr)))) = false →
      exec (.windowRemoveSweepEnd win) s = .next (forEach (List.range 8)
          { s with mem := { s.mem with removed := removeFirst (fun x => x.win == win) s.mem.removed } } endBlind))

/-- A loop sample updates voltages, current, limit and timers. While the gate is on, the fault timer at T_FAULT trips the slot with cause 1, a current above twice the limit with cause 2, and a removal held for 1 ms with cause 4, which goes before the timer; with the gate off, a MOSFET still conducting after 100 ms is FET_SHORT, cause 5. A trip stores the cause, the on-time and, for causes 1, 2 and 4, a cooldown of 99 times the on-time within 1 to 60 s; cause 3 leaves OFF and cause 5 LOCKED. The timer clears after 1 ms out of limit. 1 ms after VOUT is good a ramping slot is ON; the end of the warning lead turns it off. At the end of a cooldown the first row that applies decides. A level change of the presence land counts once it has held for 100 ms. -/
def Obligations.PowerSlots : Prop :=
  (∀ (slot vin vout cur : Nat) (s : State),
      slot < 128 →
      exec (.slotLoopSample slot vin vout cur) s = .next (s.modSlot slot (sampleSlot (slotCfg s slot) s.now vin vout cur))) ∧
  (∀ (slot : Nat) (s : State),
      slot < 128 →
      timerDue s slot = true →
      removalDue s slot = false →
      exec (.faultTimerExpiry slot) s = .next (tripSlot s slot 1 (s.slot slot).cur)) ∧
  (∀ (slot cur : Nat) (s : State),
      slot < 128 →
      gateOn (s.slot slot).st = true →
      20 * (slotCfg s slot).iLim < cur →
      exec (.fastTrip slot cur) s = .next (tripSlot s slot 2 cur)) ∧
  (∀ (slot : Nat) (s : State),
      slot < 128 →
      removalDue s slot = true →
      exec (.slotRemoved slot) s = .next (tripSlot s slot 4 (s.slot slot).cur)) ∧
  (∀ (slot : Nat) (s : State),
      slot < 128 →
      fetDue s slot = true →
      exec (.fetShort slot) s = .next (tripSlot s slot 5 (s.slot slot).cur)) ∧
  (∀ (n cause cur : Nat) (s : State),
      gateOn (s.slot n).st = true →
      cause = 1 ∨ cause = 2 ∨ cause = 4 →
      ∃ tOn cool, tOn = s.now - (s.slot n).onAt ∧ cool = min 48000000000 (max 800000000 (99 * tOn)) ∧
        tripSlot s n cause cur = raise (s.modSlot n (fun x =>
          { slotTo s.drip .cooldown (if gateOn x.st then gateOff s.now x else x) with
            lastTrip := cause, lastOn := tOn, fetShort := x.fetShort, coolLen := cool, coolEnd := s.now + cool, removedInCool := false, offInCool := false }))
          (1024 + n) evSlotTrip (tripSev (s.modSlot n (fun x =>
          { slotTo s.drip .cooldown (if gateOn x.st then gateOff s.now x else x) with
            lastTrip := cause, lastOn := tOn, fetShort := x.fetShort, coolLen := cool, coolEnd := s.now + cool, removedInCool := false, offInCool := false })) n cause) 288
          (evData (leBytes 1 cause ++ leBytes 1 6 ++ leBytes 1 (sat 8 (s.slot n).retries) ++ leBytes 1 0 ++ leBytes 2 (sat 16 cur) ++
            leBytes 2 (sat 16 (tOn / 800000))) s.drip)) ∧
  (∀ (slot t : Nat) (s : State),
      slot < 128 →
      (s.slot slot).clearAt = some t →
      (s.slot slot).inLimit = false →
      t + 800000 ≤ s.now →
      exec (.faultTimerClear slot) s = .next (s.modSlot slot (fun x => { x with timer := 0, clearAt := none }))) ∧
  (∀ (slot t : Nat) (s : State),
      slot < 128 →
      (s.slot slot).st = .ramping →
      removalDue s slot = false →
      timerDue s slot = false →
      (s.slot slot).goodSince = some t →
      t + 800000 ≤ s.now →
      exec (.powerGood slot) s = .next (raise (s.modSlot slot (fun x => { slotTo s.drip .on x with retries := 0 })) (1024 + slot) evSlotPowerGood 0 288
          (evData (leBytes 1 0 ++ leBytes 1 (sat 8 (s.slot slot).retries) ++ leBytes 2 (sat 16 (s.slot slot).vout) ++
            leBytes 2 (sat 16 ((s.now - (s.slot slot).onAt) / 8000))) s.drip))) ∧
  (∀ (slot : Nat) (s : State),
      slot < 128 →
      (s.slot slot).st = .warnOff →
      removalDue s slot = false →
      timerDue s slot = false →
      (s.slot slot).warnAt + 800000 * (slotCfg s slot).warnLead ≤ s.now →
      exec (.warnLeadEnd slot) s = .next (s.modSlot slot (fun x => slotTo s.drip .off (gateOff s.now x)))) ∧
  (∀ (slot : Nat) (ramp : State) (go : SlotSt → State) (s : State),
      slot < 128 →
      (s.slot slot).st = .cooldown →
      (s.slot slot).coolEnd ≤ s.now →
      ramp = s.modSlot slot (fun x => { rampUp s.drip s.now x with removedInCool := false, offInCool := false }) →
      go = (fun st => s.modSlot slot (fun x => { slotTo s.drip st x with removedInCool := false, offInCool := false })) →
      exec (.cooldownEnd slot) s = .next (
          if (s.slot slot).present = false then go .empty
          else if (s.slot slot).removedInCool = true then (if (slotCfg s slot).autoOn then ramp else go .off)
          else if (s.slot slot).offInCool = true then go .off
          else if (s.slot slot).retries < (slotCfg s slot).retryMax ∨ (slotCfg s slot).retryMax = 255 then
            raise (ramp.modSlot slot (fun y => { y with retries := (s.slot slot).retries + 1 })) (1024 + slot) evSlotRetry 0 288
              (evData (leBytes 1 (sat 8 ((s.slot slot).retries + 1)) ++ zeros 3 ++ leBytes 4 (sat 32 ((s.slot slot).coolLen / 800000))) s.drip)
          else go .locked)) ∧
  (∀ (slot : Nat) (high : Bool) (s : State),
      slot < 128 →
      (s.slot slot).rawHigh = !high →
      exec (.slotPrsntNChange slot high) s = .next (s.modSlot slot (fun x => { x with rawHigh := high, rawSince := s.now }))) ∧
  (∀ (slot : Nat) (s : State),
      slot < 128 →
      (s.slot slot).present = (s.slot slot).rawHigh →
      (s.slot slot).rawSince + 80000000 ≤ s.now →
      exec (.presenceDebounced slot) s = .next (s.modSlot slot (fun x =>
          if x.rawHigh then slotAbsent s.drip { x with presChanges := (x.presChanges + 1) % 256 }
          else slotPresent (slotCfg s slot) s.drip s.now { x with presChanges := (x.presChanges + 1) % 256 }))) ∧
  (∀ (bus mv : Nat) (x : Bus) (s : State),
      bus < 4 →
      x = s.bus bus →
      ∃ slope on u v w, slope = slopeBad x.hist mv ∧ on = ((busSlots s bus).filter (fun n => (s.slot n).st == .on)).length ∧
        u = s.modBus bus (fun x => { x with
          mv := mv, hist := (mv :: x.hist).take 16, warn := x.warn || decide (mv < 11200) || slope, under := decide (mv < 10800)
          okSince := if 11400 ≤ mv && !slope then (if x.okSince.isNone then some s.now else x.okSince) else none }) ∧
        v = (if x.warn = false ∧ (mv < 11200 ∨ slope = true) then raiseBus u bus (if mv < 11200 then 1 else 2) mv on else u) ∧
        w = (if mv < 10800 ∧ x.under = false then raiseBus v bus 3 mv on else v) ∧
        exec (.busSample bus mv) s = .next (if mv < 10800
          then forEach ((busSlots w bus).filter (fun n => gateOn (w.slot n).st)) w (fun s n => tripSlot s n 3 (s.slot n).cur) else w)) ∧
  (∀ (bus t : Nat) (s : State),
      bus < 4 →
      (s.bus bus).warn = true →
      (s.bus bus).okSince = some t →
      t + 800000 ≤ s.now →
      exec (.busWarningClear bus) s = .next (raiseBus (s.modBus bus (fun x => { x with warn := false })) bus 4 (s.bus bus).mv
          ((busSlots s bus).filter (fun n => (s.slot n).st == .on)).length))

/-- The end of ROM_INIT: a cluster that fails its self-test is failed; with both failed the state is HALTED; with a valid and good kept image VERIFYING from it, otherwise LOADER (failure 06h when a kept image was bad). 10 s without a loader command leave RECEIVING with failure 07h. Verification tests the header, the key, the rollback value and the signature in this order, with failures 1 to 4, and leaves FUSING with the bits that the image asks for, or STARTING; a failure answers LOAD_END and goes back to LOADER. Fuses are blown one by one; three failed read-backs end with failure 08h. An uncorrectable kept image loses its tag. Every bridge timeout is counted. -/
def Obligations.BootRom : Prop :=
  (∀ (keptOk : Bool) (s : State),
      s.mgmt.boot = .romInit →
      romRuns s = true →
      ∃ t, exec (.romInitEnd false false keptOk) s = .next t ∧ t.mgmt.boot = .halted ∧ t.mgmt.lastFail = 9) ∧
  (∀ (s : State),
      s.mgmt.boot = .romInit →
      romRuns s = true →
      (s.cluster 0).st ≠ .failed →
      s.mgmt.keptValid = true →
      ∃ u, u = toBoot s .verifying ∧ exec (.romInitEnd true true true) s = .next { u with mgmt := { u.mgmt with fromKept := true, source := 4, loadDrip := s.drip } }) ∧
  (∀ (keptOk : Bool) (s : State),
      s.mgmt.boot = .romInit →
      romRuns s = true →
      (s.cluster 0).st ≠ .failed →
      s.mgmt.keptValid = false ∨ keptOk = false →
      exec (.romInitEnd true true keptOk) s = .next (toLoader s (if s.mgmt.keptValid || s.mgmt.keptEcc then 6 else 0))) ∧
  (∀ (s : State),
      s.mgmt.boot = .receiving →
      romRuns s = true →
      s.mgmt.bootAt + 8000000000 ≤ s.now →
      exec .receiveTimeout s = .next (toLoader s 7)) ∧
  (∀ (s : State),
      s.mgmt.boot = .verifying →
      romRuns s = true →
      exec (.verifyEnd false) s = .next (bootFailed s 6)) ∧
  (∀ (d : Bytes) (s : State),
      s.mgmt.boot = .verifying →
      romRuns s = true →
      d = sha384 (signedBytes s.mgmt.kept) →
      ∃ u, u = { s with mgmt := { s.mgmt with digest := d, fusePlan := fusesFor s s.mgmt.kept, fuseTries := 0 } } ∧
        exec (.verifyEnd true) s = .next (if imageFail s s.mgmt.kept d = 0 then (if fusesFor s s.mgmt.kept = [] then bootAccepted u else toBoot u .fusing)
          else bootFailed s (imageFail s s.mgmt.kept d))) ∧
  (∀ (img d : Bytes) (s : State),
      imageFail s img d = if headerTest img = false then 1 else if keyTest s img = false then 2
          else if hdr img 24 4 < rollbackCount s then 3
          else if ecdsaOk (pubKey img) d ((img.drop (imageLen img - 96)).take 96) = false then 4 else 0) ∧
  (∀ (b : Nat) (rest : List Nat) (s : State),
      s.mgmt.boot = .fusing →
      romRuns s = true →
      s.mgmt.fusePlan = b :: rest →
      ∃ u, u = blow { s with mgmt := { s.mgmt with fusePlan := rest, fuseTries := 0, bootAt := s.now } } b ∧
        exec (.fuseBit true) s = .next (if rest = [] then bootAccepted u else u) ∧
        exec (.fuseBit false) s = .next (if s.mgmt.fuseTries < 2 then { s with mgmt := { s.mgmt with fuseTries := s.mgmt.fuseTries + 1 } } else bootFailed s 8)) ∧
  (∀ (s : State),
      s.mgmt.coldRst = false →
      s.mgmt.keptValid = true →
      exec .keptImageUncorrectable s = .next { s with mgmt := { s.mgmt with keptValid := false, keptEcc := true } }) ∧
  (∀ (id : Nat) (s : State),
      s.mgmt.coldRst = false →
      exec (.bridgeReadTimeout id) s = .next { s with mgmt := { s.mgmt with bridgeTo := sat 32 (s.mgmt.bridgeTo + 1) } }) ∧
  (∀ (s : State),
      exec .vidCodeValid s = .next { s with pin := { s.pin with vidValid := true } })

/-- When STARTING ends firmware runs: the token goes to MP-A unless its self-test failed, and the other cluster stands by. A running cluster's heartbeat marks the interval; at the end of an interval a beat clears the misses, and the fifth in a row without one fails the cluster. A cluster that reports an error in its SRAM (cause 02h), or asks to be failed (03h), fails at once. When the token holder fails the standby takes the token and the management plane is reset; with no standby both are down; a failed standby raises cause 04h. A restarted cluster with a valid kept image stands by again (06h); after both were down the first to run takes the token with cause 05h. -/
def Obligations.ClustersAndFirmware : Prop :=
  (∀ (s : State),
      s.mgmt.boot = .starting →
      s.mgmt.bothDown = false →
      s.mgmt.mgmtRst = false →
      s.mgmt.coldRst = false →
      ∃ n u, n = (if (s.cluster 0).st = .failed then 1 else 0) ∧ u = startRunning s n ∧
        exec .startingEnd s = .next (tryResetReply (endOps (if (u.cluster (1 - n)).st = .failed then u
          else u.modCluster (1 - n) (fun c => { c with st := .standby, beat := true, missed := 0 }))))) ∧
  (∀ (cluster : Nat) (s : State),
      cluster < 2 →
      clusterRuns s cluster = true →
      firmwareUp s = true →
      exec (.heartbeat cluster) s = .next (s.modCluster cluster (fun c => { c with beat := true }))) ∧
  (∀ (s u : State),
      firmwareUp s = true →
      s.drip / 800000 ≠ s.mgmt.hbInterval →
      u = beatEnd (beatEnd { s with mgmt := { s.mgmt with hbInterval := s.drip / 800000 } } 0) 1 →
      exec .heartbeatIntervalEnd s = .next (
          if clusterRuns u 0 = true ∧ 5 ≤ (u.cluster 0).missed then
            (if clusterRuns u 1 = true ∧ 5 ≤ (u.cluster 1).missed then goDown (noteFailure (noteFailure u 0) 1) else failCluster u 0 1)
          else if clusterRuns u 1 = true ∧ 5 ≤ (u.cluster 1).missed then failCluster u 1 1 else u)) ∧
  (∀ (n : Nat) (s : State),
      clusterRuns s n = true →
      beatEnd s n = s.modCluster n (fun c => { c with missed := if c.beat then 0 else c.missed + 1, beat := false })) ∧
  (∀ (cluster : Nat) (ecc : Bool) (s : State),
      cluster < 2 →
      clusterRuns s cluster = true →
      firmwareUp s = true →
      exec (.clusterSelfReport cluster ecc) s = .next (failCluster s cluster (if ecc then 2 else 3))) ∧
  (∀ (n cause : Nat) (s u : State),
      u = noteFailure s n →
      n = u.mgmt.token →
      (u.cluster (1 - n)).st = .standby →
      ∃ v w, v = planeReset { u with mgmt := { u.mgmt with token := 1 - n, starts := sat 16 (u.mgmt.starts + 1) } } ∧
        w = v.modCluster (1 - n) (fun c => { c with st := .active }) ∧
        failCluster s n cause = raiseTakeover (endOps w) cause n w.mgmt.closedByReset w.mgmt.journal.length (opsToEnd w) (failuresOf w n)) ∧
  (∀ (n cause : Nat) (s u : State),
      u = noteFailure s n →
      n = u.mgmt.token →
      (u.cluster (1 - n)).st ≠ .standby →
      failCluster s n cause = goDown u) ∧
  (∀ (n cause : Nat) (s u : State),
      u = noteFailure s n →
      n ≠ u.mgmt.token →
      failCluster s n cause = raiseTakeover u 4 n 0 0 0 (failuresOf u n)) ∧
  (∀ (cluster : Nat) (s : State),
      cluster < 2 →
      firmwareUp s = true →
      cluster ≠ s.mgmt.token →
      (s.cluster cluster).st = .rom →
      s.mgmt.keptValid = true →
      ∃ u, u = s.modCluster cluster (fun c => { c with st := .standby, beat := true }) ∧
        exec (.standbyReady cluster) s = .next (raiseTakeover u 6 255 0 0 0 (failuresOf s cluster))) ∧
  (∀ (cluster : Nat) (s : State),
      s.mgmt.bothDown = true →
      s.mgmt.mgmtRst = false →
      s.mgmt.coldRst = false →
      s.mgmt.boot = .starting →
      cluster < 2 →
      (s.cluster cluster).st ≠ .failed →
      ∃ u, u = startRunning s cluster ∧ exec (.bothRestarted cluster) s = .next (tryResetReply
          (raiseTakeover (endOps u) 5 255 u.mgmt.closedByReset u.mgmt.journal.length (opsToEnd u) (failuresOf u cluster))))

/-- The record that arrives is the first of its source among those on their way, with no earlier piece of its die still on the bridge; a record that a mask suppresses only counts in that mask; with fewer than 4,095 records held it takes the next sequence number, and otherwise it is lost: counted in the newest EV_EVENT_LOST when that is open, else an EV_EVENT_LOST takes its place. A notice goes out for new records, at most once in 800,000 drips: on each I3C connection whose in-band interrupts are enabled (a free value, log 180), and as an MSI when those of the management function are. A session not served for IDLE_S seconds is closed. When every shadow write of a commit is posted by T - 1,024, and none is still on the bridge, its launch is armed; one that is late is cancelled with outcome 1. -/
def Obligations.EventsNoticesAndCommits : Prop :=
  (∀ (i : Nat) (r : EvRec) (s : State),
      s.ev.inbound[i]? = some r →
      ((s.ev.inbound.take i).any (fun x => x.source == r.source)) = false →
      dataAhead s (islandDie r.isl) r.drip = false →
      exec (.eventRecordArrival i) s = .next (arriveEvent { s with ev := { s.ev with inbound := s.ev.inbound.eraseIdx i } } r)) ∧
  (∀ (r : EvRec) (s : State),
      suppressor s r = none →
      s.ev.queue.length < 4095 →
      arriveEvent s r = mirrorEvent { s with ev := { s.ev with
          queue := s.ev.queue ++ [(s.ev.nextSeq, r)], nextSeq := (s.ev.nextSeq + 1) % 2 ^ 32, lostOpen := false, newSince := true } } r) ∧
  (∀ (r : EvRec) (s : State),
      suppressor s r = none →
      4095 ≤ s.ev.queue.length →
      lostOpen s = false →
      arriveEvent s r = enterQueue s (lostRecord s r) true) ∧
  (∀ (r : EvRec) (s : State),
      suppressor s r = none →
      4095 ≤ s.ev.queue.length →
      lostOpen s = true →
      arriveEvent s r = { s with ev := { s.ev with queue := s.ev.queue.dropLast ++ (s.ev.queue.getLast?.map (fun e => (e.1, countLost r e.2))).toList } }) ∧
  (∀ (i : Nat) (r : EvRec) (s : State),
      suppressor s r = some i →
      arriveEvent s r = { s with ev := { s.ev with
          masks := tmod {} s.ev.masks i (fun m => { m with suppressed := (m.suppressed + 1) % 2 ^ 64 }) } }) ∧
  (∀ (s : State),
      s.ev.newSince = true →
      (s.ev.lastNotice = none ∨ (∃ t, s.ev.lastNotice = some t ∧ t + 800000 ≤ s.now)) →
      ∃ a b n u, (a, u) = draw s ∧ (b, n) = draw u ∧
        exec .eventNotice s = .next { n with ev := { n.ev with newSince := false, lastNotice := some s.now, notices := s.ev.notices ++
          [{ i3cA := bitOf a 0, i3cB := bitOf b 0, msi := (s.fn s.mgmt.bootPort mgmtFn).msixOn }] } }) ∧
  (∀ (n : Nat) (x : Sess) (s : State),
      n < 8 →
      s.sess n = some x →
      x.lastAt + x.idleS * 800000000 ≤ s.now →
      exec (.sessionIdleTimeout n) s = .next (closeSession s n)) ∧
  (∀ (c : Commit) (s : State),
      s.proto.commit = some c →
      c.posted = false →
      firmwareUp s = true →
      s.drip + 1024 ≤ c.at_ →
      c.asked ≠ 0 ∨ nextLaunch s.drip = c.at_ →
      writesFor s (touched s c.cmds) = false →
      exec .commitShadowsPosted s = .next (armCommit s c)) ∧
  (∀ (c : Commit) (s : State),
      s.proto.commit = some c →
      c.posted = false →
      c.at_ ≤ s.drip + 1024 →
      exec .commitLateCancel s = .next (endCommit s c 1))

/-- A frame carries up to seven records in order, with its sequence number and the count dropped, which starts again, and leaves as 32 data blocks over the four scrambled lanes, behind the control blocks that are due; records 8,000 drips old are dropped and counted. At a multiple of SWEEP_PERIOD every counter is latched as of that edge, a sweep not complete is abandoned and counted for each gallery, and each gallery posts its snapshot to the bridge; when no piece toward the management die is left the sweep becomes readable. A sweep asked for on another drip is counted as refused when it is late. A programmable counter past 2^48 has wrapped: its flag is set, it starts again, with FREEZE_ALL all stop, and EV_COUNTER_WRAP is raised from source 1260 + g, severity 00b, with the counter, its select, whether it froze and the drip of the wrap. A sample whose request has ended enters its ring of 32 and Lantern. A loopback test whose bits are all checked is done; a FAR test that lost its link is stopped. -/
def Obligations.LanternAndCounters : Prop :=
  (∀ (s : State),
      s.cfg.traceOn = true →
      ∃ u recs v, u = dropAged s ∧ recs = (u.lan.traces.take 7).map (·.bytes) ∧
        v = sendBlocks false (dataBlocks (frameBytes u recs)) (sendBlocks true (controlBlocks u.lan.frameSeq) u) ∧ exec .lanternFrame s = .next { u with
          lan := { u.lan with traces := u.lan.traces.drop 7, frameSeq := (u.lan.frameSeq + 1) % 2 ^ 32, frames := (u.lan.frames + 1) % 2 ^ 64, sent := (u.lan.sent + recs.length) % 2 ^ 64, dropped := 0, scramblers := v.lan.scramblers }
          out := { u.out with lantern := u.out.lantern ++ [frameBytes u recs], lanternCtl := u.out.lanternCtl ++ controlBlocks u.lan.frameSeq, lanternLine := v.out.lanternLine } }) ∧
  (∀ (s : State),
      ∃ gone, gone = s.lan.traces.filter (fun t => decide (t.born + 8000 ≤ s.now)) ∧ exec .traceRecordAgeDrop s = .next { s with lan := { s.lan with
          traces := s.lan.traces.filter (fun t => !decide (t.born + 8000 ≤ s.now)), dropped := sat 16 (s.lan.dropped + gone.length)
          dropDie := gone.foldl (fun d t => tmod 0 d (dropIndex t.die) (fun v => (v + 1) % 2 ^ 64)) s.lan.dropDie } }) ∧
  (∀ (s : State),
      launchWaits s = false →
      s.drip % s.cfg.sweep = 0 →
      latchedHere s = false →
      ∃ u, u = (if s.lan.latched.isSome then forEach (List.range 8) s (fun s g => countGal s g 23 1) else s) ∧
        exec .counterSweep s = .next (forEach ((List.range 8).filter (fun g => (u.gal g).lost.isNone))
          { u with lan := { u.lan with latched := some (u.drip, edgeValues s, latchBad u) } }
          (fun v g => postBurst v false (coreIsl g) (Config.snapshotAt g) (Config.snapshotLen g)))) ∧
  (∀ (s : State),
      launchWaits s = false →
      s.drip % s.cfg.sweep ≠ 0 →
      latchedHere s = false →
      exec .counterSweep s = .next (if sweepMissed s then { s with time := { s.time with refusals := s.time.refusals + 1 } } else s)) ∧
  (∀ (s : State),
      s.lan.latched.isSome = true →
      (s.mgmt.bridge.all (·.outbound)) = true →
      exec .sweepComplete s = .next { s with lan := { s.lan with readable := s.lan.latched, latched := none } }) ∧
  (∀ (g k skid v : Nat) (p : Prog) (c : ProgCfg) (s : State),
      g < 8 →
      k < 8 →
      p = tget {} s.lan.progs g →
      c = ((tget [] s.cfg.progs g)[k]?).getD {} →
      v = tget 0 p.counts k →
      2 ^ 48 ≤ v →
      ∃ u, u = { s with lan := { s.lan with progs := tput {} s.lan.progs g { p with
            wrapped := setBit p.wrapped k, frozen := if c.freezeAll then 255 else p.frozen
            counts := tput 0 p.counts k (if c.freezeAll then min skid (v - 2 ^ 48) else v - 2 ^ 48) } } } ∧
        exec (.counterWrap g k skid) s = .next (if c.wrapEvent then raiseAt u (tget 0 p.wrapAt k) (1260 + g) evCounterWrap 0 (coreIsl g)
          (evData (leBytes 1 k ++ leBytes 1 c.select ++ leBytes 1 (bit c.freezeAll)) (tget 0 p.wrapAt k)) else u)) ∧
  (∀ (g id port : Nat) (x : Samp) (r : SampRun) (s : State),
      x = tget {} s.lan.samps g →
      x.flying.find? (fun r => r.id == id && r.port == port && r.ended) = some r →
      ∃ b, b = sampleBytes r ∧ exec (.sampleEnd g id port) s = .next (traceSample { s with lan := { s.lan with
          samps := tput {} s.lan.samps g { x with flying := x.flying.filter (fun r => !(r.id == id)), ring := (b :: x.ring).take 32 } } } g b)) ∧
  (∀ (port bits : Nat) (errors : List Nat) (s : State),
      (s.loop port).st = 1 →
      loopBits s port = (s.loop port).blocks * 2 ^ 24 →
      exec (.loopbackEnd port bits errors false) s = .next (endLoop s port 2 ((s.loop port).blocks * 2 ^ 24) errors)) ∧
  (∀ (port bits : Nat) (errors : List Nat) (s : State),
      (s.loop port).st = 1 →
      (s.loop port).mode = 2 →
      exec (.loopbackEnd port bits errors true) s = .next (endLoop s port 3 (min bits (loopBits s port)) errors))

/-- For every vendor command of the index and every request: while nothing answers, nothing happens; a request of a wrong length is discarded and counted, one with a wrong CRC is answered BAD_CRC, one from a mailbox without a grant DENIED. The ROM answers what it does not serve with NOT_IN_STATE, and so are loader commands while firmware runs. A session that is not open or was opened elsewhere gives NO_SESSION, one whose previous command is unanswered BUSY, the last ALIVE again REPEAT with the cached reply, another than the next SEQUENCE with the last value: none of these touches a session. From step 7 the reply is cached: BAD_PARAM for the header, EPOCH_MISMATCH, and DENIED for a command that only an OWNER may use. That a mailbox without a grant is answered after step 2 is the model's reading (log 17). -/
def Obligations.VendorSteps : Prop :=
  (∀ (op : Nat) (c : Transport → Req → Instr) (t : Transport) (r : Req) (s : State),
      (op, c) ∈ vendorCmds →
      answering s = false →
      exec (c t r) s = .next s) ∧
  (∀ (op : Nat) (c : Transport → Req → Instr) (t : Transport) (r : Req) (s : State),
      (op, c) ∈ vendorCmds →
      answering s = true →
      inRom s = false ∨ mailboxAgent t = none →
      lengthOk r = false →
      exec (c t r) s = .next { s with proto := { s.proto with discarded := sat 32 (s.proto.discarded + 1) } }) ∧
  (∀ (op : Nat) (c : Transport → Req → Instr) (t : Transport) (r : Req) (s : State),
      (op, c) ∈ vendorCmds →
      answering s = true →
      inRom s = false ∨ mailboxAgent t = none →
      lengthOk r = true →
      crcOk op r = false →
      exec (c t r) s = .next (answer s op t r stBadCrc [])) ∧
  (∀ (op : Nat) (c : Transport → Req → Instr) (t : Transport) (r : Req) (s : State),
      (op, c) ∈ vendorCmds →
      answering s = true →
      inRom s = false →
      lengthOk r = true →
      crcOk op r = true →
      ungranted s t = true →
      exec (c t r) s = .next (answer s op t r stDenied [])) ∧
  (∀ (op : Nat) (c : Transport → Req → Instr) (t : Transport) (r : Req) (s : State),
      (op, c) ∈ vendorCmds →
      arrives op t r s = true →
      inRom s = true →
      mailboxAgent t = none →
      isRomOp op = false →
      exec (c t r) s = .next (answer s op t r stNotInState [])) ∧
  (∀ (op : Nat) (c : Transport → Req → Instr) (t : Transport) (r : Req) (s : State),
      (op, c) ∈ vendorCmds →
      arrives op t r s = true →
      inRom s = false →
      isLoaderOp op = true →
      exec (c t r) s = .next (answer s op t r stNotInState [])) ∧
  (∀ (op : Nat) (c : Transport → Req → Instr) (t : Transport) (r : Req) (s : State),
      (op, c) ∈ vendorCmds →
      arrives op t r s = true →
      inRom s = false →
      isLoaderOp op = false →
      r.session = 255 →
      isFreeOp op = false →
      exec (c t r) s = .next (answer s op t r stNoSession [])) ∧
  (∀ (op : Nat) (c : Transport → Req → Instr) (t : Transport) (r : Req) (s : State),
      (op, c) ∈ vendorCmds →
      arrives op t r s = true →
      inRom s = false →
      isLoaderOp op = false →
      r.session ≠ 255 →
      (r.session < 8 → s.sess r.session = none) →
      exec (c t r) s = .next (answer s op t r stNoSession [])) ∧
  (∀ (op : Nat) (c : Transport → Req → Instr) (t : Transport) (r : Req) (s : State) (x : Sess),
      (op, c) ∈ vendorCmds →
      arrives op t r s = true →
      inRom s = false →
      isLoaderOp op = false →
      r.session < 8 →
      s.sess r.session = some x →
      x.transport ≠ t ∨ x.eid ≠ r.eid →
      exec (c t r) s = .next (answer s op t r stNoSession [])) ∧
  (∀ (op : Nat) (c : Transport → Req → Instr) (t : Transport) (r : Req) (s : State) (x : Sess),
      (op, c) ∈ vendorCmds →
      arrives op t r s = true →
      inRom s = false →
      isLoaderOp op = false →
      r.session < 8 →
      s.sess r.session = some x →
      x.transport = t →
      x.eid = r.eid →
      x.busy = true →
      exec (c t r) s = .next (answer s op t r stBusy [])) ∧
  (∀ (op : Nat) (c : Transport → Req → Instr) (t : Transport) (r : Req) (s : State) (x : Sess),
      (op, c) ∈ vendorCmds →
      arrives op t r s = true →
      inRom s = false →
      isLoaderOp op = false →
      r.session < 8 →
      s.sess r.session = some x →
      x.transport = t →
      x.eid = r.eid →
      x.busy = false →
      r.alive = x.last →
      exec (c t r) s = .next (answer s op t r stRepeat x.cached)) ∧
  (∀ (op : Nat) (c : Transport → Req → Instr) (t : Transport) (r : Req) (s : State) (x : Sess),
      (op, c) ∈ vendorCmds →
      arrives op t r s = true →
      inRom s = false →
      isLoaderOp op = false →
      r.session < 8 →
      s.sess r.session = some x →
      x.transport = t →
      x.eid = r.eid →
      x.busy = false →
      r.alive ≠ x.last →
      r.alive ≠ (x.last + 1) % 256 →
      exec (c t r) s = .next (sendReply s t r.eid (replyBytes op r.session x.last stSequence s.proto.epoch []))) ∧
  (∀ (op : Nat) (c : Transport → Req → Instr) (t : Transport) (r : Req) (s : State) (x : Sess),
      (op, c) ∈ vendorCmds →
      arrives op t r s = true →
      inRom s = false →
      isLoaderOp op = false →
      r.session < 8 →
      s.sess r.session = some x →
      x.transport = t →
      x.eid = r.eid →
      x.busy = false →
      r.alive ≠ x.last →
      r.alive = (x.last + 1) % 256 →
      headerOk r = false ∨ epochOk s r = false →
      exec (c t r) s = answered op t r (served r s) (if headerOk r = false then stBadParam else stEpoch) []) ∧
  (∀ (op : Nat) (c : Transport → Req → Instr) (t : Transport) (r : Req) (s : State) (x : Sess),
      (op, c) ∈ ownerCmds →
      inSession op t r s x = true →
      x.priv ≠ 0 →
      exec (c t r) s = answered op t r (served r s) stDenied [])

/-- SESSION_OPEN with SESSION FFh opens the lowest free session with the payload's privilege, idle time and tag, and answers its number; in an OWNER session it grants a mailbox or revokes one and closes its sessions. SESSION_CLOSE closes the session after its reply. GET_IDENTITY, GET_EPOCH and FW_INFO answer in a session, with SESSION FFh, and (GET_IDENTITY, FW_INFO) from the ROM. STAGE_BEGIN opens a stage, STAGE_ABORT drops it, COMMIT of a good stage is accepted, posts its shadow writes to the islands it touches, and is answered PENDING with its launch drip. MGMT_RESET resets the management plane and its reply waits. LOAD_BEGIN of a good header starts an image, LOAD_DATA adds bytes to it, LOAD_END of a full one starts verification and waits. An opcode outside the index is BAD_OPCODE. -/
def Obligations.SessionsAndTheLoader : Prop :=
  (∀ (t : Transport) (r : Req) (k : Nat) (s u : State),
      freeTurn 0xC000 t r s = true →
      openBad r.payload false = false →
      byteAt r.payload 0 = 0 →
      openAllowed t r none = true →
      lowestFree s = some k →
      (∀ a, mailboxAgent t = some a → (mailboxSessions s a).length < 2) →
      u = s.setSess k (some
          { transport := t, eid := r.eid, priv := byteAt r.payload 1, idleS := fieldAt r.payload 4 2, tag := fieldAt r.payload 8 8,
            last := r.alive, openAlive := r.alive, lastAt := s.now }) →
      exec (.sessionOpen t r) s = .next (finishFree 0xC000 t r (.opened u k
          (leBytes 1 k ++ leBytes 1 (byteAt r.payload 1) ++ leBytes 1 (sessionsFree u) ++ zeros 1 ++ leBytes 2 (fieldAt r.payload 4 2) ++ zeros 2)))) ∧
  (∀ (t : Transport) (r : Req) (s : State) (x : Sess),
      inSession 0xC000 t r s x = true →
      x.priv = 0 →
      openBad r.payload true = false →
      byteAt r.payload 0 = 1 →
      ∃ u, u = { served r s with proto := { (served r s).proto with grants := if (served r s).proto.grants.contains (byteAt r.payload 2) then (served r s).proto.grants else byteAt r.payload 2 :: (served r s).proto.grants } } ∧
        exec (.sessionOpen t r) s = answered 0xC000 t r u stOk []) ∧
  (∀ (t : Transport) (r : Req) (s : State) (x : Sess),
      inSession 0xC000 t r s x = true →
      x.priv = 0 →
      openBad r.payload true = false →
      byteAt r.payload 0 = 2 →
      ∃ u, u = closeMailbox (served r s) (byteAt r.payload 2) ∧
        exec (.sessionOpen t r) s = answered 0xC000 t r { u with proto := { u.proto with grants := u.proto.grants.filter (· != byteAt r.payload 2) } } stOk []) ∧
  (∀ (t : Transport) (r : Req) (s : State) (x : Sess),
      inSession 0xC001 t r s x = true →
      r.payload = [] →
      exec (.sessionClose t r) s = answered 0xC001 t r (closeSession (served r s) r.session) stOk []) ∧
  (∀ (t : Transport) (r : Req) (s : State) (x : Sess),
      inSession 0xC003 t r s x = true →
      r.payload = [] →
      exec (.getIdentity t r) s = answered 0xC003 t r (served r s) stOk (identityReply (served r s))) ∧
  (∀ (t : Transport) (r : Req) (s : State) (x : Sess),
      inSession 0xC004 t r s x = true →
      r.payload = [] →
      exec (.getEpoch t r) s = answered 0xC004 t r (served r s) stOk (epochReply (served r s))) ∧
  (∀ (t : Transport) (r : Req) (s : State) (x : Sess),
      inSession 0xC0D0 t r s x = true →
      r.payload = [] →
      exec (.fwInfo t r) s = answered 0xC0D0 t r (served r s) stOk (fwInfoReply (served r s))) ∧
  (∀ (t : Transport) (r : Req) (s : State),
      freeTurn 0xC003 t r s = true →
      r.payload = [] →
      exec (.getIdentity t r) s = .next (answer s 0xC003 t r stOk (identityReply s))) ∧
  (∀ (t : Transport) (r : Req) (s : State),
      freeTurn 0xC004 t r s = true →
      r.payload = [] →
      exec (.getEpoch t r) s = .next (answer s 0xC004 t r stOk (epochReply s))) ∧
  (∀ (t : Transport) (r : Req) (s : State),
      freeTurn 0xC0D0 t r s = true →
      r.payload = [] →
      exec (.fwInfo t r) s = .next (answer s 0xC0D0 t r stOk (fwInfoReply s))) ∧
  (∀ (t : Transport) (r : Req) (s : State),
      romTurn 0xC003 t r s = true →
      r.payload = [] →
      exec (.getIdentity t r) s = .next (finishRom 0xC003 t r (.reply s stOk (identityReply s)))) ∧
  (∀ (t : Transport) (r : Req) (s : State),
      romTurn 0xC0D0 t r s = true →
      r.payload = [] →
      exec (.fwInfo t r) s = .next (finishRom 0xC0D0 t r (.reply s stOk (fwInfoReply s)))) ∧
  (∀ (t : Transport) (r : Req) (s u : State) (x : Sess),
      inSession 0xC010 t r s x = true →
      x.priv = 0 →
      r.payload = [] →
      u = served r s →
      u.stage r.session = none →
      commitArmedIn u r.session = false →
      exec (.stageBegin t r) s = answered 0xC010 t r (u.setStage r.session (some [])) stOk (leBytes 4 u.proto.epoch)) ∧
  (∀ (t : Transport) (r : Req) (cmds : List Staged) (s u : State) (x : Sess),
      inSession 0xC011 t r s x = true →
      x.priv = 0 →
      r.payload = [] →
      u = served r s →
      u.stage r.session = some cmds →
      commitArmedIn u r.session = false →
      exec (.stageAbort t r) s = answered 0xC011 t r (u.setStage r.session none) stOk []) ∧
  (∀ (t : Transport) (r : Req) (cmds : List Staged) (s u : State) (x : Sess),
      inSession 0xC012 t r s x = true →
      x.priv = 0 →
      u = served r s →
      commitArmed u = false →
      launchBad u r.payload = false →
      u.stage r.session = some cmds →
      firstFailing u r.session [] cmds = none →
      unsureTouched u cmds = false →
      ∃ ask f v w T, ask = fieldAt r.payload 0 8 ∧ (f, v) = (if ask = 0 then draw u else (0, u)) ∧ T = (if ask = 0 then nextLaunch (u.drip + f) else ask) ∧
        w = forEach (touched { v with proto := { v.proto with commit := some { session := r.session, cmds := cmds, asked := ask, at_ := T } } } cmds)
            { v with proto := { v.proto with commit := some { session := r.session, cmds := cmds, asked := ask, at_ := T } } }
            (fun w i => postBurst w true i (Config.shadowAt i) (sumOf (fun k => k.payload.length) cmds)) ∧
        exec (.commit t r) s = answered 0xC012 t r w stPending (commitReply w 65535 0 T)) ∧
  (∀ (t : Transport) (r : Req) (s : State) (x : Sess),
      inSession 0xC002 t r s x = true →
      x.priv = 0 →
      mailboxAgent t = none →
      r.payload.length = 4 →
      fieldAt r.payload 0 4 = 0x5453524D →
      ∃ u, u = mgmtReset (served r s) ∧
        exec (.mgmtReset t r) s = .next (finishSession 0xC002 t r r.session (.wait { u with mgmt := { u.mgmt with resetWait := some (t, r) } }))) ∧
  (∀ (t : Transport) (r : Req) (hd : Bytes) (s u : State),
      romTurn 0xC0F0 t r s = true →
      s.mgmt.boot = .loader →
      r.payload.length = 520 →
      fieldAt r.payload 4 4 = 0 →
      hd = (r.payload.drop 8).take 512 →
      fieldAt r.payload 0 4 = imageLen hd →
      headerTest hd = true →
      headerFail s hd = 0 →
      u = toBoot s .receiving →
      exec (.loadBegin t r) s = .next (finishRom 0xC0F0 t r (.reply { u with mgmt := { u.mgmt with
          kept := hd, keptValid := false, keptEcc := false, fromKept := false, source := transportNo t, rxTransport := transportNo t
          rxLen := imageLen hd, digest := [] } } stOk []))) ∧
  (∀ (t : Transport) (r : Req) (s : State),
      romTurn 0xC0F1 t r s = true →
      s.mgmt.boot = .receiving →
      s.mgmt.rxTransport = transportNo t →
      9 ≤ r.payload.length →
      r.payload.length ≤ 16392 →
      fieldAt r.payload 4 4 = 0 →
      fieldAt r.payload 0 4 = received s →
      received s + (r.payload.length - 8) ≤ s.mgmt.rxLen →
      exec (.loadData t r) s = .next (finishRom 0xC0F1 t r (.reply { s with mgmt := { s.mgmt with kept := s.mgmt.kept ++ r.payload.drop 8, bootAt := s.now } } stOk []))) ∧
  (∀ (t : Transport) (r : Req) (s u : State),
      romTurn 0xC0F2 t r s = true →
      s.mgmt.boot = .receiving →
      s.mgmt.rxTransport = transportNo t →
      r.payload.length = 4 →
      fieldAt r.payload 0 4 = 0 →
      s.mgmt.rxLen ≤ received s →
      u = toBoot s .verifying →
      exec (.loadEnd t r) s = .next (finishRom 0xC0F2 t r (.wait { u with mgmt := { u.mgmt with loadEnd := some (t, r), loadDrip := u.drip } }))) ∧
  (∀ (t : Transport) (op : Nat) (r : Req) (s : State),
      opcodes.contains op = false →
      arrives op t r s = true →
      inRom s = false ∨ mailboxAgent t = none →
      exec (.undefinedOpcodeRequest t op r) s = .next (answer s op t r stBadOpcode []))

/-- Each of the 19 staged commands listed (a mixed one unless its payload asks for its query) in an OWNER session with an open stage that is not frozen: when no refusal of the command's own holds in the view the stage shows, no other stage names its objects, and the stage has room for it (4,096 commands, 2 MiB of payload), the command joins the stage and is answered OK, and nothing else changes; the first refusal that holds is answered otherwise, and a session that is not OWNER gets DENIED. The same is said of each of the 19 by its name. DIR_MODE action 4 is staged the same way and answers with its report; action 0 reports in any session, and actions 1 to 3 act at once, journalled and PENDING, in an OWNER one. The query of a mixed command answers in any session without touching the stage. -/
def Obligations.StagedCommands : Prop :=
  (∀ (op : Nat) (c : Transport → Req → Instr) (q : Option (Nat × Nat)) (t : Transport) (r : Req) (s u : State) (x : Sess) (cmds : List Staged),
      (op, c, q) ∈ stagedForms →
      inSession op t r s x = true →
      asks r.payload q = false →
      u = served r s →
      x.priv = 0 →
      u.stage r.session = some cmds →
      commitArmedIn u r.session = false →
      refusalOf (stagedConds u r.session (stageView u r.session) op r.payload) = 0 →
      stagedElsewhere u r.session (stageView u r.session) op r.payload = false →
      cmds.length < 4096 →
      stageBytes cmds + r.payload.length ≤ 2097152 →
      exec (c t r) s = answered op t r (addStaged u r.session (stageView u r.session) op r.payload) stOk []) ∧
  (∀ (t : Transport) (r : Req) (s u : State) (x : Sess),
      inSession 0xC020 t r s x = true →
      x.priv = 0 →
      u = served r s →
      refusalOf (stageConds 0xC020 r.payload r.session u) = 0 →
      exec (.portConfig t r) s = answered 0xC020 t r (addStaged u r.session (stageView u r.session) 0xC020 r.payload) stOk []) ∧
  (∀ (t : Transport) (r : Req) (s u : State) (x : Sess),
      inSession 0xC030 t r s x = true →
      x.priv = 0 →
      u = served r s →
      refusalOf (stageConds 0xC030 r.payload r.session u) = 0 →
      exec (.hierCreate t r) s = answered 0xC030 t r (addStaged u r.session (stageView u r.session) 0xC030 r.payload) stOk []) ∧
  (∀ (t : Transport) (r : Req) (s u : State) (x : Sess),
      inSession 0xC031 t r s x = true →
      x.priv = 0 →
      u = served r s →
      refusalOf (stageConds 0xC031 r.payload r.session u) = 0 →
      exec (.hierDestroy t r) s = answered 0xC031 t r (addStaged u r.session (stageView u r.session) 0xC031 r.payload) stOk []) ∧
  (∀ (t : Transport) (r : Req) (s u : State) (x : Sess),
      inSession 0xC032 t r s x = true →
      x.priv = 0 →
      u = served r s →
      refusalOf (stageConds 0xC032 r.payload r.session u) = 0 →
      exec (.grottoCreate t r) s = answered 0xC032 t r (addStaged u r.session (stageView u r.session) 0xC032 r.payload) stOk []) ∧
  (∀ (t : Transport) (r : Req) (s u : State) (x : Sess),
      inSession 0xC033 t r s x = true →
      x.priv = 0 →
      u = served r s →
      refusalOf (stageConds 0xC033 r.payload r.session u) = 0 →
      exec (.grottoBind t r) s = answered 0xC033 t r (addStaged u r.session (stageView u r.session) 0xC033 r.payload) stOk []) ∧
  (∀ (t : Transport) (r : Req) (s u : State) (x : Sess),
      inSession 0xC034 t r s x = true →
      x.priv = 0 →
      u = served r s →
      refusalOf (stageConds 0xC034 r.payload r.session u) = 0 →
      exec (.grottoUnbind t r) s = answered 0xC034 t r (addStaged u r.session (stageView u r.session) 0xC034 r.payload) stOk []) ∧
  (∀ (t : Transport) (r : Req) (s u : State) (x : Sess),
      inSession 0xC040 t r s x = true →
      x.priv = 0 →
      u = served r s →
      refusalOf (stageConds 0xC040 r.payload r.session u) = 0 →
      exec (.windowDefine t r) s = answered 0xC040 t r (addStaged u r.session (stageView u r.session) 0xC040 r.payload) stOk []) ∧
  (∀ (t : Transport) (r : Req) (s u : State) (x : Sess),
      inSession 0xC041 t r s x = true →
      x.priv = 0 →
      u = served r s →
      refusalOf (stageConds 0xC041 r.payload r.session u) = 0 →
      exec (.windowRemove t r) s = answered 0xC041 t r (addStaged u r.session (stageView u r.session) 0xC041 r.payload) stOk []) ∧
  (∀ (t : Transport) (r : Req) (s u : State) (x : Sess),
      inSession 0xC050 t r s x = true →
      byteAt r.payload 3 ≠ 1 →
      x.priv = 0 →
      u = served r s →
      refusalOf (stageConds 0xC050 r.payload r.session u) = 0 →
      exec (.guardRuleSet t r) s = answered 0xC050 t r (addStaged u r.session (stageView u r.session) 0xC050 r.payload) stOk []) ∧
  (∀ (t : Transport) (r : Req) (s u : State) (x : Sess),
      inSession 0xC051 t r s x = true →
      x.priv = 0 →
      u = served r s →
      refusalOf (stageConds 0xC051 r.payload r.session u) = 0 →
      exec (.guardRuleClear t r) s = answered 0xC051 t r (addStaged u r.session (stageView u r.session) 0xC051 r.payload) stOk []) ∧
  (∀ (t : Transport) (r : Req) (s u : State) (x : Sess),
      inSession 0xC060 t r s x = true →
      byteAt r.payload 0 ≠ 3 →
      x.priv = 0 →
      u = served r s →
      refusalOf (stageConds 0xC060 r.payload r.session u) = 0 →
      exec (.schedQueueSet t r) s = answered 0xC060 t r (addStaged u r.session (stageView u r.session) 0xC060 r.payload) stOk []) ∧
  (∀ (t : Transport) (r : Req) (s u : State) (x : Sess),
      inSession 0xC061 t r s x = true →
      x.priv = 0 →
      u = served r s →
      refusalOf (stageConds 0xC061 r.payload r.session u) = 0 →
      exec (.gateListSet t r) s = answered 0xC061 t r (addStaged u r.session (stageView u r.session) 0xC061 r.payload) stOk []) ∧
  (∀ (t : Transport) (r : Req) (s u : State) (x : Sess),
      inSession 0xC062 t r s x = true →
      byteAt r.payload 2 ≠ 1 →
      x.priv = 0 →
      u = served r s →
      refusalOf (stageConds 0xC062 r.payload r.session u) = 0 →
      exec (.policerSet t r) s = answered 0xC062 t r (addStaged u r.session (stageView u r.session) 0xC062 r.payload) stOk []) ∧
  (∀ (t : Transport) (r : Req) (s u : State) (x : Sess),
      inSession 0xC063 t r s x = true →
      byteAt r.payload 1 ≠ 1 →
      x.priv = 0 →
      u = served r s →
      refusalOf (stageConds 0xC063 r.payload r.session u) = 0 →
      exec (.wredProfileSet t r) s = answered 0xC063 t r (addStaged u r.session (stageView u r.session) 0xC063 r.payload) stOk []) ∧
  (∀ (t : Transport) (r : Req) (s u : State) (x : Sess),
      inSession 0xC070 t r s x = true →
      byteAt r.payload 2 ≠ 1 →
      x.priv = 0 →
      u = served r s →
      refusalOf (stageConds 0xC070 r.payload r.session u) = 0 →
      exec (.echoEndpointSet t r) s = answered 0xC070 t r (addStaged u r.session (stageView u r.session) 0xC070 r.payload) stOk []) ∧
  (∀ (t : Transport) (r : Req) (s u : State) (x : Sess),
      inSession 0xC071 t r s x = true →
      byteAt r.payload 2 ≠ 2 →
      x.priv = 0 →
      u = served r s →
      refusalOf (stageConds 0xC071 r.payload r.session u) = 0 →
      exec (.checkContextAssign t r) s = answered 0xC071 t r (addStaged u r.session (stageView u r.session) 0xC071 r.payload) stOk []) ∧
  (∀ (t : Transport) (r : Req) (s u : State) (x : Sess),
      inSession 0xC0B0 t r s x = true →
      x.priv = 0 →
      u = served r s →
      refusalOf (stageConds 0xC0B0 r.payload r.session u) = 0 →
      exec (.traceConfig t r) s = answered 0xC0B0 t r (addStaged u r.session (stageView u r.session) 0xC0B0 r.payload) stOk []) ∧
  (∀ (t : Transport) (r : Req) (s u : State) (x : Sess),
      inSession 0xC0B1 t r s x = true →
      x.priv = 0 →
      u = served r s →
      refusalOf (stageConds 0xC0B1 r.payload r.session u) = 0 →
      exec (.counterConfig t r) s = answered 0xC0B1 t r (addStaged u r.session (stageView u r.session) 0xC0B1 r.payload) stOk []) ∧
  (∀ (t : Transport) (r : Req) (s u : State) (x : Sess),
      inSession 0xC0B3 t r s x = true →
      x.priv = 0 →
      u = served r s →
      refusalOf (stageConds 0xC0B3 r.payload r.session u) = 0 →
      exec (.sampleConfig t r) s = answered 0xC0B3 t r (addStaged u r.session (stageView u r.session) 0xC0B3 r.payload) stOk []) ∧
  (∀ (op : Nat) (c : Transport → Req → Instr) (q : Option (Nat × Nat)) (t : Transport) (r : Req) (s u : State) (x : Sess),
      (op, c, q) ∈ stagedForms →
      inSession op t r s x = true →
      asks r.payload q = false →
      u = served r s →
      x.priv = 0 →
      refusalOf (stageConds op r.payload r.session u) ≠ 0 →
      exec (c t r) s = answered op t r u (refusalOf (stageConds op r.payload r.session u)) []) ∧
  (∀ (op : Nat) (c : Transport → Req → Instr) (q : Option (Nat × Nat)) (t : Transport) (r : Req) (s u : State) (x : Sess),
      (op, c, q) ∈ stagedForms →
      inSession op t r s x = true →
      asks r.payload q = false →
      u = served r s →
      x.priv ≠ 0 →
      exec (c t r) s = answered op t r u stDenied []) ∧
  (∀ (t : Transport) (r : Req) (s u : State) (x : Sess),
      inSession 0xC080 t r s x = true →
      x.priv = 0 →
      byteAt r.payload 2 = 4 →
      u = served r s →
      refusalOf (stageConds 0xC080 r.payload r.session u) = 0 →
      exec (.dirMode t r) s = answered 0xC080 t r (addStaged u r.session (stageView u r.session) 0xC080 r.payload) stOk (dirReply u (byteAt r.payload 0) (byteAt r.payload 1))) ∧
  (∀ (t : Transport) (r : Req) (s : State) (x : Sess),
      inSession 0xC080 t r s x = true →
      byteAt r.payload 2 = 0 →
      dirModeBad r.payload = false →
      dirModeBarred (served r s) (byteAt r.payload 0) (byteAt r.payload 1) 0 = false →
      ∃ u, u = dirModeAct (served r s) (byteAt r.payload 0) (byteAt r.payload 1) 0 ∧
        exec (.dirMode t r) s = answered 0xC080 t r u stOk (dirReply u (byteAt r.payload 0) (byteAt r.payload 1))) ∧
  (∀ (t : Transport) (r : Req) (s : State) (x : Sess),
      inSession 0xC080 t r s x = true →
      x.priv = 0 →
      1 ≤ byteAt r.payload 2 ∧ byteAt r.payload 2 < 4 →
      dirModeBad r.payload = false →
      dirModeBarred (served r s) (byteAt r.payload 0) (byteAt r.payload 1) (byteAt r.payload 2) = false →
      commitArmed (served r s) = false →
      ∃ u, u = dirModeAct (served r s) (byteAt r.payload 0) (byteAt r.payload 1) (byteAt r.payload 2) ∧
        exec (.dirMode t r) s = answered 0xC080 t r (journalled u 0xC080 r.payload) stPending (dirReply u (byteAt r.payload 0) (byteAt r.payload 1))) ∧
  (∀ (t : Transport) (r : Req) (s : State) (x : Sess),
      inSession 0xC050 t r s x = true →
      byteAt r.payload 3 = 1 →
      r.payload.length = 24 →
      fieldAt r.payload 5 3 = 0 →
      fieldAt r.payload 0 2 ≤ 511 →
      byteAt r.payload 2 ≤ 63 →
      fieldAt r.payload 4 1 = 0 →
      fieldAt r.payload 8 16 = 0 →
      exec (.guardRuleSet t r) s = answered 0xC050 t r (served r s) stOk (ruleReply (served r s) (fieldAt r.payload 0 2) (byteAt r.payload 2) (isOwner (served r s) (some r.session)))) ∧
  (∀ (t : Transport) (r : Req) (s : State) (x : Sess),
      inSession 0xC060 t r s x = true →
      byteAt r.payload 0 = 3 →
      0 < r.payload.length →
      schedBad (served r s) (served r s).cfg r.payload = false →
      scheduled (served r s) (served r s).cfg (fieldAt r.payload 2 2) = true →
      exec (.schedQueueSet t r) s = answered 0xC060 t r (served r s) stOk (schedReply (served r s) (fieldAt r.payload 2 2) (byteAt r.payload 4))) ∧
  (∀ (t : Transport) (r : Req) (s : State) (x : Sess),
      inSession 0xC062 t r s x = true →
      byteAt r.payload 2 = 1 →
      r.payload.length = 24 →
      fieldAt r.payload 0 2 ≤ 4095 →
      fieldAt r.payload 3 21 = 0 →
      exec (.policerSet t r) s = answered 0xC062 t r (served r s) stOk (policerReply (served r s) (fieldAt r.payload 0 2))) ∧
  (∀ (t : Transport) (r : Req) (s : State) (x : Sess),
      inSession 0xC063 t r s x = true →
      byteAt r.payload 1 = 1 →
      r.payload.length = 16 →
      byteAt r.payload 0 ≤ 15 →
      fieldAt r.payload 2 14 = 0 →
      exec (.wredProfileSet t r) s = answered 0xC063 t r (served r s) stOk (profileReply (served r s) (byteAt r.payload 0))) ∧
  (∀ (t : Transport) (r : Req) (s : State) (x : Sess),
      inSession 0xC070 t r s x = true →
      byteAt r.payload 2 = 1 →
      r.payload.length = 16 →
      fieldAt r.payload 0 2 ≤ 4095 →
      fieldAt r.payload 3 13 = 0 →
      exec (.echoEndpointSet t r) s = answered 0xC070 t r (served r s) stOk (endpointReply (served r s) (fieldAt r.payload 0 2))) ∧
  (∀ (t : Transport) (r : Req) (s : State) (x : Sess),
      inSession 0xC071 t r s x = true →
      byteAt r.payload 2 = 2 →
      r.payload.length = 8 →
      byteAt r.payload 1 ≤ 31 →
      fieldAt r.payload 3 5 = 0 →
      exec (.checkContextAssign t r) s = answered 0xC071 t r (served r s) stOk (checkReply (served r s) (byteAt r.payload 0) (byteAt r.payload 1)))

/-- In a session whose request meets the command's own conditions: PORT_STATE, SLOT_STATE and TIME_READ answer their reports and change nothing; PORT_ENABLE disables or enables a bundle; LANE_EQ_TABLE_LOAD stores its entries; LANE_MARGIN reports, or starts a measurement whose reply waits; COLUMN_STATE reports, asks for a drain armed for a rotation, or starts an admission; PASSAGE_TEST reports, asks for a test of a live passage, starts one of a dead passage, or starts an admission whose reply waits; PORT_LOOPBACK reports, starts or stops a test; SLOT_CONFIG stores or reads a slot's settings; SLOT_POWER acts on a slot, also in a SLOT session; TIME_CONFIG stores the PPS settings, the slew limit, brings the trim within it, stores a load value, and sets the reference mode. One that writes islands is put in the journal with its writes posted; SLOT_CONFIG and SLOT_POWER act on the slot after what is due of it. -/
def Obligations.PortLaneAndSlotCommands : Prop :=
  (∀ (t : Transport) (r : Req) (s u : State) (x : Sess),
      inSession 0xC021 t r s x = true →
      u = served r s →
      r.payload.length = 4 →
      fieldAt r.payload 2 2 = 0 →
      fieldAt r.payload 0 2 ≤ 511 →
      exec (.portState t r) s = answered 0xC021 t r (u) stOk (portReply u (fieldAt r.payload 0 2))) ∧
  (∀ (t : Transport) (r : Req) (s u : State) (x : Sess),
      inSession 0xC022 t r s x = true →
      u = served r s →
      x.priv = 0 →
      r.payload.length = 4 →
      fieldAt r.payload 3 1 = 0 →
      Machine.isBundle u u.cfg (fieldAt r.payload 0 2) = true →
      byteAt r.payload 2 = 0 ∨ byteAt r.payload 2 = 1 →
      (byteAt r.payload 2 = 0 → u.role (fieldAt r.payload 0 2) ≠ 4) →
      commitArmed u = false →
      exec (.portEnable t r) s = answered 0xC022 t r (journalled (if byteAt r.payload 2 = 0 then disablePort u (fieldAt r.payload 0 2) else enablePort u (fieldAt r.payload 0 2)) 0xC022 r.payload) stOk ([])) ∧
  (∀ (t : Transport) (r : Req) (n : Nat) (es : List Bytes) (s u : State) (x : Sess),
      inSession 0xC023 t r s x = true →
      u = served r s →
      x.priv = 0 →
      n = byteAt r.payload 0 →
      1 ≤ n ∧ n ≤ 16 →
      r.payload.length = 4 + 48 * n →
      fieldAt r.payload 1 3 = 0 →
      es = (List.range n).map (eqEntry r.payload) →
      es.any eqBad = false →
      repeats (es.map eqKey) = false →
      commitArmed u = false →
      exec (.laneEqTableLoad t r) s = answered 0xC023 t r (journalled { u with port := { u.port with eq := es.foldl (fun t b => tput none t (eqKey b) (some (eqFrom b))) u.port.eq } } 0xC023 r.payload) stOk (leBytes 1 n ++ zeros 3)) ∧
  (∀ (t : Transport) (r : Req) (s u : State) (x : Sess),
      inSession 0xC024 t r s x = true →
      u = served r s →
      byteAt r.payload 2 = 0 →
      marginBad u r.payload = false →
      exec (.laneMargin t r) s = answered 0xC024 t r ((marginReply u (fieldAt r.payload 0 2) 0 0 0 0).1) stOk ((marginReply u (fieldAt r.payload 0 2) 0 0 0 0).2)) ∧
  (∀ (t : Transport) (r : Req) (lane : Nat) (s u : State) (x : Sess),
      inSession 0xC024 t r s x = true →
      u = served r s →
      x.priv = 0 →
      byteAt r.payload 2 ≠ 0 →
      marginBad u r.payload = false →
      lane = fieldAt r.payload 0 2 →
      laneInL0 u lane = true →
      3 ≤ (u.prt (laneBundle u lane)).rate →
      (u.lane lane).margin = none →
      (u.lane lane).partnerMargin = false →
      exec (.laneMargin t r) s = .next (finishSession 0xC024 t r r.session (.wait (journalled (u.modLane lane (fun l => { l with
          margin := some { session := some r.session, action := byteAt r.payload 2, eye := byteAt r.payload 3, offset := sfieldAt r.payload 4 1, dwell := byteAt r.payload 5 } })) 0xC024 r.payload)))) ∧
  (∀ (t : Transport) (r : Req) (s u : State) (x : Sess),
      inSession 0xC092 t r s x = true →
      u = served r s →
      r.payload.length = 4 →
      fieldAt r.payload 2 2 = 0 →
      byteAt r.payload 0 < 4 →
      byteAt r.payload 1 = 0 →
      exec (.columnState t r) s = answered 0xC092 t r (u) stOk (columnReply u (byteAt r.payload 0))) ∧
  (∀ (t : Transport) (r : Req) (c : Nat) (v : State) (s u : State) (x : Sess),
      inSession 0xC092 t r s x = true →
      u = served r s →
      x.priv = 0 →
      r.payload.length = 4 →
      fieldAt r.payload 2 2 = 0 →
      c = byteAt r.payload 0 →
      c < 4 →
      byteAt r.payload 1 = 1 →
      commitArmed u = false →
      drainable u c = true →
      3 ≤ ((List.range 4).filter (fun k => k != c && drainable u k)).length →
      v = armFor (u.modCol c (fun y => { y with drainAsked := true })) (.columnDrain c) (nextRotation (u.drip + 1024)) (coreIslands u) →
      exec (.columnState t r) s = answered 0xC092 t r (journalled v 0xC092 r.payload) stPending (columnReply v c)) ∧
  (∀ (t : Transport) (r : Req) (c : Nat) (s u : State) (x : Sess),
      inSession 0xC092 t r s x = true →
      u = served r s →
      x.priv = 0 →
      r.payload.length = 4 →
      fieldAt r.payload 2 2 = 0 →
      c = byteAt r.payload 0 →
      c < 4 →
      byteAt r.payload 1 = 2 →
      commitArmed u = false →
      (u.col c).st = .offline →
      exec (.columnState t r) s = answered 0xC092 t r (journalled (startAdmission u c) 0xC092 r.payload) stPending (columnReply (startAdmission u c) c)) ∧
  (∀ (t : Transport) (r : Req) (s u : State) (x : Sess),
      inSession 0xC093 t r s x = true →
      u = served r s →
      r.payload.length = 8 →
      byteAt r.payload 0 < 32 →
      byteAt r.payload 1 = 0 →
      fieldAt r.payload 2 1 = 0 →
      fieldAt r.payload 3 1 = 0 →
      fieldAt r.payload 4 2 = 0 →
      fieldAt r.payload 6 2 = 0 →
      exec (.passageTest t r) s = answered 0xC093 t r (u) stOk (passageReply u (byteAt r.payload 0) 0)) ∧
  (∀ (t : Transport) (r : Req) (p : Nat) (v : State) (s u : State) (x : Sess),
      inSession 0xC093 t r s x = true →
      u = served r s →
      x.priv = 0 →
      r.payload.length = 8 →
      p = byteAt r.payload 0 →
      p < 32 →
      byteAt r.payload 1 = 1 →
      byteAt r.payload 2 ≤ 1 →
      fieldAt r.payload 3 1 = 0 →
      1 ≤ fieldAt r.payload 4 2 ∧ fieldAt r.payload 4 2 ≤ 16384 →
      fieldAt r.payload 6 2 = 0 →
      commitArmed u = false →
      passageBusy u p = false →
      (u.pas p).st = .alive →
      3 ≤ liveWithout u p →
      v = armFor (u.modPas p (fun y => { y with testAsked := some { started := u.now, pattern := byteAt r.payload 2, blocks := fieldAt r.payload 4 2 } })) (.passageDrain p) (nextRotation (u.drip + 1024)) (coreIslands u) →
      exec (.passageTest t r) s = answered 0xC093 t r (journalled v 0xC093 r.payload) stPending (passageReply v p 0)) ∧
  (∀ (t : Transport) (r : Req) (p : Nat) (v : State) (s u : State) (x : Sess),
      inSession 0xC093 t r s x = true →
      u = served r s →
      x.priv = 0 →
      r.payload.length = 8 →
      p = byteAt r.payload 0 →
      p < 32 →
      byteAt r.payload 1 = 1 →
      byteAt r.payload 2 ≤ 1 →
      fieldAt r.payload 3 1 = 0 →
      1 ≤ fieldAt r.payload 4 2 ∧ fieldAt r.payload 4 2 ≤ 16384 →
      fieldAt r.payload 6 2 = 0 →
      commitArmed u = false →
      passageBusy u p = false →
      (u.pas p).st = .dead →
      v = (allLearn u p).modPas p (fun y => { y with st := .testing, op := { started := u.now, pattern := byteAt r.payload 2, blocks := fieldAt r.payload 4 2 } }) →
      exec (.passageTest t r) s = answered 0xC093 t r (journalled v 0xC093 r.payload) stPending (passageReply v p 0)) ∧
  (∀ (t : Transport) (r : Req) (p : Nat) (s u : State) (x : Sess),
      inSession 0xC093 t r s x = true →
      u = served r s →
      x.priv = 0 →
      r.payload.length = 8 →
      p = byteAt r.payload 0 →
      p < 32 →
      byteAt r.payload 1 = 2 →
      fieldAt r.payload 2 1 = 0 →
      fieldAt r.payload 3 1 = 0 →
      fieldAt r.payload 4 2 = 0 →
      fieldAt r.payload 6 2 = 0 →
      commitArmed u = false →
      passageBusy u p = false →
      (u.pas p).st = .dead →
      (u.col (p % 4)).st = .inUse →
      (u.gal (p / 4)).lost = none →
      exec (.passageTest t r) s = .next (finishSession 0xC093 t r r.session (.wait (journalled (startPassageAdmit u p (some r.session)) 0xC093 r.payload)))) ∧
  (∀ (t : Transport) (r : Req) (b : Nat) (s u : State) (x : Sess),
      inSession 0xC094 t r s x = true →
      u = served r s →
      r.payload.length = 8 →
      b = fieldAt r.payload 0 2 →
      Machine.isBundle u u.cfg b = true →
      byteAt r.payload 2 = 0 →
      fieldAt r.payload 3 1 = 0 →
      fieldAt r.payload 4 4 = 0 →
      exec (.portLoopback t r) s = answered 0xC094 t r ((loopReply u b).1) stOk ((loopReply u b).2)) ∧
  (∀ (t : Transport) (r : Req) (b : Nat) (v : State) (s u : State) (x : Sess),
      inSession 0xC094 t r s x = true →
      u = served r s →
      x.priv = 0 →
      r.payload.length = 8 →
      b = fieldAt r.payload 0 2 →
      Machine.isBundle u u.cfg b = true →
      byteAt r.payload 2 = 1 ∨ byteAt r.payload 2 = 2 →
      byteAt r.payload 3 ≤ 1 →
      1 ≤ fieldAt r.payload 4 4 ∧ fieldAt r.payload 4 4 ≤ 65535 →
      commitArmed u = false →
      (u.loop b).st ≠ 1 →
      (byteAt r.payload 2 = 1 → (u.prt b).enabled = false) →
      (byteAt r.payload 2 = 2 → u.up b = true ∧ u.role b ≠ 4 ∧ inUse u b = false) →
      v = startLoop u b (byteAt r.payload 2) (byteAt r.payload 3) (fieldAt r.payload 4 4) →
      exec (.portLoopback t r) s = answered 0xC094 t r (journalled (loopReply v b).1 0xC094 r.payload) stPending ((loopReply v b).2)) ∧
  (∀ (t : Transport) (r : Req) (b : Nat) (s u : State) (x : Sess),
      inSession 0xC094 t r s x = true →
      u = served r s →
      x.priv = 0 →
      r.payload.length = 8 →
      b = fieldAt r.payload 0 2 →
      Machine.isBundle u u.cfg b = true →
      byteAt r.payload 2 = 3 →
      byteAt r.payload 3 ≤ 1 →
      fieldAt r.payload 4 4 = 0 →
      (u.loop b).st = 1 →
      exec (.portLoopback t r) s = answered 0xC094 t r (journalled (loopReply (stopLoop u b) b).1 0xC094 r.payload) stOk ((loopReply (stopLoop u b) b).2)) ∧
  (∀ (t : Transport) (r : Req) (s u : State) (x : Sess),
      inSession 0xC0A0 t r s x = true →
      u = settleSlot (served r s) (byteAt r.payload 0) →
      byteAt r.payload 1 = 1 →
      slotBad u r.payload = false →
      exec (.slotConfig t r) s = answered 0xC0A0 t r (u) stOk (slotCfgReply u (byteAt r.payload 0))) ∧
  (∀ (t : Transport) (r : Req) (y : Slot) (s u : State) (x : Sess),
      inSession 0xC0A0 t r s x = true →
      u = settleSlot (served r s) (byteAt r.payload 0) →
      x.priv = 0 →
      byteAt r.payload 1 = 0 →
      slotBad u r.payload = false →
      y = u.slot (byteAt r.payload 0) →
      y.st = .unconfigured ∨ y.st = .empty ∨ y.st = .off ∨ y.st = .locked →
      y.fetShort = false ∨ (slotFrom r.payload).enable = true →
      exec (.slotConfig t r) s = answered 0xC0A0 t r (u.modSlot (byteAt r.payload 0) (slotSet u.drip (slotFrom r.payload))) stOk ([])) ∧
  (∀ (t : Transport) (r : Req) (n a : Nat) (s u : State) (x : Sess),
      inSession 0xC0A1 t r s x = true →
      u = settleSlot (served r s) (byteAt r.payload 0) →
      r.payload.length = 4 →
      x.priv = 0 ∨ x.priv = 2 →
      n = byteAt r.payload 0 →
      n ≤ 127 →
      a = byteAt r.payload 1 →
      a ≤ 3 →
      fieldAt r.payload 3 1 = 0 →
      (a = 3 → byteAt r.payload 2 ≤ 2) →
      (a ≠ 3 → fieldAt r.payload 2 1 = 0) →
      slotPowerState (u.slot n) a = false →
      exec (.slotPower t r) s = answered 0xC0A1 t r (u.modSlot n (slotPowerDo u.drip u.now a (byteAt r.payload 2))) (if a = 1 then stPending else stOk) ([])) ∧
  (∀ (t : Transport) (r : Req) (s u : State) (x : Sess),
      inSession 0xC0A2 t r s x = true →
      u = served r s →
      r.payload.length = 4 →
      fieldAt r.payload 1 3 = 0 →
      byteAt r.payload 0 ≤ 127 →
      exec (.slotState t r) s = answered 0xC0A2 t r (u) stOk (slotReply u (byteAt r.payload 0))) ∧
  (∀ (t : Transport) (r : Req) (s u : State) (x : Sess),
      inSession 0xC0C0 t r s x = true →
      u = served r s →
      x.priv = 0 →
      r.payload.length = 16 →
      byteAt r.payload 0 ≤ 3 →
      byteAt r.payload 1 ≤ 3 →
      1 ≤ byteAt r.payload 4 ∧ byteAt r.payload 4 ≤ 100 →
      byteAt r.payload 5 ≤ 1 →
      fieldAt r.payload 6 2 = 0 →
      (byteAt r.payload 5 = 1 → 2 ≤ byteAt r.payload 1 ∧ fieldAt r.payload 8 8 % 800000000 = 0 ∧ u.drip + 1600000000 ≤ fieldAt r.payload 8 8 ∧ u.proto.committedOnce = false) →
      commitArmed u = false →
      exec (.timeConfig t r) s = answered 0xC0C0 t r (setRefMode { u with time := { u.time with ppsRole := byteAt r.payload 1, ppsInDelay := fieldAt r.payload 2 2, slewLimit := byteAt r.payload 4, freqTrim := withinSlew (byteAt r.payload 4) u.time.freqTrim, load := if byteAt r.payload 5 = 1 then some (fieldAt r.payload 8 8) else u.time.load } } (byteAt r.payload 0)) stOk ([])) ∧
  (∀ (t : Transport) (r : Req) (s u : State) (x : Sess),
      inSession 0xC0C1 t r s x = true →
      u = served r s →
      r.payload.length = 2 →
      fieldAt r.payload 0 2 ≤ 289 ∨ fieldAt r.payload 0 2 = 65535 →
      exec (.timeRead t r) s = answered 0xC0C1 t r (u) stOk (timeReply u (fieldAt r.payload 0 2)))

/-- In a session whose request meets the command's own conditions: GROTTO_STATE, GUARD_VIOLATION_READ, DIR_STATS and COUNTER_SNAPSHOT answer their reports and change nothing; GROTTO_RECALL starts the recall of a bound grotto with a shared window; WINDOW_SANITIZE reports, or starts on a window that nothing uses; WINDOW_RESYNC reports, or starts for the degraded extents that can be copied; GUARD_VIOLATION_CLEAR empties the record and answers it as it stood; DIR_SLICE_TEST reports or starts a test; EVENT_READ answers the records from a sequence, in an OWNER session retiring those before it first when asked; EVENT_MASK reads or writes an entry. One of these that writes islands is put in the journal with its writes posted. -/
def Obligations.MemoryDirectoryAndEventCommands : Prop :=
  (∀ (t : Transport) (r : Req) (n : Nat) (s u : State) (x : Sess),
      inSession 0xC035 t r s x = true →
      u = served r s →
      x.priv = 0 →
      r.payload.length = 4 →
      fieldAt r.payload 2 2 = 0 →
      n = fieldAt r.payload 0 2 →
      n ≤ 4095 →
      (u.cfg.gr n).live = true →
      (u.gr n).st = .bound →
      holdsShared u.cfg n = true →
      (u.gr n).recallCmd = false →
      commitArmed u = false →
      exec (.grottoRecall t r) s = answered 0xC035 t r (journalled (startRecall u n) 0xC035 r.payload) stPending ([])) ∧
  (∀ (t : Transport) (r : Req) (s u : State) (x : Sess),
      inSession 0xC036 t r s x = true →
      u = served r s →
      r.payload.length = 4 →
      fieldAt r.payload 2 2 = 0 →
      fieldAt r.payload 0 2 ≤ 4095 →
      exec (.grottoState t r) s = answered 0xC036 t r (u) stOk (grottoReply u (fieldAt r.payload 0 2))) ∧
  (∀ (t : Transport) (r : Req) (w : Nat) (s u : State) (x : Sess),
      inSession 0xC042 t r s x = true →
      u = served r s →
      r.payload.length = 16 →
      fieldAt r.payload 4 4 = 0 →
      w = fieldAt r.payload 0 2 →
      w ≤ 1023 →
      (u.cfg.win w).live = true →
      byteAt r.payload 2 = 0 →
      byteAt r.payload 3 = 0 →
      fieldAt r.payload 8 8 = 0 →
      exec (.windowSanitize t r) s = answered 0xC042 t r (u) stOk (sanitiseReply u w)) ∧
  (∀ (t : Transport) (r : Req) (w : Nat) (v : State) (s u : State) (x : Sess),
      inSession 0xC042 t r s x = true →
      u = served r s →
      x.priv = 0 →
      r.payload.length = 16 →
      fieldAt r.payload 4 4 = 0 →
      w = fieldAt r.payload 0 2 →
      w ≤ 1023 →
      (u.cfg.win w).live = true →
      byteAt r.payload 2 = 1 →
      byteAt r.payload 3 ≤ 1 →
      (byteAt r.payload 3 = 0 → fieldAt r.payload 8 8 = 0) →
      (u.cfg.win w).export_ = 65535 →
      heldBusy u w = false →
      (u.win w).sanSt ≠ 1 →
      resyncRuns u w = false →
      commitArmed u = false →
      v = startSanitise u w (fieldAt r.payload 8 8) none →
      exec (.windowSanitize t r) s = answered 0xC042 t r (journalled v 0xC042 r.payload) stOk (sanitiseReply v w)) ∧
  (∀ (t : Transport) (r : Req) (w : Nat) (s u : State) (x : Sess),
      inSession 0xC043 t r s x = true →
      u = served r s →
      r.payload.length = 8 →
      fieldAt r.payload 4 4 = 0 →
      w = fieldAt r.payload 0 2 →
      w ≤ 1023 →
      (u.cfg.win w).live = true →
      byteAt r.payload 2 = 0 →
      byteAt r.payload 3 = 0 →
      exec (.windowResync t r) s = answered 0xC043 t r (u) stOk (resyncReply u w)) ∧
  (∀ (t : Transport) (r : Req) (w : Nat) (v : State) (s u : State) (x : Sess),
      inSession 0xC043 t r s x = true →
      u = served r s →
      x.priv = 0 →
      r.payload.length = 8 →
      fieldAt r.payload 4 4 = 0 →
      w = fieldAt r.payload 0 2 →
      w ≤ 1023 →
      (u.cfg.win w).live = true →
      byteAt r.payload 2 = 1 →
      1 ≤ byteAt r.payload 3 ∧ byteAt r.payload 3 ≤ 16 →
      (u.cfg.win w).twinned = true →
      resyncable u w ≠ [] →
      resyncRuns u w = false →
      (u.win w).sanSt ≠ 1 →
      commitArmed u = false →
      v = startResync u w (byteAt r.payload 3) →
      exec (.windowResync t r) s = answered 0xC043 t r (journalled v 0xC043 r.payload) stPending (resyncReply v w)) ∧
  (∀ (t : Transport) (r : Req) (s u : State) (x : Sess),
      inSession 0xC052 t r s x = true →
      u = served r s →
      r.payload.length = 4 →
      fieldAt r.payload 2 2 = 0 →
      fieldAt r.payload 0 2 ≤ 511 →
      exec (.guardViolationRead t r) s = answered 0xC052 t r (u) stOk (violReply u (fieldAt r.payload 0 2) (isOwner u (some r.session)))) ∧
  (∀ (t : Transport) (r : Req) (s u : State) (x : Sess),
      inSession 0xC053 t r s x = true →
      u = served r s →
      x.priv = 0 →
      r.payload.length = 4 →
      fieldAt r.payload 2 2 = 0 →
      fieldAt r.payload 0 2 ≤ 511 →
      exec (.guardViolationClear t r) s = answered 0xC053 t r (journalled (u.modGrd (fieldAt r.payload 0 2) (fun g => { g with viol := {} })) 0xC053 r.payload) stOk (violReply u (fieldAt r.payload 0 2) (isOwner u (some r.session)))) ∧
  (∀ (t : Transport) (r : Req) (g sl : Nat) (s u : State) (x : Sess),
      inSession 0xC081 t r s x = true →
      u = served r s →
      r.payload.length = 4 →
      g = byteAt r.payload 0 →
      g ≤ 7 →
      sl = byteAt r.payload 1 →
      sl ≤ 8 →
      byteAt r.payload 2 = 0 →
      byteAt r.payload 3 ≤ 1 →
      exec (.dirSliceTest t r) s = answered 0xC081 t r (u) stOk (testReply u g sl)) ∧
  (∀ (t : Transport) (r : Req) (g sl : Nat) (s u : State) (x : Sess),
      inSession 0xC081 t r s x = true →
      u = served r s →
      x.priv = 0 →
      r.payload.length = 4 →
      g = byteAt r.payload 0 →
      g ≤ 7 →
      sl = byteAt r.payload 1 →
      sl ≤ 8 →
      byteAt r.payload 2 = 1 →
      byteAt r.payload 3 ≤ 1 →
      commitArmed u = false →
      sliceBusy u g = false →
      ((u.slice g sl).role = .active → spareOf u g = none → byteAt r.payload 3 = 1) →
      exec (.dirSliceTest t r) s = answered 0xC081 t r (journalled (startTest u g sl) 0xC081 r.payload) stPending (testReply (startTest u g sl) g sl)) ∧
  (∀ (t : Transport) (r : Req) (s u : State) (x : Sess),
      inSession 0xC082 t r s x = true →
      u = served r s →
      r.payload.length = 4 →
      fieldAt r.payload 2 2 = 0 →
      byteAt r.payload 0 ≤ 7 →
      byteAt r.payload 1 ≤ 8 →
      exec (.dirStats t r) s = answered 0xC082 t r (u) stOk (statsReply u (byteAt r.payload 0) (byteAt r.payload 1))) ∧
  (∀ (t : Transport) (r : Req) (s u : State) (x : Sess),
      inSession 0xC090 t r s x = true →
      u = served r s →
      r.payload.length = 8 →
      seqAge u (fieldAt r.payload 0 4) ≤ 2 ^ 31 →
      fieldAt r.payload 4 2 ≤ 511 →
      byteAt r.payload 6 = 0 →
      fieldAt r.payload 7 1 = 0 →
      exec (.eventRead t r) s = answered 0xC090 t r (u) stOk (eventReply u (fieldAt r.payload 0 4) (fieldAt r.payload 4 2))) ∧
  (∀ (t : Transport) (r : Req) (v : State) (s u : State) (x : Sess),
      inSession 0xC090 t r s x = true →
      u = served r s →
      x.priv = 0 →
      r.payload.length = 8 →
      seqAge u (fieldAt r.payload 0 4) ≤ 2 ^ 31 →
      fieldAt r.payload 4 2 ≤ 511 →
      byteAt r.payload 6 = 1 →
      fieldAt r.payload 7 1 = 0 →
      v = { u with ev := { u.ev with queue := u.ev.queue.filter (fun e => decide (seqAge u e.1 ≤ seqAge u (fieldAt r.payload 0 4))) } } →
      exec (.eventRead t r) s = answered 0xC090 t r (v) stOk (eventReply v (fieldAt r.payload 0 4) (fieldAt r.payload 4 2))) ∧
  (∀ (t : Transport) (r : Req) (m : MaskEnt) (s u : State) (x : Sess),
      inSession 0xC091 t r s x = true →
      u = served r s →
      byteAt r.payload 1 = 1 →
      maskBad r.payload = false →
      m = tget {} u.ev.masks (byteAt r.payload 0) →
      exec (.eventMask t r) s = answered 0xC091 t r (u) stOk (leBytes 1 (byteAt r.payload 0) ++ leBytes 1 1 ++ leBytes 1 m.sevMask ++ zeros 1 ++ leBytes 2 m.code ++ leBytes 2 m.lo ++
          leBytes 2 m.hi ++ zeros 6 ++ leBytes 8 m.suppressed)) ∧
  (∀ (t : Transport) (r : Req) (s u : State) (x : Sess),
      inSession 0xC091 t r s x = true →
      u = served r s →
      x.priv = 0 →
      byteAt r.payload 1 = 0 →
      maskBad r.payload = false →
      exec (.eventMask t r) s = answered 0xC091 t r ({ u with ev := { u.ev with masks := tput {} u.ev.masks (byteAt r.payload 0) { code := fieldAt r.payload 4 2, sevMask := byteAt r.payload 2, lo := fieldAt r.payload 6 2, hi := fieldAt r.payload 8 2 } } }) stOk ([])) ∧
  (∀ (t : Transport) (r : Req) (s u : State) (x : Sess),
      inSession 0xC0B2 t r s x = true →
      u = served r s →
      snapshotAllowed t r s = true →
      r.payload.length = 8 →
      1 ≤ byteAt r.payload 0 ∧ byteAt r.payload 0 ≤ 9 →
      fieldAt r.payload 1 1 = 0 →
      fieldAt r.payload 6 2 = 0 →
      instOk u (byteAt r.payload 0) (fieldAt r.payload 2 2) = true →
      byteAt r.payload 4 + byteAt r.payload 5 ≤ idxCount (byteAt r.payload 0) →
      exec (.counterSnapshot t r) s = answered 0xC0B2 t r (u) stOk (snapReply u (byteAt r.payload 0) (fieldAt r.payload 2 2) (byteAt r.payload 4) (byteAt r.payload 5)))

/-- While the part answers, an FM API command over the boot port or I3C is answered with its values: identity, no background operation, the message limit (which SET changes), 512 ports and one virtual switch per hierarchy, the state of the ports asked for, a hierarchy's vPPBs and USPs; the commands that would change anything, and any other, are Unsupported. MCTP control messages set and read the endpoint ID and report versions (a free value, log 2), message types and the vendor set; SETDASA assigns an I3C address. The mailbox of a bound grotto answers capacity, partition, event records, and the interrupt policy; clearing removes the named records; any other command is Unsupported. That the numbers of commands, types and return codes are those of the CXL and MCTP standards is the model's choice (log 18). -/
def Obligations.StandardInterfaces : Prop :=
  (∀ (t : Transport) (s : State),
      answering s = true →
      mailboxAgent t = none →
      exec (.identify t) s = .next (extReply s 0 (transportNo t) 1 0 [0x1B47, 0x5120, Config.serial.toNat])) ∧
  (∀ (t : Transport) (s : State),
      answering s = true →
      mailboxAgent t = none →
      exec (.backgroundOperationStatus t) s = .next (extReply s 0 (transportNo t) 2 0 [0])) ∧
  (∀ (t : Transport) (s : State),
      answering s = true →
      mailboxAgent t = none →
      exec (.getResponseMessageLimit t) s = .next (extReply s 0 (transportNo t) 3 0 [s.proto.fmLimit])) ∧
  (∀ (t : Transport) (limit : Nat) (s u : State),
      answering s = true →
      mailboxAgent t = none →
      u = { s with proto := { s.proto with fmLimit := limit % 256 } } →
      exec (.setResponseMessageLimit t limit) s = .next (extReply u 0 (transportNo t) 4 0 [limit % 256])) ∧
  (∀ (t : Transport) (s : State),
      answering s = true →
      mailboxAgent t = none →
      exec (.identifySwitchDevice t) s = .next (extReply s 0 (transportNo t) 0x5100 0 [512, (liveHiers s).length])) ∧
  (∀ (t : Transport) (ports : List Nat) (s : State),
      answering s = true →
      mailboxAgent t = none →
      ports.all (fun b => decide (b < 512)) = true →
      exec (.getPhysicalPortState t ports) s = .next (extReply s 0 (transportNo t) 0x5101 0 (ports.map (fun b => [b, s.role b, linkShown s b])).flatten)) ∧
  (∀ (t : Transport) (vcs : Nat) (s : State),
      answering s = true →
      mailboxAgent t = none →
      (s.cfg.hier vcs).live = true →
      exec (.getVirtualCxlSwitchInfo t vcs) s = .next (extReply s 0 (transportNo t) 0x5200 0 (vcs :: (s.cfg.hier vcs).vppbs :: (s.cfg.hier vcs).usps))) ∧
  (∀ (t : Transport) (s : State),
      answering s = true →
      mailboxAgent t = none →
      exec (.physicalPortControl t) s = .next (extReply s 0 (transportNo t) 0x5102 1 [])) ∧
  (∀ (t : Transport) (s : State),
      answering s = true →
      mailboxAgent t = none →
      exec (.sendPpbCxlIoConfigRequest t) s = .next (extReply s 0 (transportNo t) 0x5103 1 [])) ∧
  (∀ (t : Transport) (s : State),
      answering s = true →
      mailboxAgent t = none →
      exec (.bindVppb t) s = .next (extReply s 0 (transportNo t) 0x5201 1 [])) ∧
  (∀ (t : Transport) (s : State),
      answering s = true →
      mailboxAgent t = none →
      exec (.unbindVppb t) s = .next (extReply s 0 (transportNo t) 0x5202 1 [])) ∧
  (∀ (t : Transport) (s : State),
      answering s = true →
      mailboxAgent t = none →
      exec (.generateAerEvent t) s = .next (extReply s 0 (transportNo t) 0x5203 1 [])) ∧
  (∀ (t : Transport) (op : Nat) (s : State),
      answering s = true →
      mailboxAgent t = none →
      fmOpcodes.contains op = false →
      exec (.unsupportedFmApiCommand t op) s = .next (extReply s 0 (transportNo t) op 1 [])) ∧
  (∀ (t : Transport) (eid : Nat) (s u : State),
      answering s = true →
      mailboxAgent t = none ∨ firmwareUp s = true →
      u = { s with proto := { s.proto with eids := tput 0 s.proto.eids (transportNo t) (eid % 256) } } →
      exec (.setEndpointId t eid) s = .next (extReply u 1 (transportNo t) 1 0 [eid % 256])) ∧
  (∀ (t : Transport) (s : State),
      answering s = true →
      mailboxAgent t = none ∨ firmwareUp s = true →
      exec (.getEndpointId t) s = .next (extReply s 1 (transportNo t) 2 0 [tget 0 s.proto.eids (transportNo t)])) ∧
  (∀ (t : Transport) (msgType : Nat) (s : State),
      answering s = true →
      mailboxAgent t = none ∨ firmwareUp s = true →
      exec (.getMctpVersionSupport t msgType) s = .next (extReply (draw s).2 1 (transportNo t) 4 0 [msgType, (draw s).1])) ∧
  (∀ (t : Transport) (s : State),
      answering s = true →
      mailboxAgent t = none ∨ firmwareUp s = true →
      exec (.getMessageTypeSupport t) s = .next (extReply s 1 (transportNo t) 5 0 (if mailboxAgent t = none then [0x7E, 0x07] else [0x7E]))) ∧
  (∀ (t : Transport) (sel : Nat) (s : State),
      answering s = true →
      mailboxAgent t = none ∨ firmwareUp s = true →
      exec (.getVendorDefinedMessageSupport t sel) s = .next (extReply s 1 (transportNo t) 6 0 (if sel = 0 then [0xFF, 0, 0x1B47] else []))) ∧
  (∀ (t : Transport) (addr : Nat) (s : State),
      answering s = true →
      t = .i3cA ∨ t = .i3cB →
      exec (.setdasa t addr) s = .next { s with proto := { s.proto with i3cAddr := tput 0 s.proto.i3cAddr (transportNo t) (addr % 128) } }) ∧
  (∀ (grotto : Nat) (s : State),
      mailboxUp s grotto = true →
      exec (.identifyMemoryDevice grotto) s = .next (extReply (s) 2 grotto 0x4000 0 ([capacityOf s.cfg grotto]))) ∧
  (∀ (grotto : Nat) (s : State),
      mailboxUp s grotto = true →
      exec (.getPartitionInfo grotto) s = .next (extReply (s) 2 grotto 0x4100 0 ([capacityOf s.cfg grotto]))) ∧
  (∀ (grotto log : Nat) (s : State),
      mailboxUp s grotto = true →
      exec (.getEventRecords grotto log) s = .next (extReply s 2 grotto 0x100 0 (if log = 2 then (s.gr grotto).log.flatMap (fun r => [r.handle, r.kind, r.addr]) else []))) ∧
  (∀ (grotto log : Nat) (handles : List Nat) (s : State),
      mailboxUp s grotto = true →
      exec (.clearEventRecords grotto log handles) s = .next (extReply (if log = 2 then s.modGr grotto (fun x => { x with log := x.log.filter (fun r => !handles.contains r.handle) }) else s) 2 grotto 0x101 0 [])) ∧
  (∀ (grotto : Nat) (s : State),
      mailboxUp s grotto = true →
      exec (.getEventInterruptPolicy grotto) s = .next (extReply (s) 2 grotto 0x102 0 ([(s.gr grotto).policy]))) ∧
  (∀ (grotto : Nat) (policy : Nat) (s : State),
      mailboxUp s grotto = true →
      exec (.setEventInterruptPolicy grotto policy) s = .next (extReply (s.modGr grotto (fun x => { x with policy := policy })) 2 grotto 0x103 0 ([]))) ∧
  (∀ (grotto : Nat) (op : Nat) (s : State),
      mailboxUp s grotto = true →
      exec (.unsupportedMailboxCommand grotto op) s = .next (extReply (s) 2 grotto op 1 ([])))
end

