-- ==== Sys2Proof/Laws/HeldOps.lean ====
section
/-!
SUPPORT. What the operations leave alone, once for each: the one-time fuses and the queue of waiting commands, for
the named operations, the bridge, the functions of the ports, the observers, the memory map and the fabric.
-/

namespace Sys2Proof.Machine

/-- The one-time fuses (R292) and the queue: what no operation but `blow` and the step itself changes. -/
def held (s : State) : Nat × Nat × List Instr := (s.mgmt.keyRevoked, s.mgmt.rollback, s.pending)

/-- The state an outcome carries; a stop carries the one given. -/
def outState : Out → State → State
  | .next t, _ => t
  | _, d => d

/-- The state a command body leaves. -/
def Res.st : Res → State
  | .reply s _ _ => s
  | .wait s => s
  | .opened s _ _ => s

theorem outState_next (t d : State) : outState (.next t) d = t := rfl

theorem outState_due (c : Bool) (s t d : State) : outState (due c s t) d = if c then t else s := rfl

theorem outState_ite (c : Prop) [Decidable c] (a b : Out) (d : State) : outState (if c then a else b) d = if c then outState a d else outState b d := by split <;> rfl

theorem held_due (c : Bool) (s t : State) (h : held t = held s) : held (outState (due c s t) s) = held s := by
  rw [outState_due]
  split
  · exact h
  · rfl

theorem held_next (s : State) : held (outState (.next s) s) = held s := rfl

theorem held_map {α : Type} {o : Option α} {f : α → State} {s : State} (h : ∀ n, held (f n) = held s) : held ((o.map f).getD s) = held s := by
  cases o with
  | none => rfl
  | some n => exact h n

theorem held_getD2 {o : Option State} {s d : State} (h : held (o.getD s) = held s) (hd : held d = held s) : held (o.getD d) = held s := by
  cases o with
  | none => exact hd
  | some n => exact h

theorem st_ite (c : Prop) [Decidable c] (a b : Res) : (if c then a else b).st = if c then a.st else b.st := by split <;> rfl

theorem st_reply (s a b) : (Res.reply s a b).st = s := rfl

theorem st_wait (s) : (Res.wait s).st = s := rfl

theorem st_opened (s a b) : (Res.opened s a b).st = s := rfl

theorem fst_ite {β : Type} (c : Prop) [Decidable c] (a b : State × β) : (if c then a else b).1 = if c then a.1 else b.1 := by split <;> rfl

theorem snd_ite {β : Type} (c : Prop) [Decidable c] (a b : β × State) : (if c then a else b).2 = if c then a.2 else b.2 := by split <;> rfl

theorem getD_ite (c : Prop) [Decidable c] (a b : Option State) (d : State) : (if c then a else b).getD d = if c then a.getD d else b.getD d := by split <;> rfl

theorem getD_some' (a d : State) : (some a).getD d = a := rfl

theorem getD_none' (d : State) : (none : Option State).getD d = d := rfl

theorem held_of_some {o : Option State} {s t : State} (h : held (o.getD s) = held s) (e : o = some t) : held t = held s := by subst e; exact h

theorem held_of_bind {α : Type} {o : Option α} {f : α → Option State} {s t : State} (h : ∀ n, held ((f n).getD s) = held s) (e : o.bind f = some t) : held t = held s := by
  cases o with
  | none => cases e
  | some n => exact held_of_some (h n) e

theorem held_of_ite {c : Prop} [Decidable c] {o : Option State} {s t : State} (h : held (o.getD s) = held s) (e : (if c then none else o) = some t) : held t = held s := by
  split at e
  · cases e
  · exact held_of_some h e

theorem fst_mk {β : Type} (a : State) (b : β) : (a, b).1 = a := rfl

theorem snd_mk {β : Type} (a : State) (b : β) : (b, a).2 = a := rfl

theorem held_mk (v0 v1 v2 v3 v4 v5 v6 v7 v8 v9 v11 v12 v13 v14 v15 v16 v17) (s : State) : held { time := v0, core := v1, dir := v2, port := v3, sched := v4, mem := v5, guard := v6, echo := v7, check := v8, power := v9, mgmt := s.mgmt, proto := v11, cfg := v12, ev := v13, lan := v14, pin := v15, out := v16, free := v17, pending := s.pending } = held s := rfl

theorem held_mk2 (v0 v1 v2 v3 v4 v5 v6 v7 v8 v9 v11 v12 v13 v14 v15 v16 v17) (w0 w1 w2 w3 w4 w5 w6 w7 w8 w9 w10 w11 w12 w13 w14 w15 w18 w19 w20 w21 w22 w23 w24 w25 w26 w27 w28 w29 w30 w31 w32 w33 w34 w35 w36) (s : State) : held { time := v0, core := v1, dir := v2, port := v3, sched := v4, mem := v5, guard := v6, echo := v7, check := v8, power := v9, mgmt := { boot := w0, bootAt := w1, bootPort := w2, source := w3, kept := w4, keptValid := w5, fromKept := w6, keptEcc := w7, rxTransport := w8, rxLen := w9, lastFail := w10, starts := w11, bridgeTo := w12, loadDrip := w13, runDrip := w14, digest := w15, keyRevoked := s.mgmt.keyRevoked, rollback := s.mgmt.rollback, fusePlan := w18, fuseTries := w19, rom := w20, loadEnd := w21, token := w22, cl := w23, hbInterval := w24, bothDown := w25, mgmtRst := w26, coldRst := w27, resetWait := w28, closedByReset := w29, abortedByReset := w30, keyHash := w31, bridge := w32, guardBank0 := w33, guardBank1 := w34, journal := w35, nextRec := w36 }, proto := v11, cfg := v12, ev := v13, lan := v14, pin := v15, out := v16, free := v17, pending := s.pending } = held s := rfl

theorem foldl_held {α : Type} (f : State → α → State) (h : ∀ s a, held (f s a) = held s) (l : List α) (s : State) :
    held (l.foldl f s) = held s := by
  induction l generalizing s with
  | nil => rfl
  | cons a l ih => rw [List.foldl_cons, ih, h]

theorem held_forEach {α : Type} (l : List α) (s : State) (f : State → α → State) (h : ∀ s a, held (f s a) = held s) :
    held (forEach l s f) = held s := foldl_held f h l s

theorem foldl_held1 {α β : Type} (f : State × β → α → State × β) (h : ∀ s a, held (f s a).1 = held s.1) (l : List α) (s : State × β) :
    held (l.foldl f s).1 = held s.1 := by
  induction l generalizing s with
  | nil => rfl
  | cons a l ih => rw [List.foldl_cons, ih, h]

theorem held_ite (c : Prop) [Decidable c] (a b : State) : held (if c then a else b) = if c then held a else held b := apply_ite held c a b

theorem held_State_modIsl (s : State) (i : Nat) (f : Island → Island) :
    held (State.modIsl s i f) = held s := by
  unfold State.modIsl
  simp only [↓held_mk]

theorem held_State_modGal (s : State) (g : Nat) (f : Gal → Gal) :
    held (State.modGal s g f) = held s := by
  unfold State.modGal
  simp only [↓held_mk]

theorem held_State_modCol (s : State) (c : Nat) (f : Col → Col) :
    held (State.modCol s c f) = held s := by
  unfold State.modCol
  simp only [↓held_mk]

theorem held_State_modPas (s : State) (p : Nat) (f : Pas → Pas) :
    held (State.modPas s p f) = held s := by
  unfold State.modPas
  simp only [↓held_mk]

theorem held_State_modSlice (s : State) (g : Nat) (sl : Nat) (f : Slice → Slice) :
    held (State.modSlice s g sl f) = held s := by
  unfold State.modSlice
  simp only [↓held_mk]

theorem held_State_modFence (s : State) (a : Nat) (f : Fence → Fence) :
    held (State.modFence s a f) = held s := by
  unfold State.modFence
  simp only [↓held_mk]

theorem held_State_modFn (s : State) (usp : Nat) (f : Nat) (h : FnCfg → FnCfg) :
    held (State.modFn s usp f h) = held s := by
  unfold State.modFn
  simp only [↓held_mk]

theorem held_State_modPrt (s : State) (b : Nat) (f : Port → Port) :
    held (State.modPrt s b f) = held s := by
  unfold State.modPrt
  simp only [↓held_mk]

theorem held_State_modLane (s : State) (m : Nat) (f : Lane → Lane) :
    held (State.modLane s m f) = held s := by
  unfold State.modLane
  simp only [↓held_mk]

theorem held_State_modRefclk (s : State) (j : Nat) (f : RefClk → RefClk) :
    held (State.modRefclk s j f) = held s := by
  unfold State.modRefclk
  simp only [↓held_mk]

theorem held_State_modLoop (s : State) (b : Nat) (f : Loop → Loop) :
    held (State.modLoop s b f) = held s := by
  unfold State.modLoop
  simp only [↓held_mk]

theorem held_State_modSch (s : State) (b : Nat) (f : Sched → Sched) :
    held (State.modSch s b f) = held s := by
  unfold State.modSch
  simp only [↓held_mk]

theorem held_State_modGr (s : State) (n : Nat) (f : GrRt → GrRt) :
    held (State.modGr s n f) = held s := by
  unfold State.modGr
  simp only [↓held_mk]

theorem held_State_modWin (s : State) (w : Nat) (f : WinRt → WinRt) :
    held (State.modWin s w f) = held s := by
  unfold State.modWin
  simp only [↓held_mk]

theorem held_State_modGrd (s : State) (b : Nat) (f : GuardRt → GuardRt) :
    held (State.modGrd s b f) = held s := by
  unfold State.modGrd
  simp only [↓held_mk]

theorem held_State_modEndp (s : State) (e : Nat) (f : Endp → Endp) :
    held (State.modEndp s e f) = held s := by
  unfold State.modEndp
  simp only [↓held_mk]

theorem held_State_modSvc (s : State) (g : Nat) (f : Island26 → Island26) :
    held (State.modSvc s g f) = held s := by
  unfold State.modSvc
  simp only [↓held_mk]

theorem held_State_modCtx (s : State) (a : Nat) (h : Nat) (f : Ctx → Ctx) :
    held (State.modCtx s a h f) = held s := by
  unfold State.modCtx
  simp only [↓held_mk]

theorem held_State_modSlot (s : State) (n : Nat) (f : Slot → Slot) :
    held (State.modSlot s n f) = held s := by
  unfold State.modSlot
  simp only [↓held_mk]

theorem held_State_modBus (s : State) (b : Nat) (f : Bus → Bus) :
    held (State.modBus s b f) = held s := by
  unfold State.modBus
  simp only [↓held_mk]

theorem held_State_modCluster (s : State) (n : Nat) (f : Cluster → Cluster) :
    held (State.modCluster s n f) = held s := by
  unfold State.modCluster
  simp only [↓held_mk2]

theorem held_State_setSess (s : State) (n : Nat) (v : Option Sess) :
    held (State.setSess s n v) = held s := by
  unfold State.setSess
  simp only [↓held_mk]

theorem held_State_setStage (s : State) (n : Nat) (v : Option (List Staged)) :
    held (State.setStage s n v) = held s := by
  unfold State.setStage
  simp only [↓held_mk]

theorem held_raiseAt (s : State) (drip : Nat) (source : Nat) (code : Nat) (sev : Nat) (island : Nat) (data : Bytes) :
    held (raiseAt s drip source code sev island data) = held s := by
  unfold raiseAt
  simp only [↓held_mk]

theorem held_raise (s : State) (source : Nat) (code : Nat) (sev : Nat) (island : Nat) (data : Bytes) :
    held (raise s source code sev island data) = held s := by
  unfold raise
  simp only [↓held_raiseAt]

theorem held_raiseHeld (s : State) :
    held (raiseHeld s) = held s := by
  unfold raiseHeld
  simp only [↓held_mk]

theorem held_resetMsix (s : State) (a : Nat) :
    held (resetMsix s a) = held s := by
  unfold resetMsix
  simp only [↓held_mk]

theorem held_raiseTime (s : State) (source : Nat) (cause : Nat) (sev : Nat) (island : Nat) (drip : Nat) :
    held (raiseTime s source cause sev island drip) = held s := by
  unfold raiseTime
  simp only [↓held_raise]

theorem held_draw (s : State) :
    held (draw s).2 = held s := by
  unfold draw
  simp only [↓snd_mk, ↓held_mk]

theorem held_toPort (s : State) (b : Nat) (p : Pkt) :
    held (toPort s b p) = held s := by
  unfold toPort
  simp only [↓held_mk]

theorem held_sendSb (s : State) (w : SbWord) :
    held (sendSb s w) = held s := by
  unfold sendSb
  simp only [↓held_mk, ↓held_ite, ↓held_State_modCol, ite_self]

theorem held_sendKill (s : State) (p : Nat) (endp : Nat) :
    held (sendKill s p endp) = held s := by
  unfold sendKill
  simp only [↓held_mk]

theorem held_errNonfatal (s : State) (usp : Nat) (f : Nat) :
    held (errNonfatal s usp f) = held s := by
  unfold errNonfatal
  simp only [↓held_mk]

theorem held_extReply (s : State) (iface : Nat) (obj : Nat) (op : Nat) (rc : Nat) (vals : List Nat) :
    held (extReply s iface obj op rc vals) = held s := by
  unfold extReply
  simp only [↓held_mk]

theorem held_countPort (s : State) (b : Nat) (i : Nat) (n : Nat) :
    held (countPort s b i n) = held s := by
  unfold countPort
  simp only [↓held_State_modPrt]

theorem held_rxMsg (s : State) (b : Nat) (n : Nat) :
    held (rxMsg s b n) = held s := by
  unfold rxMsg
  simp only [↓held_countPort, ↓held_draw, ↓held_State_modPrt]

theorem held_countLate (s : State) (b : Nat) :
    held (countLate s b) = held s := by
  unfold countLate
  simp only [↓held_State_modPrt]

theorem held_countPas (s : State) (p : Nat) (i : Nat) (n : Nat) :
    held (countPas s p i n) = held s := by
  unfold countPas
  simp only [↓held_State_modPas]

theorem held_countGal (s : State) (g : Nat) (i : Nat) (n : Nat) :
    held (countGal s g i n) = held s := by
  unfold countGal
  simp only [↓held_State_modGal]

theorem held_ok (s : State) :
    held (outState (ok s) s) = held s := by
  unfold ok
  simp only [↓outState_next]

theorem held_postPiece (outbound : Bool) (i : Nat) (jrn : Nat) (s : State) (p : Nat × Nat) :
    held (postPiece outbound i jrn s p) = held s := by
  unfold postPiece
  simp only [↓held_mk2]

theorem held_postBurst (s : State) (outbound : Bool) (i : Nat) (a : Nat) (l : Nat) :
    held (postBurst s outbound i a l) = held s := by
  unfold postBurst
  repeat' first
    | (simp only [↓held_postPiece]; done)
    | rw [held_forEach]
    | intro _ _

theorem held_drainBridge (s : State) :
    held (drainBridge s) = held s := by
  unfold drainBridge
  simp only [↓held_mk2, ↓held_ite, ite_self]

theorem held_resetBridge (s : State) :
    held (resetBridge s) = held s := by
  unfold resetBridge
  simp only [↓held_mk2]

theorem held_postRecord (s : State) (r : JRec) :
    held (postRecord s r) = held s := by
  unfold postRecord
  repeat' first
    | (simp only [↓held_postPiece]; done)
    | rw [held_forEach]
    | intro _ _

theorem held_journalled (s : State) (op : Nat) (p : Bytes) :
    held (journalled s op p) = held s := by
  unfold journalled
  simp only [↓held_mk2, ↓held_ite, ↓held_postRecord, ite_self]

theorem held_replayJournal (s : State) :
    held (replayJournal s) = held s := by
  unfold replayJournal
  repeat' first
    | (simp only [↓held_postRecord]; done)
    | rw [held_forEach]
    | intro _ _

theorem held_cfgRead (s : State) (u : Nat) (f : Nat) (live : Bool) (r : CfgReg) :
    held (cfgRead s u f live r).2 = held s := by
  unfold cfgRead
  repeat' first
    | (simp only [↓snd_ite, ↓snd_mk, ↓held_ite, ↓held_draw, ite_self]; done)
    | split

theorem held_cfgWrite (s : State) (u : Nat) (f : Nat) (r : CfgReg) (v : Nat) :
    held (cfgWrite s u f r v) = held s := by
  unfold cfgWrite
  simp only [↓held_State_modFn]

theorem held_resetFns (s : State) (usp : Nat) (which : Nat → Bool) :
    held (resetFns s usp which) = held s := by
  unfold resetFns
  simp only [↓held_mk]

theorem held_aerLog (s : State) (u : Nat) (f : Nat) (no : Nat) (h : Tlp) :
    held (aerLog s u f no h) = held s := by
  unfold aerLog
  simp only [↓held_ite, ↓held_State_modFn, ↓held_errNonfatal, ite_self]

theorem held_aerEach (s : State) (a : Nat) (f : Nat) (no : Nat) (h : Tlp) :
    held (aerEach s a f no h) = held s := by
  unfold aerEach
  repeat' first
    | (simp only [↓held_aerLog]; done)
    | rw [held_forEach]
    | intro _ _

theorem held_hotplug (s : State) (agent : Nat) (vppb : Nat) (present : Bool) :
    held (hotplug s agent vppb present) = held s := by
  unfold hotplug
  repeat' first
    | (simp only [↓held_mk, ↓held_State_modFn]; done)
    | rw [held_forEach]
    | intro _ _

theorem held_setHdm (s : State) (n : Nat) (w : Nat × Hdm) :
    held (setHdm s n w) = held s := by
  unfold setHdm
  simp only [↓held_ite, ↓held_State_modGr, ite_self]

theorem held_queueTrace (s : State) (die : Nat) (drip : Nat) (born : Nat) (bytes : Bytes) :
    held (queueTrace s die drip born bytes) = held s := by
  unfold queueTrace
  simp only [↓held_mk, ↓held_ite, ite_self]

theorem held_traceAs (s : State) (die : Nat) (type : Nat) (island : Nat) (drip : Nat) (born : Nat) (unsure : Bool) (hit : Filter → Bool) (redacted : Bool) (body : Bytes) :
    held (traceAs s die type island drip born unsure hit redacted body) = held s := by
  unfold traceAs
  repeat' first
    | (simp only [↓held_mk, ↓held_ite, ↓held_queueTrace, ite_self]; done)
    | split

theorem held_traceHap (s : State) (die : Nat) (type : Nat) (island : Nat) (drip : Nat) (hit : Filter → Bool) (redacted : Bool) (body : Bytes) :
    held (traceHap s die type island drip hit redacted body) = held s := by
  unfold traceHap
  simp only [↓held_traceAs]

theorem held_traceHeader (s : State) (g : Nat) (pt : Nat) (pas : Nat) (p : Pkt) (h : Nat) :
    held (traceHeader s g pt pas p h) = held s := by
  unfold traceHeader
  simp only [↓held_traceHap]

theorem held_traceCell (s : State) (g : Nat) (pt : Nat) (pas : Nat) (c : Cell) :
    held (traceCell s g pt pas c) = held s := by
  unfold traceCell
  simp only [↓held_traceHeader]

theorem held_noteRunIn (s : State) (g : Nat) (port : Nat) (tag : Nat) (proto : Nat) (f : SampRun → SampRun) :
    held (noteRunIn s g port tag proto f) = held s := by
  unfold noteRunIn
  simp only [↓held_mk, ↓held_ite, ite_self]

theorem held_noteRun (s : State) (port : Nat) (tag : Nat) (proto : Nat) (f : SampRun → SampRun) :
    held (noteRun s port tag proto f) = held s := by
  unfold noteRun
  repeat' first
    | (simp only [↓held_ite, ↓held_noteRunIn]; done)
    | split
    | rw [held_forEach]
    | intro _ _

theorem held_notePkt (s : State) (p : Pkt) (f : SampRun → SampRun) :
    held (notePkt s p f) = held s := by
  unfold notePkt
  repeat' first
    | (simp only [↓held_noteRun]; done)
    | split

theorem held_noteStage (s : State) (p : Pkt) (i : Nat) (j : Nat) :
    held (noteStage s p i j) = held s := by
  unfold noteStage
  simp only [↓held_notePkt]

theorem held_sampleLost (s : State) (p : Pkt) :
    held (sampleLost s p) = held s := by
  unfold sampleLost
  simp only [↓held_notePkt]

theorem held_noteLaunch (s : State) (c : Cell) (hop2 : Bool) :
    held (noteLaunch s c hop2) = held s := by
  unfold noteLaunch
  simp only [↓held_notePkt]

theorem held_noteLeave (s : State) (toDevice : Bool) (p : Pkt) :
    held (noteLeave s toDevice p) = held s := by
  unfold noteLeave
  repeat' first
    | (simp only [↓held_ite, ↓held_notePkt, ite_self]; done)
    | split

theorem held_addProg (s : State) (g : Nat) (k : Nat) (n : Nat) :
    held (addProg s g k n) = held s := by
  unfold addProg
  simp only [↓held_mk, ↓held_ite, ite_self]

theorem held_pulse (s : State) (g : Nat) (sel : Nat) (n : Nat) (qual : Nat → Bool) :
    held (pulse s g sel n qual) = held s := by
  unfold pulse
  repeat' first
    | (simp only [↓held_ite, ↓held_addProg, ite_self]; done)
    | split
    | rw [held_forEach]
    | intro _ _

theorem held_postedFailed (s : State) (port : Nat) (cls : Nat) (agent : Nat) (addr : Nat) :
    held (postedFailed s port cls agent addr) = held s := by
  unfold postedFailed
  simp only [↓held_raise]

theorem held_logLost (s : State) (n : Nat) (addr : Nat) :
    held (logLost s n addr) = held s := by
  unfold logLost
  simp only [↓held_State_modGr]

theorem held_modGen (s : State) (n : Nat) (gen : Nat) (f : LiveGen → LiveGen) :
    held (modGen s n gen f) = held s := by
  unfold modGen
  simp only [↓held_State_modGr]

theorem held_genAdd (s : State) (n : Nat) (gen : Nat) :
    held (genAdd s n gen) = held s := by
  unfold genAdd
  simp only [↓held_modGen]

theorem held_genSub (s : State) (n : Nat) (gen : Nat) :
    held (genSub s n gen) = held s := by
  unfold genSub
  simp only [↓held_modGen]

theorem held_twinLeft (s : State) (p : Pkt) :
    held (twinLeft s p) = held s := by
  unfold twinLeft
  simp only [↓held_mk]

theorem held_replyGone (s : State) (p : Pkt) :
    held (replyGone s p) = held s := by
  unfold replyGone
  simp only [↓held_ite, ↓held_notePkt, ↓held_twinLeft, ↓held_genSub, ite_self]

theorem held_becomeBound (s : State) (n : Nat) :
    held (becomeBound s n) = held s := by
  unfold becomeBound
  repeat' first
    | (simp only [↓held_ite, ↓held_State_modWin, ↓held_State_modGr, ↓held_resetFns, ↓held_hotplug, ↓held_raise, ite_self]; done)
    | (simp only [↓held_ite, ↓held_State_modWin, ↓held_State_modGr, ↓held_resetFns, ↓held_hotplug, ↓held_raise, ite_self, *]; done)
    | (exact Eq.symm (by assumption))
    | (split <;> (try (rename_i heq; first
          | (have e := congrArg (fun p : State × _ => held p.1) heq; simp only [↓outState_next, ↓outState_due, ↓outState_ite, ↓st_ite, ↓st_reply, ↓st_wait, ↓st_opened, ↓fst_ite, ↓snd_ite, ↓getD_ite, ↓getD_some', ↓getD_none', ↓fst_mk, ↓snd_mk, ↓held_mk, ↓held_mk2, ↓held_ite, ↓held_State_modWin, ↓held_State_modGr, ↓held_resetFns, ↓held_hotplug, ↓held_raise, ite_self] at e)
          | (have e := congrArg (fun p : _ × State => held p.2) heq; simp only [↓outState_next, ↓outState_due, ↓outState_ite, ↓st_ite, ↓st_reply, ↓st_wait, ↓st_opened, ↓fst_ite, ↓snd_ite, ↓getD_ite, ↓getD_some', ↓getD_none', ↓fst_mk, ↓snd_mk, ↓held_mk, ↓held_mk2, ↓held_ite, ↓held_State_modWin, ↓held_State_modGr, ↓held_resetFns, ↓held_hotplug, ↓held_raise, ite_self] at e)
          | (have e := congrArg (fun p : Option State => held (p.getD s)) heq; simp only [↓outState_next, ↓outState_due, ↓outState_ite, ↓st_ite, ↓st_reply, ↓st_wait, ↓st_opened, ↓fst_ite, ↓snd_ite, ↓getD_ite, ↓getD_some', ↓getD_none', ↓fst_mk, ↓snd_mk, ↓held_mk, ↓held_mk2, ↓held_ite, ↓held_State_modWin, ↓held_State_modGr, ↓held_resetFns, ↓held_hotplug, ↓held_raise, ite_self] at e))))
    | split
    | rw [held_forEach]
    | intro _ _
    | simp only [↓held_State_modGr, ↓held_hotplug, ↓held_raise]

theorem held_bindSettle (s : State) (n : Nat) :
    held (bindSettle s n) = held s := by
  unfold bindSettle
  simp only [↓held_ite, ↓held_becomeBound, ite_self]

theorem held_bindAll (s : State) :
    held (bindAll s) = held s := by
  unfold bindAll
  repeat' first
    | (simp only [↓held_bindSettle]; done)
    | split
    | rw [held_forEach]
    | intro _ _

theorem held_modExt (s : State) (w : Nat) (e : Nat) (f : ExtRt → ExtRt) :
    held (modExt s w e f) = held s := by
  unfold modExt
  simp only [↓held_State_modWin]

theorem held_resyncOver (s : State) (w : Nat) :
    held (resyncOver s w) = held s := by
  unfold resyncOver
  simp only [↓held_ite, ↓held_raise, ↓held_State_modWin, ite_self]

theorem held_raiseDegraded (s : State) (port : Nat) (w : Nat) (hit : List (Nat × Nat × Nat)) :
    held (raiseDegraded s port w hit) = held s := by
  unfold raiseDegraded
  simp only [↓held_ite, ↓held_State_modWin, ↓held_raise, ite_self]

theorem held_loseInWindow (s : State) (port : Nat) (w : Nat) :
    held (loseInWindow s port w) = held s := by
  unfold loseInWindow
  repeat' first
    | (simp only [↓held_ite, ↓held_modExt, ↓held_raiseDegraded, ↓held_resyncOver, ite_self]; done)
    | (simp only [↓held_ite, ↓held_modExt, ↓held_raiseDegraded, ↓held_resyncOver, ite_self, *]; done)
    | (exact Eq.symm (by assumption))
    | (split <;> (try (rename_i heq; first
          | (have e := congrArg (fun p : State × _ => held p.1) heq; simp only [↓outState_next, ↓outState_due, ↓outState_ite, ↓st_ite, ↓st_reply, ↓st_wait, ↓st_opened, ↓fst_ite, ↓snd_ite, ↓getD_ite, ↓getD_some', ↓getD_none', ↓fst_mk, ↓snd_mk, ↓held_mk, ↓held_mk2, ↓held_ite, ↓held_modExt, ↓held_raiseDegraded, ↓held_resyncOver, ite_self] at e)
          | (have e := congrArg (fun p : _ × State => held p.2) heq; simp only [↓outState_next, ↓outState_due, ↓outState_ite, ↓st_ite, ↓st_reply, ↓st_wait, ↓st_opened, ↓fst_ite, ↓snd_ite, ↓getD_ite, ↓getD_some', ↓getD_none', ↓fst_mk, ↓snd_mk, ↓held_mk, ↓held_mk2, ↓held_ite, ↓held_modExt, ↓held_raiseDegraded, ↓held_resyncOver, ite_self] at e)
          | (have e := congrArg (fun p : Option State => held (p.getD s)) heq; simp only [↓outState_next, ↓outState_due, ↓outState_ite, ↓st_ite, ↓st_reply, ↓st_wait, ↓st_opened, ↓fst_ite, ↓snd_ite, ↓getD_ite, ↓getD_some', ↓getD_none', ↓fst_mk, ↓snd_mk, ↓held_mk, ↓held_mk2, ↓held_ite, ↓held_modExt, ↓held_raiseDegraded, ↓held_resyncOver, ite_self] at e))))
    | split
    | rw [held_forEach]
    | intro _ _
    | simp only [↓held_ite, ↓held_raiseDegraded, ↓held_resyncOver, ite_self]

theorem held_loseDevice (s : State) (port : Nat) :
    held (loseDevice s port) = held s := by
  unfold loseDevice
  repeat' first
    | (simp only [↓held_loseInWindow]; done)
    | split
    | rw [held_forEach]
    | intro _ _

theorem held_fenceSettle (s : State) (a : Nat) :
    held (fenceSettle s a) = held s := by
  unfold fenceSettle
  simp only [↓held_ite, ↓held_State_modFence, ite_self]

theorem held_setUse (s : State) (g : Nat) (c : Nat) (u : UseSt) :
    held (setUse s g c u) = held s := by
  unfold setUse
  simp only [↓held_State_modGal]

theorem held_setColSt (s : State) (c : Nat) (st : ColSt) :
    held (setColSt s c st) = held s := by
  unfold setColSt
  simp only [↓held_State_modCol]

theorem held_raiseCol (s : State) (c : Nat) (code : Nat) (cause : Nat) (sev : Nat) (drip : Nat) :
    held (raiseCol s c code cause sev drip) = held s := by
  unfold raiseCol
  simp only [↓held_raise]

theorem held_disarm (s : State) (p : ArmKind → Bool) :
    held (disarm s p) = held s := by
  unfold disarm
  simp only [↓held_mk]

theorem held_armFor (s : State) (kind : ArmKind) (at_ : Nat) (islands : List Nat) :
    held (armFor s kind at_ islands) = held s := by
  unfold armFor
  simp only [↓held_mk]

theorem held_raisePas (s : State) (p : Nat) (cause : Nat) (endp : Nat) (lane : Nat) (sev : Nat) (drip : Nat) :
    held (raisePas s p cause endp lane sev drip) = held s := by
  unfold raisePas
  simp only [↓held_raise]

theorem held_dropFlights (s : State) (gone : Flight → Bool) :
    held (dropFlights s gone) = held s := by
  unfold dropFlights
  repeat' first
    | (simp only [↓held_mk, ↓held_State_modCol]; done)
    | rw [held_forEach]
    | intro _ _

theorem held_restartStreams (s : State) (p : Nat) :
    held (restartStreams s p) = held s := by
  unfold restartStreams
  repeat' first
    | (simp only [↓held_State_modPas, ↓held_dropFlights]; done)
    | rw [held_forEach]
    | intro _ _

theorem held_noteNoPas (s : State) (g : Nat) :
    held (noteNoPas s g) = held s := by
  unfold noteNoPas
  simp only [↓held_ite, ↓held_State_modGal, ite_self]

theorem held_admitFailed (s : State) (p : Nat) :
    held (admitFailed s p) = held s := by
  unfold admitFailed
  simp only [↓held_State_modPas, ↓held_noteNoPas, ↓held_raisePas]

theorem held_failPart (s : State) (p : Nat) :
    held (failPart s p) = held s := by
  unfold failPart
  simp only [↓held_ite, ↓held_admitFailed, ite_self]

theorem held_failAdmission (s : State) (c : Nat) :
    held (failAdmission s c) = held s := by
  unfold failAdmission
  rw [held_raiseCol, held_dropFlights, held_setColSt, held_State_modCol, held_forEach _ _ _ fun s g => held_failPart s _, held_disarm]

theorem held_learnColumn (s : State) (g : Nat) (c : Nat) :
    held (learnColumn s g c) = held s := by
  unfold learnColumn
  simp only [↓held_ite, ↓held_setUse, ite_self]

theorem held_columnUntrusted (s : State) (c : Nat) (cause : Nat) :
    held (columnUntrusted s c cause) = held s := by
  unfold columnUntrusted
  repeat' first
    | (simp only [↓held_failAdmission, ↓held_State_modCol, ↓held_sendSb]; done)
    | split
    | simp only []

theorem held_chargeEg (s : State) (g : Nat) (port : Nat) (cls : Nat) (n : Nat) :
    held (chargeEg s g port cls n) = held s := by
  unfold chargeEg
  simp only [↓held_State_modGal]

theorem held_freeEg (s : State) (g : Nat) (port : Nat) (cls : Nat) (n : Nat) :
    held (freeEg s g port cls n) = held s := by
  unfold freeEg
  simp only [↓held_State_modGal]

theorem held_chargeVoq (s : State) (g : Nat) (m : Nat) (cls : Nat) (n : Nat) :
    held (chargeVoq s g m cls n) = held s := by
  unfold chargeVoq
  simp only [↓held_State_modGal]

theorem held_countRefused (s : State) (g : Nat) (cls : Nat) :
    held (countRefused s g cls) = held s := by
  unfold countRefused
  simp only [↓held_ite, ↓held_countGal, ↓held_pulse, ite_self]

theorem held_enqueueCells (s : State) (g : Nat) (p : Pkt) (cs : List Cell) (here : List Cell) :
    held (enqueueCells s g p cs here) = held s := by
  unfold enqueueCells
  simp only [↓held_State_modGal]

theorem held_enqueueVoq (s : State) (g : Nat) (p : Pkt) :
    held (enqueueVoq s g p) = held s := by
  unfold enqueueVoq
  simp only [↓held_enqueueCells]

theorem held_scanReply (s : State) (p : Pkt) :
    held (scanReply s p) = held s := by
  unfold scanReply
  simp only [↓held_mk, ↓held_ite, ↓held_replyGone, ite_self]

theorem held_arrivePort (s : State) (g : Nat) (p : Pkt) :
    held (arrivePort s g p) = held s := by
  unfold arrivePort
  simp only [↓held_ite, ↓held_freeEg, ↓held_State_modGal, ↓held_scanReply, ite_self]

theorem held_waitOut (s : State) (g : Nat) (p : Pkt) :
    held (waitOut s g p) = held s := by
  unfold waitOut
  simp only [↓held_countRefused, ↓held_State_modGal]

theorem held_localFlow (s : State) (g : Nat) (p : Pkt) :
    held (localFlow s g p) = held s := by
  unfold localFlow
  simp only [↓held_noteStage, ↓held_State_modGal]

theorem held_sendNow (s : State) (g : Nat) (p : Pkt) :
    held (sendNow s g p) = held s := by
  unfold sendNow
  simp only [↓held_ite, ↓held_arrivePort, ↓held_chargeEg, ↓held_localFlow, ↓held_enqueueVoq, ite_self]

theorem held_sendOn (s : State) (g : Nat) (p : Pkt) :
    held (sendOn s g p) = held s := by
  unfold sendOn
  simp only [↓held_ite, ↓held_sendNow, ↓held_waitOut, ite_self]

theorem held_toLostPort (s : State) (g : Nat) (p : Pkt) :
    held (toLostPort s g p) = held s := by
  unfold toLostPort
  repeat' first
    | (simp only [↓held_ite, ↓held_replyGone, ↓held_sendOn, ite_self]; done)
    | split

theorem held_sendToPort (s : State) (g : Nat) (p : Pkt) :
    held (sendToPort s g p) = held s := by
  unfold sendToPort
  simp only [↓held_ite, ↓held_sendOn, ↓held_toLostPort, ite_self]

theorem held_unplan (s : State) (p : Nat) (gone : Planned → Bool) :
    held (unplan s p gone) = held s := by
  unfold unplan
  simp only [↓held_ite, ↓held_State_modPas, ↓held_State_modGal, ↓held_countPas, ite_self]

theorem held_replayInto (s : State) (g : Nat) (p : Nat) (es : List ReplayEnt) :
    held (replayInto s g p es) = held s := by
  unfold replayInto
  simp only [↓held_countGal, ↓held_countPas, ↓held_State_modGal, ↓held_State_modPas]

theorem held_learnDeath (s : State) (i : Nat) (p : Nat) :
    held (learnDeath s i p) = held s := by
  unfold learnDeath
  simp only [↓held_ite, ↓held_State_modPas, ↓held_unplan, ↓held_replayInto, ite_self]

theorem held_allLearn (s : State) (p : Nat) :
    held (allLearn s p) = held s := by
  unfold allLearn
  repeat' first
    | (simp only [↓held_learnDeath]; done)
    | split
    | rw [held_forEach]
    | intro _ _

theorem held_noticeDeath (s : State) (p : Nat) (endp : Nat) :
    held (noticeDeath s p endp) = held s := by
  unfold noticeDeath
  repeat' first
    | (simp only [↓held_ite, ↓held_sendSb]; done)
    | split
    | rw [held_forEach]
    | intro _ _

theorem held_endDies (s : State) (p : Nat) (endp : Nat) :
    held (endDies s p endp) = held s := by
  unfold endDies
  simp only [↓held_State_modPas, ↓held_dropFlights]

theorem held_killPassage (s : State) (p : Nat) (cause : Nat) (endp : Nat) (lane : Nat) :
    held (killPassage s p cause endp lane) = held s := by
  unfold killPassage
  simp only [↓held_ite, ↓held_State_modPas, ↓held_disarm, ↓held_endDies, ↓held_sendKill, ↓held_raisePas, ↓held_noticeDeath, ↓held_noteNoPas, ↓held_learnDeath, ite_self]

theorem held_revive (s : State) (p : Nat) :
    held (revive s p) = held s := by
  unfold revive
  simp only [↓held_draw, ↓held_State_modPas, ↓held_State_modGal]

theorem held_sendAck (s : State) (g : Nat) (c : Nat) (i : Nat) :
    held (sendAck s g c i) = held s := by
  unfold sendAck
  simp only [↓held_countPas, ↓held_State_modPas, ↓held_sendSb]

theorem held_updateHoldOff (s : State) (p : Nat) :
    held (updateHoldOff s p) = held s := by
  unfold updateHoldOff
  simp only [↓held_ite, ↓held_State_modPas, ↓held_sendSb, ite_self]

end Sys2Proof.Machine
end

