-- ==== Sys2Proof/Laws/HeldSlices.lean ====
section
/-!
SUPPORT. What the operations of the device accesses, the directory and its slices leave alone (`held`).
-/

namespace Sys2Proof.Machine

theorem held_freshAcc (s : State) :
    held (freshAcc s).2 = held s := by
  unfold freshAcc
  simp only [↓snd_mk, ↓held_mk]

theorem held_addAcc (s : State) (a : DevAcc) :
    held (addAcc s a) = held s := by
  unfold addAcc
  simp only [↓held_mk]

theorem held_dropAcc (s : State) (id : Nat) :
    held (dropAcc s id) = held s := by
  unfold dropAcc
  simp only [↓held_mk]

theorem held_modTwins (s : State) (g : Nat) (f : List TwinWr → List TwinWr) :
    held (modTwins s g f) = held s := by
  unfold modTwins
  simp only [↓held_mk]

theorem held_sendCopy (s : State) (g : Nat) (p : Pkt) (l : Line) (c : Nat) (id : Nat) :
    held (sendCopy s g p l c id) = held s := by
  unfold sendCopy
  simp only [↓held_sendToPort]

theorem held_issueCopy (s : State) (g : Nat) (tid : Nat) (p : Pkt) (l : Line) (c : Nat) :
    held (issueCopy s g tid p l c) = held s := by
  unfold issueCopy
  simp only [↓held_addAcc, ↓held_freshAcc, ↓held_sendCopy]

theorem held_twinStart (s : State) (g : Nat) (p : Pkt) (l : Line) (acc : Option Nat) :
    held (twinStart s g p l acc) = held s := by
  unfold twinStart
  simp only [↓held_mk, ↓held_ite, ↓held_issueCopy, ↓held_modTwins, ite_self]

theorem held_twinWrite (s : State) (g : Nat) (p : Pkt) (l : Line) (acc : Option Nat) :
    held (twinWrite s g p l acc) = held s := by
  unfold twinWrite
  simp only [↓held_mk, ↓held_ite, ↓held_twinStart, ite_self]

theorem held_twinRead (s : State) (g : Nat) (p : Pkt) (l : Line) (id : Nat) :
    held (twinRead s g p l id) = held s := by
  unfold twinRead
  simp only [↓held_mk, ↓held_ite, ↓held_sendCopy, ite_self]

theorem held_issueRead (s : State) (g : Nat) (sl : Nat) (k : Nat) (r : Option SliceReq) :
    held (issueRead s g sl k r).2 = held s := by
  unfold issueRead
  repeat' first
    | (simp only [↓snd_ite, ↓snd_mk, ↓held_ite, ↓held_addAcc, ↓held_twinRead, ↓held_sendToPort]; done)
    | (simp only [↓snd_ite, ↓snd_mk, ↓held_ite, ↓held_addAcc, ↓held_twinRead, ↓held_sendToPort, ite_self, *]; done)
    | (exact Eq.symm (by assumption))
    | (split <;> (try (rename_i heq; first
          | (have e := congrArg (fun p : _ × State => held p.2) heq; simp only [↓snd_mk, ↓held_freshAcc] at e)
          | (have e := congrArg (fun p : Option State => held (p.getD s)) heq; simp only [↓outState_next, ↓outState_due, ↓outState_ite, ↓st_ite, ↓st_reply, ↓st_wait, ↓st_opened, ↓fst_ite, ↓snd_ite, ↓getD_ite, ↓getD_some', ↓getD_none', ↓fst_mk, ↓snd_mk, ↓held_mk, ↓held_mk2, ↓held_ite, ↓held_freshAcc, ↓held_addAcc, ↓held_twinRead, ↓held_sendToPort, ite_self] at e))))
    | split
    | simp only []

theorem held_issueWrite (s : State) (g : Nat) (sl : Nat) (k : Nat) (data : Bytes) (poison : Bool) (r : Option SliceReq) (use : AccUse) :
    held (issueWrite s g sl k data poison r use).2 = held s := by
  unfold issueWrite
  repeat' first
    | (simp only [↓snd_ite, ↓snd_mk, ↓held_ite, ↓held_addAcc, ↓held_sendToPort, ↓held_twinWrite, ite_self, *]; done)
    | (split <;> (try (rename_i heq; (have e := congrArg (fun p : _ × State => held p.2) heq; simp only [↓snd_mk, ↓held_freshAcc] at e))))

theorem held_lostWrite (s : State) (p : Pkt) :
    held (lostWrite s p) = held s := by
  unfold lostWrite
  simp only [↓held_ite, ↓held_logLost, ↓held_postedFailed, ite_self]

theorem held_writeAway (s : State) (g : Nat) (sl : Nat) (k : Nat) (data : Bytes) (poison : Bool) :
    held (writeAway s g sl k data poison) = held s := by
  unfold writeAway
  repeat' first
    | (simp only [↓held_lostWrite, *]; done)
    | (split <;> (try (rename_i heq; (have e := congrArg (fun p : _ × State => held p.2) heq; simp only [↓snd_mk, ↓held_issueWrite] at e))))

theorem held_countDropped (s : State) (b : Nat) :
    held (countDropped s b) = held s := by
  unfold countDropped
  simp only [↓held_State_modPrt]

theorem held_failPrivate (s : State) (g : Nat) (src : Nat) (p : Pkt) :
    held (failPrivate s g src p) = held s := by
  unfold failPrivate
  simp only [↓held_ite, ↓held_sampleLost, ↓held_countDropped, ↓held_sendToPort, ↓held_lostWrite, ite_self]

theorem held_twinRequest (s : State) (g : Nat) (p : Pkt) :
    held (twinRequest s g p) = held s := by
  unfold twinRequest
  repeat' first
    | (simp only [↓held_ite, ↓held_failPrivate, ↓held_twinWrite, ↓held_sendToPort, ↓held_twinRead]; done)
    | split

theorem held_modSet (s : State) (full : Bool) (key : Nat) (f : List Entry → List Entry) :
    held (modSet s full key f) = held s := by
  unfold modSet
  simp only [↓held_mk, ↓held_ite, ite_self]

theorem held_modEntries (s : State) (g : Nat) (sl : Nat) (x : Nat) (h : List Entry → List Entry) :
    held (modEntries s g sl x h) = held s := by
  unfold modEntries
  simp only [↓held_modSet]

theorem held_modEntry (s : State) (g : Nat) (sl : Nat) (k : Nat) (f : Entry → Entry) :
    held (modEntry s g sl k f) = held s := by
  unfold modEntry
  simp only [↓held_modEntries]

theorem held_modTxn (s : State) (g : Nat) (sl : Nat) (k : Nat) (f : Txn → Txn) :
    held (modTxn s g sl k f) = held s := by
  unfold modTxn
  simp only [↓held_modEntry]

theorem held_pinSet (s : State) (full : Bool) (key : Nat) (p : Entry → Bool) :
    held (pinSet s full key p) = held s := by
  unfold pinSet
  simp only [↓held_modSet]

theorem held_pinMoving (s : State) (g : Nat) (sl : Nat) :
    held (pinMoving s g sl) = held s := by
  unfold pinMoving
  repeat' first
    | (simp only [↓held_pinSet]; done)
    | split
    | rw [foldl_held]
    | rw [foldl_held1]
    | intro _ _
    | simp only []

theorem held_raiseSlice (s : State) (g : Nat) (sl : Nat) (code : Nat) (sev : Nat) (head : Bytes) (drip : Nat) :
    held (raiseSlice s g sl code sev head drip) = held s := by
  unfold raiseSlice
  simp only [↓held_raise]

theorem held_raiseEcc (s : State) (g : Nat) (sl : Nat) (cause : Nat) (sev : Nat) (way : Nat) (set : Nat) :
    held (raiseEcc s g sl cause sev way set) = held s := by
  unfold raiseEcc
  simp only [↓held_raiseSlice]

theorem held_traceDir (s : State) (g : Nat) (sl : Nat) (cause : Nat) (agent : Nat) (prior : Nat) (next : Nat) (out : Nat) (way : Nat) (snoops : Nat) (k : Nat) (open_ : Bool) :
    held (traceDir s g sl cause agent prior next out way snoops k open_) = held s := by
  unfold traceDir
  simp only [↓held_traceHap]

theorem held_sliceReply (s : State) (g : Nat) (sl : Nat) (r : SliceReq) (c : Cmp) (data : Option Bytes) (poison : Bool) :
    held (sliceReply s g sl r c data poison) = held s := by
  unfold sliceReply
  simp only [↓held_sendToPort]

theorem held_sendAckMsg (s : State) (g : Nat) (k : Nat) (a : Nat) :
    held (sendAckMsg s g k a) = held s := by
  unfold sendAckMsg
  simp only [↓held_sendToPort]

theorem held_moveWrites (s : State) (g : Nat) (sl : Nat) (k : Nat) (a : Nat) :
    held (moveWrites s g sl k a) = held s := by
  unfold moveWrites
  simp only [↓held_State_modSlice]

theorem held_sendSnoop (s : State) (g : Nat) (sl : Nat) (k : Nat) (a : Nat) (kind : SnpKind) (bcast : Bool) :
    held (sendSnoop s g sl k a kind bcast).1 = held s := by
  unfold sendSnoop
  simp only [↓fst_ite, ↓fst_mk, ↓held_ite, ↓held_State_modSlice, ↓held_moveWrites, ↓held_pulse, ↓held_sendToPort, ite_self]

theorem held_freeLine (s : State) :
    held (freeLine s).2 = held s := by
  unfold freeLine
  simp only [↓snd_mk, ↓held_draw]

theorem held_modStash (s : State) (key : Nat) (f : List StashLine → List StashLine) :
    held (modStash s key f) = held s := by
  unfold modStash
  simp only [↓held_mk]

theorem held_freeStash (s : State) (g : Nat) (k : Nat) :
    held (freeStash s g k) = held s := by
  unfold freeStash
  simp only [↓held_modStash]

theorem held_freshStamp (s : State) :
    held (freshStamp s).2 = held s := by
  unfold freshStamp
  simp only [↓snd_mk, ↓held_mk]

theorem held_pinStash (s : State) (g : Nat) (k : Nat) :
    held (pinStash s g k) = held s := by
  unfold pinStash
  simp only [↓held_freshStamp, ↓held_modStash]

theorem held_clearStash (s : State) (g : Nat) (sl : Nat) (e : Entry) :
    held (clearStash s g sl e) = held s := by
  unfold clearStash
  simp only [↓held_ite, ↓held_modEntries, ↓held_modEntry, ite_self]

theorem held_stashVictim (sl n : Nat) (s : State) (g key : Nat) :
    held ((stashVictim sl n s g key).getD s) = held s := by
  induction n generalizing s with
  | zero => rfl
  | succ n ih =>
    unfold stashVictim
    split
    · rfl
    · split
      · have e := ih (pinStash s g ‹StashLine›.key)
        rw [held_pinStash] at e
        cases h : stashVictim sl n (pinStash s g ‹StashLine›.key) g key with
        | none => rfl
        | some t => rw [h] at e; exact e
      · simp only [↓getD_some']
        split <;> simp only [↓held_clearStash, ↓held_State_modSlice, ↓held_freeStash, ↓held_writeAway]

theorem held_pinAway (s : State) (g : Nat) (k : Nat) :
    held (pinAway s g k) = held s := by
  unfold pinAway
  simp only [↓held_ite, ↓held_pinStash, ite_self]

theorem held_stashAdd (s : State) (g : Nat) (sl : Nat) (k : Nat) (way : Nat) (data : Bytes) (poison : Bool) :
    held (stashAdd s g sl k way data poison) = held s := by
  unfold stashAdd
  simp only [↓held_freshStamp, ↓held_modStash, ↓held_State_modSlice, ↓held_pulse, ↓held_pinAway]

theorem held_stashPut (s : State) (g : Nat) (sl : Nat) (k : Nat) (data : Bytes) (poison : Bool) :
    held ((stashPut s g sl k data poison).getD s) = held s := by
  unfold stashPut
  repeat' first
    | (simp only [↓getD_some', ↓getD_none', ↓held_freshStamp, ↓held_pinAway, ↓held_modStash, ↓held_stashAdd]; done)
    | (simp only [↓getD_some', ↓held_stashAdd, *]; done)
    | (exact Eq.symm (by assumption))
    | (split <;> (try (rename_i heq; first
          | (have e := congrArg (fun p : Option State => held (p.getD s)) heq; simp only [↓getD_some', ↓getD_none', ↓held_stashVictim] at e))))
    | split
    | simp only []

theorem held_stashRead (s : State) (g : Nat) (k : Nat) :
    held (stashRead s g k).1 = held s := by
  unfold stashRead
  repeat' first
    | (simp only [↓fst_mk, ↓held_freshStamp, ↓held_modStash]; done)
    | split

theorem held_stashPoison (s : State) (g : Nat) (sl : Nat) (k : Nat) :
    held (stashPoison s g sl k) = held s := by
  unfold stashPoison
  simp only [↓held_ite, ↓held_pinStash, ↓held_modStash, ↓held_writeAway, ↓held_freeStash, ite_self]

theorem held_stashOut (s : State) (g : Nat) (sl : Nat) (k : Nat) :
    held (stashOut s g sl k) = held s := by
  unfold stashOut
  repeat' first
    | (simp only [↓held_ite, ↓held_freeStash, ↓held_State_modSlice, ↓held_pinStash, ↓held_writeAway, ite_self]; done)
    | split

theorem held_writePinned (s : State) (port : Nat) :
    held (writePinned s port) = held s := by
  unfold writePinned
  repeat' first
    | (simp only [↓held_ite, ↓held_freeStash, ↓held_State_modSlice, ↓held_modStash, ↓held_writeAway, ite_self]; done)
    | split
    | rw [held_forEach]
    | intro _ _
    | simp only []

theorem held_ownerLost (s : State) (g : Nat) (sl : Nat) (k : Nat) (a : Nat) :
    held (ownerLost s g sl k a).1 = held s := by
  unfold ownerLost
  repeat' first
    | (simp only [↓fst_ite, ↓fst_mk, ↓held_ite, ↓held_freeStash, ↓held_issueWrite, ↓held_modEntry, ↓held_modTxn, ite_self]; done)
    | split

theorem held_sendSnoops (s : State) (g : Nat) (sl : Nat) (k : Nat) (agents : List Nat) (kind : SnpKind) (bcast : Bool) :
    held (sendSnoops s g sl k agents kind bcast) = held s := by
  unfold sendSnoops
  repeat' first
    | (simp only [↓held_ite, ↓held_State_modFence, ↓held_modTxn, ↓held_ownerLost, ↓held_sendSnoop, ite_self]; done)
    | split
    | rw [foldl_held]
    | intro _ _

theorem held_wakeLine (s : State) (g : Nat) (sl : Nat) (k : Nat) :
    held (wakeLine s g sl k) = held s := by
  unfold wakeLine
  simp only [↓held_State_modSlice]

theorem held_wakeSet (s : State) (g : Nat) (sl : Nat) (x : Nat) (way : Nat) :
    held (wakeSet s g sl x way) = held s := by
  unfold wakeSet
  repeat' first
    | dsimp only []
    | split
    | (simp only [↓held_State_modSlice]; done)

theorem held_noteReq (s : State) (r : SliceReq) (f : SampRun → SampRun) :
    held (noteReq s r f) = held s := by
  unfold noteReq
  simp only [↓held_noteRun]

theorem held_countDeferral (s : State) (g : Nat) (sl : Nat) :
    held (countDeferral s g sl) = held s := by
  unfold countDeferral
  simp only [↓held_State_modSlice, ↓held_pulse]

theorem held_deferIntake (s : State) (g : Nat) (sl : Nat) (r : SliceReq) (onSet : Bool) :
    held (deferIntake s g sl r onSet).1 = held s := by
  unfold deferIntake
  simp only [↓fst_ite, ↓fst_mk, ↓held_ite, ↓held_countDeferral, ↓held_State_modSlice, ite_self]

theorem held_deferAgain (s : State) (g : Nat) (sl : Nat) (e : RetryEnt) (onSet : Bool) :
    held (deferAgain s g sl e onSet) = held s := by
  unfold deferAgain
  repeat' first
    | (simp only [↓held_countDeferral, ↓held_State_modSlice]; done)

theorem held_retryDone (s : State) (g : Nat) (sl : Nat) (e : RetryEnt) :
    held (retryDone s g sl e) = held s := by
  unfold retryDone
  simp only [↓held_State_modSlice]

theorem held_ownerGone (s : State) (g : Nat) (sl : Nat) (e : Entry) :
    held (ownerGone s g sl e) = held s := by
  unfold ownerGone
  simp only [↓held_ite, ↓held_modEntries, ↓held_modEntry, ite_self]

theorem held_sharerGone (s : State) (g : Nat) (sl : Nat) (e : Entry) (a : Nat) :
    held (sharerGone s g sl e a) = held s := by
  unfold sharerGone
  simp only [↓held_ite, ↓held_modEntries, ↓held_modEntry, ite_self]

theorem held_agentGone (s : State) (g : Nat) (sl : Nat) (k : Nat) (a : Nat) :
    held (agentGone s g sl k a) = held s := by
  unfold agentGone
  repeat' first
    | (simp only [↓held_ite, ↓held_ownerGone, ↓held_sharerGone, ite_self]; done)
    | split

theorem held_startMigration (s : State) (g : Nat) (sl : Nat) (cause : Nat) :
    held (startMigration s g sl cause) = held s := by
  unfold startMigration
  repeat' first
    | (simp only [↓held_mk, ↓held_ite, ↓held_State_modSlice, ↓held_pinMoving, ite_self]; done)
    | split

theorem held_startConv (s : State) (g : Nat) (sl : Nat) (mode : SliceMode) (cause : Nat) :
    held (startConv s g sl mode cause) = held s := by
  unfold startConv
  simp only [↓held_pinMoving, ↓held_State_modSlice]

theorem held_enterPointer (s : State) (g : Nat) (sl : Nat) (cause : Nat) :
    held (enterPointer s g sl cause) = held s := by
  unfold enterPointer
  simp only [↓held_startConv]

theorem held_fourthUncorrectable (s : State) (g : Nat) (sl : Nat) :
    held (fourthUncorrectable s g sl) = held s := by
  unfold fourthUncorrectable
  simp only [↓held_ite, ↓held_enterPointer, ite_self]

theorem held_afterUncorrectable (s : State) (g : Nat) (sl : Nat) :
    held (afterUncorrectable s g sl) = held s := by
  unfold afterUncorrectable
  simp only [↓held_startMigration]

theorem held_noteIssue (s : State) (g : Nat) (sl : Nat) (k : Nat) (i : Issue) :
    held (noteIssue s g sl k i) = held s := by
  unfold noteIssue
  repeat' first
    | (simp only [↓held_modTxn]; done)
    | split

theorem held_startRead (s : State) (g : Nat) (sl : Nat) (k : Nat) (r : SliceReq) :
    held (startRead s g sl k r) = held s := by
  unfold startRead
  simp only [↓held_ite, ↓held_issueRead, ↓held_noteIssue, ↓held_countDropped, ↓held_noteReq, ite_self]

theorem held_startWrite (s : State) (g : Nat) (sl : Nat) (k : Nat) (e : Entry) (r : SliceReq) :
    held (startWrite s g sl k e r) = held s := by
  unfold startWrite
  rcases hx : stashRead (noteReq s r (flagRun 6)) g k with ⟨s1, old, p⟩
  rcases hy : issueWrite s g sl k r.data r.poison (some r) .txn with ⟨i, s2⟩
  have e1 : held s1 = held s := by
    have h := held_stashRead (noteReq s r (flagRun 6)) g k
    rw [hx] at h
    exact h.trans (held_noteReq ..)
  have e2 : held s2 = held s := by
    have h := held_issueWrite s g sl k r.data r.poison (some r) .txn
    rw [hy] at h
    exact h
  dsimp only
  split
  · split
    · rename_i heq
      rw [held_of_some (held_stashPut ..) heq, held_modTxn, e1]
    · rw [held_modTxn, e1]
  · split
    · rw [held_countDropped, held_lostWrite, held_noteReq, held_noteIssue, e2]
    · rw [held_noteIssue, e2]

theorem held_advanceRow (s : State) (g : Nat) (sl : Nat) (k : Nat) (e : Entry) (t : Txn) (r : SliceReq) :
    held (advanceRow s g sl k e t r) = held s := by
  unfold advanceRow
  simp only [↓held_ite, ↓held_startWrite, ↓held_modTxn, ↓held_stashRead, ↓held_noteReq, ↓held_startRead, ite_self]

theorem held_sendAcks (s : State) (g : Nat) (k : Nat) (as : List Nat) :
    held (sendAcks s g k as) = held s := by
  unfold sendAcks
  repeat' first
    | (simp only [↓held_sendAckMsg]; done)
    | split
    | rw [held_forEach]
    | intro _ _

theorem held_storeEntry (s : State) (g : Nat) (sl : Nat) (e : Entry) :
    held (storeEntry s g sl e) = held s := by
  unfold storeEntry
  simp only [↓held_ite, ↓held_modEntries, ite_self]

theorem held_undoGrant (s : State) (g : Nat) (sl : Nat) (k : Nat) (a : Nat) :
    held (undoGrant s g sl k a) = held s := by
  unfold undoGrant
  repeat' first
    | (simp only [↓held_ite, ↓held_agentGone, ↓held_State_modFence, ↓held_wakeLine, ↓held_wakeSet, ite_self]; done)
    | split

theorem held_sweepStable (g : Nat) (sl : Nat) (a : Nat) (s : State) (e : Entry) :
    held (sweepStable g sl a s e) = held s := by
  unfold sweepStable
  simp only [↓held_ite, ↓held_freeStash, ↓held_modEntries, ↓held_State_modFence, ↓held_sharerGone, ↓held_wakeLine, ↓held_wakeSet, ↓held_writeAway, ite_self]

theorem held_settleEntry (s : State) (g : Nat) (sl : Nat) (k : Nat) (leaves : List Nat) (undo : List Nat) (late : List Nat) :
    held (settleEntry s g sl k leaves undo late) = held s := by
  unfold settleEntry
  repeat' first
    | (simp only [↓held_agentGone, ↓held_sweepStable, ↓held_undoGrant]; done)
    | split
    | rw [held_forEach]
    | intro _ _

theorem held_startEvict (s : State) (g : Nat) (sl : Nat) (e : Entry) (why : EvictWhy) (r : Option SliceReq) (targets : List Nat) :
    held (startEvict s g sl e why r targets) = held s := by
  unfold startEvict
  simp only [↓held_modEntry, ↓held_State_modSlice, ↓held_sendSnoops, ↓held_traceDir]

theorem held_evictStash (s : State) (g : Nat) (sl : Nat) (e : Entry) (t : Txn) :
    held (evictStash s g sl e t) = held s := by
  unfold evictStash
  repeat' first
    | (simp only [↓held_ite, ↓held_freeStash, ↓held_stashPoison, ↓held_raiseEcc, ↓held_lostWrite, ↓held_stashOut, ite_self]; done)
    | split

theorem held_finishEvict (s : State) (g : Nat) (sl : Nat) (e : Entry) (t : Txn) :
    held (finishEvict s g sl e t).1 = held s := by
  unfold finishEvict
  repeat' first
    | (simp only [↓fst_mk, ↓held_ite, ↓held_afterUncorrectable, ↓held_evictStash, ↓held_modEntries, ↓held_sendAcks, ↓held_wakeLine, ↓held_wakeSet, ite_self]; done)
    | split

theorem held_startRecover (s : State) (g : Nat) (sl : Nat) (e : Entry) (good0 : Bool) (good1 : Bool) (also : List Nat) (q : Nat) :
    held (startRecover s g sl e good0 good1 also q) = held s := by
  unfold startRecover
  repeat' first
    | (simp only [↓held_ite, ↓held_startEvict, ↓held_finishEvict, ite_self]; done)
    | split
    | simp only []

theorem held_recoverNow (s : State) (g : Nat) (sl : Nat) (k : Nat) (t : Txn) (also : List Nat) :
    held (recoverNow s g sl k t also) = held s := by
  unfold recoverNow
  repeat' first
    | (simp only [↓held_ite, ↓held_startRecover, ↓held_afterUncorrectable, ite_self]; done)
    | split

theorem held_unpin (s : State) (g : Nat) (sl : Nat) (k : Nat) :
    held (unpin s g sl k) = held s := by
  unfold unpin
  repeat' first
    | (simp only [↓held_ite, ↓held_modEntry, ↓held_modEntries, ↓held_settleEntry, ite_self]; done)
    | split

theorem held_completeRow (s : State) (g : Nat) (sl : Nat) (e : Entry) (t : Txn) (r : SliceReq) :
    held (completeRow s g sl e t r) = held s := by
  unfold completeRow
  simp only [↓held_ite, ↓held_freeStash, ↓held_sliceReply, ↓held_sendAcks, ↓held_storeEntry, ↓held_modEntries, ↓held_settleEntry, ↓held_wakeLine, ↓held_wakeSet, ↓held_pinMoving, ↓held_recoverNow, ite_self]

theorem held_runRow (s : State) (g : Nat) (sl : Nat) (k : Nat) :
    held (runRow s g sl k) = held s := by
  unfold runRow
  repeat' first
    | (simp only [↓held_ite, ↓held_advanceRow, ↓held_completeRow, ite_self]; done)
    | split
    | simp only []

theorem held_startRow (s : State) (g : Nat) (sl : Nat) (k : Nat) (r : SliceReq) :
    held (startRow s g sl k r) = held s := by
  unfold startRow
  repeat' first
    | (simp only [↓held_ite, ↓held_modEntry, ↓held_runRow, ↓held_sendSnoops, ↓held_startRead, ite_self]; done)
    | split

theorem held_startBlind (s : State) (g : Nat) (sl : Nat) (k : Nat) (r : SliceReq) :
    held (startBlind s g sl k r) = held s := by
  unfold startBlind
  repeat' first
    | (simp only [↓held_ite, ↓held_modEntry, ↓held_sendSnoops, ↓held_startRow, ite_self]; done)
    | split
    | simp only []

theorem held_serveMiss (s : State) (g : Nat) (sl : Nat) (way : Nat) (r : SliceReq) (acks : List Nat) :
    held (serveMiss s g sl way r acks) = held s := by
  unfold serveMiss
  simp only [↓held_ite, ↓held_modEntries, ↓held_startBlind, ↓held_startRow, ite_self]

theorem held_finishRecall (s : State) (g : Nat) (sl : Nat) (k : Nat) (e : Entry) (t : Txn) :
    held (finishRecall s g sl k e t) = held s := by
  unfold finishRecall
  repeat' first
    | (simp only [↓held_modEntry, ↓held_sendAcks, ↓held_agentGone, ↓held_settleEntry, ↓held_wakeSet, ↓held_wakeLine, ↓held_pinMoving, ↓held_recoverNow]; done)
    | (simp only [↓held_agentGone, ↓held_settleEntry, ↓held_wakeSet, ↓held_wakeLine, ↓held_pinMoving, ↓held_recoverNow, *]; done)
    | (exact Eq.symm (by assumption))
    | (split <;> (try (rename_i heq; first
          | (have e := congrArg (fun p : State × _ => held p.1) heq; simp only [↓outState_next, ↓outState_due, ↓outState_ite, ↓st_ite, ↓st_reply, ↓st_wait, ↓st_opened, ↓fst_ite, ↓snd_ite, ↓getD_ite, ↓getD_some', ↓getD_none', ↓fst_mk, ↓snd_mk, ↓held_mk, ↓held_mk2, ↓held_ite, ↓held_modEntry, ↓held_sendAcks, ↓held_agentGone, ↓held_settleEntry, ↓held_wakeSet, ↓held_wakeLine, ↓held_pinMoving, ↓held_recoverNow, ite_self] at e)
          | (have e := congrArg (fun p : _ × State => held p.2) heq; simp only [↓outState_next, ↓outState_due, ↓outState_ite, ↓st_ite, ↓st_reply, ↓st_wait, ↓st_opened, ↓fst_ite, ↓snd_ite, ↓getD_ite, ↓getD_some', ↓getD_none', ↓fst_mk, ↓snd_mk, ↓held_mk, ↓held_mk2, ↓held_ite, ↓held_modEntry, ↓held_sendAcks, ↓held_agentGone, ↓held_settleEntry, ↓held_wakeSet, ↓held_wakeLine, ↓held_pinMoving, ↓held_recoverNow, ite_self] at e)
          | (have e := congrArg (fun p : Option State => held (p.getD s)) heq; simp only [↓outState_next, ↓outState_due, ↓outState_ite, ↓st_ite, ↓st_reply, ↓st_wait, ↓st_opened, ↓fst_ite, ↓snd_ite, ↓getD_ite, ↓getD_some', ↓getD_none', ↓fst_mk, ↓snd_mk, ↓held_mk, ↓held_mk2, ↓held_ite, ↓held_modEntry, ↓held_sendAcks, ↓held_agentGone, ↓held_settleEntry, ↓held_wakeSet, ↓held_wakeLine, ↓held_pinMoving, ↓held_recoverNow, ite_self] at e))))
    | rw [held_forEach]
    | intro _ _
    | simp only [↓held_settleEntry, ↓held_wakeSet, ↓held_wakeLine, ↓held_pinMoving, ↓held_recoverNow]

theorem held_progress (s : State) (g : Nat) (sl : Nat) (k : Nat) :
    held (progress s g sl k) = held s := by
  unfold progress
  repeat' first
    | (simp only [↓held_ite, ↓held_finishRecall, ↓held_runRow, ↓held_serveMiss, ↓held_startRow, ite_self]; done)
    | (simp only [↓held_ite, ↓held_serveMiss, *]; done)
    | (split <;> (try (rename_i heq; (have e := congrArg (fun p : State × _ => held p.1) heq; simp only [↓fst_mk, ↓held_finishEvict] at e))))

theorem held_loseSnoop (s : State) (g : Nat) (sl : Nat) (k : Nat) (a : Nat) :
    held (loseSnoop s g sl k a).1 = held s := by
  unfold loseSnoop
  repeat' first
    | (simp only [↓fst_mk, ↓held_modTxn, ↓held_ownerLost]; done)
    | split

theorem held_fenceAgent (s : State) (a : Nat) (cause : Nat) :
    held (fenceAgent s a cause) = held s := by
  unfold fenceAgent
  repeat' first
    | (simp only [↓held_ite, ↓held_loseSnoop, ↓held_State_modFence, ↓held_progress, ite_self]; done)
    | split
    | rw [held_forEach]
    | intro _ _

theorem held_payOwed (s : State) (a : DevAcc) (r : SliceReq) (ack : Bool) :
    held (payOwed s a r ack) = held s := by
  unfold payOwed
  simp only [↓held_ite, ↓held_sendAckMsg, ↓held_sliceReply, ite_self]

theorem held_txnAccess (s : State) (a : DevAcc) (good : Bool) (data : Bytes) (poison : Bool) :
    held (txnAccess s a good data poison) = held s := by
  unfold txnAccess
  simp only [↓held_modTxn, ↓held_progress]

theorem held_finishAccess (s : State) (a : DevAcc) (good : Bool) (data : Bytes) (poison : Bool) :
    held (finishAccess s a good data poison) = held s := by
  unfold finishAccess
  repeat' first
    | (simp only [↓held_dropAcc, ↓held_lostWrite, ↓held_sampleLost, ↓held_countDropped, ↓held_txnAccess, ↓held_modTxn, ↓held_progress, ↓held_payOwed]; done)
    | split

theorem held_freshInterval (s : State) (g : Nat) (sl : Nat) :
    held (freshInterval s g sl) = held s := by
  unfold freshInterval
  simp only [↓held_State_modSlice]

theorem held_faultCorrected (s : State) (g : Nat) (sl : Nat) (x : Nat) (way : Nat) :
    held (faultCorrected s g sl x way) = held s := by
  unfold faultCorrected
  simp only [↓held_ite, ↓held_freshInterval, ↓held_State_modSlice, ↓held_raiseEcc, ↓held_startMigration, ite_self]

theorem held_countUncorr (s : State) (g : Nat) (sl : Nat) (full : Bool) :
    held (countUncorr s g sl full) = held s := by
  unfold countUncorr
  simp only [↓held_ite, ↓held_freshInterval, ↓held_State_modSlice, ↓held_fourthUncorrectable, ite_self]

theorem held_faultUncorrectable (s : State) (g : Nat) (sl : Nat) (x : Nat) (way : Nat) (q : Nat) (good0 : Bool) (good1 : Bool) :
    held (faultUncorrectable s g sl x way q good0 good1) = held s := by
  unfold faultUncorrectable
  repeat' first
    | (simp only [↓held_ite, ↓held_countUncorr, ↓held_raiseEcc, ↓held_afterUncorrectable, ↓held_modTxn, ↓held_modEntries, ↓held_startRecover, ite_self]; done)
    | split
    | simp only []

theorem held_faultShadow (s : State) (g : Nat) (sl : Nat) (x : Nat) (way : Nat) :
    held (faultShadow s g sl x way) = held s := by
  unfold faultShadow
  repeat' first
    | (simp only [↓held_mk, ↓held_ite, ↓held_afterUncorrectable, ↓held_countUncorr, ↓held_modEntries, ↓held_modTxn, ↓held_raiseEcc, ↓held_stashOut, ↓held_wakeLine, ↓held_wakeSet, ite_self]; done)
    | split
    | rw [held_forEach]
    | intro _ _
    | simp only [↓held_mk, ↓held_ite, ↓held_afterUncorrectable, ite_self]

theorem held_faultStash (s : State) (g : Nat) (sl : Nat) (k : Nat) :
    held (faultStash s g sl k) = held s := by
  unfold faultStash
  repeat' first
    | (simp only [↓held_ite, ↓held_raiseEcc, ↓held_stashPoison, ↓held_progress, ↓held_startEvict, ↓held_modTxn, ↓held_sendSnoops, ite_self]; done)
    | split

theorem held_applyFault (s : State) (g : Nat) (sl : Nat) (k : Nat) (q : Nat) (ks : Nat) (f : LookupFault) :
    held (applyFault s g sl k q ks f) = held s := by
  unfold applyFault
  repeat' first
    | (simp only [↓held_ite, ↓held_faultCorrected, ↓held_faultShadow, ↓held_faultStash, ↓held_faultUncorrectable, ↓held_raiseEcc, ite_self]; done)
    | split

theorem held_countStray (s : State) (g : Nat) (sl : Nat) (rsp : Bool) :
    held (countStray s g sl rsp) = held s := by
  unfold countStray
  simp only [↓held_State_modSlice]

theorem held_evictRow (s : State) (g : Nat) (sl : Nat) (e : Entry) (r : SliceReq) :
    held (evictRow s g sl e r) = held s := by
  unfold evictRow
  simp only [↓held_ite, ↓held_countStray, ↓held_ownerGone, ↓held_sharerGone, ↓held_sliceReply, ↓held_wakeSet, ite_self]

theorem held_serveLookup (s : State) (g : Nat) (sl : Nat) (r : SliceReq) (ent : Option RetryEnt) :
    held (serveLookup s g sl r ent) = held s := by
  unfold serveLookup
  repeat' first
    | (simp only [↓held_ite, ↓held_evictRow, ↓held_modEntries, ↓held_startRow, ↓held_progress, ↓held_startEvict, ↓held_serveMiss, ↓held_countStray, ↓held_sliceReply, ↓held_stashRead, ↓held_noteReq, ite_self]; done)
    | split
    | simp only []

theorem held_fencedReply (s : State) (g : Nat) (sl : Nat) (r : SliceReq) :
    held (fencedReply s g sl r) = held s := by
  unfold fencedReply
  simp only [↓held_noteReq, ↓held_countGal, ↓held_sliceReply]

theorem held_lookup (s : State) (g : Nat) (sl : Nat) (r : SliceReq) (ent : Option RetryEnt) (f : LookupFault) :
    held (lookup s g sl r ent f).1 = held s := by
  unfold lookup
  repeat' first
    | (simp only [↓fst_mk, ↓held_State_modSlice, ↓held_pulse, ↓held_applyFault, ↓held_noteReq, ↓held_deferIntake, ↓held_deferAgain, ↓held_retryDone, ↓held_serveLookup, ↓held_traceDir]; done)
    | split
    | simp only []

theorem held_routeAway (s : State) (g : Nat) (sl : Nat) (r : SliceReq) :
    held ((routeAway s g sl r).getD s) = held s := by
  unfold routeAway
  repeat' first
    | (simp only [↓getD_ite, ↓getD_some', ↓getD_none', ↓held_mk, ↓held_ite, ↓held_State_modSlice, ite_self]; done)
    | split

theorem held_intakeLookup (kind : ReqKind) (g : Nat) (sl : Nat) (f : LookupFault) (s : State) :
    held (intakeLookup kind g sl f s) = held s := by
  unfold intakeLookup
  repeat' first
    | (simp only [↓held_ite, ↓held_fencedReply, ↓held_freeEg, ↓held_lookup, ↓held_State_modSlice, ite_self]; done)
    | (simp only [↓held_ite, ↓held_fencedReply, ↓held_freeEg, ↓held_State_modSlice, *]; done)
    | (split <;> (try (rename_i heq; have e := held_of_some (held_routeAway ..) heq)))
    | simp only [↓held_ite]

theorem held_execRdShared (g : Nat) (sl : Nat) (f : LookupFault) (s : State) :
    held (outState (execRdShared g sl f s) s) = held s := by
  unfold execRdShared
  simp only [↓outState_next, ↓held_intakeLookup]

theorem held_execRdAny (g : Nat) (sl : Nat) (f : LookupFault) (s : State) :
    held (outState (execRdAny g sl f s) s) = held s := by
  unfold execRdAny
  simp only [↓outState_next, ↓held_intakeLookup]

theorem held_execRdOwn (g : Nat) (sl : Nat) (f : LookupFault) (s : State) :
    held (outState (execRdOwn g sl f s) s) = held s := by
  unfold execRdOwn
  simp only [↓outState_next, ↓held_intakeLookup]

theorem held_execInvOwn (g : Nat) (sl : Nat) (f : LookupFault) (s : State) :
    held (outState (execInvOwn g sl f s) s) = held s := by
  unfold execInvOwn
  simp only [↓outState_next, ↓held_intakeLookup]

theorem held_execRdCur (g : Nat) (sl : Nat) (f : LookupFault) (s : State) :
    held (outState (execRdCur g sl f s) s) = held s := by
  unfold execRdCur
  simp only [↓outState_next, ↓held_intakeLookup]

theorem held_execWriteReq (g : Nat) (sl : Nat) (f : LookupFault) (s : State) :
    held (outState (execWriteReq g sl f s) s) = held s := by
  unfold execWriteReq
  simp only [↓outState_next, ↓held_intakeLookup]

theorem held_execEvict (g : Nat) (sl : Nat) (f : LookupFault) (s : State) :
    held (outState (execEvict g sl f s) s) = held s := by
  unfold execEvict
  simp only [↓outState_next, ↓held_intakeLookup]

theorem held_execRetry (g : Nat) (sl : Nat) (f : LookupFault) (s : State) :
    held (outState (execRetry g sl f s) s) = held s := by
  unfold execRetry
  repeat' first
    | (simp only [↓outState_next, ↓outState_ite, ↓held_ite, ↓held_fencedReply, ↓held_lookup, ↓held_State_modSlice, ↓held_retryDone]; done)
    | (simp only [↓outState_next, ↓outState_ite, ↓held_ite, ↓held_fencedReply, ↓held_State_modSlice, ↓held_retryDone, *]; done)
    | (split <;> (try (rename_i heq; have e := held_of_some (held_routeAway ..) heq)))
    | simp only [↓outState_next, ↓outState_ite, ↓held_ite]

theorem held_takeAnswer (s : State) (g : Nat) (sl : Nat) (a : Answer) :
    held (takeAnswer s g sl a) = held s := by
  unfold takeAnswer
  simp only [↓held_State_modSlice]

theorem held_execBirsp (g : Nat) (sl : Nat) (agent : Nat) (key : Nat) (a : SnoopAnswer) (s : State) :
    held (outState (execBirsp g sl agent key a s) s) = held s := by
  unfold execBirsp
  simp only [↓outState_next, ↓outState_ite, ↓held_ite, ↓held_takeAnswer, ↓held_countStray, ↓held_modTxn, ↓held_progress, ↓held_applyFault, ite_self]

theorem held_ackAfter (s : State) (g : Nat) (sl : Nat) (k : Nat) (a : Nat) :
    held ((ackAfter s g sl k a).getD s) = held s := by
  unfold ackAfter
  repeat' first
    | (simp only [↓getD_ite, ↓getD_some', ↓getD_none', ↓held_mk, ↓held_ite, ↓held_modTxn, ite_self]; done)
    | split

theorem held_execBiconflict (g : Nat) (sl : Nat) (agent : Nat) (key : Nat) (s : State) :
    held (outState (execBiconflict g sl agent key s) s) = held s := by
  unfold execBiconflict
  dsimp only
  split
  · rfl
  · split
    · rw [outState_next, held_sendAckMsg, held_countStray, held_takeAnswer]
    · split
      · rename_i heq
        rw [outState_next, held_of_some (held_ackAfter ..) heq, held_takeAnswer]
      · rw [outState_next, held_sendAckMsg, held_takeAnswer]

theorem held_captureAway (s : State) (g : Nat) (sl : Nat) (e : Entry) (t : Txn) (r : SliceReq) :
    held (captureAway s g sl e t r) = held s := by
  unfold captureAway
  dsimp only
  have lost : ∀ u : State, held (sliceReply (lostWrite u (accPkt u g r.key true r.data r.poison false (some r))) g sl r .cmp none false) = held u :=
    fun u => by rw [held_sliceReply, held_lostWrite]
  rcases hx : (if e.stash = true then ((stashOf s g r.key).elim noData (·.data), s) else if r.partWrite = true then freeLine s else (noData, s))
    with ⟨base, s1⟩
  have e1 : held s1 = held s := by
    have h := congrArg (fun p : Bytes × State => held p.2) hx
    simp only [↓snd_ite, ↓held_ite, ↓held_freeLine, ite_self] at h
    exact h.symm
  rcases hy : issueWrite s g sl r.key r.data r.poison (some r) (.owed { r with beforeSnoop := false } false) with ⟨i, s2⟩
  have e2 : held s2 = held s := by
    have h := held_issueWrite s g sl r.key r.data r.poison (some r) (.owed { r with beforeSnoop := false } false)
    rw [hy] at h
    exact h
  dsimp only
  split
  · split
    · exact lost s
    · split
      · rename_i heq
        have e3 := (held_of_some (held_stashPut ..) heq).trans e1
        rw [held_sliceReply]
        split
        · rw [held_modEntry, held_modTxn, e3]
        · rw [held_modTxn, e3]
      · rw [lost, e1]
  · cases i with
    | sent id => rw [held_modTxn, e2]
    | data a b => exact e2
    | failed => rw [lost, e2]

theorem held_captureStash (s : State) (g : Nat) (sl : Nat) (e : Entry) (r : SliceReq) :
    held (captureStash s g sl e r) = held s := by
  unfold captureStash
  dsimp only
  rcases hx : (if e.stash = true then ((stashOf s g r.key).elim noData (·.data), s) else if r.partWrite = true then freeLine s else (noData, s))
    with ⟨base, s1⟩
  have e1 : held s1 = held s := by
    have h := congrArg (fun p : Bytes × State => held p.2) hx
    simp only [↓snd_ite, ↓held_ite, ↓held_freeLine, ite_self] at h
    exact h.symm
  dsimp only
  rw [held_sliceReply]
  split
  · rename_i heq
    rw [held_modEntry, held_of_some (held_stashPut ..) heq, e1]
  · generalize hu : (if r.partWrite = true then s1 else modTxn s1 g sl r.key (fun t => { t with data := some r.data, poison := r.poison })) = u
    have e2 : held u = held s := by
      rw [← hu]
      split
      · exact e1
      · rw [held_modTxn, e1]
    rcases hy : issueWrite u g sl r.key r.data r.poison (some r) .txn with ⟨i, s2⟩
    have e3 : held s2 = held s := by
      have h := held_issueWrite u g sl r.key r.data r.poison (some r) .txn
      rw [hy] at h
      exact h.trans e2
    cases i with
    | sent id => exact (held_modTxn ..).trans e3
    | data a b => exact e3
    | failed => exact (held_lostWrite ..).trans ((held_modTxn ..).trans e3)

theorem held_captureWrite (s : State) (g : Nat) (sl : Nat) (e : Entry) (t : Txn) (r : SliceReq) :
    held (captureWrite s g sl e t r) = held s := by
  unfold captureWrite
  simp only [↓held_ite, ↓held_modTxn, ↓held_captureAway, ↓held_captureStash, ite_self]

theorem held_earlyWrite (s : State) (g : Nat) (sl : Nat) (r : SliceReq) :
    held (earlyWrite s g sl r) = held s := by
  unfold earlyWrite
  repeat' first
    | (simp only [↓held_modEntry, ↓held_freeStash, ↓held_issueWrite, ↓held_modTxn, ↓held_countDropped, ↓held_lostWrite, ↓held_noteReq, ↓held_sliceReply]; done)
    | split
    | simp only []

theorem held_execSnoopPathWrite (g : Nat) (sl : Nat) (s : State) :
    held (outState (execSnoopPathWrite g sl s) s) = held s := by
  unfold execSnoopPathWrite
  repeat' first
    | (simp only [↓outState_next, ↓held_ite, ↓held_captureWrite, ↓held_earlyWrite, ↓held_freeEg, ↓held_State_modSlice, ↓held_progress, ↓held_sliceReply]; done)
    | split
    | simp only [↓outState_next, ↓held_progress]

theorem held_declareLost (s : State) (g : Nat) (sl : Nat) (k : Nat) (n : Snoop) :
    held (declareLost s g sl k n) = held s := by
  unfold declareLost
  simp only [↓held_ite, ↓held_fenceAgent, ↓held_loseSnoop, ↓held_State_modFence, ↓held_progress, ↓held_raiseSlice, ite_self]

theorem held_execSnoopTimerCheck (g : Nat) (sl : Nat) (s : State) :
    held (outState (execSnoopTimerCheck g sl s) s) = held s := by
  unfold execSnoopTimerCheck
  refine held_due _ _ _ ?_
  repeat' first
    | (simp only [↓held_declareLost]; done)
    | split
    | rw [held_forEach]
    | intro _ _

theorem held_execDiscardReport (g : Nat) (sl : Nat) (agent : Nat) (key : Nat) (s : State) :
    held (outState (execDiscardReport g sl agent key s) s) = held s := by
  unfold execDiscardReport
  repeat' first
    | (simp only [↓outState_next, ↓outState_ite, ↓held_mk, ↓held_ite, ↓held_modTxn, ↓held_undoGrant]; done)
    | split
    | simp only [↓outState_next, ↓outState_ite, ↓held_ite]

theorem held_fenceEntry (g : Nat) (a : Nat) (s : State) (h : Nat × Entry) :
    held (fenceEntry g a s h) = held s := by
  unfold fenceEntry
  repeat' first
    | (simp only [↓held_ite, ↓held_modTxn, ↓held_sweepStable, ite_self]; done)
    | split

theorem held_execFenceSweepStep (g : Nat) (sl : Nat) (agent : Nat) (set : Nat) (s : State) :
    held (outState (execFenceSweepStep g sl agent set s) s) = held s := by
  unfold execFenceSweepStep
  repeat' first
    | dsimp only []
    | (with_reducible refine held_due _ _ _ ?_)
    | (simp only [↓held_fenceEntry, ↓held_State_modFence, ↓held_traceDir]; done)
    | split
    | rw [held_forEach]
    | intro _ _
    | simp only [↓held_traceDir]

theorem held_execFenceSweepEnd (agent : Nat) (s : State) :
    held (outState (execFenceSweepEnd agent s) s) = held s := by
  unfold execFenceSweepEnd
  repeat' first
    | dsimp only []
    | (with_reducible refine held_due _ _ _ ?_)
    | split
    | (simp only [↓held_fenceSettle, ↓held_State_modFence, ↓held_raise]; done)

end Sys2Proof.Machine
end

