-- ==== Sys2Proof/Laws/HeldTraffic.lean ====
section
/-!
SUPPORT. What the guards, the requests, the command protocol, the check engines, Echo, the resequencers and the ingress leave alone (`held`).
-/

namespace Sys2Proof.Machine

theorem held_raiseFault (s : State) (b : Nat) (cause : Nat) (rule : Nat) (space : Nat) (sev : Nat) :
    held (raiseFault s b cause rule space sev) = held s := by
  unfold raiseFault
  simp only [↓held_raise]

theorem held_recordRefusal (s : State) (b : Nat) (v : Viol) :
    held (recordRefusal s b v) = held s := by
  unfold recordRefusal
  simp only [↓held_ite, ↓held_countPort, ↓held_State_modGrd, ↓held_pulse, ↓held_raise, ite_self]

theorem held_traceRequest (s : State) (c : Checked) (result : Nat) :
    held (traceRequest s c result) = held s := by
  unfold traceRequest
  simp only [↓held_traceHap]

theorem held_sampleRequest (s : State) (c : Checked) :
    held (sampleRequest s c) = held s := by
  unfold sampleRequest
  repeat' first
    | dsimp only []
    | split
    | (simp only [↓held_mk]; done)

theorem held_ruleFault (s : State) (c : Checked) :
    held (ruleFault s c) = held s := by
  unfold ruleFault
  repeat' first
    | (simp only [↓held_ite, ↓held_raiseFault, ↓held_State_modGrd, ite_self]; done)
    | split

theorem held_guardCheck (s : State) (c : Checked) :
    held (guardCheck s c).1 = held s := by
  unfold guardCheck
  repeat' first
    | (simp only [↓fst_mk, ↓held_ite, ↓held_ruleFault, ↓held_countPort, ↓held_sampleRequest, ↓held_traceRequest, ↓held_noteRun, ↓held_raiseFault, ↓held_State_modGrd, ↓held_recordRefusal, ite_self]; done)
    | split
    | simp only []

theorem held_rewriteGuard (s : State) (b : Nat) :
    held (rewriteGuard s b) = held s := by
  unfold rewriteGuard
  simp only [↓held_mk]

theorem held_copyGuards (s : State) :
    held (copyGuards s) = held s := by
  unfold copyGuards
  simp only [↓held_mk2]

theorem held_execGuardRestoreEnd (port : Nat) (copyOk : Bool) (s : State) :
    held (outState (execGuardRestoreEnd port copyOk s) s) = held s := by
  unfold execGuardRestoreEnd
  simp only [↓outState_next, ↓outState_ite, ↓held_ite, ↓held_raiseFault, ↓held_rewriteGuard, ↓held_State_modGrd, ite_self]

theorem held_toSlice (s : State) (g : Nat) (p : Pkt) (kind : ReqKind) :
    held (toSlice s g p kind) = held s := by
  unfold toSlice
  repeat' first
    | (simp only [↓held_ite, ↓held_countDropped, ↓held_freeEg, ↓held_State_modSlice]; done)
    | split
    | simp only []

theorem held_toAnswers (s : State) (g : Nat) (p : Pkt) :
    held (toAnswers s g p) = held s := by
  unfold toAnswers
  simp only [↓held_ite, ↓held_freeEg, ↓held_State_modSlice, ite_self]

theorem held_acceptMem (s : State) (g : Nat) (p : Pkt) :
    held (acceptMem s g p) = held s := by
  unfold acceptMem
  repeat' first
    | (simp only [↓held_ite, ↓held_arrivePort, ↓held_countDropped, ↓held_freeEg, ↓held_toSlice, ↓held_twinRequest, ite_self]; done)
    | split

theorem held_sendMemNow (s : State) (g : Nat) (p : Pkt) :
    held (sendMemNow s g p) = held s := by
  unfold sendMemNow
  simp only [↓held_ite, ↓held_chargeEg, ↓held_localFlow, ↓held_acceptMem, ↓held_toAnswers, ↓held_enqueueVoq, ite_self]

theorem held_sendMem (s : State) (g : Nat) (p : Pkt) :
    held (sendMem s g p) = held s := by
  unfold sendMem
  simp only [↓held_ite, ↓held_sendMemNow, ↓held_waitOut, ite_self]

theorem held_placePkt (s : State) (g : Nat) (p : Pkt) :
    held (placePkt s g p) = held s := by
  unfold placePkt
  repeat' first
    | (simp only [↓held_ite, ↓held_sendMemNow, ↓held_toLostPort, ↓held_sendNow, ite_self]; done)
    | split

theorem held_retryOut (s : State) (g : Nat) :
    held (retryOut s g) = held s := by
  unfold retryOut
  repeat' first
    | (simp only [↓held_ite, ↓held_placePkt, ↓held_State_modGal, ite_self]; done)
    | split
    | rw [foldl_held]
    | rw [foldl_held1]
    | intro _ _

theorem held_sendReply (s : State) (t : Transport) (eid : Nat) (bytes : Bytes) :
    held (sendReply s t eid bytes) = held s := by
  unfold sendReply
  simp only [↓held_mk]

theorem held_answer (s : State) (op : Nat) (t : Transport) (r : Req) (status : Nat) (payload : Bytes) :
    held (answer s op t r status payload) = held s := by
  unfold answer
  simp only [↓held_sendReply]

theorem held_modSess (s : State) (n : Nat) (f : Sess → Sess) :
    held (modSess s n f) = held s := by
  unfold modSess
  repeat' first
    | (simp only [↓held_State_setSess]; done)
    | split

theorem held_forgetWaits (s : State) (n : Nat) :
    held (forgetWaits s n) = held s := by
  unfold forgetWaits
  repeat' first
    | (simp only [↓held_State_modLane, ↓held_State_modPas]; done)
    | split
    | rw [held_forEach]
    | intro _ _

theorem held_closeSession (s : State) (n : Nat) :
    held (closeSession s n) = held s := by
  unfold closeSession
  simp only [↓held_mk, ↓held_forgetWaits]

theorem held_Res_refuse (s : State) (status : Nat) :
    held (Res.refuse s status).st = held s := by
  unfold Res.refuse
  simp only [↓st_reply]

theorem held_guarded (s : State) (cs : List (Nat × Bool)) (go : Res) (hgo : held go.st = held s) :
    held (guarded s cs go).st = held s := by
  unfold guarded
  split
  · exact hgo
  · rfl

theorem held_finishSession (op : Nat) (t : Transport) (r : Req) (n : Nat) (a0 : Res) :
    held (finishSession op t r n a0) = held (a0).st := by
  unfold finishSession
  repeat' first
    | (simp only [↓st_reply, ↓st_wait, ↓st_opened, ↓held_modSess, ↓held_sendReply]; done)
    | split

theorem held_finishFree (op : Nat) (t : Transport) (r : Req) (a0 : Res) :
    held (finishFree op t r a0) = held (a0).st := by
  unfold finishFree
  repeat' first
    | (simp only [↓st_reply, ↓st_wait, ↓st_opened, ↓held_answer, ↓held_modSess, ↓held_sendReply]; done)
    | split

theorem held_runFree (op : Nat) (t : Transport) (r : Req) (allow : Option Nat → Bool) (body : State → Option Nat → Res) (s : State) (hbody : ∀ (x0 : State) (x1 : Option Nat), held (body x0 x1).st = held x0) :
    held (runFree op t r allow body s) = held s := by
  unfold runFree
  repeat' first
    | (simp only [↓held_ite, ↓held_answer, ↓held_finishFree, ↓hbody, ite_self]; done)
    | split

theorem held_Res_journal (op : Nat) (query : Bool) (p : Bytes) (r : Res) :
    held (Res.journal op query p r).st = held r.st := by
  cases r with
  | reply s st b => simp only [Res.journal, Res.st, ↓held_ite, ↓held_journalled, ite_self]
  | wait s => simp only [Res.journal, Res.st, ↓held_ite, ↓held_journalled, ite_self]
  | opened s n b => rfl

theorem held_runSession (op : Nat) (t : Transport) (r : Req) (allow : Option Nat → Bool) (body : State → Option Nat → Res) (s : State) (hbody : ∀ (x0 : State) (x1 : Option Nat), held (body x0 x1).st = held x0) :
    held (runSession op t r allow body s) = held s := by
  unfold runSession
  repeat' first
    | (simp only [↓st_ite, ↓held_ite, ↓held_answer, ↓held_sendReply, ↓held_modSess, ↓held_finishSession, ↓held_Res_refuse, ↓held_Res_journal, hbody, ite_self]; done)
    | split

theorem held_modRom (s : State) (t : Transport) (f : RomSess → RomSess) :
    held (modRom s t f) = held s := by
  unfold modRom
  simp only [↓held_mk2]

theorem held_finishRom (op : Nat) (t : Transport) (r : Req) (a0 : Res) :
    held (finishRom op t r a0) = held (a0).st := by
  unfold finishRom
  repeat' first
    | (simp only [↓st_reply, ↓st_wait, ↓st_opened, ↓held_modRom, ↓held_sendReply]; done)
    | split

theorem held_runRom (op : Nat) (t : Transport) (r : Req) (body : State → Option Nat → Res) (s : State) (hbody : ∀ (x0 : State) (x1 : Option Nat), held (body x0 x1).st = held x0) :
    held (runRom op t r body s) = held s := by
  unfold runRom
  repeat' first
    | (simp only [↓held_ite, ↓held_answer, ↓held_finishRom, ↓held_Res_refuse, ↓held_sendReply, ↓hbody, ite_self]; done)
    | split
    | simp only [↓held_ite, ↓held_answer]

theorem held_noteLoader (op : Nat) (s : State) :
    held (noteLoader op s) = held s := by
  unfold noteLoader
  simp only [↓held_mk2, ↓held_ite, ite_self]

theorem held_vendor (op : Nat) (t : Transport) (r : Req) (allow : Option Nat → Bool) (body : State → Option Nat → Res) (s : State)
    (hbody : ∀ x0 x1, held (body x0 x1).st = held x0) : held (vendor op t r allow body s) = held s := by
  unfold vendor
  repeat' split
  all_goals first
    | rfl
    | exact held_answer _ _ _ _ _ _
    | exact (held_runRom _ _ _ _ _ hbody).trans (held_noteLoader _ _)
    | exact held_runFree _ _ _ _ _ _ hbody
    | exact held_runSession _ _ _ _ _ _ hbody

theorem held_vendorCmd (op : Nat) (t : Transport) (r : Req) (allow : Option Nat → Bool) (body : State → Option Nat → Res) (s : State)
    (hbody : ∀ x0 x1, held (body x0 x1).st = held x0) : held (outState (vendorCmd op t r allow body s) s) = held s :=
  held_vendor op t r allow body s hbody

theorem held_lateReply (s : State) (n : Nat) (op : Nat) (status : Nat) (payload : Bytes) :
    held (lateReply s n op status payload) = held s := by
  unfold lateReply
  repeat' first
    | (simp only [↓held_sendReply, ↓held_State_setSess]; done)
    | split

theorem held_scanArrive (s : State) (a : Nat) (h : Nat) (i : Nat) (l : ScanLine) :
    held (scanArrive s a h i l) = held s := by
  unfold scanArrive
  simp only [↓held_State_modCtx]

theorem held_issueScan (a : Nat) (h : Nat) (s : State) (i : Nat) :
    held (issueScan a h s i) = held s := by
  unfold issueScan
  repeat' first
    | (simp only [↓held_ite, ↓held_freshAcc, ↓held_genAdd, ↓held_guardCheck, ↓held_State_modCtx, ↓held_scanArrive, ↓held_sendMem, ite_self]; done)
    | split
    | simp only []

theorem held_issueScans (s : State) (a : Nat) (h : Nat) :
    held (issueScans s a h) = held s := by
  unfold issueScans
  repeat' first
    | (simp only [↓held_issueScan]; done)
    | split
    | rw [held_forEach]
    | intro _ _

theorem held_startScan (s : State) (a : Nat) (h : Nat) :
    held (startScan s a h) = held s := by
  unfold startScan
  simp only [↓held_ite, ↓held_issueScans, ↓held_State_modCtx, ite_self]

theorem held_applyWr (s : State) (a : Nat) (h : Nat) (w : SlotWr) :
    held (applyWr s a h w) = held s := by
  unfold applyWr
  repeat' first
    | (simp only [↓held_State_modCtx, ↓held_startScan]; done)
    | split

theorem held_slotWrite (s : State) (a : Nat) (h : Nat) (w : SlotWr) :
    held (slotWrite s a h w) = held s := by
  unfold slotWrite
  simp only [↓held_ite, ↓held_applyWr, ↓held_State_modCtx, ite_self]

theorem held_runWaiting (a h : Nat) (l : List SlotWr) (s : State) : held (runWaiting a h l s) = held s := by
  induction l generalizing s with
  | nil => rfl
  | cons w l ih =>
    unfold runWaiting
    split
    · exact held_State_modCtx _ _ _ _
    · rw [ih, held_applyWr]

theorem held_endScan (s : State) (a : Nat) (h : Nat) (err : Nat) :
    held (endScan s a h err) = held s := by
  unfold endScan
  simp only [↓held_State_modCtx, ↓held_runWaiting]

theorem held_slotOp (s : State) (a : Nat) (h : Nat) (lost : Bool) (w : SlotWr) :
    held (slotOp s a h lost w) = held s := by
  unfold slotOp
  simp only [↓held_slotWrite]

theorem held_execFeed (agent : Nat) (slot : CtxAt) (off : Nat) (bytes : Bytes) (s : State) :
    held (outState (execFeed agent slot off bytes s) s) = held s := by
  unfold execFeed
  simp only [↓outState_next, ↓held_slotOp]

theorem held_execStartOp (agent : Nat) (slot : CtxAt) (s : State) :
    held (outState (execStartOp agent slot s) s) = held s := by
  unfold execStartOp
  simp only [↓outState_next, ↓held_slotOp]

theorem held_execSealOp (agent : Nat) (slot : CtxAt) (short : Bool) (s : State) :
    held (outState (execSealOp agent slot short s) s) = held s := by
  unfold execSealOp
  simp only [↓outState_next, ↓held_slotOp]

theorem held_execVerifyOp (agent : Nat) (slot : CtxAt) (short : Bool) (s : State) :
    held (outState (execVerifyOp agent slot short s) s) = held s := by
  unfold execVerifyOp
  simp only [↓outState_next, ↓held_slotOp]

theorem held_execScanOp (agent : Nat) (slot : Nat) (s : State) :
    held (outState (execScanOp agent slot s) s) = held s := by
  unfold execScanOp
  simp only [↓outState_next, ↓held_slotWrite]

theorem held_feedLine (s : State) (a : Nat) (h : Nat) (i : Nat) (a0 : ScanLine) :
    held (feedLine s a h i a0) = held s := by
  unfold feedLine
  repeat' first
    | (simp only [↓held_ite, ↓held_State_modCtx, ↓held_endScan, ↓held_issueScans, ite_self]; done)
    | split

theorem held_execScanLineArrival (agent : Nat) (slot : CtxAt) (s : State) :
    held (outState (execScanLineArrival agent slot s) s) = held s := by
  unfold execScanLineArrival
  repeat' first
    | (simp only [↓outState_next, ↓outState_ite, ↓held_ite, ↓held_endScan, ↓held_State_modCtx, ↓held_feedLine, ite_self]; done)
    | split
    | simp only []

theorem held_sealEcho (s : State) (a : Nat) (h : Nat) (msg : Bytes) :
    held (sealEcho s a h msg).1 = held s := by
  unfold sealEcho
  simp only [↓fst_mk, ↓held_State_modCtx]

theorem held_echoDrop (s : State) (g : Nat) (cause : Nat) (tx : Option Nat) (rx : Option Nat) :
    held (echoDrop s g cause tx rx) = held s := by
  unfold echoDrop
  repeat' first
    | (simp only [↓held_State_modEndp, ↓held_State_modSvc, ↓held_pulse]; done)
    | split

theorem held_echoArrive (s : State) (g : Nat) (p : Pkt) :
    held (echoArrive s g p) = held s := by
  unfold echoArrive
  simp only [↓held_ite, ↓held_echoDrop, ↓held_freeEg, ↓held_State_modEndp, ↓held_State_modSvc, ite_self]

theorem held_echoSend (s : State) (e : Nat) (dst : Nat) (prio : Nat) (msg : Bytes) :
    held (echoSend s e dst prio msg) = held s := by
  unfold echoSend
  simp only [↓held_ite, ↓held_echoDrop, ↓held_countRefused, ↓held_State_modEndp, ↓held_echoArrive, ↓held_chargeEg, ↓held_localFlow, ↓held_enqueueVoq, ite_self]

theorem held_echoGo (s : State) (m : HeldMsg) :
    held (echoGo s m) = held s := by
  unfold echoGo
  repeat' first
    | (simp only [↓held_ite, ↓held_echoSend, ↓held_echoDrop, ↓held_sealEcho, ite_self]; done)
    | split

theorem held_echoTry (s : State) (g : Nat) (m : HeldMsg) :
    held (echoTry s g m) = held s := by
  unfold echoTry
  simp only [↓held_ite, ↓held_State_modSvc, ↓held_echoGo, ite_self]

theorem held_serveHeld (s : State) (g : Nat) :
    held (serveHeld s g) = held s := by
  unfold serveHeld
  repeat' first
    | (simp only [↓held_State_modSvc, ↓held_echoTry]; done)
    | rw [held_forEach]
    | intro _ _

theorem held_ringDoorbell (s : State) (e : Nat) (w : Nat) :
    held (ringDoorbell s e w) = held s := by
  unfold ringDoorbell
  simp only [↓held_ite, ↓held_echoDrop, ↓held_State_modEndp, ↓held_echoTry, ite_self]

theorem held_execDoorbell (agent : Nat) (ep : Nat) (win : Nat) (usp : Nat) (s : State) :
    held (outState (execDoorbell agent ep win usp s) s) = held s := by
  unfold execDoorbell
  refine held_due _ _ _ ?_
  repeat' first
    | (simp only [↓held_ringDoorbell]; done)

theorem held_sendWrites (s : State) (g : Nat) (u : Unacked) :
    held (sendWrites s g u) = held s := by
  unfold sendWrites
  repeat' first
    | (simp only [↓held_sendToPort]; done)
    | split
    | rw [held_forEach]
    | intro _ _

theorem held_sendMsi (s : State) (g : Nat) (e : Nat) (usp : Nat) :
    held (sendMsi s g e usp) = held s := by
  unfold sendMsi
  simp only [↓held_mk, ↓held_ite, ↓held_sendToPort, ite_self]

theorem held_sendPending (s : State) (a : Nat) (usp : Nat) :
    held (sendPending s a usp) = held s := by
  unfold sendPending
  repeat' first
    | (simp only [↓held_mk, ↓held_ite, ↓held_sendMsi, ite_self]; done)
    | split
    | rw [held_forEach]
    | intro _ _

theorem held_interrupt (s : State) (g : Nat) (e : Nat) (usp : Nat) :
    held (interrupt s g e usp) = held s := by
  unfold interrupt
  simp only [↓held_State_modEndp, ↓held_sendMsi]

theorem held_deliverEcho (s : State) (g : Nat) (e : Nat) (usp : Nat) (mps : Nat) (m : EchoMsg) :
    held (deliverEcho s g e usp mps m) = held s := by
  unfold deliverEcho
  simp only [↓held_ite, ↓held_interrupt, ↓held_State_modEndp, ↓held_State_modSvc, ↓held_sendWrites, ite_self]

theorem held_execEchoDeliveryPick (g : Nat) (ep : Nat) (prio : Nat) (s : State) :
    held (outState (execEchoDeliveryPick g ep prio s) s) = held s := by
  unfold execEchoDeliveryPick
  repeat' first
    | (simp only [↓outState_next, ↓outState_ite, ↓held_ite, ↓held_deliverEcho, ↓held_echoDrop, ↓held_freeEg, ↓held_State_modEndp, ↓held_State_modSvc, ite_self]; done)
    | split
    | simp only []

theorem held_execIntDelayExpiry (agent : Nat) (ep : Nat) (s : State) :
    held (outState (execIntDelayExpiry agent ep s) s) = held s := by
  unfold execIntDelayExpiry
  repeat' first
    | dsimp only []
    | (with_reducible refine held_due _ _ _ ?_)
    | (with_reducible exact held_next _)
    | split
    | (simp only [↓held_interrupt]; done)

theorem held_execRingWriteAck (g : Nat) (s : State) :
    held (outState (execRingWriteAck g s) s) = held s := by
  unfold execRingWriteAck
  refine held_due _ _ _ ?_
  repeat' first
    | (simp only [↓held_State_modSvc]; done)

theorem held_writeLeft (s : State) (b : Nat) (p : Pkt) :
    held (writeLeft s b p) = held s := by
  unfold writeLeft
  simp only [↓held_State_modSvc]

theorem held_resendRing (s : State) (b : Nat) :
    held (resendRing s b) = held s := by
  unfold resendRing
  repeat' first
    | (simp only [↓held_sendWrites, ↓held_State_modEndp, ↓held_State_modSvc, ↓held_echoDrop]; done)
    | split
    | rw [held_forEach]
    | intro _ _

theorem held_stopRings (s : State) (a : Nat) :
    held (stopRings s a) = held s := by
  unfold stopRings
  repeat' first
    | (simp only [↓held_ite, ↓held_State_modEndp, ite_self]; done)
    | split
    | rw [held_forEach]
    | intro _ _

theorem held_execRingRpWrite (agent : Nat) (ep : Nat) (value : Nat) (s : State) :
    held (outState (execRingRpWrite agent ep value s) s) = held s := by
  unfold execRingRpWrite
  refine held_due _ _ _ ?_
  repeat' first
    | (simp only [↓held_State_modEndp]; done)

theorem held_execRingEnWrite (agent : Nat) (ep : Nat) (value : Nat) (s : State) :
    held (outState (execRingEnWrite agent ep value s) s) = held s := by
  unfold execRingEnWrite
  refine held_due _ _ _ ?_
  repeat' first
    | (simp only [↓held_State_modEndp]; done)

theorem held_msixWrite (s : State) (a : Nat) (off : Nat) (size : Nat) (v : Nat) :
    held (msixWrite s a off size v) = held s := by
  unfold msixWrite
  repeat' first
    | (simp only [↓held_mk, ↓held_sendMsi]; done)
    | split
    | simp only []

theorem held_slotBarWrite (s : State) (a : Nat) (off : Nat) (size : Nat) (v : Nat) :
    held (slotBarWrite s a off size v) = held s := by
  unfold slotBarWrite
  repeat' first
    | (simp only [↓held_ite, ↓held_slotWrite, ite_self]; done)
    | split

theorem held_bar0Write (s : State) (a : Nat) (off : Nat) (size : Nat) (v : Nat) :
    held (bar0Write s a off size v) = held s := by
  unfold bar0Write
  simp only [↓held_ite, ↓held_State_modEndp, ↓held_msixWrite, ↓held_ringDoorbell, ↓held_slotBarWrite, ↓held_slotWrite, ite_self]

theorem held_bar2Write (s : State) (a : Nat) (off : Nat) (size : Nat) (v : Nat) :
    held (bar2Write s a off size v) = held s := by
  unfold bar2Write
  repeat' first
    | (simp only [↓held_ite, ↓held_State_modEndp, ite_self]; done)
    | split
    | rw [held_forEach]
    | intro _ _

theorem held_execRegisterWrite (agent : Nat) (bar : Nat) (off : Nat) (size : Nat) (value : Nat) (s : State) :
    held (outState (execRegisterWrite agent bar off size value s) s) = held s := by
  unfold execRegisterWrite
  repeat' first
    | (simp only [↓outState_next, ↓outState_ite, ↓held_ite, ↓held_bar0Write, ↓held_bar2Write]; done)
    | split

theorem held_releaseIo (s : State) (g : Nat) :
    held (releaseIo s g).1 = held s := by
  unfold releaseIo
  simp only [↓fst_mk, ↓held_State_modGal]

theorem held_runFlow (s : State) (g : Nat) (k : Nat) (fl : Flow) (old : Flow) :
    held (runFlow s g k fl old).1 = held s := by
  unfold runFlow
  repeat' first
    | (simp only [↓fst_mk, ↓held_countGal, ↓held_State_modGal, ↓held_releaseIo, ↓held_traceCell]; done)
    | split
    | rw [held_forEach]
    | intro _ _
    | simp only [↓fst_mk, ↓held_State_modGal, ↓held_releaseIo]

theorem held_reseqInsert (s : State) (g : Nat) (c : Cell) :
    held (reseqInsert s g c).1 = held s := by
  unfold reseqInsert
  simp only [↓fst_ite, ↓fst_mk, ↓held_ite, ↓held_countGal, ↓held_runFlow, ite_self]

theorem held_endPacket (s : State) (g : Nat) (p : Pkt) :
    held (endPacket s g p) = held s := by
  unfold endPacket
  simp only [↓held_State_modGal, ↓held_State_modSch]

theorem held_deliver (s : State) (g : Nat) (p : Pkt) :
    held (deliver s g p) = held s := by
  unfold deliver
  repeat' first
    | (simp only [↓held_ite, ↓held_noteStage, ↓held_endPacket, ↓held_acceptMem, ↓held_echoArrive, ↓held_arrivePort, ↓held_toAnswers]; done)
    | split

theorem held_deliverAll (s : State) (g : Nat) (ps : List Pkt) :
    held (deliverAll s g ps) = held s := by
  unfold deliverAll
  repeat' first
    | (simp only [↓held_deliver]; done)
    | split
    | rw [held_forEach]
    | intro _ _

theorem held_admStep (s : State) (g : Nat) (c : Cell) (v : Nat) :
    held (admStep s g c v) = held s := by
  unfold admStep
  simp only [↓held_State_modGal]

theorem held_storeRelay (s : State) (g : Nat) (c : Cell) :
    held (storeRelay s g c) = held s := by
  unfold storeRelay
  simp only [↓held_State_modGal]

theorem held_releaseCell (s : State) (g : Nat) (c : Cell) (v : Nat) :
    held (releaseCell s g c v) = held s := by
  unfold releaseCell
  simp only [↓held_ite, ↓held_admStep, ↓held_chargeEg, ↓held_countRefused, ↓held_deliverAll, ↓held_echoDrop, ↓held_reseqInsert, ite_self]

theorem held_takeRx (s : State) (p : Nat) (cls : Nat) :
    held (takeRx s p cls) = held s := by
  unfold takeRx
  simp only [↓held_State_modPas, ↓held_updateHoldOff]

theorem held_releaseFrom (g p : Nat) (l : List Nat) (s : State) : held (releaseFrom g p l s) = held s := by
  induction l generalizing s with
  | nil => rfl
  | cons c l ih =>
    unfold releaseFrom
    split
    · exact ih s
    · split
      · rw [ih, held_countRefused]
      · rw [held_storeRelay, held_takeRx]
      · exact held_takeRx _ _ _
      · rw [held_releaseCell, held_takeRx]

theorem held_faultHead (s : State) (g : Nat) (p : Nat) (cls : Nat) :
    held (faultHead s g p cls) = held s := by
  unfold faultHead
  repeat' first
    | (simp only [↓held_ite, ↓held_countGal, ↓held_State_modPas, ite_self]; done)
    | split

theorem held_execReceiveBufferRelease (g : Nat) (c : RxRead) (s : State) :
    held (outState (execReceiveBufferRelease g c s) s) = held s := by
  unfold execReceiveBufferRelease
  with_reducible refine held_due _ _ _ ?_
  repeat' first
    | (simp only [↓held_faultHead, ↓held_releaseFrom]; done)
    | split

theorem held_forgetPacket (s : State) (g : Nat) (c : Cell) :
    held (forgetPacket s g c) = held s := by
  unfold forgetPacket
  simp only [↓held_ite, ↓held_freeEg, ↓held_State_modGal, ite_self]

theorem held_skipFlow (s : State) (g : Nat) (k : Nat) :
    held (skipFlow s g k).1 = held s := by
  unfold skipFlow
  simp only [↓fst_mk, ↓held_deliverAll, ↓held_runFlow]

theorem held_execReseqHoleTimeout (g : Nat) (srcGal : Nat) (srcPort : Nat) (cls : Nat) (s : State) :
    held (outState (execReseqHoleTimeout g srcGal srcPort cls s) s) = held s := by
  unfold execReseqHoleTimeout
  repeat' first
    | (simp only [↓outState_next, ↓outState_ite, ↓held_ite, ↓held_echoDrop, ↓held_forgetPacket, ↓held_State_modGal, ↓held_raise, ↓held_skipFlow, ite_self]; done)
    | split
    | rw [held_forEach]
    | intro _ _
    | simp only [↓outState_next, ↓held_echoDrop]

theorem held_execGalleryLostHoleClose (g : Nat) (srcGal : Nat) (srcPort : Nat) (cls : Nat) (s : State) :
    held (outState (execGalleryLostHoleClose g srcGal srcPort cls s) s) = held s := by
  unfold execGalleryLostHoleClose
  dsimp only
  split
  · rfl
  · rw [outState_ite]
    split
    · rfl
    · rw [outState_next, held_forEach _ _ _ fun s e => by rw [held_deliver, held_State_modGal], held_skipFlow]

theorem held_barWrite (s : State) (a : Nat) (bar : Nat) (off : Nat) (data : Bytes) :
    held (barWrite s a bar off data) = held s := by
  unfold barWrite
  simp only [↓held_ite, ↓held_bar0Write, ↓held_bar2Write, ite_self]

theorem held_quietMem (s : State) (g : Nat) (p : Pkt) :
    held (quietMem s g p) = held s := by
  unfold quietMem
  simp only [↓held_ite, ↓held_sampleLost, ↓held_countDropped, ↓held_sendToPort, ite_self]

theorem held_postedLost (s : State) (port : Nat) (p : Pkt) :
    held (postedLost s port p) = held s := by
  unfold postedLost
  simp only [↓held_sampleLost, ↓held_postedFailed, ↓held_aerEach]

theorem held_noTarget (s : State) (g : Nat) (port : Nat) (p : Pkt) :
    held (noTarget s g port p) = held s := by
  unfold noTarget
  simp only [↓held_ite, ↓held_sampleLost, ↓held_quietMem, ↓held_sendToPort, ↓held_postedLost, ↓held_countDropped, ite_self]

theorem held_aerRefused (s : State) (b : Nat) (p : Pkt) :
    held (aerRefused s b p) = held s := by
  unfold aerRefused
  repeat' first
    | (simp only [↓held_aerLog, ↓held_aerEach]; done)
    | split

theorem held_refuseReply (s : State) (g : Nat) (b : Nat) (kind : Nat) (p : Pkt) :
    held (refuseReply s g b kind p) = held s := by
  unfold refuseReply
  repeat' first
    | (simp only [↓held_sendToPort, ↓held_aerRefused, ↓held_replyGone]; done)
    | split

theorem held_launchLong (s : State) (g : Nat) (at_ : Nat) (p : Pkt) :
    held (launchLong s g at_ p) = held s := by
  unfold launchLong
  simp only [↓held_ite, ↓held_State_modPrt, ↓held_chargeEg, ↓held_localFlow, ↓held_arrivePort, ↓held_enqueueCells, ite_self]

theorem held_launchIn (s : State) (g : Nat) (at_ : Nat) (p : Pkt) :
    held (launchIn s g at_ p) = held s := by
  unfold launchIn
  simp only [↓held_ite, ↓held_countGal, ↓held_placePkt, ↓held_launchLong, ite_self]

theorem held_formCell (s : State) (g : Nat) (c : Cell) :
    held (formCell s g c) = held s := by
  unfold formCell
  simp only [↓held_ite, ↓held_State_modGal, ↓held_endPacket, ↓held_arrivePort, ite_self]

theorem held_formCells (s : State) (b : Nat) (all : Bool) :
    held (formCells s b all) = held s := by
  unfold formCells
  repeat' first
    | (simp only [↓held_ite, ↓held_State_modPrt, ↓held_formCell]; done)
    | split
    | rw [held_forEach]
    | intro _ _
    | simp only []

theorem held_cutForming (s : State) (b : Nat) :
    held (cutForming s b) = held s := by
  unfold cutForming
  repeat' first
    | (simp only [↓held_ite, ↓held_countGal, ↓held_State_modPrt, ↓held_State_modGal, ↓held_formCell, ite_self]; done)
    | split

theorem held_admitIn (s : State) (g : Nat) (at_ : Nat) (p : Pkt) :
    held (admitIn s g at_ p) = held s := by
  unfold admitIn
  simp only [↓held_ite, ↓held_launchIn, ↓held_countRefused, ↓held_State_modPrt, ite_self]

theorem held_retryIn (s : State) (b : Nat) :
    held (retryIn s b) = held s := by
  unfold retryIn
  repeat' first
    | (simp only [↓held_ite, ↓held_launchIn, ↓held_State_modPrt, ite_self]; done)
    | split
    | rw [foldl_held]
    | rw [foldl_held1]
    | intro _ _

theorem held_servePorts (s : State) :
    held (servePorts s) = held s := by
  unfold servePorts
  repeat' first
    | (simp only [↓held_retryIn, ↓held_formCells]; done)
    | rw [held_forEach]
    | intro _ _

theorem held_cutIngress (s : State) (b : Nat) :
    held (cutIngress s b) = held s := by
  unfold cutIngress
  repeat' first
    | (simp only [↓held_State_modPrt, ↓held_cutForming, ↓held_replyGone]; done)
    | (simp only [↓held_cutForming, ↓held_replyGone, *]; done)
    | (exact Eq.symm (by assumption))
    | (split <;> (try (rename_i heq; first
          | (have e := congrArg (fun p : State × _ => held p.1) heq; simp only [↓outState_next, ↓outState_due, ↓outState_ite, ↓st_ite, ↓st_reply, ↓st_wait, ↓st_opened, ↓fst_ite, ↓snd_ite, ↓getD_ite, ↓getD_some', ↓getD_none', ↓fst_mk, ↓snd_mk, ↓held_mk, ↓held_mk2, ↓held_ite, ↓held_State_modPrt, ↓held_cutForming, ↓held_replyGone, ite_self] at e)
          | (have e := congrArg (fun p : _ × State => held p.2) heq; simp only [↓outState_next, ↓outState_due, ↓outState_ite, ↓st_ite, ↓st_reply, ↓st_wait, ↓st_opened, ↓fst_ite, ↓snd_ite, ↓getD_ite, ↓getD_some', ↓getD_none', ↓fst_mk, ↓snd_mk, ↓held_mk, ↓held_mk2, ↓held_ite, ↓held_State_modPrt, ↓held_cutForming, ↓held_replyGone, ite_self] at e)
          | (have e := congrArg (fun p : Option State => held (p.getD s)) heq; simp only [↓outState_next, ↓outState_due, ↓outState_ite, ↓st_ite, ↓st_reply, ↓st_wait, ↓st_opened, ↓fst_ite, ↓snd_ite, ↓getD_ite, ↓getD_some', ↓getD_none', ↓fst_mk, ↓snd_mk, ↓held_mk, ↓held_mk2, ↓held_ite, ↓held_State_modPrt, ↓held_cutForming, ↓held_replyGone, ite_self] at e))))
    | rw [held_forEach]
    | intro _ _
    | simp only [↓held_cutForming]

theorem held_takeIn (s : State) (g : Nat) (c : Checked) (p : Pkt) (n : Nat) :
    held (takeIn s g c p n) = held s := by
  unfold takeIn
  simp only [↓fst_ite, ↓fst_mk, ↓held_ite, ↓held_rxMsg, ↓held_genAdd, ↓held_guardCheck, ↓held_refuseReply, ↓held_failPrivate, ↓held_noTarget, ↓held_admitIn, ite_self]

theorem held_ioData (s : State) (g : Nat) (p : Pkt) (data : Bytes) :
    held (ioData s g p data) = held s := by
  unfold ioData
  repeat' first
    | (simp only [↓held_ite, ↓held_genAdd, ↓held_sendToPort, ite_self]; done)
    | split
    | rw [held_forEach]
    | intro _ _

theorem held_badIo (s : State) (g : Nat) (p : Pkt) :
    held (badIo s g p) = held s := by
  unfold badIo
  simp only [↓held_ite, ↓held_sendToPort, ↓held_countDropped, ↓held_replyGone, ↓held_postedLost, ite_self]

theorem held_cfgIn (s : State) (g : Nat) (f : Nat) (live : Bool) (p : Pkt) (q : HostReq) :
    held (cfgIn s g f live p q) = held s := by
  unfold cfgIn
  simp only [↓held_ite, ↓held_badIo, ↓held_cfgRead, ↓held_ioData, ↓held_cfgWrite, ↓held_sendPending, ↓held_sendToPort, ite_self]

theorem held_functionIo (s : State) (g : Nat) (p : Pkt) (program : State → State) (hprogram : ∀ (x0 : State), held (program x0) = held x0) :
    held (functionIo s g p program) = held s := by
  unfold functionIo
  simp only [↓held_ite, ↓held_badIo, ↓held_draw, ↓held_ioData, ↓held_replyGone, hprogram, ite_self]

theorem held_grottoIo (s : State) (g : Nat) (n : Nat) (p : Pkt) (q : HostReq) :
    held (grottoIo s g n p q) = held s := by
  unfold grottoIo
  split
  · split
    · exact held_cfgIn ..
    · exact held_sendToPort ..
  · refine held_functionIo _ _ _ _ fun s => ?_
    split
    · split
      · exact held_setHdm ..
      · rfl
    · rfl

theorem held_toGrotto (s : State) (b : Nat) (a : Nat) (n : Nat) (q : HostReq) :
    held (toGrotto s b a n q) = held s := by
  unfold toGrotto
  repeat' first
    | (simp only [↓fst_ite, ↓fst_mk, ↓held_ite, ↓held_genAdd, ↓held_grottoIo, ↓held_guardCheck, ↓held_quietMem, ↓held_refuseReply, ↓held_rxMsg, ↓held_takeIn, ite_self]; done)
    | (simp only [↓fst_ite, ↓fst_mk, ↓held_ite, ↓held_genAdd, ↓held_grottoIo, ↓held_guardCheck, ↓held_quietMem, ↓held_refuseReply, ↓held_rxMsg, ↓held_takeIn, ite_self, *]; done)
    | (split <;> (try (rename_i heq; (have e := congrArg (fun p : _ × State => held p.2) heq; simp only [↓snd_mk, ↓held_freshAcc] at e))))
    | simp only []

theorem held_toRecalled (s : State) (b : Nat) (a : Nat) (n : Nat) (q : HostReq) :
    held ((toRecalled s b a n q).getD s) = held s := by
  unfold toRecalled
  repeat' first
    | (simp only [↓getD_ite, ↓getD_some', ↓getD_none', ↓held_ite, ↓held_takeIn, ite_self]; done)
    | (simp only [↓getD_ite, ↓getD_some', ↓getD_none', ↓held_ite, ↓held_takeIn, *]; done)
    | (split <;> (try (rename_i heq; (have e := congrArg (fun p : _ × State => held p.2) heq; simp only [↓snd_mk, ↓held_freshAcc] at e))))
    | simp only [↓getD_ite, ↓getD_none', ↓held_ite]

theorem held_toPass (s : State) (b : Nat) (a : Nat) (d : Nat) (q : HostReq) :
    held (toPass s b a d q) = held s := by
  unfold toPass
  simp only [↓held_freshAcc, ↓held_takeIn]

theorem held_plainIn (s : State) (b : Nat) (a : Nat) (q : HostReq) :
    held (plainIn s b a q) = held s := by
  unfold plainIn
  simp only [↓fst_ite, ↓fst_mk, ↓held_ite, ↓held_guardCheck, ↓held_noTarget, ↓held_refuseReply, ↓held_rxMsg, ite_self]

theorem held_answerIn (s : State) (b : Nat) (a : Nat) (q : HostReq) :
    held (answerIn s b a q) = held s := by
  unfold answerIn
  repeat' first
    | (simp only [↓held_rxMsg, ↓held_countLate, ↓held_admitIn]; done)
    | split
    | simp only []

theorem held_bridgeIn (s : State) (b : Nat) (a : Nat) (q : HostReq) :
    held (bridgeIn s b a q) = held s := by
  unfold bridgeIn
  repeat' first
    | (simp only [↓held_rxMsg, ↓held_cfgIn, ↓held_sendToPort]; done)
    | split
    | simp only []

theorem held_serviceIn (s : State) (b : Nat) (a : Nat) (bar : Nat) (off : Nat) (q : HostReq) :
    held (serviceIn s b a bar off q) = held s := by
  unfold serviceIn
  simp only [↓held_ite, ↓held_guardCheck, ↓held_rxMsg, ↓held_refuseReply, ↓held_badIo, ↓held_ioData, ↓held_barWrite, ite_self]

theorem held_uspIn (s : State) (b : Nat) (q : HostReq) :
    held (uspIn s b q) = held s := by
  unfold uspIn
  dsimp only
  generalize (uspAgent s.cfg b).getD noAgent = a
  split
  · exact held_bridgeIn ..
  split
  · exact held_plainIn ..
  split
  · exact held_answerIn ..
  split
  · exact held_serviceIn ..
  split
  · exact held_toPass ..
  split
  · exact held_toGrotto ..
  split
  · rename_i e
    exact held_of_bind (fun n => held_toRecalled ..) e
  · exact held_plainIn ..

theorem held_passIn (s : State) (b : Nat) (q : HostReq) :
    held (passIn s b q) = held s := by
  unfold passIn
  repeat' first
    | (simp only [↓fst_ite, ↓fst_mk, ↓held_ite, ↓held_countLate, ↓held_guardCheck, ↓held_State_modPrt, ↓held_noTarget, ↓held_refuseReply, ↓held_rxMsg, ↓held_takeIn, ite_self]; done)
    | split
    | simp only [↓fst_ite, ↓fst_mk]

theorem held_fptIn (s : State) (b : Nat) (q : HostReq) :
    held (fptIn s b q) = held s := by
  unfold fptIn
  repeat' first
    | (simp only [↓fst_ite, ↓fst_mk, ↓held_ite, ↓held_countLate, ↓held_rxMsg, ↓held_guardCheck, ↓held_noTarget, ↓held_refuseReply, ↓held_quietMem, ↓held_takeIn, ite_self]; done)
    | (simp only [↓fst_ite, ↓fst_mk, ↓held_ite, ↓held_countLate, ↓held_rxMsg, ↓held_guardCheck, ↓held_noTarget, ↓held_refuseReply, ↓held_takeIn, ite_self, *]; done)
    | (exact Eq.symm (by assumption))
    | (split <;> (try (rename_i heq; first
          | (have e := congrArg (fun p : _ × State => held p.2) heq; simp only [↓snd_mk, ↓held_freshAcc] at e)
          | (have e := congrArg (fun p : Option State => held (p.getD s)) heq; simp only [↓outState_next, ↓outState_due, ↓outState_ite, ↓st_ite, ↓st_reply, ↓st_wait, ↓st_opened, ↓fst_ite, ↓snd_ite, ↓getD_ite, ↓getD_some', ↓getD_none', ↓fst_mk, ↓snd_mk, ↓held_mk, ↓held_mk2, ↓held_ite, ↓held_countLate, ↓held_rxMsg, ↓held_guardCheck, ↓held_noTarget, ↓held_refuseReply, ↓held_quietMem, ↓held_freshAcc, ↓held_takeIn, ite_self] at e))))
    | split
    | simp only [↓held_ite, ↓held_countLate, ↓held_rxMsg]

theorem held_devIn (s : State) (b : Nat) (q : HostReq) :
    held (devIn s b q) = held s := by
  unfold devIn
  simp only [↓held_ite, ↓held_countLate, ↓held_rxMsg, ↓held_sendToPort, ite_self]

theorem held_bootIn (s : State) (b : Nat) (q : HostReq) :
    held (bootIn s b q) = held s := by
  unfold bootIn
  dsimp only
  split
  · rw [held_quietMem, held_rxMsg]
  split
  · split
    · rw [held_cfgIn, held_rxMsg]
    · rw [held_sendToPort, held_rxMsg]
  · rw [held_functionIo _ _ _ id fun _ => rfl, held_rxMsg]

theorem held_execIngressDecode (port : Nat) (q : HostReq) (s : State) :
    held (outState (execIngressDecode port q s) s) = held s := by
  unfold execIngressDecode
  repeat' first
    | (simp only [↓outState_next, ↓outState_ite, ↓held_ite, ↓held_formCells, ↓held_uspIn, ↓held_devIn, ↓held_passIn, ↓held_fptIn, ↓held_bootIn, ite_self]; done)
    | split
    | simp only []

end Sys2Proof.Machine
end

