-- ==== Sys2Proof/Laws/HeldLinks.lean ====
section
/-!
SUPPORT. What the slice controls, the twinned copies, the egress, the lanes, the sessions, the ports and the power slots leave alone (`held`).
-/

namespace Sys2Proof.Machine

theorem held_raiseMode (s : State) (g : Nat) (sl : Nat) (entered : Bool) (cause : Nat) :
    held (raiseMode s g sl entered cause) = held s := by
  unfold raiseMode
  simp only [↓held_raiseSlice]

theorem held_raiseSpared (s : State) (g : Nat) (sl : Nat) (old : SliceRole) (new : SliceRole) (logical : Option Nat) (cause : Nat) (other : Option Nat) (passed : Bool) :
    held (raiseSpared s g sl old new logical cause other passed) = held s := by
  unfold raiseSpared
  simp only [↓held_raiseSlice]

theorem held_execPointerStorePass (g : Nat) (sl : Nat) (s : State) :
    held (outState (execPointerStorePass g sl s) s) = held s := by
  unfold execPointerStorePass
  refine held_due _ _ _ ?_
  repeat' first
    | (simp only [↓held_State_modSlice, ↓held_raiseMode]; done)

theorem held_execFullArraySelfTestEnd (g : Nat) (sl : Nat) (pass : Bool) (s : State) :
    held (outState (execFullArraySelfTestEnd g sl pass s) s) = held s := by
  unfold execFullArraySelfTestEnd
  simp only [↓outState_next, ↓outState_ite, ↓held_ite, ↓held_State_modSlice, ↓held_startConv, ↓held_raiseSpared, ↓held_startMigration, ↓held_raiseMode, ite_self]

theorem held_moveToFull (s : State) (g : Nat) (sl : Nat) (n : Nat) :
    held (moveToFull s g sl n) = held s := by
  unfold moveToFull
  repeat' first
    | (simp only [↓held_modSet]; done)
    | split
    | rw [held_forEach]
    | intro _ _

theorem held_moveToPtr (s : State) (g : Nat) (sl : Nat) (n : Nat) :
    held (moveToPtr s g sl n) = held s := by
  unfold moveToPtr
  repeat' first
    | (simp only [↓held_modSet]; done)
    | split
    | rw [held_forEach]
    | intro _ _
    | simp only [↓held_modSet]

theorem held_releaseHeld (s : State) (g : Nat) (sl : Nat) (n : Nat) :
    held (releaseHeld s g sl n) = held s := by
  unfold releaseHeld
  simp only [↓held_State_modSlice]

theorem held_convNext (s : State) (g : Nat) (sl : Nat) (n : Nat) (mode : SliceMode) (ks : List Nat) :
    held (convNext s g sl n mode ks) = held s := by
  unfold convNext
  repeat' first
    | (simp only [↓held_State_modSlice, ↓held_unpin, ↓held_pinMoving, ↓held_releaseHeld]; done)
    | (simp only [↓held_unpin, ↓held_pinMoving, ↓held_releaseHeld, *]; done)
    | (exact Eq.symm (by assumption))
    | (split <;> (try (rename_i heq; first
          | (have e := congrArg (fun p : State × _ => held p.1) heq; simp only [↓outState_next, ↓outState_due, ↓outState_ite, ↓st_ite, ↓st_reply, ↓st_wait, ↓st_opened, ↓fst_ite, ↓snd_ite, ↓getD_ite, ↓getD_some', ↓getD_none', ↓fst_mk, ↓snd_mk, ↓held_mk, ↓held_mk2, ↓held_ite, ↓held_State_modSlice, ↓held_unpin, ↓held_pinMoving, ↓held_releaseHeld, ite_self] at e)
          | (have e := congrArg (fun p : _ × State => held p.2) heq; simp only [↓outState_next, ↓outState_due, ↓outState_ite, ↓st_ite, ↓st_reply, ↓st_wait, ↓st_opened, ↓fst_ite, ↓snd_ite, ↓getD_ite, ↓getD_some', ↓getD_none', ↓fst_mk, ↓snd_mk, ↓held_mk, ↓held_mk2, ↓held_ite, ↓held_State_modSlice, ↓held_unpin, ↓held_pinMoving, ↓held_releaseHeld, ite_self] at e)
          | (have e := congrArg (fun p : Option State => held (p.getD s)) heq; simp only [↓outState_next, ↓outState_due, ↓outState_ite, ↓st_ite, ↓st_reply, ↓st_wait, ↓st_opened, ↓fst_ite, ↓snd_ite, ↓getD_ite, ↓getD_some', ↓getD_none', ↓fst_mk, ↓snd_mk, ↓held_mk, ↓held_mk2, ↓held_ite, ↓held_State_modSlice, ↓held_unpin, ↓held_pinMoving, ↓held_releaseHeld, ite_self] at e))))
    | rw [held_forEach]
    | intro _ _
    | simp only [↓held_pinMoving, ↓held_releaseHeld]

theorem held_execConversionStep (g : Nat) (sl : Nat) (s : State) :
    held (outState (execConversionStep g sl s) s) = held s := by
  unfold execConversionStep
  repeat' first
    | (simp only [↓outState_next, ↓outState_ite, ↓held_ite, ↓held_convNext, ↓held_moveToFull, ↓held_moveToPtr, ↓held_State_modSlice, ↓held_progress, ↓held_startEvict, ite_self]; done)
    | (simp only [↓outState_next, ↓outState_ite, ↓held_ite, ↓held_convNext, ↓held_moveToFull, ↓held_moveToPtr, ↓held_progress, ↓held_startEvict, *]; done)
    | (exact Eq.symm (by assumption))
    | (split <;> (try (rename_i heq; first
          | (have e := congrArg (fun p : State × _ => held p.1) heq; simp only [↓outState_next, ↓outState_due, ↓outState_ite, ↓st_ite, ↓st_reply, ↓st_wait, ↓st_opened, ↓fst_ite, ↓snd_ite, ↓getD_ite, ↓getD_some', ↓getD_none', ↓fst_mk, ↓snd_mk, ↓held_mk, ↓held_mk2, ↓held_ite, ↓held_convNext, ↓held_moveToFull, ↓held_moveToPtr, ↓held_State_modSlice, ↓held_progress, ↓held_startEvict, ite_self] at e)
          | (have e := congrArg (fun p : _ × State => held p.2) heq; simp only [↓outState_next, ↓outState_due, ↓outState_ite, ↓st_ite, ↓st_reply, ↓st_wait, ↓st_opened, ↓fst_ite, ↓snd_ite, ↓getD_ite, ↓getD_some', ↓getD_none', ↓fst_mk, ↓snd_mk, ↓held_mk, ↓held_mk2, ↓held_ite, ↓held_convNext, ↓held_moveToFull, ↓held_moveToPtr, ↓held_State_modSlice, ↓held_progress, ↓held_startEvict, ite_self] at e)
          | (have e := congrArg (fun p : Option State => held (p.getD s)) heq; simp only [↓outState_next, ↓outState_due, ↓outState_ite, ↓st_ite, ↓st_reply, ↓st_wait, ↓st_opened, ↓fst_ite, ↓snd_ite, ↓getD_ite, ↓getD_some', ↓getD_none', ↓fst_mk, ↓snd_mk, ↓held_mk, ↓held_mk2, ↓held_ite, ↓held_convNext, ↓held_moveToFull, ↓held_moveToPtr, ↓held_State_modSlice, ↓held_progress, ↓held_startEvict, ite_self] at e))))
    | split
    | rw [held_forEach]
    | intro _ _
    | simp only [↓outState_next, ↓outState_ite, ↓held_ite, ↓held_convNext, ↓held_moveToPtr]

theorem held_execConversionEnd (g : Nat) (sl : Nat) (s : State) :
    held (outState (execConversionEnd g sl s) s) = held s := by
  unfold execConversionEnd
  repeat' first
    | (simp only [↓outState_next, ↓outState_ite, ↓held_ite, ↓held_enterPointer, ↓held_State_modSlice, ↓held_raiseMode, ite_self]; done)
    | split

theorem held_execMigrationSetCopy (g : Nat) (s : State) :
    held (outState (execMigrationSetCopy g s) s) = held s := by
  unfold execMigrationSetCopy
  repeat' first
    | (simp only [↓outState_next, ↓outState_ite, ↓held_mk, ↓held_ite, ↓held_modEntries, ↓held_modSet, ↓held_State_modSlice, ↓held_unpin, ↓held_pinMoving]; done)
    | (simp only [↓outState_next, ↓outState_ite, ↓held_ite, ↓held_unpin, ↓held_pinMoving, *]; done)
    | (exact Eq.symm (by assumption))
    | (split <;> (try (rename_i heq; first
          | (have e := congrArg (fun p : State × _ => held p.1) heq; simp only [↓outState_next, ↓outState_due, ↓outState_ite, ↓st_ite, ↓st_reply, ↓st_wait, ↓st_opened, ↓fst_ite, ↓snd_ite, ↓getD_ite, ↓getD_some', ↓getD_none', ↓fst_mk, ↓snd_mk, ↓held_mk, ↓held_mk2, ↓held_ite, ↓held_modEntries, ↓held_modSet, ↓held_State_modSlice, ↓held_unpin, ↓held_pinMoving, ite_self] at e)
          | (have e := congrArg (fun p : _ × State => held p.2) heq; simp only [↓outState_next, ↓outState_due, ↓outState_ite, ↓st_ite, ↓st_reply, ↓st_wait, ↓st_opened, ↓fst_ite, ↓snd_ite, ↓getD_ite, ↓getD_some', ↓getD_none', ↓fst_mk, ↓snd_mk, ↓held_mk, ↓held_mk2, ↓held_ite, ↓held_modEntries, ↓held_modSet, ↓held_State_modSlice, ↓held_unpin, ↓held_pinMoving, ite_self] at e)
          | (have e := congrArg (fun p : Option State => held (p.getD s)) heq; simp only [↓outState_next, ↓outState_due, ↓outState_ite, ↓st_ite, ↓st_reply, ↓st_wait, ↓st_opened, ↓fst_ite, ↓snd_ite, ↓getD_ite, ↓getD_some', ↓getD_none', ↓fst_mk, ↓snd_mk, ↓held_mk, ↓held_mk2, ↓held_ite, ↓held_modEntries, ↓held_modSet, ↓held_State_modSlice, ↓held_unpin, ↓held_pinMoving, ite_self] at e))))
    | split
    | rw [held_forEach]
    | intro _ _
    | simp only [↓outState_next, ↓outState_ite, ↓held_ite, ↓held_pinMoving]

theorem held_execMigrationEnd (g : Nat) (s : State) :
    held (outState (execMigrationEnd g s) s) = held s := by
  unfold execMigrationEnd
  repeat' first
    | (simp only [↓outState_next, ↓outState_ite, ↓held_mk, ↓held_ite, ↓held_State_modSlice, ↓held_raiseSpared, ite_self]; done)
    | split

theorem held_execEccIntervalEnd (g : Nat) (sl : Nat) (s : State) :
    held (outState (execEccIntervalEnd g sl s) s) = held s := by
  unfold execEccIntervalEnd
  refine held_due _ _ _ ?_
  repeat' first
    | (simp only [↓held_freshInterval]; done)

theorem held_testResult (s : State) (g : Nat) (sl : Nat) (pass : Bool) (arr : Nat) (addr : Nat) :
    held (testResult s g sl pass arr addr) = held s := by
  unfold testResult
  simp only [↓held_State_modSlice]

theorem held_execSliceTestEnd (g : Nat) (sl : Nat) (pass : Bool) (failArray : Nat) (failAddr : Nat) (s : State) :
    held (outState (execSliceTestEnd g sl pass failArray failAddr s) s) = held s := by
  unfold execSliceTestEnd
  simp only [↓outState_next, ↓outState_ite, ↓held_ite, ↓held_testResult, ↓held_State_modSlice, ↓held_raiseSpared, ↓held_startConv, ite_self]

theorem held_raiseLink (s : State) (b : Nat) (code : Nat) (cause : Nat) (sev : Nat) (lane : Nat) :
    held (raiseLink s b code cause sev lane) = held s := by
  unfold raiseLink
  simp only [↓held_raise]

theorem held_twinReply (s : State) (g : Nat) (t : TwinWr) :
    held (twinReply s g t) = held s := by
  unfold twinReply
  repeat' first
    | (simp only [↓held_ite, ↓held_countDropped, ↓held_finishAccess, ↓held_lostWrite, ↓held_sendToPort, ite_self]; done)
    | split

theorem held_twinCopyDone (s : State) (g : Nat) (tid : Nat) (c : Nat) (good : Bool) :
    held (twinCopyDone s g tid c good) = held s := by
  unfold twinCopyDone
  repeat' first
    | (simp only [↓held_ite, ↓held_modTwins, ↓held_twinReply, ↓held_genSub, ite_self]; done)
    | split

theorem held_privateFail (s : State) (g : Nat) (src : Nat) (p : Pkt) :
    held (privateFail s g src p) = held s := by
  unfold privateFail
  repeat' first
    | (simp only [↓held_ite, ↓held_failPrivate, ↓held_sendToPort, ite_self]; done)
    | split
    | simp only []

theorem held_privateEnd (s : State) (port : Nat) (p : Pkt) (good : Bool) (data : Bytes) (poison : Bool) :
    held (privateEnd s port p good data poison) = held s := by
  unfold privateEnd
  simp only [↓held_ite, ↓held_privateFail, ↓held_sendToPort, ite_self]

theorem held_retryCopy (s : State) (a : DevAcc) :
    held ((retryCopy s a).getD s) = held s := by
  unfold retryCopy
  repeat' first
    | (simp only [↓getD_ite, ↓getD_some', ↓getD_none', ↓held_mk, ↓held_ite, ↓held_sendCopy, ite_self]; done)
    | split

theorem held_sysAccess (s : State) (g : Nat) (port : Nat) (dpa : Nat) (data : Option Bytes) (poison : Bool) (use : AccUse) :
    held (sysAccess s g port dpa data poison use) = held s := by
  unfold sysAccess
  simp only [↓held_freshAcc, ↓held_sendToPort, ↓held_addAcc]

theorem held_copyBlock (s : State) (w : Nat) (e : Nat) :
    held (copyBlock s w e) = held s := by
  unfold copyBlock
  repeat' first
    | (simp only [↓held_sysAccess]; done)
    | rw [held_forEach]
    | intro _ _

theorem held_resyncLine (s : State) (w : Nat) (e : Nat) (off : Nat) (data : Bytes) (poison : Bool) :
    held (resyncLine s w e off data poison) = held s := by
  unfold resyncLine
  simp only [↓held_ite, ↓held_sysAccess, ite_self]

theorem held_sanWrite (s : State) (w : Nat) (e : Nat) (copy : Nat) :
    held (sanWrite s w e copy) = held s := by
  unfold sanWrite
  simp only [↓held_ite, ↓held_sysAccess, ite_self]

theorem held_dropUses (s : State) (f : AccUse → Bool) :
    held (dropUses s f) = held s := by
  unfold dropUses
  repeat' first
    | (simp only [↓held_dropAcc]; done)
    | rw [held_forEach]
    | intro _ _

theorem held_bindFailed (s : State) (n : Nat) :
    held (bindFailed s n) = held s := by
  unfold bindFailed
  repeat' first
    | (simp only [↓held_mk, ↓held_State_modGr, ↓held_State_modWin, ↓held_raise]; done)
    | split
    | rw [held_forEach]
    | intro _ _
    | simp only [↓held_raise]

theorem held_sanitiseEnd (s : State) (w : Nat) (good : Bool) :
    held (sanitiseEnd s w good) = held s := by
  unfold sanitiseEnd
  repeat' first
    | (simp only [↓held_bindFailed, ↓held_bindSettle, ↓held_State_modGr, ↓held_State_modWin]; done)
    | (simp only [*]; done)
    | (split <;> (try (rename_i heq; (have e := congrArg (fun p : _ × State => held p.2) heq; simp only [↓snd_mk, ↓held_draw] at e))))
    | simp only []

theorem held_sanStep (s : State) (w : Nat) (e : Nat) (copy : Nat) (good : Bool) :
    held (sanStep s w e copy good) = held s := by
  unfold sanStep
  simp only [↓held_ite, ↓held_sanWrite, ↓held_State_modWin, ↓held_sanitiseEnd, ite_self]

theorem held_waitFails (s : State) (g : Nat) (p : Pkt) :
    held (waitFails s g p) = held s := by
  unfold waitFails
  repeat' first
    | (simp only [↓held_finishAccess, ↓held_failPrivate]; done)
    | split

theorem held_startWaiting (s : State) (g : Nat) (p : Pkt) :
    held (startWaiting s g p) = held s := by
  unfold startWaiting
  repeat' first
    | (simp only [↓held_mk, ↓held_ite, ↓held_waitFails, ↓held_twinStart, ↓held_sendCopy, ite_self]; done)
    | split
    | simp only []

theorem held_serveTwins (s : State) (g : Nat) :
    held (serveTwins s g) = held s := by
  unfold serveTwins
  repeat' first
    | (simp only [↓held_ite, ↓held_startWaiting, ite_self]; done)
    | split
    | rw [held_forEach]
    | intro _ _

theorem held_serveAllTwins (s : State) :
    held (serveAllTwins s) = held s := by
  unfold serveAllTwins
  repeat' first
    | (simp only [↓held_serveTwins]; done)
    | rw [held_forEach]
    | intro _ _

theorem held_accessEnd (s : State) (a : DevAcc) (good : Bool) (data : Bytes) (poison : Bool) :
    held (accessEnd s a good data poison) = held s := by
  unfold accessEnd
  repeat' first
    | (simp only [↓held_ite, ↓held_serveTwins, ↓held_twinCopyDone, ↓held_dropAcc, ↓held_resyncLine, ↓held_modExt, ↓held_sanStep, ↓held_finishAccess, ite_self]; done)
    | (simp only [*]; done)
    | (exact Eq.symm (by assumption))
    | (split <;> (try (rename_i heq; first
          | (have e := congrArg (fun p : Option State => held (p.getD s)) heq; simp only [↓getD_ite, ↓getD_some', ↓getD_none', ↓held_ite, ↓held_retryCopy, ite_self] at e))))

theorem held_requestEnd (s : State) (port : Nat) (id : Nat) (p : Pkt) (good : Bool) (data : Bytes) (poison : Bool) :
    held (requestEnd s port id p good data poison) = held s := by
  unfold requestEnd
  repeat' first
    | (simp only [↓held_accessEnd, ↓held_privateEnd]; done)
    | split

theorem held_takeOut (s : State) (port : Nat) (id : Nat) :
    held (takeOut s port id) = held s := by
  unfold takeOut
  simp only [↓held_State_modPrt]

theorem held_noteTimeout (s : State) (port : Nat) :
    held (noteTimeout s port) = held s := by
  unfold noteTimeout
  simp only [↓held_ite, ↓held_State_modPrt, ↓held_raiseLink, ite_self]

theorem held_execDevTimeout (port : Nat) (id : Nat) (s : State) :
    held (outState (execDevTimeout port id s) s) = held s := by
  unfold execDevTimeout
  repeat' first
    | (simp only [↓outState_next, ↓outState_due, ↓held_ite, ↓held_takeOut, ↓held_loseDevice, ↓held_noteTimeout, ↓held_bindAll, ↓held_serveAllTwins, ↓held_requestEnd, ite_self]; done)
    | split

theorem held_passReply (s : State) (port : Nat) (p : Pkt) (c : Cmp) (data : Bytes) (poison : Bool) :
    held (passReply s port p c data poison) = held s := by
  unfold passReply
  simp only [↓held_sendToPort]

theorem held_execDeviceReply (port : Nat) (id : Nat) (c : Cmp) (d : ReplyData) (s : State) :
    held (outState (execDeviceReply port id c d s) s) = held s := by
  unfold execDeviceReply
  repeat' first
    | (simp only [↓outState_next, ↓outState_ite, ↓held_ite, ↓held_rxMsg, ↓held_countLate, ↓held_takeOut, ↓held_notePkt, ↓held_passReply, ↓held_State_modPrt, ↓held_writePinned, ↓held_bindAll, ↓held_requestEnd, ite_self]; done)
    | split
    | simp only []

theorem held_completeAccess (s : State) (a : DevAcc) (ok : Bool) (data : Bytes) (poison : Bool) :
    held (outState (completeAccess s a ok data poison) s) = held s := by
  unfold completeAccess
  repeat' first
    | (simp only [↓outState_next, ↓outState_due, ↓outState_ite, ↓held_ite, ↓held_bindAll, ↓held_accessEnd, ↓held_takeOut, ↓held_serveAllTwins, ↓held_loseDevice, ↓held_noteTimeout, ite_self]; done)
    | split

theorem held_execDeviceAccessComplete (id : Nat) (ok : Bool) (data : Bytes) (poison : Bool) (s : State) :
    held (outState (execDeviceAccessComplete id ok data poison s) s) = held s := by
  unfold execDeviceAccessComplete
  repeat' first
    | (simp only [↓outState_next, ↓held_completeAccess]; done)
    | split

theorem held_execTwinWriteComplete (g : Nat) (id : Nat) (copy : Nat) (ok : Bool) (s : State) :
    held (outState (execTwinWriteComplete g id copy ok s) s) = held s := by
  unfold execTwinWriteComplete
  repeat' first
    | (simp only [↓outState_next, ↓held_completeAccess]; done)
    | split

theorem held_execResyncBlock (win : Nat) (ext : Nat) (s : State) :
    held (outState (execResyncBlock win ext s) s) = held s := by
  unfold execResyncBlock
  simp only [↓outState_due, ↓held_ite, ↓held_modExt, ↓held_State_modWin, ↓held_serveAllTwins, ↓held_copyBlock, ite_self]

theorem held_execResyncEnd (win : Nat) (ext : Nat) (s : State) :
    held (outState (execResyncEnd win ext s) s) = held s := by
  unfold execResyncEnd
  simp only [↓outState_due, ↓held_ite, ↓held_modExt, ↓held_State_modWin, ↓held_serveAllTwins, ↓held_resyncOver, ite_self]

theorem held_execSanitizeEnd (win : Nat) (ok : Bool) (s : State) :
    held (outState (execSanitizeEnd win ok s) s) = held s := by
  unfold execSanitizeEnd
  simp only [↓outState_due, ↓held_ite, ↓held_sanitiseEnd, ite_self]

theorem held_failSanitises (s : State) (port : Nat) :
    held (failSanitises s port) = held s := by
  unfold failSanitises
  repeat' first
    | (simp only [↓held_ite, ↓held_sanitiseEnd, ite_self]; done)
    | split
    | rw [held_forEach]
    | intro _ _

theorem held_removeOrphan (g : Nat) (sl : Nat) (s : State) (l : StashLine) :
    held (removeOrphan g sl s l) = held s := by
  unfold removeOrphan
  simp only [↓held_ite, ↓held_freeStash, ↓held_lostWrite, ↓held_stashOut, ite_self]

theorem held_execWindowSweepStep (win : Nat) (g : Nat) (sl : Nat) (set : Nat) (s : State) :
    held (outState (execWindowSweepStep win g sl set s) s) = held s := by
  unfold execWindowSweepStep
  repeat' first
    | dsimp only []
    | (with_reducible refine held_due _ _ _ ?_)
    | (with_reducible exact held_next _)
    | split
    | (simp only [↓held_mk, ↓held_progress, ↓held_removeOrphan, ↓held_startEvict]; done)
    | split
    | rw [held_forEach]
    | intro _ _

theorem held_endBlind (s : State) (g : Nat) :
    held (endBlind s g) = held s := by
  unfold endBlind
  simp only [↓held_mk, ↓held_ite, ite_self]

theorem held_execWindowRemoveSweepEnd (win : Nat) (s : State) :
    held (outState (execWindowRemoveSweepEnd win s) s) = held s := by
  unfold execWindowRemoveSweepEnd
  repeat' first
    | dsimp only []
    | (with_reducible refine held_due _ _ _ ?_)
    | (with_reducible exact held_next _)
    | split
    | (simp only [↓held_mk, ↓held_endBlind]; done)
    | split
    | rw [held_forEach]
    | intro _ _

theorem held_reportGrant (s : State) (p : Pkt) :
    held (reportGrant s p) = held s := by
  unfold reportGrant
  simp only [↓held_mk, ↓held_ite, ite_self]

theorem held_freePkt (s : State) (b : Nat) (p : Pkt) :
    held (freePkt s b p) = held s := by
  unfold freePkt
  simp only [↓held_freeEg]

theorem held_dropLate (s : State) (b : Nat) (p : Pkt) :
    held (dropLate s b p) = held s := by
  unfold dropLate
  simp only [↓held_countGal, ↓held_freePkt, ↓held_State_modGr, ↓held_replyGone, ↓held_reportGrant]

theorem held_enqueuePkt (s : State) (b : Nat) (p : Pkt) :
    held (enqueuePkt s b p) = held s := by
  unfold enqueuePkt
  simp only [↓held_ite, ↓held_State_modSch, ite_self]

theorem held_startExit (s : State) (b : Nat) :
    held (startExit s b) = held s := by
  unfold startExit
  repeat' first
    | (simp only [↓held_State_modPrt]; done)
    | split

theorem held_egPop (s : State) (b : Nat) :
    held (egPop s b) = held s := by
  unfold egPop
  simp only [↓held_State_modGal]

theorem held_noteEmpty (old : State) (s : State) (b : Nat) :
    held (noteEmpty old s b) = held s := by
  unfold noteEmpty
  simp only [↓held_ite, ↓held_State_modPrt, ite_self]

theorem held_execEgressEnqueue (port : Nat) (s : State) :
    held (outState (execEgressEnqueue port s) s) = held s := by
  unfold execEgressEnqueue
  repeat' first
    | (simp only [↓outState_next, ↓outState_ite, ↓held_ite, ↓held_dropLate, ↓held_egPop, ↓held_enqueuePkt, ↓held_noteEmpty, ↓held_startExit, ite_self]; done)
    | split

theorem held_judgeStall (b : Nat) (s : State) (q : Nat) :
    held (judgeStall b s q) = held s := by
  unfold judgeStall
  repeat' first
    | (simp only [↓held_ite, ↓held_raiseLink, ↓held_State_modSch, ite_self]; done)
    | split
    | simp only []

theorem held_watchStall (b : Nat) (fails : Nat → Bool) (s : State) (q : Nat) :
    held (watchStall b fails s q) = held s := by
  unfold watchStall
  simp only [↓held_ite, ↓held_State_modSch, ↓held_judgeStall, ite_self]

theorem held_watchStalls (s : State) (b : Nat) (i : PickIn) :
    held (watchStalls s b i) = held s := by
  unfold watchStalls
  repeat' first
    | (simp only [↓held_watchStall]; done)
    | split
    | rw [held_forEach]
    | intro _ _

theorem held_dropBad (s : State) (b : Nat) (p : Pkt) :
    held (dropBad s b p) = held s := by
  unfold dropBad
  repeat' first
    | (simp only [↓held_postedLost, ↓held_writeLeft, ↓held_sendToPort, ↓held_countDropped, ↓held_replyGone, ↓held_reportGrant]; done)
    | split

theorem held_countSent (s : State) (b : Nat) (flits : Nat) (p : Pkt) (whole : Bool) :
    held (countSent s b flits p whole) = held s := by
  unfold countSent
  simp only [↓held_ite, ↓held_countPort, ↓held_pulse, ↓held_traceHeader, ite_self]

theorem held_noteOut (s : State) (b : Nat) (p : Pkt) :
    held (noteOut s b p) = held s := by
  unfold noteOut
  simp only [↓held_ite, ↓held_State_modPrt, ite_self]

theorem held_leavePkt (s : State) (b : Nat) (e : Sending) (during : Bool) :
    held (leavePkt s b e during) = held s := by
  unfold leavePkt
  simp only [↓held_ite, ↓held_freePkt, ↓held_dropBad, ↓held_countSent, ↓held_noteLeave, ↓held_toPort, ↓held_noteOut, ↓held_replyGone, ↓held_writeLeft, ite_self]

theorem held_sendPkt (s : State) (b : Nat) (n : Nat) (i : PickIn) (p : Pkt) :
    held (sendPkt s b n i p) = held s := by
  unfold sendPkt
  simp only [↓held_ite, ↓held_State_modSch, ↓held_leavePkt, ite_self]

theorem held_settleSent (s : State) (b : Nat) :
    held (settleSent s b) = held s := by
  unfold settleSent
  repeat' first
    | (simp only [↓held_ite, ↓held_State_modSch, ↓held_leavePkt]; done)
    | split
    | rw [held_forEach]
    | intro _ _
    | simp only []

theorem held_startFair (s : State) (b : Nat) (i : PickIn) (q : Nat) (k : Nat) (p : FairPkt) :
    held (startFair s b i q k p) = held s := by
  unfold startFair
  simp only [↓held_State_modSch, ↓held_sendPkt]

theorem held_startStrict (s : State) (b : Nat) (i : PickIn) (p : Pkt) :
    held (startStrict s b i p) = held s := by
  unfold startStrict
  simp only [↓held_State_modSch, ↓held_sendPkt]

theorem held_pickAt (s : State) (b : Nat) (i : PickIn) :
    held (pickAt s b i) = held s := by
  unfold pickAt
  repeat' first
    | (simp only [↓held_ite, ↓held_State_modSch, ↓held_sendPkt, ↓held_startFair, ↓held_startStrict, ite_self]; done)
    | split

theorem held_settleSched (s : State) (b : Nat) :
    held (settleSched s b) = held s := by
  unfold settleSched
  simp only [↓held_State_modSch]

theorem held_execEgressPick (port : Nat) (i : PickIn) (s : State) :
    held (outState (execEgressPick port i s) s) = held s := by
  unfold execEgressPick
  simp only [↓outState_next, ↓outState_ite, ↓held_ite, ↓held_watchStalls, ↓held_settleSched, ↓held_settleSent, ↓held_bindAll, ↓held_noteEmpty, ↓held_pickAt, ite_self]

theorem held_execGateEntryChange (port : Nat) (s : State) :
    held (outState (execGateEntryChange port s) s) = held s := by
  unfold execGateEntryChange
  with_reducible refine held_due _ _ _ ?_
  repeat' first
    | (simp only [↓held_ite, ↓held_settleSched, ↓held_judgeStall]; done)
    | split
    | rw [held_forEach]
    | intro _ _
    | simp only []

theorem held_drawFloats (s : State) (lo : Nat) (hi : Nat) :
    held (drawFloats s lo hi).2 = held s := by
  unfold drawFloats
  simp only [↓snd_mk, ↓held_draw]

theorem held_equalise (s : State) (b : Nat) (lane : Nat) (rate : Nat) :
    held (equalise s b lane rate) = held s := by
  unfold equalise
  simp only [↓held_drawFloats, ↓held_State_modLane]

theorem held_leaveLanes (s : State) (b : Nat) (ks : List Nat) :
    held (leaveLanes s b ks) = held s := by
  unfold leaveLanes
  repeat' first
    | (simp only [↓held_State_modLane]; done)
    | rw [held_forEach]
    | intro _ _

theorem held_leaveL0 (s : State) (b : Nat) :
    held (leaveL0 s b) = held s := by
  unfold leaveL0
  simp only [↓held_leaveLanes]

theorem held_resumeLanes (s : State) (b : Nat) (ks : List Nat) :
    held (resumeLanes s b ks) = held s := by
  unfold resumeLanes
  repeat' first
    | (simp only [↓held_State_modLane]; done)
    | rw [held_forEach]
    | intro _ _

theorem held_replaceFloats (s : State) (b : Nat) :
    held (replaceFloats s b) = held s := by
  unfold replaceFloats
  repeat' first
    | (simp only [↓held_drawFloats, ↓held_State_modLane]; done)
    | split
    | rw [held_forEach]
    | intro _ _

theorem held_measureSkew (s : State) (b : Nat) :
    held (measureSkew s b) = held s := by
  unfold measureSkew
  repeat' first
    | (simp only [↓held_draw, ↓held_State_modLane]; done)
    | split
    | rw [held_forEach]
    | intro _ _

theorem held_returnRefs (s : State) (b : Nat) :
    held (returnRefs s b) = held s := by
  unfold returnRefs
  repeat' first
    | (simp only [↓held_State_modLane]; done)
    | split
    | rw [held_forEach]
    | intro _ _

theorem held_setLink (s : State) (b : Nat) (l : LinkSt) :
    held (setLink s b l) = held s := by
  unfold setLink
  simp only [↓held_ite, ↓held_State_modSch, ↓held_State_modPrt, ite_self]

theorem held_enterLow (s : State) (b : Nat) (l : LinkSt) :
    held (enterLow s b l) = held s := by
  unfold enterLow
  simp only [↓held_ite, ↓held_leaveL0, ↓held_State_modPrt, ↓held_returnRefs, ↓held_setLink, ite_self]

theorem held_narrowLink (s : State) (b : Nat) :
    held (narrowLink s b) = held s := by
  unfold narrowLink
  simp only [↓held_setLink, ↓held_leaveLanes, ↓held_State_modPrt]

theorem held_reachL0 (s : State) (b : Nat) (ks : List Nat) :
    held (reachL0 s b ks) = held s := by
  unfold reachL0
  simp only [↓held_ite, ↓held_resumeLanes, ↓held_replaceFloats, ↓held_setLink, ↓held_State_modPrt, ite_self]

theorem held_execIdleTimerExpiry (port : Nat) (target : Nat) (s : State) :
    held (outState (execIdleTimerExpiry port target s) s) = held s := by
  unfold execIdleTimerExpiry
  repeat' first
    | dsimp only []
    | (with_reducible refine held_due _ _ _ ?_)
    | (with_reducible exact held_next _)
    | split
    | (simp only [↓held_enterLow]; done)

theorem held_execAdaptationUpdate (lane : Nat) (dirs : List Int) (ctleDir : Int) (s : State) :
    held (outState (execAdaptationUpdate lane dirs ctleDir s) s) = held s := by
  unfold execAdaptationUpdate
  repeat' first
    | dsimp only []
    | (with_reducible refine held_due _ _ _ ?_)
    | split
    | (simp only [↓held_State_modLane]; done)

theorem held_execTapPinned (lane : Nat) (tap : Nat) (s : State) :
    held (outState (execTapPinned lane tap s) s) = held s := by
  unfold execTapPinned
  dsimp only
  split
  · rfl
  · rw [outState_due]
    split
    · rw [held_raiseLink, held_State_modLane]
    · rfl

theorem held_eqLoadBody (p : Bytes) (s : State) :
    held (eqLoadBody p s).st = held s := by
  unfold eqLoadBody
  repeat' first
    | (simp only [↓st_reply, ↓held_mk]; done)
    | (with_reducible refine held_guarded _ _ _ ?_)

theorem held_execLaneEqTableLoad (t : Transport) (r : Req) (s : State) :
    held (outState (execLaneEqTableLoad t r s) s) = held s := by
  unfold execLaneEqTableLoad
  repeat' first
    | (simp only [↓held_eqLoadBody]; done)
    | (with_reducible refine held_vendorCmd _ _ _ _ _ _ fun _ _ => ?_)

theorem held_marginReply (s : State) (lane : Nat) (action : Nat) (result : Nat) (bits : Nat) (errors : Nat) :
    held (marginReply s lane action result bits errors).1 = held s := by
  unfold marginReply
  simp only [↓fst_mk, ↓held_ite, ↓held_draw, ite_self]

theorem held_marginBody (p : Bytes) (n : Option Nat) (s : State) :
    held (marginBody p n s).st = held s := by
  unfold marginBody
  simp only [↓st_ite, ↓st_reply, ↓st_wait, ↓held_ite, ↓held_guarded, ↓held_marginReply, ↓held_State_modLane, ite_self]

theorem held_execLaneMargin (t : Transport) (r : Req) (s : State) :
    held (outState (execLaneMargin t r s) s) = held s := by
  unfold execLaneMargin
  repeat' first
    | (simp only [↓held_marginBody]; done)
    | (with_reducible refine held_vendorCmd _ _ _ _ _ _ fun _ _ => ?_)

theorem held_clearMargin (s : State) (lane : Nat) :
    held (clearMargin s lane) = held s := by
  unfold clearMargin
  simp only [↓held_State_modLane]

theorem held_execMarginMeasurementEnd (lane : Nat) (bits : Nat) (errors : Nat) (s : State) :
    held (outState (execMarginMeasurementEnd lane bits errors s) s) = held s := by
  unfold execMarginMeasurementEnd
  repeat' first
    | (simp only [↓outState_next, ↓outState_ite, ↓held_ite, ↓held_clearMargin, ↓held_lateReply, ↓held_marginReply]; done)
    | split

theorem held_execPartnerMarginRequest (q : MarginAsk) (s : State) :
    held (outState (execPartnerMarginRequest q s) s) = held s := by
  unfold execPartnerMarginRequest
  simp only [↓outState_due, ↓held_mk, ↓held_ite, ↓held_State_modLane, ite_self]

theorem held_closeMailbox (s : State) (a : Nat) :
    held (closeMailbox s a) = held s := by
  unfold closeMailbox
  repeat' first
    | (simp only [↓held_closeSession]; done)
    | split
    | rw [held_forEach]
    | intro _ _

theorem held_openBody (t : Transport) (r : Req) (s : State) (n : Option Nat) :
    held (openBody t r s n).st = held s := by
  unfold openBody
  repeat' first
    | (simp only [↓st_reply, ↓st_opened, ↓held_mk, ↓held_closeMailbox, ↓held_Res_refuse, ↓held_State_setSess]; done)
    | (with_reducible refine held_guarded _ _ _ ?_)
    | split

theorem held_execSessionOpen (t : Transport) (r : Req) (s : State) :
    held (outState (execSessionOpen t r s) s) = held s := by
  unfold execSessionOpen
  repeat' first
    | (simp only [↓held_openBody]; done)
    | (with_reducible refine held_vendorCmd _ _ _ _ _ _ fun _ _ => ?_)

theorem held_execSessionClose (t : Transport) (r : Req) (s : State) :
    held (outState (execSessionClose t r s) s) = held s := by
  unfold execSessionClose
  repeat' first
    | (simp only [↓st_reply, ↓held_closeSession]; done)
    | (with_reducible refine held_guarded _ _ _ ?_)
    | (with_reducible refine held_vendorCmd _ _ _ _ _ _ fun _ _ => ?_)
    | split

theorem held_execGetEpoch (t : Transport) (r : Req) (s : State) :
    held (outState (execGetEpoch t r s) s) = held s := by
  unfold execGetEpoch
  repeat' first
    | (simp only [↓st_reply]; done)
    | (with_reducible refine held_guarded _ _ _ ?_)
    | (with_reducible refine held_vendorCmd _ _ _ _ _ _ fun _ _ => ?_)

theorem held_execStageBegin (t : Transport) (r : Req) (s : State) :
    held (outState (execStageBegin t r s) s) = held s := by
  unfold execStageBegin
  repeat' first
    | (simp only [↓st_reply, ↓held_guarded, ↓held_State_setStage]; done)
    | (with_reducible refine held_vendorCmd _ _ _ _ _ _ fun _ _ => ?_)

theorem held_execStageAbort (t : Transport) (r : Req) (s : State) :
    held (outState (execStageAbort t r s) s) = held s := by
  unfold execStageAbort
  repeat' first
    | (simp only [↓st_reply, ↓held_guarded, ↓held_State_setStage]; done)
    | (with_reducible refine held_vendorCmd _ _ _ _ _ _ fun _ _ => ?_)

theorem held_execSessionIdleTimeout (n : Nat) (s : State) :
    held (outState (execSessionIdleTimeout n s) s) = held s := by
  unfold execSessionIdleTimeout
  repeat' first
    | (with_reducible refine held_due _ _ _ ?_)
    | (with_reducible exact held_next _)
    | split
    | (simp only [↓held_closeSession]; done)

theorem held_execUndefinedOpcodeRequest (t : Transport) (op : Nat) (r : Req) (s : State) :
    held (outState (execUndefinedOpcodeRequest t op r s) s) = held s := by
  unfold execUndefinedOpcodeRequest
  refine held_due _ _ _ ?_
  repeat' first
    | (simp only [↓held_Res_refuse]; done)
    | (with_reducible refine held_vendor _ _ _ _ _ _ fun _ _ => ?_)

theorem held_redirect (s : State) (b : Nat) (a : Nat) (p : Pkt) : held ((redirect s b a p).getD s) = held s :=
  held_map fun _ => held_sendToPort ..

theorem held_lostForHost (s : State) (p : Pkt) :
    held (lostForHost s p) = held s := by
  unfold lostForHost
  simp only [↓held_ite, ↓held_replyGone, ↓held_reportGrant, ite_self]

theorem held_atDownUsp (s : State) (b : Nat) (p : Pkt) : held (atDownUsp s b p) = held s := by
  unfold atDownUsp
  dsimp only
  generalize (match uspAgent s.cfg b with | some a => a | none => p.agent) = a
  split
  · rw [held_replyGone, held_countDropped, held_freePkt]
  · exact held_freePkt ..
  · rw [held_getD2 (held_redirect ..) (held_lostForHost ..), held_freePkt]

theorem held_atDownDsp (s : State) (b : Nat) (p : Pkt) :
    held (atDownDsp s b p) = held s := by
  unfold atDownDsp
  repeat' first
    | (simp only [↓held_ite, ↓held_freePkt, ↓held_sendToPort, ↓held_postedLost, ↓held_requestEnd, ↓held_countDropped, ite_self]; done)
    | split

theorem held_atDownFpt (s : State) (b : Nat) (p : Pkt) :
    held (atDownFpt s b p) = held s := by
  unfold atDownFpt
  repeat' first
    | (simp only [↓held_ite, ↓held_freePkt, ↓held_replyGone, ↓held_sendToPort, ↓held_requestEnd, ↓held_postedLost]; done)
    | split
    | simp only []

theorem held_atDownPort (s : State) (b : Nat) (p : Pkt) :
    held (atDownPort s b p) = held s := by
  unfold atDownPort
  repeat' first
    | (simp only [↓held_ite, ↓held_dropLate, ↓held_atDownUsp, ↓held_atDownDsp, ↓held_atDownFpt, ↓held_freePkt, ↓held_replyGone, ite_self]; done)
    | split

theorem held_execPacketAtDownPort (port : Nat) (s : State) :
    held (outState (execPacketAtDownPort port s) s) = held s := by
  unfold execPacketAtDownPort
  repeat' first
    | (simp only [↓outState_next, ↓outState_due, ↓held_ite, ↓held_bindAll, ↓held_atDownPort, ↓held_egPop, ite_self]; done)
    | split

theorem held_flushPort (s : State) (b : Nat) :
    held (flushPort s b) = held s := by
  unfold flushPort
  repeat' first
    | (simp only [↓held_atDownPort, ↓held_State_modGal, ↓held_State_modSch]; done)
    | split
    | rw [held_forEach]
    | intro _ _

theorem held_dspDown (s : State) (b : Nat) :
    held (dspDown s b) = held s := by
  unfold dspDown
  repeat' first
    | (simp only [↓held_ite, ↓held_State_modPrt, ↓held_failSanitises, ↓held_loseDevice, ↓held_serveAllTwins, ↓held_requestEnd]; done)
    | (simp only [↓held_ite, ↓held_State_modPrt, ↓held_serveAllTwins, ↓held_requestEnd, *]; done)
    | (exact Eq.symm (by assumption))
    | (split <;> (try (rename_i heq; first
          | (have e := congrArg (fun p : State × _ => held p.1) heq; simp only [↓outState_next, ↓outState_due, ↓outState_ite, ↓st_ite, ↓st_reply, ↓st_wait, ↓st_opened, ↓fst_ite, ↓snd_ite, ↓getD_ite, ↓getD_some', ↓getD_none', ↓fst_mk, ↓snd_mk, ↓held_mk, ↓held_mk2, ↓held_ite, ↓held_State_modPrt, ↓held_failSanitises, ↓held_loseDevice, ↓held_serveAllTwins, ↓held_requestEnd, ite_self] at e)
          | (have e := congrArg (fun p : _ × State => held p.2) heq; simp only [↓outState_next, ↓outState_due, ↓outState_ite, ↓st_ite, ↓st_reply, ↓st_wait, ↓st_opened, ↓fst_ite, ↓snd_ite, ↓getD_ite, ↓getD_some', ↓getD_none', ↓fst_mk, ↓snd_mk, ↓held_mk, ↓held_mk2, ↓held_ite, ↓held_State_modPrt, ↓held_failSanitises, ↓held_loseDevice, ↓held_serveAllTwins, ↓held_requestEnd, ite_self] at e)
          | (have e := congrArg (fun p : Option State => held (p.getD s)) heq; simp only [↓outState_next, ↓outState_due, ↓outState_ite, ↓st_ite, ↓st_reply, ↓st_wait, ↓st_opened, ↓fst_ite, ↓snd_ite, ↓getD_ite, ↓getD_some', ↓getD_none', ↓fst_mk, ↓snd_mk, ↓held_mk, ↓held_mk2, ↓held_ite, ↓held_State_modPrt, ↓held_failSanitises, ↓held_loseDevice, ↓held_serveAllTwins, ↓held_requestEnd, ite_self] at e))))
    | split
    | rw [held_forEach]
    | intro _ _
    | simp only [↓held_ite, ↓held_State_modPrt, ↓held_serveAllTwins]

theorem held_uspDown (s : State) (b : Nat) :
    held (uspDown s b) = held s := by
  unfold uspDown
  dsimp only
  split
  · exact held_resendRing ..
  · split
    · exact held_resendRing ..
    · rw [held_closeMailbox, held_stopRings, held_fenceAgent, held_resendRing]

theorem held_unpinTaps (s : State) (b : Nat) :
    held (unpinTaps s b) = held s := by
  unfold unpinTaps
  repeat' first
    | (simp only [↓held_State_modLane]; done)
    | rw [held_forEach]
    | intro _ _

theorem held_takeDown (s : State) (b : Nat) (cause : Nat) (l : LinkSt) :
    held (takeDown s b cause l) = held s := by
  unfold takeDown
  repeat' first
    | (simp only [↓held_ite, ↓held_unpinTaps, ↓held_leaveL0, ↓held_cutIngress, ↓held_settleSent, ↓held_setLink, ↓held_State_modPrt, ↓held_raiseLink, ↓held_uspDown, ↓held_resetFns, ↓held_dspDown, ↓held_bindAll, ↓held_flushPort, ite_self]; done)
    | split
    | simp only []

theorem held_execLinkDown (port : Nat) (cause : Nat) (s : State) :
    held (outState (execLinkDown port cause s) s) = held s := by
  unfold execLinkDown
  refine held_due _ _ _ ?_
  repeat' first
    | split
    | (simp only [↓held_takeDown]; done)

theorem held_raiseReduced (s : State) (b : Nat) (lanes : Nat) (rate : Nat) (p : Partner) :
    held (raiseReduced s b lanes rate p) = held s := by
  unfold raiseReduced
  simp only [↓held_ite, ↓held_raiseLink, ite_self]

theorem held_holdLink (s : State) (b : Nat) (cause : Nat) (p : Partner) (rate : Nat) (lanes : Nat) :
    held (holdLink s b cause p rate lanes) = held s := by
  unfold holdLink
  simp only [↓held_setLink, ↓held_State_modPrt, ↓held_raiseReduced, ↓held_raiseLink]

theorem held_enumerate (s : State) (b : Nat) :
    held (enumerate s b) = held s := by
  unfold enumerate
  simp only [↓held_sendToPort]

theorem held_bringUp (s : State) (b : Nat) (rate : Nat) (lanes : Nat) (flit : Nat) (p : Partner) :
    held (bringUp s b rate lanes flit p) = held s := by
  unfold bringUp
  repeat' first
    | (simp only [↓held_ite, ↓held_returnRefs, ↓held_setLink, ↓held_State_modPrt, ↓held_measureSkew, ↓held_equalise, ↓held_raiseLink, ↓held_raiseReduced, ↓held_writePinned, ↓held_enumerate, ite_self]; done)
    | (simp only [↓held_ite, ↓held_measureSkew, ↓held_equalise, ↓held_raiseLink, ↓held_raiseReduced, ↓held_writePinned, ↓held_enumerate, ite_self, *]; done)
    | (exact Eq.symm (by assumption))
    | (split <;> (try (rename_i heq; first
          | (have e := congrArg (fun p : State × _ => held p.1) heq; simp only [↓outState_next, ↓outState_due, ↓outState_ite, ↓st_ite, ↓st_reply, ↓st_wait, ↓st_opened, ↓fst_ite, ↓snd_ite, ↓getD_ite, ↓getD_some', ↓getD_none', ↓fst_mk, ↓snd_mk, ↓held_mk, ↓held_mk2, ↓held_ite, ↓held_returnRefs, ↓held_setLink, ↓held_State_modPrt, ↓held_measureSkew, ↓held_equalise, ↓held_raiseLink, ↓held_raiseReduced, ↓held_writePinned, ↓held_enumerate, ite_self] at e)
          | (have e := congrArg (fun p : _ × State => held p.2) heq; simp only [↓outState_next, ↓outState_due, ↓outState_ite, ↓st_ite, ↓st_reply, ↓st_wait, ↓st_opened, ↓fst_ite, ↓snd_ite, ↓getD_ite, ↓getD_some', ↓getD_none', ↓fst_mk, ↓snd_mk, ↓held_mk, ↓held_mk2, ↓held_ite, ↓held_returnRefs, ↓held_setLink, ↓held_State_modPrt, ↓held_measureSkew, ↓held_equalise, ↓held_raiseLink, ↓held_raiseReduced, ↓held_writePinned, ↓held_enumerate, ite_self] at e)
          | (have e := congrArg (fun p : Option State => held (p.getD s)) heq; simp only [↓outState_next, ↓outState_due, ↓outState_ite, ↓st_ite, ↓st_reply, ↓st_wait, ↓st_opened, ↓fst_ite, ↓snd_ite, ↓getD_ite, ↓getD_some', ↓getD_none', ↓fst_mk, ↓snd_mk, ↓held_mk, ↓held_mk2, ↓held_ite, ↓held_returnRefs, ↓held_setLink, ↓held_State_modPrt, ↓held_measureSkew, ↓held_equalise, ↓held_raiseLink, ↓held_raiseReduced, ↓held_writePinned, ↓held_enumerate, ite_self] at e))))
    | split
    | rw [held_forEach]
    | intro _ _
    | simp only [↓held_ite, ↓held_measureSkew, ↓held_raiseLink, ↓held_raiseReduced, ↓held_writePinned, ↓held_enumerate, ite_self]

theorem held_execLinkUp (port : Nat) (p : Partner) (s : State) :
    held (outState (execLinkUp port p s) s) = held s := by
  unfold execLinkUp
  repeat' first
    | (simp only [↓outState_next, ↓outState_ite, ↓held_ite, ↓held_bindAll, ↓held_bringUp, ↓held_holdLink, ↓held_raiseLink]; done)
    | split
    | simp only []

theorem held_leaveRecovery (s : State) (b rate : Nat) (t : Retrain) :
    held (leaveRecovery s b rate t) = held s := by
  unfold leaveRecovery
  repeat' first
    | (simp only [↓held_ite, ↓held_State_modPrt, ↓held_equalise, ↓held_measureSkew, ↓held_reachL0, ↓held_raiseReduced, ite_self]; done)
    | (simp only [↓held_ite, ↓held_equalise, ↓held_measureSkew, ↓held_reachL0, ↓held_raiseReduced, ite_self, *]; done)
    | (exact Eq.symm (by assumption))
    | (split <;> (try (rename_i heq; first
          | (have e := congrArg (fun p : State × _ => held p.1) heq; simp only [↓outState_next, ↓outState_due, ↓outState_ite, ↓st_ite, ↓st_reply, ↓st_wait, ↓st_opened, ↓fst_ite, ↓snd_ite, ↓getD_ite, ↓getD_some', ↓getD_none', ↓fst_mk, ↓snd_mk, ↓held_mk, ↓held_mk2, ↓held_ite, ↓held_State_modPrt, ↓held_equalise, ↓held_measureSkew, ↓held_reachL0, ↓held_raiseReduced, ite_self] at e)
          | (have e := congrArg (fun p : _ × State => held p.2) heq; simp only [↓outState_next, ↓outState_due, ↓outState_ite, ↓st_ite, ↓st_reply, ↓st_wait, ↓st_opened, ↓fst_ite, ↓snd_ite, ↓getD_ite, ↓getD_some', ↓getD_none', ↓fst_mk, ↓snd_mk, ↓held_mk, ↓held_mk2, ↓held_ite, ↓held_State_modPrt, ↓held_equalise, ↓held_measureSkew, ↓held_reachL0, ↓held_raiseReduced, ite_self] at e)
          | (have e := congrArg (fun p : Option State => held (p.getD s)) heq; simp only [↓outState_next, ↓outState_due, ↓outState_ite, ↓st_ite, ↓st_reply, ↓st_wait, ↓st_opened, ↓fst_ite, ↓snd_ite, ↓getD_ite, ↓getD_some', ↓getD_none', ↓fst_mk, ↓snd_mk, ↓held_mk, ↓held_mk2, ↓held_ite, ↓held_State_modPrt, ↓held_equalise, ↓held_measureSkew, ↓held_reachL0, ↓held_raiseReduced, ite_self] at e))))
    | split
    | rw [held_forEach]
    | intro _ _
    | simp only [↓held_ite, ↓held_measureSkew, ↓held_reachL0, ↓held_raiseReduced, ite_self]

theorem held_execLowPowerExitComplete (port : Nat) (rate : Nat) (t : Retrain) (s : State) :
    held (outState (execLowPowerExitComplete port rate t s) s) = held s := by
  unfold execLowPowerExitComplete
  simp only [↓outState_due, ↓held_ite, ↓held_reachL0, ↓held_leaveRecovery, ite_self]

theorem held_execLinkStateChange (port : Nat) (state : Nat) (rate : Nat) (t : Retrain) (s : State) :
    held (outState (execLinkStateChange port state rate t s) s) = held s := by
  unfold execLinkStateChange
  repeat' first
    | (simp only [↓outState_next, ↓outState_due, ↓outState_ite, ↓held_ite, ↓held_leaveRecovery, ↓held_State_modPrt, ↓held_startExit, ↓held_narrowLink, ↓held_enterLow, ↓held_setLink, ↓held_leaveL0, ite_self]; done)
    | split
    | simp only []

theorem held_execLaneRefclkLost (j : Nat) (s : State) :
    held (outState (execLaneRefclkLost j s) s) = held s := by
  unfold execLaneRefclkLost
  repeat' first
    | (simp only [↓outState_next, ↓outState_ite, ↓held_ite, ↓held_State_modRefclk, ↓held_State_modLane, ↓held_takeDown, ↓held_raiseLink, ↓held_setLink, ite_self]; done)
    | (simp only [↓outState_next, ↓outState_ite, ↓held_ite, ↓held_State_modLane, ↓held_takeDown, ↓held_raiseLink, ↓held_setLink, ite_self, *]; done)
    | (exact Eq.symm (by assumption))
    | (split <;> (try (rename_i heq; first
          | (have e := congrArg (fun p : State × _ => held p.1) heq; simp only [↓outState_next, ↓outState_due, ↓outState_ite, ↓st_ite, ↓st_reply, ↓st_wait, ↓st_opened, ↓fst_ite, ↓snd_ite, ↓getD_ite, ↓getD_some', ↓getD_none', ↓fst_mk, ↓snd_mk, ↓held_mk, ↓held_mk2, ↓held_ite, ↓held_State_modRefclk, ↓held_State_modLane, ↓held_takeDown, ↓held_raiseLink, ↓held_setLink, ite_self] at e)
          | (have e := congrArg (fun p : _ × State => held p.2) heq; simp only [↓outState_next, ↓outState_due, ↓outState_ite, ↓st_ite, ↓st_reply, ↓st_wait, ↓st_opened, ↓fst_ite, ↓snd_ite, ↓getD_ite, ↓getD_some', ↓getD_none', ↓fst_mk, ↓snd_mk, ↓held_mk, ↓held_mk2, ↓held_ite, ↓held_State_modRefclk, ↓held_State_modLane, ↓held_takeDown, ↓held_raiseLink, ↓held_setLink, ite_self] at e)
          | (have e := congrArg (fun p : Option State => held (p.getD s)) heq; simp only [↓outState_next, ↓outState_due, ↓outState_ite, ↓st_ite, ↓st_reply, ↓st_wait, ↓st_opened, ↓fst_ite, ↓snd_ite, ↓getD_ite, ↓getD_some', ↓getD_none', ↓fst_mk, ↓snd_mk, ↓held_mk, ↓held_mk2, ↓held_ite, ↓held_State_modRefclk, ↓held_State_modLane, ↓held_takeDown, ↓held_raiseLink, ↓held_setLink, ite_self] at e))))
    | split
    | rw [held_forEach]
    | intro _ _
    | simp only [↓outState_next]

theorem held_execLaneRefclkRestored (j : Nat) (s : State) :
    held (outState (execLaneRefclkRestored j s) s) = held s := by
  unfold execLaneRefclkRestored
  refine held_due _ _ _ ?_
  repeat' first
    | (simp only [↓held_State_modRefclk]; done)

theorem held_execLaneRefclkGood (j : Nat) (s : State) :
    held (outState (execLaneRefclkGood j s) s) = held s := by
  unfold execLaneRefclkGood
  repeat' first
    | dsimp only []
    | (with_reducible refine held_due _ _ _ ?_)
    | (simp only [↓held_State_modRefclk]; done)

theorem held_execPortState (t : Transport) (r : Req) (s : State) :
    held (outState (execPortState t r s) s) = held s := by
  unfold execPortState
  repeat' first
    | (simp only [↓st_reply]; done)
    | (with_reducible refine held_guarded _ _ _ ?_)
    | (with_reducible refine held_vendorCmd _ _ _ _ _ _ fun _ _ => ?_)

theorem held_powerQuads (s : State) (b : Nat) :
    held (powerQuads s b) = held s := by
  unfold powerQuads
  repeat' first
    | (simp only [↓held_ite, ↓held_State_modIsl, ite_self]; done)
    | split
    | rw [held_forEach]
    | intro _ _

theorem held_endLoop (s : State) (b : Nat) (st : Nat) (bits : Nat) (errors : List Nat) :
    held (endLoop s b st bits errors) = held s := by
  unfold endLoop
  simp only [↓held_ite, ↓held_State_modLoop, ↓held_raiseLink, ↓held_setLink, ite_self]

theorem held_drawErrors (s : State) :
    held (drawErrors s).1 = held s := by
  unfold drawErrors
  repeat' first
    | (simp only [↓fst_mk, ↓held_draw]; done)
    | split
    | rw [foldl_held1]
    | intro _ _

theorem held_stopLoop (s : State) (b : Nat) :
    held (stopLoop s b) = held s := by
  unfold stopLoop
  simp only [↓held_ite, ↓held_drawErrors, ↓held_endLoop, ite_self]

theorem held_disablePort (s : State) (b : Nat) :
    held (disablePort s b) = held s := by
  unfold disablePort
  simp only [↓held_ite, ↓held_State_modPrt, ↓held_powerQuads, ↓held_stopLoop, ↓held_takeDown, ite_self]

theorem held_enablePort (s : State) (b : Nat) :
    held (enablePort s b) = held s := by
  unfold enablePort
  simp only [↓held_ite, ↓held_State_modPrt, ↓held_powerQuads, ↓held_returnRefs, ↓held_setLink, ↓held_stopLoop, ite_self]

theorem held_portEnableBody (p : Bytes) (s : State) :
    held (portEnableBody p s).st = held s := by
  unfold portEnableBody
  simp only [↓st_reply, ↓held_ite, ↓held_disablePort, ↓held_enablePort, ↓held_guarded, ite_self]

theorem held_execPortEnable (t : Transport) (r : Req) (s : State) :
    held (outState (execPortEnable t r s) s) = held s := by
  unfold execPortEnable
  repeat' first
    | (simp only [↓held_portEnableBody]; done)
    | (with_reducible refine held_vendorCmd _ _ _ _ _ _ fun _ _ => ?_)

theorem held_tripSlot (s : State) (n : Nat) (cause : Nat) (cur : Nat) :
    held (tripSlot s n cause cur) = held s := by
  unfold tripSlot
  simp only [↓held_State_modSlot, ↓held_raise]

theorem held_execSlotLoopSample (slot : Nat) (vin : Nat) (vout : Nat) (cur : Nat) (s : State) :
    held (outState (execSlotLoopSample slot vin vout cur s) s) = held s := by
  unfold execSlotLoopSample
  refine held_due _ _ _ ?_
  repeat' first
    | (simp only [↓held_State_modSlot]; done)

theorem held_execFetShort (slot : Nat) (s : State) :
    held (outState (execFetShort slot s) s) = held s := by
  unfold execFetShort
  refine held_due _ _ _ ?_
  repeat' first
    | (simp only [↓held_tripSlot]; done)

theorem held_execFastTrip (slot : Nat) (cur : Nat) (s : State) :
    held (outState (execFastTrip slot cur s) s) = held s := by
  unfold execFastTrip
  refine held_due _ _ _ ?_
  repeat' first
    | (simp only [↓held_tripSlot]; done)

theorem held_execSlotRemoved (slot : Nat) (s : State) :
    held (outState (execSlotRemoved slot s) s) = held s := by
  unfold execSlotRemoved
  refine held_due _ _ _ ?_
  repeat' first
    | (simp only [↓held_tripSlot]; done)

theorem held_execFaultTimerExpiry (slot : Nat) (s : State) :
    held (outState (execFaultTimerExpiry slot s) s) = held s := by
  unfold execFaultTimerExpiry
  refine held_due _ _ _ ?_
  repeat' first
    | (simp only [↓held_tripSlot]; done)

theorem held_execFaultTimerClear (slot : Nat) (s : State) :
    held (outState (execFaultTimerClear slot s) s) = held s := by
  unfold execFaultTimerClear
  repeat' first
    | (with_reducible refine held_due _ _ _ ?_)
    | (with_reducible exact held_next _)
    | split
    | (simp only [↓held_State_modSlot]; done)

theorem held_slotGood (s : State) (n : Nat) :
    held (slotGood s n) = held s := by
  unfold slotGood
  simp only [↓held_raise, ↓held_State_modSlot]

theorem held_execPowerGood (slot : Nat) (s : State) :
    held (outState (execPowerGood slot s) s) = held s := by
  unfold execPowerGood
  simp only [↓outState_due, ↓held_ite, ↓held_slotGood, ite_self]

theorem held_slotWarnEnd (s : State) (n : Nat) :
    held (slotWarnEnd s n) = held s := by
  unfold slotWarnEnd
  simp only [↓held_State_modSlot]

theorem held_execWarnLeadEnd (slot : Nat) (s : State) :
    held (outState (execWarnLeadEnd slot s) s) = held s := by
  unfold execWarnLeadEnd
  simp only [↓outState_due, ↓held_ite, ↓held_slotWarnEnd, ite_self]

theorem held_settleSlot (s : State) (n : Nat) :
    held (settleSlot s n) = held s := by
  unfold settleSlot
  simp only [↓held_ite, ↓held_tripSlot, ↓held_slotGood, ↓held_slotWarnEnd, ite_self]

theorem held_execCooldownEnd (slot : Nat) (s : State) :
    held (outState (execCooldownEnd slot s) s) = held s := by
  unfold execCooldownEnd
  simp only [↓outState_next, ↓outState_ite, ↓held_ite, ↓held_State_modSlot, ↓held_raise, ite_self]

theorem held_execSlotPrsntNChange (slot : Nat) (high : Bool) (s : State) :
    held (outState (execSlotPrsntNChange slot high s) s) = held s := by
  unfold execSlotPrsntNChange
  refine held_due _ _ _ ?_
  repeat' first
    | (simp only [↓held_State_modSlot]; done)

theorem held_execPresenceDebounced (slot : Nat) (s : State) :
    held (outState (execPresenceDebounced slot s) s) = held s := by
  unfold execPresenceDebounced
  repeat' first
    | dsimp only []
    | (with_reducible refine held_due _ _ _ ?_)
    | (simp only [↓held_State_modSlot]; done)

theorem held_raiseBus (s : State) (b : Nat) (cause : Nat) (mv : Nat) (on : Nat) :
    held (raiseBus s b cause mv on) = held s := by
  unfold raiseBus
  simp only [↓held_raise]

theorem held_execBusSample (bus : Nat) (mv : Nat) (s : State) :
    held (outState (execBusSample bus mv s) s) = held s := by
  unfold execBusSample
  repeat' first
    | (simp only [↓outState_next, ↓outState_ite, ↓held_ite, ↓held_State_modBus, ↓held_raiseBus, ↓held_tripSlot, ite_self]; done)
    | split
    | rw [held_forEach]
    | intro _ _
    | simp only [↓outState_next, ↓held_ite, ↓held_State_modBus, ↓held_raiseBus, ite_self]

theorem held_execBusWarningClear (bus : Nat) (s : State) :
    held (outState (execBusWarningClear bus s) s) = held s := by
  unfold execBusWarningClear
  repeat' first
    | dsimp only []
    | (with_reducible refine held_due _ _ _ ?_)
    | (with_reducible exact held_next _)
    | split
    | (simp only [↓held_State_modBus, ↓held_raiseBus]; done)

theorem held_slotConfigBody (p : Bytes) (s : State) :
    held (slotConfigBody p s).st = held s := by
  unfold slotConfigBody
  simp only [↓st_ite, ↓st_reply, ↓held_ite, ↓held_guarded, ↓held_State_modSlot, ite_self]

theorem held_execSlotConfig (t : Transport) (r : Req) (s : State) :
    held (outState (execSlotConfig t r s) s) = held s := by
  unfold execSlotConfig
  repeat' first
    | (simp only [↓held_slotConfigBody, ↓held_settleSlot]; done)
    | (with_reducible refine held_vendorCmd _ _ _ _ _ _ fun _ _ => ?_)

theorem held_slotPowerBody (p : Bytes) (s : State) :
    held (slotPowerBody p s).st = held s := by
  unfold slotPowerBody
  simp only [↓st_reply, ↓held_guarded, ↓held_State_modSlot]

theorem held_execSlotPower (t : Transport) (r : Req) (s : State) :
    held (outState (execSlotPower t r s) s) = held s := by
  unfold execSlotPower
  repeat' first
    | (simp only [↓held_slotPowerBody, ↓held_settleSlot]; done)
    | (with_reducible refine held_vendorCmd _ _ _ _ _ _ fun _ _ => ?_)

theorem held_execSlotState (t : Transport) (r : Req) (s : State) :
    held (outState (execSlotState t r s) s) = held s := by
  unfold execSlotState
  repeat' first
    | (simp only [↓st_reply]; done)
    | (with_reducible refine held_guarded _ _ _ ?_)
    | (with_reducible refine held_vendorCmd _ _ _ _ _ _ fun _ _ => ?_)

end Sys2Proof.Machine
end

