-- ==== Sys2Proof/Laws/HeldCore.lean ====
section
/-!
SUPPORT. What the rotation core, the passages, the time base, the resets, the events, lost galleries and Lantern leave alone (`held`).
-/

namespace Sys2Proof.Machine

theorem held_sendFlight (s : State) (f : Flight) :
    held (sendFlight s f) = held s := by
  unfold sendFlight
  simp only [↓held_mk, ↓held_ite, ↓held_State_modCol, ite_self]

theorem held_launchCell (p : Nat) (s : State) (e : Planned) :
    held (launchCell p s e) = held s := by
  unfold launchCell
  simp only [↓held_ite, ↓held_noteLaunch, ↓held_State_modPas, ↓held_countPas, ↓held_sendFlight, ↓held_countGal, ↓held_pulse, ↓held_traceCell, ite_self]

theorem held_launchDue (s : State) (p : Nat) :
    held (launchDue s p) = held s := by
  unfold launchDue
  repeat' first
    | (simp only [↓held_ite, ↓held_launchCell, ↓held_State_modPas]; done)
    | split
    | rw [foldl_held]
    | rw [foldl_held1]
    | intro _ _
    | simp only []

theorem held_launchAll (s : State) :
    held (launchAll s) = held s := by
  unfold launchAll
  repeat' first
    | (simp only [↓held_launchDue]; done)
    | rw [held_forEach]
    | intro _ _

theorem held_idleUnits (s : State) (p : Nat) (cells : Nat) :
    held (idleUnits s p cells) = held s := by
  unfold idleUnits
  simp only [↓held_countPas, ↓held_draw]

theorem held_fillPassage (g : Nat) (n : Nat) (bad : List (Nat × Nat)) (s : State) (c : Nat) :
    held (fillPassage g n bad s c) = held s := by
  unfold fillPassage
  simp only [↓held_ite, ↓held_countGal, ↓held_State_modGal, ↓held_State_modPas, ↓held_launchDue, ↓held_idleUnits, ↓held_countPas, ↓held_sendFlight, ite_self]

theorem held_advertise (g : Nat) (n : Nat) (s : State) (c : Nat) :
    held (advertise g n s c) = held s := by
  unfold advertise
  simp only [↓held_ite, ↓held_sendSb, ite_self]

theorem held_beginDrain (s : State) (g : Nat) (c : Nat) (cause : Nat) :
    held (beginDrain s g c cause) = held s := by
  unfold beginDrain
  simp only [↓held_ite, ↓held_State_modCol, ↓held_setColSt, ↓held_setUse, ite_self]

theorem held_rotateColumn (g : Nat) (s : State) (c : Nat) :
    held (rotateColumn g s c) = held s := by
  unfold rotateColumn
  repeat' first
    | (simp only [↓held_ite, ↓held_beginDrain, ↓held_disarm, ite_self]; done)
    | split

theorem held_rotateGallery (s : State) (g : Nat) :
    held (rotateGallery s g) = held s := by
  unfold rotateGallery
  repeat' first
    | (simp only [↓held_rotateColumn, ↓held_State_modGal]; done)
    | (simp only [↓held_rotateColumn, ↓held_State_modGal, *]; done)
    | (exact Eq.symm (by assumption))
    | (split <;> (try (rename_i heq; first
          | (have e := congrArg (fun p : State × _ => held p.1) heq; simp only [↓outState_next, ↓outState_due, ↓outState_ite, ↓st_ite, ↓st_reply, ↓st_wait, ↓st_opened, ↓fst_ite, ↓snd_ite, ↓getD_ite, ↓getD_some', ↓getD_none', ↓fst_mk, ↓snd_mk, ↓held_mk, ↓held_mk2, ↓held_ite, ↓held_rotateColumn, ↓held_State_modGal, ite_self] at e)
          | (have e := congrArg (fun p : _ × State => held p.2) heq; simp only [↓outState_next, ↓outState_due, ↓outState_ite, ↓st_ite, ↓st_reply, ↓st_wait, ↓st_opened, ↓fst_ite, ↓snd_ite, ↓getD_ite, ↓getD_some', ↓getD_none', ↓fst_mk, ↓snd_mk, ↓held_mk, ↓held_mk2, ↓held_ite, ↓held_rotateColumn, ↓held_State_modGal, ite_self] at e)
          | (have e := congrArg (fun p : Option State => held (p.getD s)) heq; simp only [↓outState_next, ↓outState_due, ↓outState_ite, ↓st_ite, ↓st_reply, ↓st_wait, ↓st_opened, ↓fst_ite, ↓snd_ite, ↓getD_ite, ↓getD_some', ↓getD_none', ↓fst_mk, ↓snd_mk, ↓held_mk, ↓held_mk2, ↓held_ite, ↓held_rotateColumn, ↓held_State_modGal, ite_self] at e))))
    | split
    | rw [held_forEach]
    | intro _ _
    | simp only [↓held_State_modGal]

theorem held_probeFails (s : State) (c : Nat) :
    held (probeFails s c) = held s := by
  unfold probeFails
  simp only [↓held_ite, ↓held_failAdmission, ↓held_State_modCol, ite_self]

theorem held_checkProbes (g : Nat) (s : State) (c : Nat) :
    held (checkProbes g s c) = held s := by
  unfold checkProbes
  simp only [↓held_ite, ↓held_probeFails, ite_self]

theorem held_execSlotBoundary (r : SlotFill) (s : State) :
    held (outState (execSlotBoundary r s) s) = held s := by
  unfold execSlotBoundary
  repeat' first
    | (simp only [↓outState_next, ↓outState_ite, ↓held_ite, ↓held_rotateGallery, ↓held_checkProbes, ↓held_State_modGal, ↓held_fillPassage, ↓held_advertise]; done)
    | (simp only [↓outState_next, ↓outState_ite, ↓held_ite, ↓held_checkProbes, ↓held_State_modGal, ↓held_fillPassage, ↓held_advertise, *]; done)
    | (exact Eq.symm (by assumption))
    | (split <;> (try (rename_i heq; first
          | (have e := congrArg (fun p : State × _ => held p.1) heq; simp only [↓outState_next, ↓outState_due, ↓outState_ite, ↓st_ite, ↓st_reply, ↓st_wait, ↓st_opened, ↓fst_ite, ↓snd_ite, ↓getD_ite, ↓getD_some', ↓getD_none', ↓fst_mk, ↓snd_mk, ↓held_mk, ↓held_mk2, ↓held_ite, ↓held_rotateGallery, ↓held_checkProbes, ↓held_State_modGal, ↓held_fillPassage, ↓held_advertise, ite_self] at e)
          | (have e := congrArg (fun p : _ × State => held p.2) heq; simp only [↓outState_next, ↓outState_due, ↓outState_ite, ↓st_ite, ↓st_reply, ↓st_wait, ↓st_opened, ↓fst_ite, ↓snd_ite, ↓getD_ite, ↓getD_some', ↓getD_none', ↓fst_mk, ↓snd_mk, ↓held_mk, ↓held_mk2, ↓held_ite, ↓held_rotateGallery, ↓held_checkProbes, ↓held_State_modGal, ↓held_fillPassage, ↓held_advertise, ite_self] at e)
          | (have e := congrArg (fun p : Option State => held (p.getD s)) heq; simp only [↓outState_next, ↓outState_due, ↓outState_ite, ↓st_ite, ↓st_reply, ↓st_wait, ↓st_opened, ↓fst_ite, ↓snd_ite, ↓getD_ite, ↓getD_some', ↓getD_none', ↓fst_mk, ↓snd_mk, ↓held_mk, ↓held_mk2, ↓held_ite, ↓held_rotateGallery, ↓held_checkProbes, ↓held_State_modGal, ↓held_fillPassage, ↓held_advertise, ite_self] at e))))
    | split
    | rw [held_forEach]
    | intro _ _
    | simp only [↓outState_next, ↓outState_ite, ↓held_ite, ↓held_State_modGal]

theorem held_execRotationBoundary (g : Nat) (s : State) :
    held (outState (execRotationBoundary g s) s) = held s := by
  unfold execRotationBoundary
  simp only [↓outState_due, ↓held_ite, ↓held_rotateGallery, ite_self]

theorem held_execColumnCrossbarChange (c : Nat) (agree : Bool) (s : State) :
    held (outState (execColumnCrossbarChange c agree s) s) = held s := by
  unfold execColumnCrossbarChange
  simp only [↓outState_next, ↓outState_ite, ↓held_ite, ↓held_columnUntrusted, ↓held_State_modCol, ite_self]

theorem held_columnOut (s : State) (c : Nat) (at_ : Nat) :
    held (columnOut s c at_) = held s := by
  unfold columnOut
  simp only [↓held_ite, ↓held_State_modCol, ↓held_raiseCol, ↓held_setColSt, ite_self]

theorem held_execColumnDrainEnd (g : Nat) (c : Nat) (s : State) :
    held (outState (execColumnDrainEnd g c s) s) = held s := by
  unfold execColumnDrainEnd
  repeat' first
    | (simp only [↓outState_next, ↓outState_ite, ↓held_ite, ↓held_setUse, ↓held_State_modPas, ↓held_columnOut, ↓held_replayInto, ite_self]; done)
    | split

theorem held_columnCalCheck (s : State) (c : Nat) :
    held (columnCalCheck s c) = held s := by
  unfold columnCalCheck
  simp only [↓held_ite, ↓held_failAdmission, ↓held_State_modCol, ↓held_setColSt, ite_self]

theorem held_execProbingEnd (c : Nat) (s : State) :
    held (outState (execProbingEnd c s) s) = held s := by
  unfold execProbingEnd
  simp only [↓outState_next, ↓outState_ite, ↓held_ite, ↓held_armFor, ↓held_failAdmission, ↓held_State_modCol, ite_self]

theorem held_execAdmissionTimeout (c : Nat) (s : State) :
    held (outState (execAdmissionTimeout c s) s) = held s := by
  unfold execAdmissionTimeout
  repeat' first
    | (with_reducible refine held_due _ _ _ ?_)
    | (with_reducible exact held_next _)
    | split
    | (simp only [↓held_failAdmission]; done)

theorem held_launchColumnDrain (s : State) (c : Nat) :
    held (launchColumnDrain s c) = held s := by
  unfold launchColumnDrain
  repeat' first
    | (simp only [↓held_beginDrain]; done)
    | split
    | rw [held_forEach]
    | intro _ _

theorem held_launchColumnReturn (s : State) (c : Nat) :
    held (launchColumnReturn s c) = held s := by
  unfold launchColumnReturn
  repeat' first
    | (simp only [↓held_ite, ↓held_failAdmission, ↓held_restartStreams, ↓held_setUse, ↓held_setColSt, ↓held_State_modCol, ↓held_raiseCol]; done)
    | (simp only [↓held_ite, ↓held_failAdmission, ↓held_restartStreams, ↓held_setUse, ↓held_setColSt, ↓held_State_modCol, ↓held_raiseCol, *]; done)
    | (exact Eq.symm (by assumption))
    | (split <;> (try (rename_i heq; first
          | (have e := congrArg (fun p : State × _ => held p.1) heq; simp only [↓outState_next, ↓outState_due, ↓outState_ite, ↓st_ite, ↓st_reply, ↓st_wait, ↓st_opened, ↓fst_ite, ↓snd_ite, ↓getD_ite, ↓getD_some', ↓getD_none', ↓fst_mk, ↓snd_mk, ↓held_mk, ↓held_mk2, ↓held_ite, ↓held_failAdmission, ↓held_restartStreams, ↓held_setUse, ↓held_setColSt, ↓held_State_modCol, ↓held_raiseCol, ite_self] at e)
          | (have e := congrArg (fun p : _ × State => held p.2) heq; simp only [↓outState_next, ↓outState_due, ↓outState_ite, ↓st_ite, ↓st_reply, ↓st_wait, ↓st_opened, ↓fst_ite, ↓snd_ite, ↓getD_ite, ↓getD_some', ↓getD_none', ↓fst_mk, ↓snd_mk, ↓held_mk, ↓held_mk2, ↓held_ite, ↓held_failAdmission, ↓held_restartStreams, ↓held_setUse, ↓held_setColSt, ↓held_State_modCol, ↓held_raiseCol, ite_self] at e)
          | (have e := congrArg (fun p : Option State => held (p.getD s)) heq; simp only [↓outState_next, ↓outState_due, ↓outState_ite, ↓st_ite, ↓st_reply, ↓st_wait, ↓st_opened, ↓fst_ite, ↓snd_ite, ↓getD_ite, ↓getD_some', ↓getD_none', ↓fst_mk, ↓snd_mk, ↓held_mk, ↓held_mk2, ↓held_ite, ↓held_failAdmission, ↓held_restartStreams, ↓held_setUse, ↓held_setColSt, ↓held_State_modCol, ↓held_raiseCol, ite_self] at e))))
    | split
    | rw [held_forEach]
    | intro _ _
    | simp only [↓held_setColSt, ↓held_State_modCol, ↓held_raiseCol]

theorem held_calibrate (s : State) (i : Nat) :
    held (calibrate s i) = held s := by
  unfold calibrate
  simp only [↓held_State_modIsl]

theorem held_startPart (c : Nat) (s : State) (g : Nat) :
    held (startPart c s g) = held s := by
  unfold startPart
  repeat' first
    | (simp only [↓held_ite, ↓held_allLearn, ↓held_calibrate, ↓held_State_modPas, ite_self]; done)
    | split
    | simp only []

theorem held_startAdmission (s : State) (c : Nat) :
    held (startAdmission s c) = held s := by
  unfold startAdmission
  repeat' first
    | (simp only [↓held_setColSt, ↓held_State_modCol, ↓held_calibrate, ↓held_startPart]; done)
    | rw [held_forEach]
    | intro _ _

theorem held_columnBody (p : Bytes) (s : State) :
    held (columnBody p s).st = held s := by
  unfold columnBody
  repeat' first
    | (simp only [↓st_reply, ↓held_armFor, ↓held_State_modCol, ↓held_startAdmission]; done)
    | (with_reducible refine held_guarded _ _ _ ?_)
    | split

theorem held_execColumnState (t : Transport) (r : Req) (s : State) :
    held (outState (execColumnState t r s) s) = held s := by
  unfold execColumnState
  repeat' first
    | (simp only [↓held_columnBody]; done)
    | (with_reducible refine held_vendorCmd _ _ _ _ _ _ fun _ _ => ?_)

theorem held_storeRx (s : State) (g : Nat) (c : Nat) (f : Flight) (cell : Cell) :
    held (storeRx s g c f cell) = held s := by
  unfold storeRx
  simp only [↓held_State_modGal, ↓held_State_modPas, ↓held_countPas, ↓held_countGal, ↓held_pulse, ↓held_updateHoldOff, ↓held_traceCell]

theorem held_streamCell (s : State) (g : Nat) (c : Nat) (i : Nat) (h : Nat) :
    held (streamCell s g c i h) = held s := by
  unfold streamCell
  simp only [↓held_ite, ↓held_State_modPas, ↓held_sendAck, ite_self]

theorem held_probeArrival (s : State) (f : Flight) (good : Bool) (cell : Cell) :
    held (probeArrival s f good cell) = held s := by
  unfold probeArrival
  simp only [↓held_ite, ↓held_probeFails, ite_self]

theorem held_execCellArrival (g : Nat) (c : Nat) (mask : Nat) (s : State) :
    held (outState (execCellArrival g c mask s) s) = held s := by
  unfold execCellArrival
  dsimp only
  split
  · rfl
  rename_i f _
  rw [outState_ite]
  split
  · rfl
  generalize hw : headerWord f.cell ^^^ mask % 2 ^ 128 = w
  generalize (if (mask % 2 ^ 128 == 0) = true then f.cell else cellWithHeader f.cell w) = cell
  generalize (headerGood w && namesGallery cell f.i g) = good
  generalize hs2 : (State.modCol { s with core := { s.core with flights := removeFirst (fun f => f.m == g && f.c == c) s.core.flights } } c fun y =>
    { y with cells := (y.cells + 1) % 2 ^ 64 }) = s2
  have h2 : held s2 = held s := by rw [← hs2, held_State_modCol]; rfl
  rw [← h2]
  clear hs2 hw
  generalize w / 2 ^ 112 % 65536 = h
  split
  · rw [outState_next]
  generalize hu : (if good = true then s2 else killPassage (s2.modGal g fun x => { x with discarded := (x.discarded + 1) % 2 ^ 64 }) (4 * g + c) 4 0 65535) = u
  have h3 : held u = held s2 := by
    rw [← hu]
    split
    · rfl
    · rw [held_killPassage, held_State_modGal]
  rw [← h3]
  split
  · rw [outState_next, held_probeArrival]
    split
    · rw [held_countPas]
    · rfl
  split
  · rw [outState_next]
  · rw [outState_next, held_storeRx, held_streamCell]

theorem held_execAckTimer (g : Nat) (c : Nat) (i : Nat) (s : State) :
    held (outState (execAckTimer g c i s) s) = held s := by
  unfold execAckTimer
  repeat' first
    | dsimp only []
    | (with_reducible refine held_due _ _ _ ?_)
    | (simp only [↓held_sendAck]; done)

theorem held_execAckReceived (g : Nat) (c : Nat) (m : Nat) (seq : Nat) (check : Nat) (s : State) :
    held (outState (execAckReceived g c m seq check s) s) = held s := by
  unfold execAckReceived
  repeat' first
    | (simp only [↓outState_next, ↓outState_ite, ↓held_ite, ↓held_countPas, ↓held_killPassage, ↓held_State_modGal, ↓held_State_modPas, ite_self]; done)
    | split
    | simp only [↓outState_next, ↓outState_ite, ↓held_ite, ↓held_countPas, ↓held_killPassage]

theorem held_execAckTimeout (g : Nat) (c : Nat) (s : State) :
    held (outState (execAckTimeout g c s) s) = held s := by
  unfold execAckTimeout
  repeat' first
    | dsimp only []
    | (with_reducible refine held_due _ _ _ ?_)
    | (simp only [↓held_killPassage]; done)

theorem held_setPeerXoff (s : State) (g : Nat) (c : Nat) (m : Nat) (xoff : Nat) :
    held (setPeerXoff s g c m xoff) = held s := by
  unfold setPeerXoff
  simp only [↓held_State_modPas, ↓held_unplan]

theorem held_execAdvert (g : Nat) (c : Nat) (m : Nat) (relayOpen : Nat) (xoff : Nat) (s : State) :
    held (outState (execAdvert g c m relayOpen xoff s) s) = held s := by
  unfold execAdvert
  refine held_due _ _ _ ?_
  repeat' first
    | (simp only [↓held_State_modGal, ↓held_setPeerXoff]; done)

theorem held_execFlow (g : Nat) (c : Nat) (m : Nat) (xoff : Nat) (s : State) :
    held (outState (execFlow g c m xoff s) s) = held s := by
  unfold execFlow
  refine held_due _ _ _ ?_
  repeat' first
    | (simp only [↓held_setPeerXoff]; done)

theorem held_execGrantSend (g : Nat) (c : Nat) (cls : Nat) (s : State) :
    held (outState (execGrantSend g c cls s) s) = held s := by
  unfold execGrantSend
  simp only [↓outState_next, ↓outState_ite, ↓held_ite, ↓held_countPas, ↓held_State_modPas, ↓held_sendSb, ite_self]

theorem held_execGrant (g : Nat) (c : Nat) (m : Nat) (cls : Nat) (count : Nat) (slot : Nat) (s : State) :
    held (outState (execGrant g c m cls count slot s) s) = held s := by
  unfold execGrant
  refine held_due _ _ _ ?_
  repeat' first
    | (simp only [↓held_State_modPas]; done)

theorem held_execGrantExpiry (g : Nat) (c : Nat) (cls : Nat) (slot : Nat) (s : State) :
    held (outState (execGrantExpiry g c cls slot s) s) = held s := by
  unfold execGrantExpiry
  refine held_due _ _ _ ?_
  repeat' first
    | (simp only [↓held_State_modPas]; done)

theorem held_execNotice (g : Nat) (code : Nat) (num : Nat) (s : State) :
    held (outState (execNotice g code num s) s) = held s := by
  unfold execNotice
  repeat' first
    | (simp only [↓outState_next, ↓outState_due, ↓outState_ite, ↓held_ite, ↓held_learnDeath, ↓held_learnColumn, ↓held_State_modGal, ite_self]; done)
    | split

theorem held_execPassageError (p : Nat) (endp : Nat) (cause : Nat) (lane : Nat) (s : State) :
    held (outState (execPassageError p endp cause lane s) s) = held s := by
  unfold execPassageError
  refine held_due _ _ _ ?_
  repeat' first
    | (simp only [↓held_killPassage]; done)

theorem held_execForwardedClockLost (p : Nat) (endp : Nat) (lane : Nat) (s : State) :
    held (outState (execForwardedClockLost p endp lane s) s) = held s := by
  unfold execForwardedClockLost
  refine held_due _ _ _ ?_
  repeat' first
    | (simp only [↓held_killPassage]; done)

theorem held_execKill (p : Nat) (endp : Nat) (s : State) :
    held (outState (execKill p endp s) s) = held s := by
  unfold execKill
  simp only [↓outState_next, ↓outState_ite, ↓held_ite, ↓held_noticeDeath, ↓held_endDies, ↓held_learnDeath, ite_self]

theorem held_launchPassageDrain (s : State) (p : Nat) :
    held (launchPassageDrain s p) = held s := by
  unfold launchPassageDrain
  simp only [↓held_ite, ↓held_State_modPas, ite_self]

theorem held_execPassageDrainEnd (p : Nat) (s : State) :
    held (outState (execPassageDrainEnd p s) s) = held s := by
  unfold execPassageDrainEnd
  repeat' first
    | (with_reducible refine held_due _ _ _ ?_)
    | (with_reducible exact held_next _)
    | split
    | (simp only [↓held_killPassage]; done)

theorem held_execPassageTestEnd (p : Nat) (errors : Nat) (outMask : Nat) (inMask : Nat) (s : State) :
    held (outState (execPassageTestEnd p errors outMask inMask s) s) = held s := by
  unfold execPassageTestEnd
  simp only [↓outState_next, ↓outState_ite, ↓held_ite, ↓held_State_modPas, ↓held_raisePas, ↓held_startPart, ite_self]

theorem held_answerAdmit (s : State) (p : Nat) (result : Nat) :
    held (answerAdmit s p result) = held s := by
  unfold answerAdmit
  repeat' first
    | (simp only [↓held_lateReply]; done)
    | split

theorem held_failPassageAdmit (s : State) (p : Nat) (cause : Nat) :
    held (failPassageAdmit s p cause) = held s := by
  unfold failPassageAdmit
  simp only [↓held_admitFailed, ↓held_answerAdmit, ↓held_disarm, ↓held_State_modPas]

theorem held_passageCalCheck (s : State) (p : Nat) :
    held (passageCalCheck s p) = held s := by
  unfold passageCalCheck
  simp only [↓held_ite, ↓held_armFor, ↓held_State_modPas, ite_self]

theorem held_launchPassageReturn (s : State) (p : Nat) :
    held (launchPassageReturn s p) = held s := by
  unfold launchPassageReturn
  simp only [↓held_ite, ↓held_failPassageAdmit, ↓held_revive, ↓held_restartStreams, ↓held_State_modPas, ite_self]

theorem held_execPassageAdmitEnd (p : Nat) (result : Nat) (errors : Nat) (s : State) :
    held (outState (execPassageAdmitEnd p result errors s) s) = held s := by
  unfold execPassageAdmitEnd
  simp only [↓outState_next, ↓outState_ite, ↓held_ite, ↓held_answerAdmit, ↓held_columnCalCheck, ↓held_failPart, ↓held_failPassageAdmit, ↓held_State_modPas, ↓held_revive, ite_self]

theorem held_startPassageAdmit (s : State) (p : Nat) (n : Option Nat) :
    held (startPassageAdmit s p n) = held s := by
  unfold startPassageAdmit
  simp only [↓held_allLearn, ↓held_State_modPas, ↓held_calibrate]

theorem held_passageBody (q : Bytes) (n : Option Nat) (s : State) :
    held (passageBody q n s).st = held s := by
  unfold passageBody
  repeat' first
    | (simp only [↓st_ite, ↓st_reply, ↓st_wait, ↓held_ite, ↓held_allLearn, ↓held_armFor, ↓held_State_modPas, ↓held_startPassageAdmit, ite_self]; done)
    | (with_reducible refine held_guarded _ _ _ ?_)
    | split

theorem held_execPassageTest (t : Transport) (r : Req) (s : State) :
    held (outState (execPassageTest t r s) s) = held s := by
  unfold execPassageTest
  repeat' first
    | (simp only [↓held_passageBody]; done)
    | (with_reducible refine held_vendorCmd _ _ _ _ _ _ fun _ _ => ?_)

theorem held_takeEdge (s : State) :
    held (takeEdge s) = held s := by
  unfold takeEdge
  simp only [↓held_mk, ↓held_ite, ite_self]

theorem held_edgeProgs (s : State) (g : Nat) :
    held (edgeProgs s g) = held s := by
  unfold edgeProgs
  repeat' first
    | (simp only [↓held_mk, ↓held_ite, ite_self]; done)
    | split

theorem held_modRef (s : State) (k : Nat) (f : RefIn → RefIn) :
    held (modRef s k f) = held s := by
  unfold modRef
  simp only [↓held_mk, ↓held_ite, ite_self]

theorem held_selectRef (s : State) (k : Nat) :
    held (selectRef s k) = held s := by
  unfold selectRef
  simp only [↓held_mk]

theorem held_enterHoldover (s : State) :
    held (enterHoldover s) = held s := by
  unfold enterHoldover
  simp only [↓held_mk, ↓held_ite, ↓held_raiseTime, ite_self]

theorem held_execRefClockLost (ref : Nat) (s : State) :
    held (outState (execRefClockLost ref s) s) = held s := by
  unfold execRefClockLost
  simp only [↓outState_next, ↓outState_ite, ↓held_ite, ↓held_enterHoldover, ↓held_modRef, ↓held_raiseTime, ↓held_selectRef, ite_self]

theorem held_execSysRefclkRestored (ref : Nat) (s : State) :
    held (outState (execSysRefclkRestored ref s) s) = held s := by
  unfold execSysRefclkRestored
  simp only [↓outState_next, ↓outState_ite, ↓held_ite, ↓held_modRef, ↓held_selectRef, ite_self]

theorem held_execRefGoodTimer (ref : Nat) (s : State) :
    held (outState (execRefGoodTimer ref s) s) = held s := by
  unfold execRefGoodTimer
  repeat' first
    | dsimp only []
    | (with_reducible refine held_due _ _ _ ?_)
    | (with_reducible exact held_next _)
    | split
    | (simp only [↓held_selectRef]; done)

theorem held_execMasterSplit (bad : Nat) (s : State) :
    held (outState (execMasterSplit bad s) s) = held s := by
  unfold execMasterSplit
  refine held_due _ _ _ ?_
  repeat' first
    | dsimp only []
    | (simp only [↓held_mk, ↓held_raiseTime]; done)

theorem held_execBeaconSend (s : State) :
    held (outState (execBeaconSend s) s) = held s := by
  unfold execBeaconSend
  refine held_due _ _ _ ?_
  repeat' first
    | dsimp only []
    | (simp only [↓held_mk]; done)

theorem held_unsureEffect (s : State) (i : Nat) :
    held (unsureEffect s i) = held s := by
  unfold unsureEffect
  repeat' first
    | (simp only [↓held_ite, ↓held_State_modGal, ↓held_sendSb, ↓held_columnCalCheck, ↓held_failPart, ↓held_killPassage, ↓held_columnUntrusted, ite_self]; done)
    | split
    | rw [held_forEach]
    | intro _ _
    | simp only []

theorem held_becomeUnsure (s : State) (i : Nat) :
    held (becomeUnsure s i) = held s := by
  unfold becomeUnsure
  simp only [↓held_ite, ↓held_State_modIsl, ↓held_raiseTime, ↓held_unsureEffect, ite_self]

theorem held_execBeaconReceived (island : Nat) (beacon : Nat) (at64 : Nat) (crcOk : Bool) (phase : Int) (s : State) :
    held (outState (execBeaconReceived island beacon at64 crcOk phase s) s) = held s := by
  unfold execBeaconReceived
  simp only [↓outState_next, ↓outState_ite, ↓held_ite, ↓held_becomeUnsure, ↓held_State_modIsl, ite_self]

theorem held_execBeaconMissed (island : Nat) (beacon : Nat) (s : State) :
    held (outState (execBeaconMissed island beacon s) s) = held s := by
  unfold execBeaconMissed
  simp only [↓outState_next, ↓outState_ite, ↓held_ite, ↓held_becomeUnsure, ↓held_State_modIsl, ite_self]

theorem held_execRecalibrationStart (island : Nat) (s : State) :
    held (outState (execRecalibrationStart island s) s) = held s := by
  unfold execRecalibrationStart
  refine held_due _ _ _ ?_
  repeat' first
    | (simp only [↓held_State_modIsl]; done)

theorem held_execCalibrationEnd (island : Nat) (delay : Nat) (s : State) :
    held (outState (execCalibrationEnd island delay s) s) = held s := by
  unfold execCalibrationEnd
  repeat' first
    | (simp only [↓outState_next, ↓outState_ite, ↓held_ite, ↓held_columnCalCheck, ↓held_State_modGal, ↓held_State_modIsl, ↓held_passageCalCheck, ↓held_raiseTime, ↓held_sendSb, ite_self]; done)
    | split
    | rw [held_forEach]
    | intro _ _
    | simp only [↓outState_next, ↓outState_ite, ↓held_ite, ↓held_columnCalCheck, ↓held_State_modIsl, ↓held_passageCalCheck, ↓held_raiseTime, ite_self]

theorem held_modArm (s : State) (id : Nat) (f : Arm → Arm) :
    held (modArm s id f) = held s := by
  unfold modArm
  simp only [↓held_mk]

theorem held_execArmMessage (arm : Nat) (island : Nat) (s : State) :
    held (outState (execArmMessage arm island s) s) = held s := by
  unfold execArmMessage
  repeat' first
    | (simp only [↓outState_next, ↓outState_ite, ↓held_mk, ↓held_ite, ↓held_modArm, ite_self]; done)
    | split

theorem held_execPpsOutPulse (s : State) :
    held (outState (execPpsOutPulse s) s) = held s := by
  unfold execPpsOutPulse
  refine held_due _ _ _ ?_
  repeat' first
    | dsimp only []
    | (simp only [↓held_mk]; done)

theorem held_execPpsEdge (at16 : Nat) (s : State) :
    held (outState (execPpsEdge at16 s) s) = held s := by
  unfold execPpsEdge
  repeat' first
    | (simp only [↓outState_next, ↓outState_ite, ↓held_mk, ↓held_ite, ↓held_armFor, ↓held_raiseTime, ite_self]; done)
    | split
    | simp only []

theorem held_execPpsMissing (s : State) :
    held (outState (execPpsMissing s) s) = held s := by
  unfold execPpsMissing
  simp only [↓outState_next, ↓outState_ite, ↓held_mk, ↓held_ite, ↓held_raiseTime, ite_self]

theorem held_launchLoad (s : State) (delta : Nat) :
    held (launchLoad s delta) = held s := by
  unfold launchLoad
  simp only [↓held_mk, ↓held_ite, ↓held_raiseTime, ↓held_takeEdge, ite_self]

theorem held_setRefMode (s : State) (mode : Nat) :
    held (setRefMode s mode) = held s := by
  unfold setRefMode
  repeat' first
    | (simp only [↓held_mk, ↓held_enterHoldover, ↓held_selectRef]; done)
    | split
    | simp only []

theorem held_timeConfigBody (p : Bytes) (s : State) :
    held (timeConfigBody p s).st = held s := by
  unfold timeConfigBody
  simp only [↓st_reply, ↓held_mk, ↓held_guarded, ↓held_setRefMode]

theorem held_execTimeConfig (t : Transport) (r : Req) (s : State) :
    held (outState (execTimeConfig t r s) s) = held s := by
  unfold execTimeConfig
  repeat' first
    | (simp only [↓held_timeConfigBody]; done)
    | (with_reducible refine held_vendorCmd _ _ _ _ _ _ fun _ _ => ?_)

theorem held_timeReadBody (p : Bytes) (s : State) :
    held (timeReadBody p s).st = held s := by
  unfold timeReadBody
  repeat' first
    | (simp only [↓st_reply]; done)
    | (with_reducible refine held_guarded _ _ _ ?_)

theorem held_execTimeRead (t : Transport) (r : Req) (s : State) :
    held (outState (execTimeRead t r s) s) = held s := by
  unfold execTimeRead
  repeat' first
    | (simp only [↓held_timeReadBody]; done)
    | (with_reducible refine held_vendorCmd _ _ _ _ _ _ fun _ _ => ?_)

theorem held_coldState (s : State) :
    held (coldState s) = held s := by
  unfold coldState
  simp only [↓held_mk2]

theorem held_execColdResetAssert (pwrOk : Bool) (s : State) :
    held (outState (execColdResetAssert pwrOk s) s) = held s := by
  unfold execColdResetAssert
  simp only [↓outState_next, ↓held_mk, ↓held_ite, ↓held_coldState, ite_self]

theorem held_execColdResetRelease (bootSel : Nat) (s : State) :
    held (outState (execColdResetRelease bootSel s) s) = held s := by
  unfold execColdResetRelease
  simp only [↓outState_next, ↓outState_ite, ↓held_mk2, ↓held_ite, ↓held_coldState, ↓held_selectRef, ite_self]

theorem held_execThermalTrip (die : Nat) (temp : Nat) (s : State) :
    held (outState (execThermalTrip die temp s) s) = held s := by
  unfold execThermalTrip
  refine held_due _ _ _ ?_
  repeat' first
    | dsimp only []
    | (simp only [↓held_mk, ↓held_coldState]; done)

theorem held_execVidCodeValid (s : State) :
    held (outState (execVidCodeValid s) s) = held s := by
  unfold execVidCodeValid
  simp only [↓outState_next, ↓held_mk]

theorem held_armMoves (s : State) :
    held (armMoves s) = held s := by
  unfold armMoves
  repeat' first
    | (simp only [↓held_ite, ↓held_armFor]; done)
    | split
    | rw [held_forEach]
    | intro _ _

theorem held_planeReset (s : State) :
    held (planeReset s) = held s := by
  unfold planeReset
  repeat' first
    | (simp only [↓held_mk, ↓held_mk2, ↓held_closeSession]; done)
    | split
    | rw [held_forEach]
    | intro _ _
    | simp only [↓held_mk2]

theorem held_endOps (s : State) :
    held (endOps s) = held s := by
  unfold endOps
  repeat' first
    | (simp only [↓held_replayJournal, ↓held_State_modIsl, ↓held_clearMargin, ↓held_failAdmission, ↓held_armMoves, ↓held_failPassageAdmit]; done)
    | (simp only [↓held_State_modIsl, ↓held_clearMargin, ↓held_failAdmission, ↓held_armMoves, ↓held_failPassageAdmit, *]; done)
    | (exact Eq.symm (by assumption))
    | (split <;> (try (rename_i heq; first
          | (have e := congrArg (fun p : State × _ => held p.1) heq; simp only [↓outState_next, ↓outState_due, ↓outState_ite, ↓st_ite, ↓st_reply, ↓st_wait, ↓st_opened, ↓fst_ite, ↓snd_ite, ↓getD_ite, ↓getD_some', ↓getD_none', ↓fst_mk, ↓snd_mk, ↓held_mk, ↓held_mk2, ↓held_ite, ↓held_replayJournal, ↓held_State_modIsl, ↓held_clearMargin, ↓held_failAdmission, ↓held_armMoves, ↓held_failPassageAdmit, ite_self] at e)
          | (have e := congrArg (fun p : _ × State => held p.2) heq; simp only [↓outState_next, ↓outState_due, ↓outState_ite, ↓st_ite, ↓st_reply, ↓st_wait, ↓st_opened, ↓fst_ite, ↓snd_ite, ↓getD_ite, ↓getD_some', ↓getD_none', ↓fst_mk, ↓snd_mk, ↓held_mk, ↓held_mk2, ↓held_ite, ↓held_replayJournal, ↓held_State_modIsl, ↓held_clearMargin, ↓held_failAdmission, ↓held_armMoves, ↓held_failPassageAdmit, ite_self] at e)
          | (have e := congrArg (fun p : Option State => held (p.getD s)) heq; simp only [↓outState_next, ↓outState_due, ↓outState_ite, ↓st_ite, ↓st_reply, ↓st_wait, ↓st_opened, ↓fst_ite, ↓snd_ite, ↓getD_ite, ↓getD_some', ↓getD_none', ↓fst_mk, ↓snd_mk, ↓held_mk, ↓held_mk2, ↓held_ite, ↓held_replayJournal, ↓held_State_modIsl, ↓held_clearMargin, ↓held_failAdmission, ↓held_armMoves, ↓held_failPassageAdmit, ite_self] at e))))
    | rw [held_forEach]
    | intro _ _
    | simp only [↓held_armMoves]

theorem held_toRom (s : State) :
    held (toRom s) = held s := by
  unfold toRom
  simp only [↓held_mk2]

theorem held_mgmtReset (s : State) :
    held (mgmtReset s) = held s := by
  unfold mgmtReset
  simp only [↓held_mk2, ↓held_resetBridge, ↓held_toRom, ↓held_planeReset]

theorem held_execMgmtResetAssert (s : State) :
    held (outState (execMgmtResetAssert s) s) = held s := by
  unfold execMgmtResetAssert
  simp only [↓outState_next, ↓outState_ite, ↓held_mk, ↓held_mk2, ↓held_ite, ↓held_mgmtReset, ite_self]

theorem held_execMgmtResetRelease (s : State) :
    held (outState (execMgmtResetRelease s) s) = held s := by
  unfold execMgmtResetRelease
  simp only [↓outState_next, ↓held_mk2]

theorem held_tryResetReply (s : State) :
    held (tryResetReply s) = held s := by
  unfold tryResetReply
  repeat' first
    | (simp only [↓held_mk2, ↓held_ite, ↓held_sendReply, ite_self]; done)
    | split

theorem held_mgmtResetBody (t : Transport) (r : Req) (s : State) :
    held (mgmtResetBody t r s).st = held s := by
  unfold mgmtResetBody
  simp only [↓st_wait, ↓held_mk2, ↓held_guarded, ↓held_mgmtReset]

theorem held_execMgmtReset (t : Transport) (r : Req) (s : State) :
    held (outState (execMgmtReset t r s) s) = held s := by
  unfold execMgmtReset
  repeat' first
    | (simp only [↓held_mgmtResetBody]; done)
    | (with_reducible refine held_vendorCmd _ _ _ _ _ _ fun _ _ => ?_)

theorem held_raiseTakeover (s : State) (cause : Nat) (failed : Nat) (closed : Nat) (posted : Nat) (ended : Nat) (failures : Nat) :
    held (raiseTakeover s cause failed closed posted ended failures) = held s := by
  unfold raiseTakeover
  simp only [↓held_raise]

theorem held_noteFailure (s : State) (n : Nat) :
    held (noteFailure s n) = held s := by
  unfold noteFailure
  simp only [↓held_State_modCluster]

theorem held_goDown (s : State) :
    held (goDown s) = held s := by
  unfold goDown
  simp only [↓held_mk2, ↓held_planeReset, ↓held_toRom]

theorem held_failCluster (s : State) (n : Nat) (cause : Nat) :
    held (failCluster s n cause) = held s := by
  unfold failCluster
  simp only [↓held_mk2, ↓held_ite, ↓held_endOps, ↓held_goDown, ↓held_State_modCluster, ↓held_noteFailure, ↓held_planeReset, ↓held_raiseTakeover, ite_self]

theorem held_execHeartbeat (cluster : Nat) (s : State) :
    held (outState (execHeartbeat cluster s) s) = held s := by
  unfold execHeartbeat
  refine held_due _ _ _ ?_
  repeat' first
    | (simp only [↓held_State_modCluster]; done)

theorem held_beatEnd (s : State) (n : Nat) :
    held (beatEnd s n) = held s := by
  unfold beatEnd
  simp only [↓held_ite, ↓held_State_modCluster, ite_self]

theorem held_execHeartbeatIntervalEnd (s : State) :
    held (outState (execHeartbeatIntervalEnd s) s) = held s := by
  unfold execHeartbeatIntervalEnd
  repeat' first
    | (simp only [↓outState_next, ↓outState_ite, ↓held_mk2, ↓held_ite, ↓held_beatEnd, ↓held_failCluster, ↓held_goDown, ↓held_noteFailure]; done)
    | split
    | simp only [↓outState_next]

theorem held_execClusterSelfReport (cluster : Nat) (ecc : Bool) (s : State) :
    held (outState (execClusterSelfReport cluster ecc s) s) = held s := by
  unfold execClusterSelfReport
  refine held_due _ _ _ ?_
  repeat' first
    | split
    | (simp only [↓held_failCluster]; done)

theorem held_execStandbyReady (cluster : Nat) (s : State) :
    held (outState (execStandbyReady cluster s) s) = held s := by
  unfold execStandbyReady
  refine held_due _ _ _ ?_
  repeat' first
    | (simp only [↓held_State_modCluster, ↓held_raiseTakeover]; done)

theorem held_startRunning (s : State) (n : Nat) :
    held (startRunning s n) = held s := by
  unfold startRunning
  simp only [↓held_mk2, ↓held_raiseHeld, ↓held_State_modCluster]

theorem held_execBothRestarted (cluster : Nat) (s : State) :
    held (outState (execBothRestarted cluster s) s) = held s := by
  unfold execBothRestarted
  simp only [↓outState_next, ↓outState_ite, ↓held_ite, ↓held_endOps, ↓held_raiseTakeover, ↓held_startRunning, ↓held_tryResetReply, ite_self]

theorem held_execStartingEnd (s : State) :
    held (outState (execStartingEnd s) s) = held s := by
  unfold execStartingEnd
  simp only [↓outState_next, ↓outState_ite, ↓held_ite, ↓held_endOps, ↓held_State_modCluster, ↓held_startRunning, ↓held_tryResetReply, ite_self]

theorem held_execBridgeReadTimeout (_id : Nat) (s : State) :
    held (outState (execBridgeReadTimeout _id s) s) = held s := by
  unfold execBridgeReadTimeout
  refine held_due _ _ _ ?_
  repeat' first
    | dsimp only []
    | (simp only [↓held_mk2]; done)

theorem held_mirrorEvent (s : State) (r : EvRec) :
    held (mirrorEvent s r) = held s := by
  unfold mirrorEvent
  simp only [↓held_traceAs]

theorem held_enterQueue (s : State) (r : EvRec) (open_ : Bool) :
    held (enterQueue s r open_) = held s := by
  unfold enterQueue
  simp only [↓held_mk, ↓held_mirrorEvent]

theorem held_arriveEvent (s : State) (r : EvRec) :
    held (arriveEvent s r) = held s := by
  unfold arriveEvent
  repeat' first
    | (simp only [↓held_mk, ↓held_ite, ↓held_enterQueue, ite_self]; done)
    | split

theorem held_execEventRecordArrival (i : Nat) (s : State) :
    held (outState (execEventRecordArrival i s) s) = held s := by
  unfold execEventRecordArrival
  repeat' first
    | dsimp only []
    | (with_reducible refine held_due _ _ _ ?_)
    | (with_reducible exact held_next _)
    | split
    | (simp only [↓held_mk, ↓held_arriveEvent]; done)

theorem held_execEventNotice (s : State) :
    held (outState (execEventNotice s) s) = held s := by
  unfold execEventNotice
  simp only [↓outState_due, ↓held_mk, ↓held_ite, ↓held_draw, ite_self]

theorem held_eventReadBody (p : Bytes) (s : State) :
    held (eventReadBody p s).st = held s := by
  unfold eventReadBody
  simp only [↓st_reply, ↓held_mk, ↓held_ite, ↓held_guarded, ite_self]

theorem held_execEventRead (t : Transport) (r : Req) (s : State) :
    held (outState (execEventRead t r s) s) = held s := by
  unfold execEventRead
  repeat' first
    | (simp only [↓held_eventReadBody]; done)
    | (with_reducible refine held_vendorCmd _ _ _ _ _ _ fun _ _ => ?_)

theorem held_eventMaskBody (p : Bytes) (s : State) :
    held (eventMaskBody p s).st = held s := by
  unfold eventMaskBody
  simp only [↓st_ite, ↓st_reply, ↓held_mk, ↓held_ite, ↓held_guarded, ite_self]

theorem held_execEventMask (t : Transport) (r : Req) (s : State) :
    held (outState (execEventMask t r s) s) = held s := by
  unfold execEventMask
  repeat' first
    | (simp only [↓held_eventMaskBody]; done)
    | (with_reducible refine held_vendorCmd _ _ _ _ _ _ fun _ _ => ?_)

theorem held_raiseThermal (s : State) (source : Nat) (cause : Nat) (sev : Nat) (die : Nat) (value : Nat) (rail : Nat) :
    held (raiseThermal s source cause sev die value rail) = held s := by
  unfold raiseThermal
  simp only [↓held_raise]

theorem held_railOut (s : State) (i : Nat) :
    held (railOut s i).1 = held s := by
  unfold railOut
  repeat' first
    | (simp only [↓fst_ite, ↓fst_mk, ↓held_ite, ↓held_columnUntrusted, ↓held_State_modGal, ↓held_takeDown]; done)
    | split
    | rw [foldl_held1]
    | intro _ _

theorem held_testRail (s : State) (iv : Nat × Nat) :
    held (testRail s iv) = held s := by
  unfold testRail
  simp only [↓held_mk, ↓held_ite, ↓held_railOut, ↓held_raiseThermal, ite_self]

theorem held_testTemp (s : State) (dv : Nat × Nat) :
    held (testTemp s dv) = held s := by
  unfold testTemp
  simp only [↓held_mk, ↓held_ite, ↓held_raiseThermal, ite_self]

theorem held_execMonitorSample (temps : List Nat) (rails : List Nat) (s : State) :
    held (outState (execMonitorSample temps rails s) s) = held s := by
  unfold execMonitorSample
  repeat' first
    | (simp only [↓outState_next, ↓held_mk, ↓held_testRail, ↓held_testTemp]; done)
    | split
    | rw [held_forEach]
    | intro _ _
    | simp only [↓outState_next]

theorem held_loopReply (s : State) (b : Nat) :
    held (loopReply s b).1 = held s := by
  unfold loopReply
  simp only [↓fst_ite, ↓fst_mk, ↓held_ite, ↓held_drawErrors, ite_self]

theorem held_startLoop (s : State) (b : Nat) (mode : Nat) (pat : Nat) (blocks : Nat) :
    held (startLoop s b mode pat blocks) = held s := by
  unfold startLoop
  simp only [↓held_ite, ↓held_State_modLoop, ↓held_takeDown, ite_self]

theorem held_loopbackBody (p : Bytes) (s : State) :
    held (loopbackBody p s).st = held s := by
  unfold loopbackBody
  simp only [↓st_reply, ↓held_ite, ↓held_guarded, ↓held_loopReply, ↓held_startLoop, ↓held_stopLoop, ite_self]

theorem held_execPortLoopback (t : Transport) (r : Req) (s : State) :
    held (outState (execPortLoopback t r s) s) = held s := by
  unfold execPortLoopback
  repeat' first
    | (simp only [↓held_loopbackBody]; done)
    | (with_reducible refine held_vendorCmd _ _ _ _ _ _ fun _ _ => ?_)

theorem held_execLoopbackEnd (port : Nat) (bits : Nat) (errors : List Nat) (aborted : Bool) (s : State) :
    held (outState (execLoopbackEnd port bits errors aborted s) s) = held s := by
  unfold execLoopbackEnd
  repeat' first
    | dsimp only []
    | (with_reducible refine held_due _ _ _ ?_)
    | (with_reducible exact held_next _)
    | split
    | (simp only [↓held_endLoop]; done)

theorem held_dropWaiting (s : State) (g : Nat) :
    held (dropWaiting s g) = held s := by
  unfold dropWaiting
  simp only [↓held_mk]

theorem held_purge (g : Nat) (s : State) (i : Nat) :
    held (purge g s i) = held s := by
  unfold purge
  repeat' first
    | (simp only [↓held_ite, ↓held_State_modGal, ↓held_State_modPas, ↓held_replayInto, ↓held_unplan, ↓held_endPacket, ↓held_forgetPacket, ↓held_replyGone, ↓held_releaseIo, ↓held_deliverAll, ite_self]; done)
    | (simp only [↓held_ite, ↓held_State_modGal, ↓held_State_modPas, ↓held_replayInto, ↓held_unplan, ↓held_forgetPacket, ↓held_replyGone, ↓held_releaseIo, ↓held_deliverAll, ite_self, *]; done)
    | (exact Eq.symm (by assumption))
    | (split <;> (try (rename_i heq; first
          | (have e := congrArg (fun p : State × _ => held p.1) heq; simp only [↓outState_next, ↓outState_due, ↓outState_ite, ↓st_ite, ↓st_reply, ↓st_wait, ↓st_opened, ↓fst_ite, ↓snd_ite, ↓getD_ite, ↓getD_some', ↓getD_none', ↓fst_mk, ↓snd_mk, ↓held_mk, ↓held_mk2, ↓held_ite, ↓held_State_modGal, ↓held_State_modPas, ↓held_replayInto, ↓held_unplan, ↓held_endPacket, ↓held_forgetPacket, ↓held_replyGone, ↓held_releaseIo, ↓held_deliverAll, ite_self] at e)
          | (have e := congrArg (fun p : _ × State => held p.2) heq; simp only [↓outState_next, ↓outState_due, ↓outState_ite, ↓st_ite, ↓st_reply, ↓st_wait, ↓st_opened, ↓fst_ite, ↓snd_ite, ↓getD_ite, ↓getD_some', ↓getD_none', ↓fst_mk, ↓snd_mk, ↓held_mk, ↓held_mk2, ↓held_ite, ↓held_State_modGal, ↓held_State_modPas, ↓held_replayInto, ↓held_unplan, ↓held_endPacket, ↓held_forgetPacket, ↓held_replyGone, ↓held_releaseIo, ↓held_deliverAll, ite_self] at e)
          | (have e := congrArg (fun p : Option State => held (p.getD s)) heq; simp only [↓outState_next, ↓outState_due, ↓outState_ite, ↓st_ite, ↓st_reply, ↓st_wait, ↓st_opened, ↓fst_ite, ↓snd_ite, ↓getD_ite, ↓getD_some', ↓getD_none', ↓fst_mk, ↓snd_mk, ↓held_mk, ↓held_mk2, ↓held_ite, ↓held_State_modGal, ↓held_State_modPas, ↓held_replayInto, ↓held_unplan, ↓held_endPacket, ↓held_forgetPacket, ↓held_replyGone, ↓held_releaseIo, ↓held_deliverAll, ite_self] at e))))
    | split
    | rw [held_forEach]
    | rw [foldl_held]
    | rw [foldl_held1]
    | intro _ _
    | simp only [↓held_releaseIo, ↓held_deliverAll]

theorem held_answerLost (s : State) (p : Pkt) :
    held (answerLost s p) = held s := by
  unfold answerLost
  repeat' first
    | (simp only [↓held_accessEnd, ↓held_lostForHost, ↓held_noTarget, ↓held_postedLost, ↓held_privateFail, ↓held_sendToPort]; done)
    | split

theorem held_clearGallery (s : State) (g : Nat) :
    held (clearGallery s g) = held s := by
  unfold clearGallery
  repeat' first
    | (simp only [↓held_mk, ↓held_State_modGal, ↓held_State_modPrt, ↓held_State_modSch, ↓held_State_modSlice, ↓held_State_modSvc, ↓held_State_modEndp, ↓held_replyGone]; done)
    | (simp only [↓held_mk, ↓held_State_modPrt, ↓held_State_modSch, ↓held_State_modSlice, ↓held_State_modSvc, ↓held_State_modEndp, ↓held_replyGone, *]; done)
    | (exact Eq.symm (by assumption))
    | (split <;> (try (rename_i heq; first
          | (have e := congrArg (fun p : State × _ => held p.1) heq; simp only [↓outState_next, ↓outState_due, ↓outState_ite, ↓st_ite, ↓st_reply, ↓st_wait, ↓st_opened, ↓fst_ite, ↓snd_ite, ↓getD_ite, ↓getD_some', ↓getD_none', ↓fst_mk, ↓snd_mk, ↓held_mk, ↓held_mk2, ↓held_ite, ↓held_State_modGal, ↓held_State_modPrt, ↓held_State_modSch, ↓held_State_modSlice, ↓held_State_modSvc, ↓held_State_modEndp, ↓held_replyGone, ite_self] at e)
          | (have e := congrArg (fun p : _ × State => held p.2) heq; simp only [↓outState_next, ↓outState_due, ↓outState_ite, ↓st_ite, ↓st_reply, ↓st_wait, ↓st_opened, ↓fst_ite, ↓snd_ite, ↓getD_ite, ↓getD_some', ↓getD_none', ↓fst_mk, ↓snd_mk, ↓held_mk, ↓held_mk2, ↓held_ite, ↓held_State_modGal, ↓held_State_modPrt, ↓held_State_modSch, ↓held_State_modSlice, ↓held_State_modSvc, ↓held_State_modEndp, ↓held_replyGone, ite_self] at e)
          | (have e := congrArg (fun p : Option State => held (p.getD s)) heq; simp only [↓outState_next, ↓outState_due, ↓outState_ite, ↓st_ite, ↓st_reply, ↓st_wait, ↓st_opened, ↓fst_ite, ↓snd_ite, ↓getD_ite, ↓getD_some', ↓getD_none', ↓fst_mk, ↓snd_mk, ↓held_mk, ↓held_mk2, ↓held_ite, ↓held_State_modGal, ↓held_State_modPrt, ↓held_State_modSch, ↓held_State_modSlice, ↓held_State_modSvc, ↓held_State_modEndp, ↓held_replyGone, ite_self] at e))))
    | rw [held_forEach]
    | intro _ _
    | simp only [↓held_mk, ↓held_State_modSvc]

theorem held_moveHome (s : State) (a : Nat) :
    held (moveHome s a) = held s := by
  unfold moveHome
  repeat' first
    | (simp only [↓held_mk, ↓held_State_modCtx, ↓held_resetMsix, ↓held_State_modEndp]; done)
    | (simp only [↓held_State_modCtx, ↓held_resetMsix, ↓held_State_modEndp, *]; done)
    | (exact Eq.symm (by assumption))
    | (split <;> (try (rename_i heq; first
          | (have e := congrArg (fun p : State × _ => held p.1) heq; simp only [↓outState_next, ↓outState_due, ↓outState_ite, ↓st_ite, ↓st_reply, ↓st_wait, ↓st_opened, ↓fst_ite, ↓snd_ite, ↓getD_ite, ↓getD_some', ↓getD_none', ↓fst_mk, ↓snd_mk, ↓held_mk, ↓held_mk2, ↓held_ite, ↓held_State_modCtx, ↓held_resetMsix, ↓held_State_modEndp, ite_self] at e)
          | (have e := congrArg (fun p : _ × State => held p.2) heq; simp only [↓outState_next, ↓outState_due, ↓outState_ite, ↓st_ite, ↓st_reply, ↓st_wait, ↓st_opened, ↓fst_ite, ↓snd_ite, ↓getD_ite, ↓getD_some', ↓getD_none', ↓fst_mk, ↓snd_mk, ↓held_mk, ↓held_mk2, ↓held_ite, ↓held_State_modCtx, ↓held_resetMsix, ↓held_State_modEndp, ite_self] at e)
          | (have e := congrArg (fun p : Option State => held (p.getD s)) heq; simp only [↓outState_next, ↓outState_due, ↓outState_ite, ↓st_ite, ↓st_reply, ↓st_wait, ↓st_opened, ↓fst_ite, ↓snd_ite, ↓getD_ite, ↓getD_some', ↓getD_none', ↓fst_mk, ↓snd_mk, ↓held_mk, ↓held_mk2, ↓held_ite, ↓held_State_modCtx, ↓held_resetMsix, ↓held_State_modEndp, ite_self] at e))))
    | split
    | rw [held_forEach]
    | rw [foldl_held]
    | rw [foldl_held1]
    | intro _ _
    | simp only [↓held_resetMsix]

theorem held_execGalleryLostDeclare (g : Nat) (s : State) :
    held (outState (execGalleryLostDeclare g s) s) = held s := by
  unfold execGalleryLostDeclare
  repeat' first
    | (simp only [↓outState_next, ↓outState_ite, ↓held_mk, ↓held_ite, ↓held_dropWaiting, ↓held_State_modGal, ↓held_dropFlights, ↓held_clearGallery, ↓held_purge, ↓held_takeDown, ↓held_loseDevice, ↓held_answerLost, ↓held_columnOut, ↓held_armMoves, ↓held_columnCalCheck]; done)
    | (simp only [↓outState_next, ↓outState_ite, ↓held_mk, ↓held_ite, ↓held_purge, ↓held_takeDown, ↓held_loseDevice, ↓held_answerLost, ↓held_columnOut, ↓held_armMoves, ↓held_columnCalCheck, *]; done)
    | (exact Eq.symm (by assumption))
    | (split <;> (try (rename_i heq; first
          | (have e := congrArg (fun p : State × _ => held p.1) heq; simp only [↓outState_next, ↓outState_due, ↓outState_ite, ↓st_ite, ↓st_reply, ↓st_wait, ↓st_opened, ↓fst_ite, ↓snd_ite, ↓getD_ite, ↓getD_some', ↓getD_none', ↓fst_mk, ↓snd_mk, ↓held_mk, ↓held_mk2, ↓held_ite, ↓held_dropWaiting, ↓held_State_modGal, ↓held_dropFlights, ↓held_clearGallery, ↓held_purge, ↓held_takeDown, ↓held_loseDevice, ↓held_answerLost, ↓held_columnOut, ↓held_armMoves, ↓held_columnCalCheck, ite_self] at e)
          | (have e := congrArg (fun p : _ × State => held p.2) heq; simp only [↓outState_next, ↓outState_due, ↓outState_ite, ↓st_ite, ↓st_reply, ↓st_wait, ↓st_opened, ↓fst_ite, ↓snd_ite, ↓getD_ite, ↓getD_some', ↓getD_none', ↓fst_mk, ↓snd_mk, ↓held_mk, ↓held_mk2, ↓held_ite, ↓held_dropWaiting, ↓held_State_modGal, ↓held_dropFlights, ↓held_clearGallery, ↓held_purge, ↓held_takeDown, ↓held_loseDevice, ↓held_answerLost, ↓held_columnOut, ↓held_armMoves, ↓held_columnCalCheck, ite_self] at e)
          | (have e := congrArg (fun p : Option State => held (p.getD s)) heq; simp only [↓outState_next, ↓outState_due, ↓outState_ite, ↓st_ite, ↓st_reply, ↓st_wait, ↓st_opened, ↓fst_ite, ↓snd_ite, ↓getD_ite, ↓getD_some', ↓getD_none', ↓fst_mk, ↓snd_mk, ↓held_mk, ↓held_mk2, ↓held_ite, ↓held_dropWaiting, ↓held_State_modGal, ↓held_dropFlights, ↓held_clearGallery, ↓held_purge, ↓held_takeDown, ↓held_loseDevice, ↓held_answerLost, ↓held_columnOut, ↓held_armMoves, ↓held_columnCalCheck, ite_self] at e))))
    | split
    | rw [held_forEach]
    | intro _ _
    | simp only [↓outState_next, ↓held_mk, ↓held_armMoves]

theorem held_dropAged (s : State) :
    held (dropAged s) = held s := by
  unfold dropAged
  simp only [↓held_mk]

theorem held_execTraceRecordAgeDrop (s : State) :
    held (outState (execTraceRecordAgeDrop s) s) = held s := by
  unfold execTraceRecordAgeDrop
  simp only [↓outState_next, ↓held_dropAged]

theorem held_sendBlocks (control : Bool) (blocks : List Bytes) (s : State) :
    held (sendBlocks control blocks s) = held s := by
  unfold sendBlocks
  rw [held_forEach]
  intro _ _
  simp only [↓held_mk]

theorem held_execLanternFrame (s : State) :
    held (outState (execLanternFrame s) s) = held s := by
  unfold execLanternFrame
  simp only [↓outState_next, ↓outState_ite, ↓held_mk, ↓held_ite, ↓held_sendBlocks, ↓held_dropAged, ite_self]

theorem held_execCounterSweep (s : State) :
    held (outState (execCounterSweep s) s) = held s := by
  unfold execCounterSweep
  repeat' first
    | (simp only [↓outState_next, ↓outState_ite, ↓held_mk, ↓held_ite, ↓held_countGal, ↓held_postBurst, ite_self]; done)
    | (simp only [↓outState_next, ↓outState_ite, ↓held_mk, ↓held_ite, ↓held_countGal, ↓held_postBurst, ite_self, *]; done)
    | (exact Eq.symm (by assumption))
    | (split <;> (try (rename_i heq; first
          | (have e := congrArg (fun p : State × _ => held p.1) heq; simp only [↓outState_next, ↓outState_due, ↓outState_ite, ↓st_ite, ↓st_reply, ↓st_wait, ↓st_opened, ↓fst_ite, ↓snd_ite, ↓getD_ite, ↓getD_some', ↓getD_none', ↓fst_mk, ↓snd_mk, ↓held_mk, ↓held_mk2, ↓held_ite, ↓held_countGal, ↓held_postBurst, ite_self] at e)
          | (have e := congrArg (fun p : _ × State => held p.2) heq; simp only [↓outState_next, ↓outState_due, ↓outState_ite, ↓st_ite, ↓st_reply, ↓st_wait, ↓st_opened, ↓fst_ite, ↓snd_ite, ↓getD_ite, ↓getD_some', ↓getD_none', ↓fst_mk, ↓snd_mk, ↓held_mk, ↓held_mk2, ↓held_ite, ↓held_countGal, ↓held_postBurst, ite_self] at e)
          | (have e := congrArg (fun p : Option State => held (p.getD s)) heq; simp only [↓outState_next, ↓outState_due, ↓outState_ite, ↓st_ite, ↓st_reply, ↓st_wait, ↓st_opened, ↓fst_ite, ↓snd_ite, ↓getD_ite, ↓getD_some', ↓getD_none', ↓fst_mk, ↓snd_mk, ↓held_mk, ↓held_mk2, ↓held_ite, ↓held_countGal, ↓held_postBurst, ite_self] at e))))
    | split
    | rw [held_forEach]
    | intro _ _
    | simp only [↓outState_next, ↓held_mk]

theorem held_execSweepComplete (s : State) :
    held (outState (execSweepComplete s) s) = held s := by
  unfold execSweepComplete
  refine held_due _ _ _ ?_
  repeat' first
    | dsimp only []
    | (simp only [↓held_mk]; done)

theorem held_execCounterWrap (g : Nat) (k : Nat) (skid : Nat) (s : State) :
    held (outState (execCounterWrap g k skid s) s) = held s := by
  unfold execCounterWrap
  simp only [↓outState_next, ↓outState_ite, ↓held_mk, ↓held_ite, ↓held_raiseAt, ite_self]

theorem held_traceSample (s : State) (g : Nat) (b : Bytes) :
    held (traceSample s g b) = held s := by
  unfold traceSample
  repeat' first
    | (simp only [↓held_ite, ↓held_queueTrace]; done)
    | split
    | rw [held_forEach]
    | intro _ _

theorem held_execSampleEnd (g : Nat) (id : Nat) (port : Nat) (s : State) :
    held (outState (execSampleEnd g id port s) s) = held s := by
  unfold execSampleEnd
  repeat' first
    | (simp only [↓outState_next, ↓held_mk, ↓held_traceSample]; done)
    | split
    | simp only []

theorem held_snapshotBody (p : Bytes) (s : State) :
    held (snapshotBody p s).st = held s := by
  unfold snapshotBody
  repeat' first
    | (simp only [↓st_reply]; done)
    | (with_reducible refine held_guarded _ _ _ ?_)

theorem held_execCounterSnapshot (t : Transport) (r : Req) (s : State) :
    held (outState (execCounterSnapshot t r s) s) = held s := by
  unfold execCounterSnapshot
  repeat' first
    | (simp only [↓held_snapshotBody]; done)
    | (with_reducible refine held_vendorCmd _ _ _ _ _ _ fun _ _ => ?_)

theorem held_countLevel (g : Nat) (bits : Nat) (s : State) (k : Nat) :
    held (countLevel g bits s k) = held s := by
  unfold countLevel
  simp only [↓held_ite, ↓held_addProg, ite_self]

theorem held_countLevels (s : State) (g : Nat) :
    held (countLevels s g) = held s := by
  unfold countLevels
  repeat' first
    | (simp only [↓held_mk, ↓held_ite, ↓held_countLevel]; done)
    | split
    | rw [held_forEach]
    | intro _ _
    | simp only [↓held_mk]

theorem held_countHeldOff (s : State) (p : Nat) :
    held (countHeldOff s p) = held s := by
  unfold countHeldOff
  simp only [↓held_ite, ↓held_countPas, ite_self]

theorem held_countDrip (s : State) :
    held (countDrip s) = held s := by
  unfold countDrip
  repeat' first
    | (simp only [↓held_countHeldOff, ↓held_countLevels]; done)
    | split
    | rw [held_forEach]
    | intro _ _

end Sys2Proof.Machine
end

