-- ==== Sys2Proof/Laws/HeldCommands.lean ====
section
/-!
SUPPORT. What the commands of sessions, the stage, the commit, the standard interfaces and the loader leave alone (`held`), what FUSE_BIT
burns, and one drip.
-/

namespace Sys2Proof.Machine

theorem held_dirModeAct (s : State) (g : Nat) (sl : Nat) (act : Nat) :
    held (dirModeAct s g sl act) = held s := by
  unfold dirModeAct
  repeat' first
    | (simp only [↓held_enterPointer, ↓held_startConv, ↓held_startMigration]; done)
    | split

theorem held_dirModeNow (p : Bytes) (s : State) :
    held (dirModeNow p s).st = held s := by
  unfold dirModeNow
  simp only [↓st_reply, ↓held_dirModeAct, ↓held_guarded]

theorem held_testNow (s : State) (g : Nat) (sl : Nat) :
    held (testNow s g sl) = held s := by
  unfold testNow
  simp only [↓held_State_modSlice]

theorem held_testInPointer (s : State) (g : Nat) (sl : Nat) :
    held (testInPointer s g sl) = held s := by
  unfold testInPointer
  simp only [↓held_ite, ↓held_enterPointer, ↓held_State_modSlice, ite_self]

theorem held_startTest (s : State) (g : Nat) (sl : Nat) :
    held (startTest s g sl) = held s := by
  unfold startTest
  simp only [↓held_ite, ↓held_State_modSlice, ↓held_startMigration, ↓held_testInPointer, ↓held_testNow, ite_self]

theorem held_sliceTestBody (p : Bytes) (s : State) :
    held (sliceTestBody p s).st = held s := by
  unfold sliceTestBody
  simp only [↓st_ite, ↓st_reply, ↓held_ite, ↓held_guarded, ↓held_startTest, ite_self]

theorem held_execDirSliceTest (t : Transport) (r : Req) (s : State) :
    held (outState (execDirSliceTest t r s) s) = held s := by
  unfold execDirSliceTest
  repeat' first
    | (simp only [↓held_sliceTestBody]; done)
    | (with_reducible refine held_vendorCmd _ _ _ _ _ _ fun _ _ => ?_)

theorem held_execDirStats (t : Transport) (r : Req) (s : State) :
    held (outState (execDirStats t r s) s) = held s := by
  unfold execDirStats
  repeat' first
    | (simp only [↓st_reply]; done)
    | (with_reducible refine held_guarded _ _ _ ?_)
    | (with_reducible refine held_vendorCmd _ _ _ _ _ _ fun _ _ => ?_)

theorem held_raiseDrained (s : State) (n : Nat) (cause : Nat) (gen : Nat) (vppb : Nat) (count : Nat) :
    held (raiseDrained s n cause gen vppb count) = held s := by
  unfold raiseDrained
  simp only [↓held_raise]

theorem held_endDrain (s : State) (n : Nat) (v : LiveGen) (cause : Nat) :
    held (endDrain s n v cause) = held s := by
  unfold endDrain
  simp only [↓held_ite, ↓held_bindSettle, ↓held_State_modGr, ↓held_raiseDrained, ite_self]

theorem held_execDrainEnd (grotto : Nat) (gen : Nat) (s : State) :
    held (outState (execDrainEnd grotto gen s) s) = held s := by
  unfold execDrainEnd
  repeat' first
    | (with_reducible refine held_due _ _ _ ?_)
    | (with_reducible exact held_next _)
    | split
    | (simp only [↓held_endDrain]; done)

theorem held_execDrainTimeout (grotto : Nat) (gen : Nat) (s : State) :
    held (outState (execDrainTimeout grotto gen s) s) = held s := by
  unfold execDrainTimeout
  repeat' first
    | (with_reducible refine held_due _ _ _ ?_)
    | (with_reducible exact held_next _)
    | split
    | (simp only [↓held_endDrain, ↓held_State_modGr]; done)

theorem held_execGenerationHoldExpiry (grotto : Nat) (gen : Nat) (s : State) :
    held (outState (execGenerationHoldExpiry grotto gen s) s) = held s := by
  unfold execGenerationHoldExpiry
  refine held_due _ _ _ ?_
  repeat' first
    | (simp only [↓held_State_modGr]; done)

theorem held_recallEntry (g : Nat) (a : Nat) (s : State) (h : Nat × Entry) :
    held (recallEntry g a s h) = held s := by
  unfold recallEntry
  simp only [↓held_modEntry, ↓held_progress, ↓held_sendSnoops]

theorem held_execRecallSweepStep (grotto : Nat) (g : Nat) (sl : Nat) (set : Nat) (s : State) :
    held (outState (execRecallSweepStep grotto g sl set s) s) = held s := by
  unfold execRecallSweepStep
  repeat' first
    | dsimp only []
    | (with_reducible refine held_due _ _ _ ?_)
    | split
    | (simp only [↓held_State_modGr, ↓held_recallEntry, ↓held_traceDir]; done)
    | split
    | rw [held_forEach]
    | intro _ _

theorem held_execRecallSweepEnd (grotto : Nat) (s : State) :
    held (outState (execRecallSweepEnd grotto s) s) = held s := by
  unfold execRecallSweepEnd
  repeat' first
    | dsimp only []
    | (with_reducible refine held_due _ _ _ ?_)
    | split
    | (simp only [↓held_State_modGr, ↓held_raiseDrained]; done)

theorem held_mailReply (s d : State) (n op rc : Nat) (vals : List Nat) (t : State) (h : held t = held s) :
    held (outState (mailReply s n op rc vals t) d) = held s := by
  unfold mailReply
  rw [outState_next]
  split
  · rw [held_extReply, h]
  · rfl

theorem held_execIdentifyMemoryDevice (grotto : Nat) (s : State) :
    held (outState (execIdentifyMemoryDevice grotto s) s) = held s := by
  unfold execIdentifyMemoryDevice
  simp only [↓held_mailReply]

theorem held_execGetPartitionInfo (grotto : Nat) (s : State) :
    held (outState (execGetPartitionInfo grotto s) s) = held s := by
  unfold execGetPartitionInfo
  simp only [↓held_mailReply]

theorem held_execGetEventRecords (grotto : Nat) (log : Nat) (s : State) :
    held (outState (execGetEventRecords grotto log s) s) = held s := by
  unfold execGetEventRecords
  simp only [↓held_mailReply]

theorem held_execClearEventRecords (grotto : Nat) (log : Nat) (handles : List Nat) (s : State) :
    held (outState (execClearEventRecords grotto log handles s) s) = held s := by
  unfold execClearEventRecords
  simp only [↓held_ite, ↓held_mailReply, ↓held_State_modGr, ite_self]

theorem held_execGetEventInterruptPolicy (grotto : Nat) (s : State) :
    held (outState (execGetEventInterruptPolicy grotto s) s) = held s := by
  unfold execGetEventInterruptPolicy
  simp only [↓held_mailReply]

theorem held_execSetEventInterruptPolicy (grotto : Nat) (policy : Nat) (s : State) :
    held (outState (execSetEventInterruptPolicy grotto policy s) s) = held s := by
  unfold execSetEventInterruptPolicy
  simp only [↓held_mailReply, ↓held_State_modGr]

theorem held_execUnsupportedMailboxCommand (grotto : Nat) (op : Nat) (s : State) :
    held (outState (execUnsupportedMailboxCommand grotto op s) s) = held s := by
  unfold execUnsupportedMailboxCommand
  simp only [↓held_mailReply]

theorem held_sanitiseShow (s : State) (w : Nat) :
    held (sanitiseShow s w).st = held s := by
  unfold sanitiseShow
  simp only [↓st_reply]

theorem held_dropLines (w : Nat) (s : State) (h : Nat × Nat) :
    held (dropLines w s h) = held s := by
  unfold dropLines
  repeat' first
    | (simp only [↓held_mk, ↓held_ite, ↓held_modEntries, ↓held_modTxn, ↓held_wakeSet, ite_self]; done)
    | split
    | rw [held_forEach]
    | intro _ _
    | simp only [↓held_mk]

theorem held_startSanitise (s : State) (w : Nat) (fill : Nat) (who : Option Nat) :
    held (startSanitise s w fill who) = held s := by
  unfold startSanitise
  repeat' first
    | (simp only [↓held_dropLines, ↓held_dropUses, ↓held_State_modWin, ↓held_sanWrite]; done)
    | (simp only [↓held_dropLines, ↓held_dropUses, ↓held_State_modWin, ↓held_sanWrite, *]; done)
    | (exact Eq.symm (by assumption))
    | (split <;> (try (rename_i heq; first
          | (have e := congrArg (fun p : State × _ => held p.1) heq; simp only [↓outState_next, ↓outState_due, ↓outState_ite, ↓st_ite, ↓st_reply, ↓st_wait, ↓st_opened, ↓fst_ite, ↓snd_ite, ↓getD_ite, ↓getD_some', ↓getD_none', ↓fst_mk, ↓snd_mk, ↓held_mk, ↓held_mk2, ↓held_ite, ↓held_dropLines, ↓held_dropUses, ↓held_State_modWin, ↓held_sanWrite, ite_self] at e)
          | (have e := congrArg (fun p : _ × State => held p.2) heq; simp only [↓outState_next, ↓outState_due, ↓outState_ite, ↓st_ite, ↓st_reply, ↓st_wait, ↓st_opened, ↓fst_ite, ↓snd_ite, ↓getD_ite, ↓getD_some', ↓getD_none', ↓fst_mk, ↓snd_mk, ↓held_mk, ↓held_mk2, ↓held_ite, ↓held_dropLines, ↓held_dropUses, ↓held_State_modWin, ↓held_sanWrite, ite_self] at e)
          | (have e := congrArg (fun p : Option State => held (p.getD s)) heq; simp only [↓outState_next, ↓outState_due, ↓outState_ite, ↓st_ite, ↓st_reply, ↓st_wait, ↓st_opened, ↓fst_ite, ↓snd_ite, ↓getD_ite, ↓getD_some', ↓getD_none', ↓fst_mk, ↓snd_mk, ↓held_mk, ↓held_mk2, ↓held_ite, ↓held_dropLines, ↓held_dropUses, ↓held_State_modWin, ↓held_sanWrite, ite_self] at e))))
    | split
    | rw [held_forEach]
    | intro _ _
    | simp only [↓held_dropUses, ↓held_State_modWin]

theorem held_sanitiseBody (p : Bytes) (s : State) :
    held (sanitiseBody p s).st = held s := by
  unfold sanitiseBody
  simp only [↓st_ite, ↓held_ite, ↓held_guarded, ↓held_sanitiseShow, ↓held_startSanitise, ite_self]

theorem held_execWindowSanitize (t : Transport) (r : Req) (s : State) :
    held (outState (execWindowSanitize t r s) s) = held s := by
  unfold execWindowSanitize
  repeat' first
    | (simp only [↓held_sanitiseBody]; done)
    | (with_reducible refine held_vendorCmd _ _ _ _ _ _ fun _ _ => ?_)

theorem held_startResync (s : State) (w : Nat) (rate : Nat) :
    held (startResync s w rate) = held s := by
  unfold startResync
  repeat' first
    | (simp only [↓held_dropUses, ↓held_modExt, ↓held_State_modWin, ↓held_copyBlock]; done)
    | (simp only [↓held_modExt, ↓held_State_modWin, ↓held_copyBlock, *]; done)
    | (exact Eq.symm (by assumption))
    | (split <;> (try (rename_i heq; first
          | (have e := congrArg (fun p : State × _ => held p.1) heq; simp only [↓outState_next, ↓outState_due, ↓outState_ite, ↓st_ite, ↓st_reply, ↓st_wait, ↓st_opened, ↓fst_ite, ↓snd_ite, ↓getD_ite, ↓getD_some', ↓getD_none', ↓fst_mk, ↓snd_mk, ↓held_mk, ↓held_mk2, ↓held_ite, ↓held_dropUses, ↓held_modExt, ↓held_State_modWin, ↓held_copyBlock, ite_self] at e)
          | (have e := congrArg (fun p : _ × State => held p.2) heq; simp only [↓outState_next, ↓outState_due, ↓outState_ite, ↓st_ite, ↓st_reply, ↓st_wait, ↓st_opened, ↓fst_ite, ↓snd_ite, ↓getD_ite, ↓getD_some', ↓getD_none', ↓fst_mk, ↓snd_mk, ↓held_mk, ↓held_mk2, ↓held_ite, ↓held_dropUses, ↓held_modExt, ↓held_State_modWin, ↓held_copyBlock, ite_self] at e)
          | (have e := congrArg (fun p : Option State => held (p.getD s)) heq; simp only [↓outState_next, ↓outState_due, ↓outState_ite, ↓st_ite, ↓st_reply, ↓st_wait, ↓st_opened, ↓fst_ite, ↓snd_ite, ↓getD_ite, ↓getD_some', ↓getD_none', ↓fst_mk, ↓snd_mk, ↓held_mk, ↓held_mk2, ↓held_ite, ↓held_dropUses, ↓held_modExt, ↓held_State_modWin, ↓held_copyBlock, ite_self] at e))))
    | split
    | rw [held_forEach]
    | intro _ _
    | simp only [↓held_State_modWin]

theorem held_resyncBody (p : Bytes) (s : State) :
    held (resyncBody p s).st = held s := by
  unfold resyncBody
  simp only [↓st_ite, ↓st_reply, ↓held_ite, ↓held_guarded, ↓held_startResync, ite_self]

theorem held_execWindowResync (t : Transport) (r : Req) (s : State) :
    held (outState (execWindowResync t r s) s) = held s := by
  unfold execWindowResync
  repeat' first
    | (simp only [↓held_resyncBody]; done)
    | (with_reducible refine held_vendorCmd _ _ _ _ _ _ fun _ _ => ?_)

theorem held_startRecall (s : State) (n : Nat) :
    held (startRecall s n) = held s := by
  unfold startRecall
  simp only [↓held_State_modGr]

theorem held_execGrottoRecall (t : Transport) (r : Req) (s : State) :
    held (outState (execGrottoRecall t r s) s) = held s := by
  unfold execGrottoRecall
  repeat' first
    | (simp only [↓st_reply, ↓held_guarded, ↓held_startRecall]; done)
    | (with_reducible refine held_vendorCmd _ _ _ _ _ _ fun _ _ => ?_)

theorem held_execGrottoState (t : Transport) (r : Req) (s : State) :
    held (outState (execGrottoState t r s) s) = held s := by
  unfold execGrottoState
  repeat' first
    | (simp only [↓st_reply]; done)
    | (with_reducible refine held_guarded _ _ _ ?_)
    | (with_reducible refine held_vendorCmd _ _ _ _ _ _ fun _ _ => ?_)

theorem held_execGuardViolationRead (t : Transport) (r : Req) (s : State) :
    held (outState (execGuardViolationRead t r s) s) = held s := by
  unfold execGuardViolationRead
  repeat' first
    | (simp only [↓st_reply]; done)
    | (with_reducible refine held_guarded _ _ _ ?_)
    | (with_reducible refine held_vendorCmd _ _ _ _ _ _ fun _ _ => ?_)

theorem held_execGuardViolationClear (t : Transport) (r : Req) (s : State) :
    held (outState (execGuardViolationClear t r s) s) = held s := by
  unfold execGuardViolationClear
  repeat' first
    | (simp only [↓st_reply, ↓held_guarded, ↓held_State_modGrd]; done)
    | (with_reducible refine held_vendorCmd _ _ _ _ _ _ fun _ _ => ?_)

theorem held_addStaged (s : State) (k : Nat) (v : Cfg) (op : Nat) (p : Bytes) :
    held (addStaged s k v op p) = held s := by
  unfold addStaged
  simp only [↓held_State_setStage]

theorem held_stageBody (op : Nat) (p : Bytes) (s : State) (n : Option Nat) :
    held (stageBody op p s n).st = held s := by
  unfold stageBody
  simp only [↓st_reply, ↓held_addStaged, ↓held_guarded]

theorem held_stagedCmd (op : Nat) (t : Transport) (r : Req) (s : State) :
    held (outState (stagedCmd op t r s) s) = held s := by
  unfold stagedCmd
  repeat' first
    | (simp only [↓held_stageBody]; done)
    | (with_reducible refine held_vendorCmd _ _ _ _ _ _ fun _ _ => ?_)

theorem held_execPortConfig (t : Transport) (r : Req) (s : State) :
    held (outState (execPortConfig t r s) s) = held s := by
  unfold execPortConfig
  simp only [↓held_stagedCmd]

theorem held_execHierCreate (t : Transport) (r : Req) (s : State) :
    held (outState (execHierCreate t r s) s) = held s := by
  unfold execHierCreate
  simp only [↓held_stagedCmd]

theorem held_execHierDestroy (t : Transport) (r : Req) (s : State) :
    held (outState (execHierDestroy t r s) s) = held s := by
  unfold execHierDestroy
  simp only [↓held_stagedCmd]

theorem held_execGrottoCreate (t : Transport) (r : Req) (s : State) :
    held (outState (execGrottoCreate t r s) s) = held s := by
  unfold execGrottoCreate
  simp only [↓held_stagedCmd]

theorem held_execGrottoBind (t : Transport) (r : Req) (s : State) :
    held (outState (execGrottoBind t r s) s) = held s := by
  unfold execGrottoBind
  simp only [↓held_stagedCmd]

theorem held_execGrottoUnbind (t : Transport) (r : Req) (s : State) :
    held (outState (execGrottoUnbind t r s) s) = held s := by
  unfold execGrottoUnbind
  simp only [↓held_stagedCmd]

theorem held_execWindowDefine (t : Transport) (r : Req) (s : State) :
    held (outState (execWindowDefine t r s) s) = held s := by
  unfold execWindowDefine
  simp only [↓held_stagedCmd]

theorem held_execWindowRemove (t : Transport) (r : Req) (s : State) :
    held (outState (execWindowRemove t r s) s) = held s := by
  unfold execWindowRemove
  simp only [↓held_stagedCmd]

theorem held_ruleQuery (p : Bytes) (s : State) (n : Option Nat) :
    held (ruleQuery p s n).st = held s := by
  unfold ruleQuery
  repeat' first
    | (simp only [↓st_reply]; done)
    | (with_reducible refine held_guarded _ _ _ ?_)

theorem held_execGuardRuleSet (t : Transport) (r : Req) (s : State) :
    held (outState (execGuardRuleSet t r s) s) = held s := by
  unfold execGuardRuleSet
  repeat' first
    | (simp only [↓st_ite, ↓held_ite, ↓held_ruleQuery, ↓held_stageBody, ite_self]; done)
    | (with_reducible refine held_vendorCmd _ _ _ _ _ _ fun _ _ => ?_)

theorem held_execGuardRuleClear (t : Transport) (r : Req) (s : State) :
    held (outState (execGuardRuleClear t r s) s) = held s := by
  unfold execGuardRuleClear
  simp only [↓held_stagedCmd]

theorem held_schedQuery (p : Bytes) (s : State) :
    held (schedQuery p s).st = held s := by
  unfold schedQuery
  repeat' first
    | (simp only [↓st_reply]; done)
    | (with_reducible refine held_guarded _ _ _ ?_)

theorem held_execSchedQueueSet (t : Transport) (r : Req) (s : State) :
    held (outState (execSchedQueueSet t r s) s) = held s := by
  unfold execSchedQueueSet
  repeat' first
    | (simp only [↓st_ite, ↓held_ite, ↓held_schedQuery, ↓held_stageBody, ite_self]; done)
    | (with_reducible refine held_vendorCmd _ _ _ _ _ _ fun _ _ => ?_)

theorem held_execGateListSet (t : Transport) (r : Req) (s : State) :
    held (outState (execGateListSet t r s) s) = held s := by
  unfold execGateListSet
  simp only [↓held_stagedCmd]

theorem held_execPolicerSet (t : Transport) (r : Req) (s : State) :
    held (outState (execPolicerSet t r s) s) = held s := by
  unfold execPolicerSet
  repeat' first
    | (simp only [↓st_ite, ↓st_reply, ↓held_ite, ↓held_stageBody]; done)
    | (with_reducible refine held_guarded _ _ _ ?_)
    | (with_reducible refine held_vendorCmd _ _ _ _ _ _ fun _ _ => ?_)
    | split
    | simp only [↓st_ite, ↓held_ite, ↓held_stageBody]

theorem held_execWredProfileSet (t : Transport) (r : Req) (s : State) :
    held (outState (execWredProfileSet t r s) s) = held s := by
  unfold execWredProfileSet
  repeat' first
    | (simp only [↓st_ite, ↓st_reply, ↓held_ite, ↓held_stageBody]; done)
    | (with_reducible refine held_guarded _ _ _ ?_)
    | (with_reducible refine held_vendorCmd _ _ _ _ _ _ fun _ _ => ?_)
    | split
    | simp only [↓st_ite, ↓held_ite, ↓held_stageBody]

theorem held_execEchoEndpointSet (t : Transport) (r : Req) (s : State) :
    held (outState (execEchoEndpointSet t r s) s) = held s := by
  unfold execEchoEndpointSet
  repeat' first
    | (simp only [↓st_ite, ↓st_reply, ↓held_ite, ↓held_stageBody]; done)
    | (with_reducible refine held_guarded _ _ _ ?_)
    | (with_reducible refine held_vendorCmd _ _ _ _ _ _ fun _ _ => ?_)
    | split
    | simp only [↓st_ite, ↓held_ite, ↓held_stageBody]

theorem held_execCheckContextAssign (t : Transport) (r : Req) (s : State) :
    held (outState (execCheckContextAssign t r s) s) = held s := by
  unfold execCheckContextAssign
  repeat' first
    | (simp only [↓st_ite, ↓st_reply, ↓held_ite, ↓held_stageBody]; done)
    | (with_reducible refine held_guarded _ _ _ ?_)
    | (with_reducible refine held_vendorCmd _ _ _ _ _ _ fun _ _ => ?_)
    | split
    | simp only [↓st_ite, ↓held_ite, ↓held_stageBody]

theorem held_execDirMode (t : Transport) (r : Req) (s : State) :
    held (outState (execDirMode t r s) s) = held s := by
  unfold execDirMode
  repeat' first
    | (simp only [↓st_ite, ↓st_reply, ↓held_ite, ↓held_addStaged, ↓held_dirModeNow, ↓held_guarded, ite_self]; done)
    | (with_reducible refine held_vendorCmd _ _ _ _ _ _ fun _ _ => ?_)

theorem held_execTraceConfig (t : Transport) (r : Req) (s : State) :
    held (outState (execTraceConfig t r s) s) = held s := by
  unfold execTraceConfig
  simp only [↓held_stagedCmd]

theorem held_execCounterConfig (t : Transport) (r : Req) (s : State) :
    held (outState (execCounterConfig t r s) s) = held s := by
  unfold execCounterConfig
  simp only [↓held_stagedCmd]

theorem held_execSampleConfig (t : Transport) (r : Req) (s : State) :
    held (outState (execSampleConfig t r s) s) = held s := by
  unfold execSampleConfig
  simp only [↓held_stagedCmd]

theorem held_leaveForCfg (s : State) (b : Nat) :
    held (leaveForCfg s b) = held s := by
  unfold leaveForCfg
  repeat' first
    | (simp only [↓held_stopLoop, ↓held_takeDown]; done)
    | split
    | simp only []

theorem held_enterCfg (old : Cfg) (s : State) (b : Nat) :
    held (enterCfg old s b) = held s := by
  unfold enterCfg
  simp only [↓held_State_modPrt, ↓held_powerQuads, ↓held_setLink]

theorem held_endFault (s : State) (b : Nat) :
    held (endFault s b) = held s := by
  unfold endFault
  simp only [↓held_ite, ↓held_State_modGrd, ↓held_raiseFault, ite_self]

theorem held_goneWindow (old : Cfg) (s : State) (w : Nat) :
    held (goneWindow old s w) = held s := by
  unfold goneWindow
  simp only [↓held_mk, ↓held_ite, ↓held_State_modWin, ite_self]

theorem held_newWindow (s : State) (w : Nat) :
    held (newWindow s w) = held s := by
  unfold newWindow
  repeat' first
    | (simp only [↓held_loseInWindow, ↓held_State_modWin]; done)
    | split
    | rw [held_forEach]
    | intro _ _

theorem held_bindNow (n : Nat) (vppb : Nat) (drainMs : Nat) (san : Bool) (s : State) :
    held (bindNow n vppb drainMs san s) = held s := by
  unfold bindNow
  simp only [↓held_State_modGr]

theorem held_unbindNow (c : Cfg) (n : Nat) (s : State) :
    held (unbindNow c n s) = held s := by
  unfold unbindNow
  simp only [↓held_ite, ↓held_hotplug, ↓held_State_modGr, ite_self]

theorem held_deleteGrotto (s : State) (n : Nat) :
    held (deleteGrotto s n) = held s := by
  unfold deleteGrotto
  simp only [↓held_State_modGr]

theorem held_grottoStep (c : Cfg) (s : State) (k : Staged) :
    held (grottoStep c s k) = held s := by
  unfold grottoStep
  repeat' first
    | (simp only [↓held_ite, ↓held_bindNow, ↓held_deleteGrotto, ↓held_State_modGr, ↓held_unbindNow, ite_self]; done)
    | split
    | rw [held_forEach]
    | intro _ _

theorem held_startBindSanitise (s : State) (n : Nat) :
    held (startBindSanitise s n) = held s := by
  unfold startBindSanitise
  repeat' first
    | (simp only [↓held_ite, ↓held_State_modGr, ↓held_State_modWin, ↓held_startSanitise, ite_self]; done)
    | split
    | rw [held_forEach]
    | intro _ _
    | simp only [↓held_ite, ↓held_State_modGr]

theorem held_goneHier (s : State) (a : Nat) :
    held (goneHier s a) = held s := by
  unfold goneHier
  repeat' first
    | (simp only [↓held_closeMailbox, ↓held_State_modCtx]; done)
    | split
    | rw [held_forEach]
    | intro _ _

theorem held_newHier (s : State) (a : Nat) :
    held (newHier s a) = held s := by
  unfold newHier
  repeat' first
    | (simp only [↓held_mk, ↓held_ite, ↓held_State_modEndp, ↓held_resetMsix, ↓held_resetFns, ite_self]; done)
    | (simp only [↓held_mk, ↓held_ite, ↓held_State_modEndp, ↓held_resetMsix, ↓held_resetFns, ite_self, *]; done)
    | (exact Eq.symm (by assumption))
    | (split <;> (try (rename_i heq; first
          | (have e := congrArg (fun p : State × _ => held p.1) heq; simp only [↓outState_next, ↓outState_due, ↓outState_ite, ↓st_ite, ↓st_reply, ↓st_wait, ↓st_opened, ↓fst_ite, ↓snd_ite, ↓getD_ite, ↓getD_some', ↓getD_none', ↓fst_mk, ↓snd_mk, ↓held_mk, ↓held_mk2, ↓held_ite, ↓held_State_modEndp, ↓held_resetMsix, ↓held_resetFns, ite_self] at e)
          | (have e := congrArg (fun p : _ × State => held p.2) heq; simp only [↓outState_next, ↓outState_due, ↓outState_ite, ↓st_ite, ↓st_reply, ↓st_wait, ↓st_opened, ↓fst_ite, ↓snd_ite, ↓getD_ite, ↓getD_some', ↓getD_none', ↓fst_mk, ↓snd_mk, ↓held_mk, ↓held_mk2, ↓held_ite, ↓held_State_modEndp, ↓held_resetMsix, ↓held_resetFns, ite_self] at e)
          | (have e := congrArg (fun p : Option State => held (p.getD s)) heq; simp only [↓outState_next, ↓outState_due, ↓outState_ite, ↓st_ite, ↓st_reply, ↓st_wait, ↓st_opened, ↓fst_ite, ↓snd_ite, ↓getD_ite, ↓getD_some', ↓getD_none', ↓fst_mk, ↓snd_mk, ↓held_mk, ↓held_mk2, ↓held_ite, ↓held_State_modEndp, ↓held_resetMsix, ↓held_resetFns, ite_self] at e))))
    | split
    | rw [held_forEach]
    | intro _ _
    | simp only [↓held_mk, ↓held_ite, ↓held_resetMsix, ite_self]

theorem held_fillQueue (b : Nat) (old : SchedCfg) (new : SchedCfg) (s : State) (q : Nat) :
    held (fillQueue b old new s q) = held s := by
  unfold fillQueue
  simp only [↓held_ite, ↓held_State_modSch, ite_self]

theorem held_fillQueues (old : Cfg) (new : Cfg) (s : State) (b : Nat) :
    held (fillQueues old new s b) = held s := by
  unfold fillQueues
  repeat' first
    | (simp only [↓held_fillQueue]; done)
    | split
    | rw [held_forEach]
    | intro _ _

theorem held_fillPolicer (old : Cfg) (new : Cfg) (s : State) (e : Nat) :
    held (fillPolicer old new s e) = held s := by
  unfold fillPolicer
  simp only [↓held_ite, ↓held_State_modEndp, ite_self]

theorem held_settingStep (t : Nat) (s : State) (k : Staged) :
    held (settingStep t s k) = held s := by
  unfold settingStep
  repeat' first
    | (simp only [↓held_mk, ↓held_ite, ↓held_State_modSch, ↓held_State_modCtx, ↓held_edgeProgs, ite_self]; done)
    | split

theorem held_installPorts (old : Cfg) (new : Cfg) (s : State) :
    held (installPorts old new s) = held s := by
  unfold installPorts
  repeat' first
    | (simp only [↓held_mk, ↓held_endFault, ↓held_enterCfg, ↓held_leaveForCfg]; done)
    | split
    | rw [held_forEach]
    | intro _ _
    | simp only [↓held_mk]

theorem held_installMem (old : Cfg) (new : Cfg) (cmds : List Staged) (s : State) :
    held (installMem old new cmds s) = held s := by
  unfold installMem
  repeat' first
    | (simp only [↓held_mk, ↓held_fenceSettle, ↓held_goneWindow, ↓held_grottoStep, ↓held_newWindow, ↓held_startBindSanitise]; done)
    | split
    | rw [held_forEach]
    | rw [foldl_held]
    | intro _ _
    | simp only [↓held_mk]

theorem held_installRest (old : Cfg) (new : Cfg) (cmds : List Staged) (t : Nat) (s : State) :
    held (installRest old new cmds t s) = held s := by
  unfold installRest
  repeat' first
    | (simp only [↓held_mk, ↓held_fillPolicer, ↓held_fillQueues, ↓held_goneHier, ↓held_newHier, ↓held_settingStep]; done)
    | split
    | rw [held_forEach]
    | rw [foldl_held]
    | intro _ _
    | simp only [↓held_mk]

theorem held_installCmds (cmds : List Staged) (t : Nat) (s : State) :
    held (installCmds cmds t s) = held s := by
  unfold installCmds
  simp only [↓held_mk, ↓held_copyGuards, ↓held_installPorts, ↓held_installMem, ↓held_installRest, ↓held_armMoves, ↓held_bindAll]

theorem held_raiseEpoch (s : State) (c : Commit) (outcome : Nat) :
    held (raiseEpoch s c outcome) = held s := by
  unfold raiseEpoch
  simp only [↓held_raise]

theorem held_endCommit (s : State) (c : Commit) (outcome : Nat) :
    held (endCommit s c outcome) = held s := by
  unfold endCommit
  simp only [↓held_mk, ↓held_ite, ↓held_raiseEpoch, ↓held_State_setStage, ↓held_tryResetReply, ite_self]

theorem held_nextEpoch (s : State) (c : Commit) :
    held (nextEpoch s c) = held s := by
  unfold nextEpoch
  simp only [↓held_mk]

theorem held_launchCommit (s : State) :
    held (launchCommit s) = held s := by
  unfold launchCommit
  repeat' first
    | (simp only [↓held_endCommit, ↓held_installCmds, ↓held_nextEpoch]; done)
    | split

theorem held_acceptCommit (s : State) (n : Nat) (ask : Nat) (cmds : List Staged) :
    held (acceptCommit s n ask cmds).st = held s := by
  unfold acceptCommit
  dsimp only
  rw [st_reply, held_forEach _ _ _ fun s i => held_postBurst ..]
  split
  · exact held_draw s
  · rfl

theorem held_commitBody (p : Bytes) (s : State) (n : Option Nat) :
    held (commitBody p s n).st = held s := by
  unfold commitBody
  repeat' first
    | (simp only [↓st_ite, ↓st_reply, ↓held_ite, ↓held_acceptCommit, ite_self]; done)
    | split
    | simp only []

theorem held_execCommit (t : Transport) (r : Req) (s : State) :
    held (outState (execCommit t r s) s) = held s := by
  unfold execCommit
  repeat' first
    | (simp only [↓held_commitBody]; done)
    | (with_reducible refine held_vendorCmd _ _ _ _ _ _ fun _ _ => ?_)

theorem held_armCommit (s : State) (c : Commit) :
    held (armCommit s c) = held s := by
  unfold armCommit
  simp only [↓held_mk, ↓held_armFor]

theorem held_execCommitShadowsPosted (s : State) :
    held (outState (execCommitShadowsPosted s) s) = held s := by
  unfold execCommitShadowsPosted
  repeat' first
    | (with_reducible refine held_due _ _ _ ?_)
    | (with_reducible exact held_next _)
    | split
    | (simp only [↓held_armCommit]; done)

theorem held_execCommitLateCancel (s : State) :
    held (outState (execCommitLateCancel s) s) = held s := by
  unfold execCommitLateCancel
  repeat' first
    | (with_reducible refine held_due _ _ _ ?_)
    | (with_reducible exact held_next _)
    | split
    | (simp only [↓held_endCommit]; done)

theorem held_rearm (s : State) (k : ArmKind) :
    held (rearm s k) = held s := by
  unfold rearm
  simp only [↓held_armFor]

theorem held_rearmReturn (s : State) (p : Nat) :
    held (rearmReturn s p) = held s := by
  unfold rearmReturn
  simp only [↓held_armFor]

theorem held_cancelled (s : State) (k : ArmKind) :
    held (cancelled s k) = held s := by
  unfold cancelled
  repeat' first
    | (simp only [↓held_ite, ↓held_endCommit, ↓held_rearm, ↓held_failPassageAdmit, ↓held_rearmReturn, ↓held_armMoves, ite_self]; done)
    | split

theorem held_cancelArm (s : State) (a : Arm) :
    held (cancelArm s a) = held s := by
  unfold cancelArm
  simp only [↓held_mk, ↓held_cancelled, ↓held_raiseTime]

theorem held_execLaunchDecide (arm : Nat) (s : State) :
    held (outState (execLaunchDecide arm s) s) = held s := by
  unfold execLaunchDecide
  repeat' first
    | (with_reducible refine held_due _ _ _ ?_)
    | (with_reducible exact held_next _)
    | split
    | (simp only [↓held_cancelArm, ↓held_modArm]; done)

theorem held_perform (s : State) (k : ArmKind) :
    held (perform s k) = held s := by
  unfold perform
  repeat' first
    | (simp only [↓held_launchColumnDrain, ↓held_launchColumnReturn, ↓held_launchCommit, ↓held_launchLoad, ↓held_launchPassageDrain, ↓held_launchPassageReturn, ↓held_moveHome]; done)
    | split

theorem held_execLaunch (arm : Nat) (s : State) :
    held (outState (execLaunch arm s) s) = held s := by
  unfold execLaunch
  repeat' first
    | (simp only [↓outState_next, ↓outState_due, ↓outState_ite, ↓held_mk, ↓held_ite, ↓held_perform, ↓held_cancelArm, ite_self]; done)
    | split

theorem held_fmReply (s d : State) (t : Transport) (op rc : Nat) (vals : List Nat) :
    held (outState (fmReply s t op rc vals) d) = held s := by
  unfold fmReply
  rw [outState_due]
  split
  · exact held_extReply ..
  · rfl

theorem held_execIdentify (t : Transport) (s : State) :
    held (outState (execIdentify t s) s) = held s := by
  unfold execIdentify
  simp only [↓held_fmReply]

theorem held_execBackgroundOperationStatus (t : Transport) (s : State) :
    held (outState (execBackgroundOperationStatus t s) s) = held s := by
  unfold execBackgroundOperationStatus
  simp only [↓held_fmReply]

theorem held_execGetResponseMessageLimit (t : Transport) (s : State) :
    held (outState (execGetResponseMessageLimit t s) s) = held s := by
  unfold execGetResponseMessageLimit
  simp only [↓held_fmReply]

theorem held_execSetResponseMessageLimit (t : Transport) (limit : Nat) (s : State) :
    held (outState (execSetResponseMessageLimit t limit s) s) = held s := by
  unfold execSetResponseMessageLimit
  simp only [↓held_mk, ↓held_ite, ↓held_fmReply, ite_self]

theorem held_execIdentifySwitchDevice (t : Transport) (s : State) :
    held (outState (execIdentifySwitchDevice t s) s) = held s := by
  unfold execIdentifySwitchDevice
  simp only [↓held_fmReply]

theorem held_execGetPhysicalPortState (t : Transport) (ports : List Nat) (s : State) :
    held (outState (execGetPhysicalPortState t ports s) s) = held s := by
  unfold execGetPhysicalPortState
  simp only [↓held_fmReply]

theorem held_execGetVirtualCxlSwitchInfo (t : Transport) (vcs : Nat) (s : State) :
    held (outState (execGetVirtualCxlSwitchInfo t vcs s) s) = held s := by
  unfold execGetVirtualCxlSwitchInfo
  simp only [↓held_fmReply]

theorem held_execPhysicalPortControl (t : Transport) (s : State) :
    held (outState (execPhysicalPortControl t s) s) = held s := by
  unfold execPhysicalPortControl
  simp only [↓held_fmReply]

theorem held_execSendPpbCxlIoConfigRequest (t : Transport) (s : State) :
    held (outState (execSendPpbCxlIoConfigRequest t s) s) = held s := by
  unfold execSendPpbCxlIoConfigRequest
  simp only [↓held_fmReply]

theorem held_execBindVppb (t : Transport) (s : State) :
    held (outState (execBindVppb t s) s) = held s := by
  unfold execBindVppb
  simp only [↓held_fmReply]

theorem held_execUnbindVppb (t : Transport) (s : State) :
    held (outState (execUnbindVppb t s) s) = held s := by
  unfold execUnbindVppb
  simp only [↓held_fmReply]

theorem held_execGenerateAerEvent (t : Transport) (s : State) :
    held (outState (execGenerateAerEvent t s) s) = held s := by
  unfold execGenerateAerEvent
  simp only [↓held_fmReply]

theorem held_execUnsupportedFmApiCommand (t : Transport) (op : Nat) (s : State) :
    held (outState (execUnsupportedFmApiCommand t op s) s) = held s := by
  unfold execUnsupportedFmApiCommand
  simp only [↓outState_next, ↓outState_ite, ↓held_ite, ↓held_fmReply, ite_self]

theorem held_mctpReply (s d : State) (t : Transport) (op : Nat) (vals : List Nat) :
    held (outState (mctpReply s t op vals) d) = held s := by
  unfold mctpReply
  rw [outState_due]
  split
  · exact held_extReply ..
  · rfl

theorem held_execSetEndpointId (t : Transport) (eid : Nat) (s : State) :
    held (outState (execSetEndpointId t eid s) s) = held s := by
  unfold execSetEndpointId
  simp only [↓held_mk, ↓held_ite, ↓held_mctpReply, ite_self]

theorem held_execGetEndpointId (t : Transport) (s : State) :
    held (outState (execGetEndpointId t s) s) = held s := by
  unfold execGetEndpointId
  simp only [↓held_mctpReply]

theorem held_execGetMctpVersionSupport (t : Transport) (msgType : Nat) (s : State) :
    held (outState (execGetMctpVersionSupport t msgType s) s) = held s := by
  unfold execGetMctpVersionSupport
  simp only [↓held_ite, ↓held_draw, ↓held_mctpReply, ite_self]

theorem held_execGetMessageTypeSupport (t : Transport) (s : State) :
    held (outState (execGetMessageTypeSupport t s) s) = held s := by
  unfold execGetMessageTypeSupport
  simp only [↓held_mctpReply]

theorem held_execGetVendorDefinedMessageSupport (t : Transport) (sel : Nat) (s : State) :
    held (outState (execGetVendorDefinedMessageSupport t sel s) s) = held s := by
  unfold execGetVendorDefinedMessageSupport
  simp only [↓held_mctpReply]

theorem held_execSetdasa (t : Transport) (addr : Nat) (s : State) :
    held (outState (execSetdasa t addr s) s) = held s := by
  unfold execSetdasa
  refine held_due _ _ _ ?_
  repeat' first
    | dsimp only []
    | (simp only [↓held_mk]; done)

theorem held_toBoot (s : State) (b : Boot) :
    held (toBoot s b) = held s := by
  unfold toBoot
  simp only [↓held_mk2]

theorem held_toLoader (s : State) (fail : Nat) :
    held (toLoader s fail) = held s := by
  unfold toLoader
  simp only [↓held_mk2, ↓held_toBoot]

theorem held_answerLoadEnd (s : State) (status : Nat) :
    held (answerLoadEnd s status) = held s := by
  unfold answerLoadEnd
  repeat' first
    | (simp only [↓st_reply, ↓held_mk2, ↓held_finishRom]; done)
    | split

theorem held_bootFailed (s : State) (fail : Nat) :
    held (bootFailed s fail) = held s := by
  unfold bootFailed
  simp only [↓held_answerLoadEnd, ↓held_toLoader]

theorem held_bootAccepted (s : State) :
    held (bootAccepted s) = held s := by
  unfold bootAccepted
  simp only [↓held_mk2, ↓held_answerLoadEnd, ↓held_toBoot]

theorem held_execRomInitEnd (passA : Bool) (passB : Bool) (keptOk : Bool) (s : State) :
    held (outState (execRomInitEnd passA passB keptOk s) s) = held s := by
  unfold execRomInitEnd
  simp only [↓outState_next, ↓outState_ite, ↓held_mk2, ↓held_ite, ↓held_State_modCluster, ↓held_toBoot, ↓held_toLoader, ite_self]

theorem held_execKeptImageUncorrectable (s : State) :
    held (outState (execKeptImageUncorrectable s) s) = held s := by
  unfold execKeptImageUncorrectable
  refine held_due _ _ _ ?_
  repeat' first
    | dsimp only []
    | (simp only [↓held_mk2]; done)

theorem held_execReceiveTimeout (s : State) :
    held (outState (execReceiveTimeout s) s) = held s := by
  unfold execReceiveTimeout
  refine held_due _ _ _ ?_
  repeat' first
    | (simp only [↓held_toLoader]; done)

theorem held_execVerifyEnd (eccOk : Bool) (s : State) :
    held (outState (execVerifyEnd eccOk s) s) = held s := by
  unfold execVerifyEnd
  repeat' first
    | (simp only [↓outState_next, ↓outState_ite, ↓held_mk2, ↓held_ite, ↓held_bootAccepted, ↓held_bootFailed, ↓held_toBoot, ite_self]; done)
    | split
    | simp only []

theorem held_loadBeginBody (t : Transport) (r : Req) (s : State) :
    held (loadBeginBody t r s).st = held s := by
  unfold loadBeginBody
  simp only [↓st_reply, ↓held_mk2, ↓held_ite, ↓held_guarded, ↓held_toBoot, ite_self]

theorem held_execLoadBegin (t : Transport) (r : Req) (s : State) :
    held (outState (execLoadBegin t r s) s) = held s := by
  unfold execLoadBegin
  repeat' first
    | (simp only [↓held_loadBeginBody]; done)
    | (with_reducible refine held_vendorCmd _ _ _ _ _ _ fun _ _ => ?_)

theorem held_loadDataBody (t : Transport) (r : Req) (s : State) :
    held (loadDataBody t r s).st = held s := by
  unfold loadDataBody
  repeat' first
    | (simp only [↓st_reply, ↓held_mk2]; done)
    | (with_reducible refine held_guarded _ _ _ ?_)

theorem held_execLoadData (t : Transport) (r : Req) (s : State) :
    held (outState (execLoadData t r s) s) = held s := by
  unfold execLoadData
  repeat' first
    | (simp only [↓held_loadDataBody]; done)
    | (with_reducible refine held_vendorCmd _ _ _ _ _ _ fun _ _ => ?_)

theorem held_loadEndBody (t : Transport) (r : Req) (s : State) :
    held (loadEndBody t r s).st = held s := by
  unfold loadEndBody
  simp only [↓st_wait, ↓held_mk2, ↓held_guarded, ↓held_toBoot]

theorem held_execLoadEnd (t : Transport) (r : Req) (s : State) :
    held (outState (execLoadEnd t r s) s) = held s := by
  unfold execLoadEnd
  repeat' first
    | (simp only [↓held_loadEndBody]; done)
    | (with_reducible refine held_vendorCmd _ _ _ _ _ _ fun _ _ => ?_)

theorem held_execFwInfo (t : Transport) (r : Req) (s : State) :
    held (outState (execFwInfo t r s) s) = held s := by
  unfold execFwInfo
  repeat' first
    | (simp only [↓st_reply]; done)
    | (with_reducible refine held_guarded _ _ _ ?_)
    | (with_reducible refine held_vendorCmd _ _ _ _ _ _ fun _ _ => ?_)

theorem held_execGetIdentity (t : Transport) (r : Req) (s : State) :
    held (outState (execGetIdentity t r s) s) = held s := by
  unfold execGetIdentity
  repeat' first
    | (simp only [↓st_reply]; done)
    | (with_reducible refine held_guarded _ _ _ ?_)
    | (with_reducible refine held_vendorCmd _ _ _ _ _ _ fun _ _ => ?_)

theorem held_serveDrip (s : State) :
    held (serveDrip s) = held s := by
  unfold serveDrip
  repeat' first
    | (simp only [↓held_servePorts, ↓held_launchAll, ↓held_drainBridge, ↓held_serveHeld, ↓held_retryOut, ↓held_settleSent]; done)
    | rw [held_forEach]
    | intro _ _

theorem held_tick (s : State) :
    held (tick s) = held s := by
  unfold tick
  simp only [↓held_mk, ↓held_ite, ↓held_countDrip, ↓held_serveDrip, ↓held_takeEdge, ite_self]

theorem add_two_pow_eq_or (v i : Nat) (h : v.testBit i = false) : v + 2 ^ i = v ||| 2 ^ i := by
  induction i generalizing v with
  | zero =>
    have h2 : v % 2 = 0 := by simpa [Nat.testBit_zero] using h
    apply Nat.eq_of_testBit_eq
    intro j
    cases j with
    | zero => simp [Nat.testBit_zero]; omega
    | succ j =>
      have d : (v + 2 ^ 0) / 2 = v / 2 := by omega
      have d2 : 2 ^ 0 / 2 = 0 := by decide
      rw [Nat.testBit_or, Nat.testBit_succ, Nat.testBit_succ, Nat.testBit_succ, d, d2, Nat.zero_testBit, Bool.or_false]
  | succ i ih =>
    have e := ih (v / 2) (by rwa [Nat.testBit_succ] at h)
    apply Nat.eq_of_testBit_eq
    intro j
    cases j with
    | zero => rw [Nat.testBit_or]; simp [Nat.testBit_zero, Nat.pow_succ]
    | succ j =>
      have d : (v + 2 ^ (i + 1)) / 2 = v / 2 + 2 ^ i := by rw [Nat.pow_succ]; omega
      have d2 : 2 ^ (i + 1) / 2 = 2 ^ i := by rw [Nat.pow_succ]; omega
      rw [Nat.testBit_or, Nat.testBit_succ, Nat.testBit_succ, Nat.testBit_succ, d, d2, e, Nat.testBit_or]

theorem and_setBit (K v i : Nat) (h : K &&& v = K) : K &&& setBit v i = K := by
  unfold setBit
  split
  · exact h
  · rename_i hb
    rw [add_two_pow_eq_or v i (by simpa using hb), Nat.and_or_distrib_left, h]
    apply Nat.eq_of_testBit_eq
    intro j
    simp only [Nat.testBit_and, Nat.testBit_or]
    cases K.testBit j <;> simp

theorem blow_burns (K R : Nat) (s : State) (b : Nat) (hk : K &&& s.mgmt.keyRevoked = K) (hr : R &&& s.mgmt.rollback = R) :
    K &&& (blow s b).mgmt.keyRevoked = K ∧ R &&& (blow s b).mgmt.rollback = R ∧ (blow s b).pending = s.pending := by
  unfold blow
  split
  · exact ⟨hk, and_setBit _ _ _ hr, rfl⟩
  · exact ⟨and_setBit _ _ _ hk, hr, rfl⟩

theorem held_parts {s t : State} (h : held t = held s) :
    t.mgmt.keyRevoked = s.mgmt.keyRevoked ∧ t.mgmt.rollback = s.mgmt.rollback ∧ t.pending = s.pending := by
  simpa [held] using h

theorem execFuseBit_burns (K R : Nat) (readsBack : Bool) (s : State) (hk : K &&& s.mgmt.keyRevoked = K) (hr : R &&& s.mgmt.rollback = R) :
    K &&& (outState (execFuseBit readsBack s) s).mgmt.keyRevoked = K ∧ R &&& (outState (execFuseBit readsBack s) s).mgmt.rollback = R ∧
      (outState (execFuseBit readsBack s) s).pending = s.pending := by
  have same : ∀ t : State, held t = held s → K &&& t.mgmt.keyRevoked = K ∧ R &&& t.mgmt.rollback = R ∧ t.pending = s.pending := by
    intro t ht
    obtain ⟨a, b, c⟩ := held_parts ht
    rw [a, b, c]
    exact ⟨hk, hr, rfl⟩
  unfold execFuseBit
  split
  · exact same s rfl
  · split
    · exact same _ (held_bootAccepted s)
    · rename_i b rest _
      split
      · obtain ⟨x, y, z⟩ := blow_burns K R { s with mgmt := { s.mgmt with fusePlan := rest, fuseTries := 0, bootAt := s.now } } b hk hr
        dsimp only [outState_next]
        split
        · obtain ⟨a, b, c⟩ := held_parts (held_bootAccepted (blow { s with mgmt := { s.mgmt with fusePlan := rest, fuseTries := 0, bootAt := s.now } } b))
          rw [a, b, c]
          exact ⟨x, y, z⟩
        · exact ⟨x, y, z⟩
      · split
        · exact same _ rfl
        · exact same _ (held_bootFailed s 8)

end Sys2Proof.Machine
end

