-- ==== Sys2Proof/Laws/Lantern.lean ====
section
/-!
SUPPORT. What sending blocks on the Lantern lanes can do.
-/

namespace Sys2Proof.Machine

/-- Sending blocks writes the lanes' scramblers and the record of what has left, and nothing else. -/
theorem sendBlocks_eq (control : Bool) (blocks : List Bytes) (s : State) :
    sendBlocks control blocks s = { s with
      lan := { s.lan with scramblers := (sendBlocks control blocks s).lan.scramblers }
      out := { s.out with lanternLine := (sendBlocks control blocks s).out.lanternLine } } := by
  unfold sendBlocks forEach
  generalize blocks.zipIdx = l
  induction l generalizing s with
  | nil => rfl
  | cons x l ih =>
    simp only [List.foldl_cons]
    exact (ih _).trans rfl

end Sys2Proof.Machine
end

