-- ==== Sys2Proof/Laws/Tbl.lean ====
section
/-!
SUPPORT. The laws of sparse tables: a read after a write, and that a write keeps the canonical form.
-/

namespace Sys2Proof.Machine

@[simp] theorem tget_nil {α : Type} (d : α) (k : Nat) : tget d [] k = d := rfl

/-- Every key of a table lies above `k`. -/
def above {α : Type} (k : Nat) (t : Tbl α) : Prop :=
  ∀ p ∈ t, k < p.1

theorem tget_drop_self {α : Type} (d : α) (t : Tbl α) (k : Nat) : tget d (t.filter (fun p => p.1 != k)) k = d := by
  induction t with
  | nil => rfl
  | cons p t ih =>
    by_cases h : p.1 = k
    · rw [List.filter_cons_of_neg (by simp [h]), ih]
    · rw [List.filter_cons_of_pos (by simp [h]), tget, if_neg (fun e => h e.symm), ih]

theorem tget_drop_ne {α : Type} (d : α) (t : Tbl α) {k j : Nat} (h : j ≠ k) :
    tget d (t.filter (fun p => p.1 != k)) j = tget d t j := by
  induction t with
  | nil => rfl
  | cons p t ih =>
    by_cases e : p.1 = k
    · rw [List.filter_cons_of_neg (by simp [e]), ih, tget, if_neg (by omega)]
    · rw [List.filter_cons_of_pos (by simp [e]), tget, tget, ih]

/-- Set a key to a value that is not the default, keeping the keys in order. -/
def tins {α : Type} : Tbl α → Nat → α → Tbl α
  | [], k, v => [(k, v)]
  | (k', v') :: t, k, v =>
    if k < k' then (k, v) :: (k', v') :: t
    else if k = k' then (k, v) :: t
    else (k', v') :: tins t k v

theorem tget_tins_self {α : Type} (d : α) (t : Tbl α) (k : Nat) (v : α) : tget d (tins t k v) k = v := by
  induction t with
  | nil => simp [tins, tget]
  | cons p t ih =>
    unfold tins
    split
    · simp [tget]
    · split
      · simp [tget]
      · rename_i h
        rw [tget, if_neg h, ih]

theorem tget_tins_ne {α : Type} (d : α) (t : Tbl α) {k j : Nat} (v : α) (h : j ≠ k) : tget d (tins t k v) j = tget d t j := by
  induction t with
  | nil => simp [tins, tget, h]
  | cons p t ih =>
    unfold tins
    split
    · simp [tget, h]
    · split
      · rename_i e
        simp [tget, ← e, h]
      · simp only [tget, ih]

variable {α : Type} [DecidableEq α]

/-- A write drops the key's entries or sets its entry. -/
theorem tput_eq (d : α) (t : Tbl α) (k : Nat) (v : α) :
    tput d t k v = if v = d then t.filter (fun p => p.1 != k) else tins t k v := by
  induction t with
  | nil => rfl
  | cons p t ih =>
    by_cases h : v = d
    · rw [h, if_pos rfl] at ih ⊢
      by_cases e : p.1 = k <;> simp [tput, e, ih]
    · simp [tput, tins, h, ih]

/-- Reading the key just written gives the value written. -/
@[simp] theorem tget_tput_self (d : α) (t : Tbl α) (k : Nat) (v : α) : tget d (tput d t k v) k = v := by
  rw [tput_eq]
  split
  · rename_i e
    rw [tget_drop_self, e]
  · exact tget_tins_self d t k v

/-- Writing one key leaves every other key as it was. -/
theorem tget_tput_ne (d : α) (t : Tbl α) {k j : Nat} (v : α) (h : j ≠ k) : tget d (tput d t k v) j = tget d t j := by
  rw [tput_eq]
  split
  · exact tget_drop_ne d t h
  · exact tget_tins_ne d t v h

theorem twf_cons {d : α} {p : Nat × α} {t : Tbl α} : twf d (p :: t) = true ↔ above p.1 t ∧ p.2 ≠ d ∧ twf d t = true := by
  induction t generalizing p with
  | nil => simp [twf, above]
  | cons q t ih =>
    simp only [twf, Bool.and_eq_true, decide_eq_true_eq, ih]
    constructor
    · rintro ⟨⟨h1, h2⟩, h3, h4, h5⟩
      refine ⟨?_, h2, h3, h4, h5⟩
      intro r hr
      rcases List.mem_cons.mp hr with e | e
      · rw [e]; exact h1
      · have := h3 r e; omega
    · rintro ⟨h1, h2, h3, h4, h5⟩
      exact ⟨⟨h1 q (List.mem_cons_self ..), h2⟩, h3, h4, h5⟩

omit [DecidableEq α] in
theorem above_tins {t : Tbl α} {j k : Nat} (v : α) (h : above j t) (hk : j < k) : above j (tins t k v) := by
  induction t with
  | nil =>
    intro q hq
    rw [List.mem_singleton.mp hq]
    exact hk
  | cons p t ih =>
    have hp : j < p.1 := h p (List.mem_cons_self ..)
    have ht : above j t := fun q hq => h q (List.mem_cons_of_mem _ hq)
    unfold tins
    intro q hq
    split at hq
    · rcases List.mem_cons.mp hq with e | e
      · rw [e]; exact hk
      · exact h q e
    · split at hq
      · rcases List.mem_cons.mp hq with e | e
        · rw [e]; exact hk
        · exact ht q e
      · rcases List.mem_cons.mp hq with e | e
        · rw [e]; exact hp
        · exact ih ht q e

theorem twf_tins (d : α) (t : Tbl α) (k : Nat) (v : α) (hv : v ≠ d) (h : twf d t = true) : twf d (tins t k v) = true := by
  induction t with
  | nil => simp [tins, twf, hv]
  | cons p t ih =>
    obtain ⟨ha, hn, ht⟩ := twf_cons.mp h
    unfold tins
    split
    · rename_i hk
      refine twf_cons.mpr ⟨fun q hq => ?_, hv, h⟩
      rcases List.mem_cons.mp hq with e | e
      · rw [e]; exact hk
      · have := ha q e; exact Nat.lt_trans hk this
    · split
      · rename_i e
        exact twf_cons.mpr ⟨fun q hq => e ▸ ha q hq, hv, ht⟩
      · rename_i h1 h2
        exact twf_cons.mpr ⟨above_tins v ha (by omega), hn, ih ht⟩

theorem twf_filter (d : α) (t : Tbl α) (f : Nat × α → Bool) (h : twf d t = true) : twf d (t.filter f) = true := by
  induction t with
  | nil => rfl
  | cons p t ih =>
    obtain ⟨ha, hn, ht⟩ := twf_cons.mp h
    by_cases c : f p = true
    · rw [List.filter_cons_of_pos c]
      exact twf_cons.mpr ⟨fun q hq => ha q (List.mem_filter.mp hq).1, hn, ih ht⟩
    · rw [List.filter_cons_of_neg c]
      exact ih ht

/-- A write keeps the canonical form. -/
theorem twf_tput (d : α) (t : Tbl α) (k : Nat) (v : α) (h : twf d t = true) : twf d (tput d t k v) = true := by
  rw [tput_eq]
  split
  · exact twf_filter d t _ h
  · rename_i e
    exact twf_tins d t k v e h

@[simp] theorem tget_tmod_self (d : α) (t : Tbl α) (k : Nat) (f : α → α) : tget d (tmod d t k f) k = f (tget d t k) :=
  tget_tput_self d t k _

theorem tget_tmod_ne (d : α) (t : Tbl α) {k j : Nat} (f : α → α) (h : j ≠ k) : tget d (tmod d t k f) j = tget d t j :=
  tget_tput_ne d t _ h

theorem twf_tmod (d : α) (t : Tbl α) (k : Nat) (f : α → α) (h : twf d t = true) : twf d (tmod d t k f) = true :=
  twf_tput d t k _ h

end Sys2Proof.Machine
end

