-- ==== Sys2Proof/Laws/State.lean ====
section
/-!
SUPPORT. The small laws of State: what each update leaves as it was, field by field, and what it writes.
-/

namespace Sys2Proof.Machine

@[simp] theorem State.modIsl_core (s : State) (i : Nat) (f : Island → Island) : (s.modIsl i f).core = s.core := rfl
@[simp] theorem State.modIsl_dir (s : State) (i : Nat) (f : Island → Island) : (s.modIsl i f).dir = s.dir := rfl
@[simp] theorem State.modIsl_port (s : State) (i : Nat) (f : Island → Island) : (s.modIsl i f).port = s.port := rfl
@[simp] theorem State.modIsl_sched (s : State) (i : Nat) (f : Island → Island) : (s.modIsl i f).sched = s.sched := rfl
@[simp] theorem State.modIsl_mem (s : State) (i : Nat) (f : Island → Island) : (s.modIsl i f).mem = s.mem := rfl
@[simp] theorem State.modIsl_guard (s : State) (i : Nat) (f : Island → Island) : (s.modIsl i f).guard = s.guard := rfl
@[simp] theorem State.modIsl_echo (s : State) (i : Nat) (f : Island → Island) : (s.modIsl i f).echo = s.echo := rfl
@[simp] theorem State.modIsl_check (s : State) (i : Nat) (f : Island → Island) : (s.modIsl i f).check = s.check := rfl
@[simp] theorem State.modIsl_power (s : State) (i : Nat) (f : Island → Island) : (s.modIsl i f).power = s.power := rfl
@[simp] theorem State.modIsl_mgmt (s : State) (i : Nat) (f : Island → Island) : (s.modIsl i f).mgmt = s.mgmt := rfl
@[simp] theorem State.modIsl_proto (s : State) (i : Nat) (f : Island → Island) : (s.modIsl i f).proto = s.proto := rfl
@[simp] theorem State.modIsl_cfg (s : State) (i : Nat) (f : Island → Island) : (s.modIsl i f).cfg = s.cfg := rfl
@[simp] theorem State.modIsl_ev (s : State) (i : Nat) (f : Island → Island) : (s.modIsl i f).ev = s.ev := rfl
@[simp] theorem State.modIsl_lan (s : State) (i : Nat) (f : Island → Island) : (s.modIsl i f).lan = s.lan := rfl
@[simp] theorem State.modIsl_pin (s : State) (i : Nat) (f : Island → Island) : (s.modIsl i f).pin = s.pin := rfl
@[simp] theorem State.modIsl_out (s : State) (i : Nat) (f : Island → Island) : (s.modIsl i f).out = s.out := rfl
@[simp] theorem State.modIsl_free (s : State) (i : Nat) (f : Island → Island) : (s.modIsl i f).free = s.free := rfl
@[simp] theorem State.modIsl_pending (s : State) (i : Nat) (f : Island → Island) : (s.modIsl i f).pending = s.pending := rfl
@[simp] theorem State.modIsl_time_drip (s : State) (i : Nat) (f : Island → Island) : (s.modIsl i f).time.drip = s.time.drip := rfl
@[simp] theorem State.modIsl_time_elapsed (s : State) (i : Nat) (f : Island → Island) : (s.modIsl i f).time.elapsed = s.time.elapsed := rfl
@[simp] theorem State.modIsl_time_skip (s : State) (i : Nat) (f : Island → Island) : (s.modIsl i f).time.skip = s.time.skip := rfl
@[simp] theorem State.modIsl_time_refA (s : State) (i : Nat) (f : Island → Island) : (s.modIsl i f).time.refA = s.time.refA := rfl
@[simp] theorem State.modIsl_time_refB (s : State) (i : Nat) (f : Island → Island) : (s.modIsl i f).time.refB = s.time.refB := rfl
@[simp] theorem State.modIsl_time_sel (s : State) (i : Nat) (f : Island → Island) : (s.modIsl i f).time.sel = s.time.sel := rfl
@[simp] theorem State.modIsl_time_holdover (s : State) (i : Nat) (f : Island → Island) : (s.modIsl i f).time.holdover = s.time.holdover := rfl
@[simp] theorem State.modIsl_time_refMode (s : State) (i : Nat) (f : Island → Island) : (s.modIsl i f).time.refMode = s.time.refMode := rfl
@[simp] theorem State.modIsl_time_ppsRole (s : State) (i : Nat) (f : Island → Island) : (s.modIsl i f).time.ppsRole = s.time.ppsRole := rfl
@[simp] theorem State.modIsl_time_ppsInDelay (s : State) (i : Nat) (f : Island → Island) : (s.modIsl i f).time.ppsInDelay = s.time.ppsInDelay := rfl
@[simp] theorem State.modIsl_time_slewLimit (s : State) (i : Nat) (f : Island → Island) : (s.modIsl i f).time.slewLimit = s.time.slewLimit := rfl
@[simp] theorem State.modIsl_time_load (s : State) (i : Nat) (f : Island → Island) : (s.modIsl i f).time.load = s.time.load := rfl
@[simp] theorem State.modIsl_time_ppsAligned (s : State) (i : Nat) (f : Island → Island) : (s.modIsl i f).time.ppsAligned = s.time.ppsAligned := rfl
@[simp] theorem State.modIsl_time_ppsHold (s : State) (i : Nat) (f : Island → Island) : (s.modIsl i f).time.ppsHold = s.time.ppsHold := rfl
@[simp] theorem State.modIsl_time_ppsMissing (s : State) (i : Nat) (f : Island → Island) : (s.modIsl i f).time.ppsMissing = s.time.ppsMissing := rfl
@[simp] theorem State.modIsl_time_ppsError (s : State) (i : Nat) (f : Island → Island) : (s.modIsl i f).time.ppsError = s.time.ppsError := rfl
@[simp] theorem State.modIsl_time_freqTrim (s : State) (i : Nat) (f : Island → Island) : (s.modIsl i f).time.freqTrim = s.time.freqTrim := rfl
@[simp] theorem State.modIsl_time_splitBad (s : State) (i : Nat) (f : Island → Island) : (s.modIsl i f).time.splitBad = s.time.splitBad := rfl
@[simp] theorem State.modIsl_time_lastBeacon (s : State) (i : Nat) (f : Island → Island) : (s.modIsl i f).time.lastBeacon = s.time.lastBeacon := rfl
@[simp] theorem State.modIsl_time_arms (s : State) (i : Nat) (f : Island → Island) : (s.modIsl i f).time.arms = s.time.arms := rfl
@[simp] theorem State.modIsl_time_nextArm (s : State) (i : Nat) (f : Island → Island) : (s.modIsl i f).time.nextArm = s.time.nextArm := rfl
@[simp] theorem State.modIsl_time_refusals (s : State) (i : Nat) (f : Island → Island) : (s.modIsl i f).time.refusals = s.time.refusals := rfl

@[simp] theorem State.modIsl_self (s : State) (i : Nat) (f : Island → Island) : (s.modIsl i f).isl i = f (s.isl i) :=
  tget_tmod_self _ _ _ _

theorem State.modIsl_ne (s : State) (i : Nat) (f : Island → Island) (j' : Nat) (h : j' ≠ i) : (s.modIsl i f).isl j' = s.isl j' :=
  tget_tmod_ne _ _ _ h

@[simp] theorem State.modGal_time (s : State) (g : Nat) (f : Gal → Gal) : (s.modGal g f).time = s.time := rfl
@[simp] theorem State.modGal_dir (s : State) (g : Nat) (f : Gal → Gal) : (s.modGal g f).dir = s.dir := rfl
@[simp] theorem State.modGal_port (s : State) (g : Nat) (f : Gal → Gal) : (s.modGal g f).port = s.port := rfl
@[simp] theorem State.modGal_sched (s : State) (g : Nat) (f : Gal → Gal) : (s.modGal g f).sched = s.sched := rfl
@[simp] theorem State.modGal_mem (s : State) (g : Nat) (f : Gal → Gal) : (s.modGal g f).mem = s.mem := rfl
@[simp] theorem State.modGal_guard (s : State) (g : Nat) (f : Gal → Gal) : (s.modGal g f).guard = s.guard := rfl
@[simp] theorem State.modGal_echo (s : State) (g : Nat) (f : Gal → Gal) : (s.modGal g f).echo = s.echo := rfl
@[simp] theorem State.modGal_check (s : State) (g : Nat) (f : Gal → Gal) : (s.modGal g f).check = s.check := rfl
@[simp] theorem State.modGal_power (s : State) (g : Nat) (f : Gal → Gal) : (s.modGal g f).power = s.power := rfl
@[simp] theorem State.modGal_mgmt (s : State) (g : Nat) (f : Gal → Gal) : (s.modGal g f).mgmt = s.mgmt := rfl
@[simp] theorem State.modGal_proto (s : State) (g : Nat) (f : Gal → Gal) : (s.modGal g f).proto = s.proto := rfl
@[simp] theorem State.modGal_cfg (s : State) (g : Nat) (f : Gal → Gal) : (s.modGal g f).cfg = s.cfg := rfl
@[simp] theorem State.modGal_ev (s : State) (g : Nat) (f : Gal → Gal) : (s.modGal g f).ev = s.ev := rfl
@[simp] theorem State.modGal_lan (s : State) (g : Nat) (f : Gal → Gal) : (s.modGal g f).lan = s.lan := rfl
@[simp] theorem State.modGal_pin (s : State) (g : Nat) (f : Gal → Gal) : (s.modGal g f).pin = s.pin := rfl
@[simp] theorem State.modGal_out (s : State) (g : Nat) (f : Gal → Gal) : (s.modGal g f).out = s.out := rfl
@[simp] theorem State.modGal_free (s : State) (g : Nat) (f : Gal → Gal) : (s.modGal g f).free = s.free := rfl
@[simp] theorem State.modGal_pending (s : State) (g : Nat) (f : Gal → Gal) : (s.modGal g f).pending = s.pending := rfl
@[simp] theorem State.modGal_core_cols (s : State) (g : Nat) (f : Gal → Gal) : (s.modGal g f).core.cols = s.core.cols := rfl
@[simp] theorem State.modGal_core_pas (s : State) (g : Nat) (f : Gal → Gal) : (s.modGal g f).core.pas = s.core.pas := rfl
@[simp] theorem State.modGal_core_flights (s : State) (g : Nat) (f : Gal → Gal) : (s.modGal g f).core.flights = s.core.flights := rfl

@[simp] theorem State.modGal_self (s : State) (g : Nat) (f : Gal → Gal) : (s.modGal g f).gal g = f (s.gal g) :=
  tget_tmod_self _ _ _ _

theorem State.modGal_ne (s : State) (g : Nat) (f : Gal → Gal) (j' : Nat) (h : j' ≠ g) : (s.modGal g f).gal j' = s.gal j' :=
  tget_tmod_ne _ _ _ h

@[simp] theorem State.modCol_time (s : State) (c : Nat) (f : Col → Col) : (s.modCol c f).time = s.time := rfl
@[simp] theorem State.modCol_dir (s : State) (c : Nat) (f : Col → Col) : (s.modCol c f).dir = s.dir := rfl
@[simp] theorem State.modCol_port (s : State) (c : Nat) (f : Col → Col) : (s.modCol c f).port = s.port := rfl
@[simp] theorem State.modCol_sched (s : State) (c : Nat) (f : Col → Col) : (s.modCol c f).sched = s.sched := rfl
@[simp] theorem State.modCol_mem (s : State) (c : Nat) (f : Col → Col) : (s.modCol c f).mem = s.mem := rfl
@[simp] theorem State.modCol_guard (s : State) (c : Nat) (f : Col → Col) : (s.modCol c f).guard = s.guard := rfl
@[simp] theorem State.modCol_echo (s : State) (c : Nat) (f : Col → Col) : (s.modCol c f).echo = s.echo := rfl
@[simp] theorem State.modCol_check (s : State) (c : Nat) (f : Col → Col) : (s.modCol c f).check = s.check := rfl
@[simp] theorem State.modCol_power (s : State) (c : Nat) (f : Col → Col) : (s.modCol c f).power = s.power := rfl
@[simp] theorem State.modCol_mgmt (s : State) (c : Nat) (f : Col → Col) : (s.modCol c f).mgmt = s.mgmt := rfl
@[simp] theorem State.modCol_proto (s : State) (c : Nat) (f : Col → Col) : (s.modCol c f).proto = s.proto := rfl
@[simp] theorem State.modCol_cfg (s : State) (c : Nat) (f : Col → Col) : (s.modCol c f).cfg = s.cfg := rfl
@[simp] theorem State.modCol_ev (s : State) (c : Nat) (f : Col → Col) : (s.modCol c f).ev = s.ev := rfl
@[simp] theorem State.modCol_lan (s : State) (c : Nat) (f : Col → Col) : (s.modCol c f).lan = s.lan := rfl
@[simp] theorem State.modCol_pin (s : State) (c : Nat) (f : Col → Col) : (s.modCol c f).pin = s.pin := rfl
@[simp] theorem State.modCol_out (s : State) (c : Nat) (f : Col → Col) : (s.modCol c f).out = s.out := rfl
@[simp] theorem State.modCol_free (s : State) (c : Nat) (f : Col → Col) : (s.modCol c f).free = s.free := rfl
@[simp] theorem State.modCol_pending (s : State) (c : Nat) (f : Col → Col) : (s.modCol c f).pending = s.pending := rfl
@[simp] theorem State.modCol_core_gals (s : State) (c : Nat) (f : Col → Col) : (s.modCol c f).core.gals = s.core.gals := rfl
@[simp] theorem State.modCol_core_pas (s : State) (c : Nat) (f : Col → Col) : (s.modCol c f).core.pas = s.core.pas := rfl
@[simp] theorem State.modCol_core_flights (s : State) (c : Nat) (f : Col → Col) : (s.modCol c f).core.flights = s.core.flights := rfl

@[simp] theorem State.modCol_self (s : State) (c : Nat) (f : Col → Col) : (s.modCol c f).col c = f (s.col c) :=
  tget_tmod_self _ _ _ _

theorem State.modCol_ne (s : State) (c : Nat) (f : Col → Col) (j' : Nat) (h : j' ≠ c) : (s.modCol c f).col j' = s.col j' :=
  tget_tmod_ne _ _ _ h

@[simp] theorem State.modPas_time (s : State) (p : Nat) (f : Pas → Pas) : (s.modPas p f).time = s.time := rfl
@[simp] theorem State.modPas_dir (s : State) (p : Nat) (f : Pas → Pas) : (s.modPas p f).dir = s.dir := rfl
@[simp] theorem State.modPas_port (s : State) (p : Nat) (f : Pas → Pas) : (s.modPas p f).port = s.port := rfl
@[simp] theorem State.modPas_sched (s : State) (p : Nat) (f : Pas → Pas) : (s.modPas p f).sched = s.sched := rfl
@[simp] theorem State.modPas_mem (s : State) (p : Nat) (f : Pas → Pas) : (s.modPas p f).mem = s.mem := rfl
@[simp] theorem State.modPas_guard (s : State) (p : Nat) (f : Pas → Pas) : (s.modPas p f).guard = s.guard := rfl
@[simp] theorem State.modPas_echo (s : State) (p : Nat) (f : Pas → Pas) : (s.modPas p f).echo = s.echo := rfl
@[simp] theorem State.modPas_check (s : State) (p : Nat) (f : Pas → Pas) : (s.modPas p f).check = s.check := rfl
@[simp] theorem State.modPas_power (s : State) (p : Nat) (f : Pas → Pas) : (s.modPas p f).power = s.power := rfl
@[simp] theorem State.modPas_mgmt (s : State) (p : Nat) (f : Pas → Pas) : (s.modPas p f).mgmt = s.mgmt := rfl
@[simp] theorem State.modPas_proto (s : State) (p : Nat) (f : Pas → Pas) : (s.modPas p f).proto = s.proto := rfl
@[simp] theorem State.modPas_cfg (s : State) (p : Nat) (f : Pas → Pas) : (s.modPas p f).cfg = s.cfg := rfl
@[simp] theorem State.modPas_ev (s : State) (p : Nat) (f : Pas → Pas) : (s.modPas p f).ev = s.ev := rfl
@[simp] theorem State.modPas_lan (s : State) (p : Nat) (f : Pas → Pas) : (s.modPas p f).lan = s.lan := rfl
@[simp] theorem State.modPas_pin (s : State) (p : Nat) (f : Pas → Pas) : (s.modPas p f).pin = s.pin := rfl
@[simp] theorem State.modPas_out (s : State) (p : Nat) (f : Pas → Pas) : (s.modPas p f).out = s.out := rfl
@[simp] theorem State.modPas_free (s : State) (p : Nat) (f : Pas → Pas) : (s.modPas p f).free = s.free := rfl
@[simp] theorem State.modPas_pending (s : State) (p : Nat) (f : Pas → Pas) : (s.modPas p f).pending = s.pending := rfl
@[simp] theorem State.modPas_core_gals (s : State) (p : Nat) (f : Pas → Pas) : (s.modPas p f).core.gals = s.core.gals := rfl
@[simp] theorem State.modPas_core_cols (s : State) (p : Nat) (f : Pas → Pas) : (s.modPas p f).core.cols = s.core.cols := rfl
@[simp] theorem State.modPas_core_flights (s : State) (p : Nat) (f : Pas → Pas) : (s.modPas p f).core.flights = s.core.flights := rfl

@[simp] theorem State.modPas_self (s : State) (p : Nat) (f : Pas → Pas) : (s.modPas p f).pas p = f (s.pas p) :=
  tget_tmod_self _ _ _ _

theorem State.modPas_ne (s : State) (p : Nat) (f : Pas → Pas) (j' : Nat) (h : j' ≠ p) : (s.modPas p f).pas j' = s.pas j' :=
  tget_tmod_ne _ _ _ h

@[simp] theorem State.modSlice_time (s : State) (g sl : Nat) (f : Slice → Slice) : (s.modSlice g sl f).time = s.time := rfl
@[simp] theorem State.modSlice_core (s : State) (g sl : Nat) (f : Slice → Slice) : (s.modSlice g sl f).core = s.core := rfl
@[simp] theorem State.modSlice_port (s : State) (g sl : Nat) (f : Slice → Slice) : (s.modSlice g sl f).port = s.port := rfl
@[simp] theorem State.modSlice_sched (s : State) (g sl : Nat) (f : Slice → Slice) : (s.modSlice g sl f).sched = s.sched := rfl
@[simp] theorem State.modSlice_mem (s : State) (g sl : Nat) (f : Slice → Slice) : (s.modSlice g sl f).mem = s.mem := rfl
@[simp] theorem State.modSlice_guard (s : State) (g sl : Nat) (f : Slice → Slice) : (s.modSlice g sl f).guard = s.guard := rfl
@[simp] theorem State.modSlice_echo (s : State) (g sl : Nat) (f : Slice → Slice) : (s.modSlice g sl f).echo = s.echo := rfl
@[simp] theorem State.modSlice_check (s : State) (g sl : Nat) (f : Slice → Slice) : (s.modSlice g sl f).check = s.check := rfl
@[simp] theorem State.modSlice_power (s : State) (g sl : Nat) (f : Slice → Slice) : (s.modSlice g sl f).power = s.power := rfl
@[simp] theorem State.modSlice_mgmt (s : State) (g sl : Nat) (f : Slice → Slice) : (s.modSlice g sl f).mgmt = s.mgmt := rfl
@[simp] theorem State.modSlice_proto (s : State) (g sl : Nat) (f : Slice → Slice) : (s.modSlice g sl f).proto = s.proto := rfl
@[simp] theorem State.modSlice_cfg (s : State) (g sl : Nat) (f : Slice → Slice) : (s.modSlice g sl f).cfg = s.cfg := rfl
@[simp] theorem State.modSlice_ev (s : State) (g sl : Nat) (f : Slice → Slice) : (s.modSlice g sl f).ev = s.ev := rfl
@[simp] theorem State.modSlice_lan (s : State) (g sl : Nat) (f : Slice → Slice) : (s.modSlice g sl f).lan = s.lan := rfl
@[simp] theorem State.modSlice_pin (s : State) (g sl : Nat) (f : Slice → Slice) : (s.modSlice g sl f).pin = s.pin := rfl
@[simp] theorem State.modSlice_out (s : State) (g sl : Nat) (f : Slice → Slice) : (s.modSlice g sl f).out = s.out := rfl
@[simp] theorem State.modSlice_free (s : State) (g sl : Nat) (f : Slice → Slice) : (s.modSlice g sl f).free = s.free := rfl
@[simp] theorem State.modSlice_pending (s : State) (g sl : Nat) (f : Slice → Slice) : (s.modSlice g sl f).pending = s.pending := rfl
@[simp] theorem State.modSlice_dir_full (s : State) (g sl : Nat) (f : Slice → Slice) : (s.modSlice g sl f).dir.full = s.dir.full := rfl
@[simp] theorem State.modSlice_dir_ptr (s : State) (g sl : Nat) (f : Slice → Slice) : (s.modSlice g sl f).dir.ptr = s.dir.ptr := rfl
@[simp] theorem State.modSlice_dir_shFull (s : State) (g sl : Nat) (f : Slice → Slice) : (s.modSlice g sl f).dir.shFull = s.dir.shFull := rfl
@[simp] theorem State.modSlice_dir_shPtr (s : State) (g sl : Nat) (f : Slice → Slice) : (s.modSlice g sl f).dir.shPtr = s.dir.shPtr := rfl
@[simp] theorem State.modSlice_dir_stash (s : State) (g sl : Nat) (f : Slice → Slice) : (s.modSlice g sl f).dir.stash = s.dir.stash := rfl
@[simp] theorem State.modSlice_dir_blind (s : State) (g sl : Nat) (f : Slice → Slice) : (s.modSlice g sl f).dir.blind = s.dir.blind := rfl
@[simp] theorem State.modSlice_dir_map (s : State) (g sl : Nat) (f : Slice → Slice) : (s.modSlice g sl f).dir.map = s.dir.map := rfl
@[simp] theorem State.modSlice_dir_migs (s : State) (g sl : Nat) (f : Slice → Slice) : (s.modSlice g sl f).dir.migs = s.dir.migs := rfl
@[simp] theorem State.modSlice_dir_fences (s : State) (g sl : Nat) (f : Slice → Slice) : (s.modSlice g sl f).dir.fences = s.dir.fences := rfl
@[simp] theorem State.modSlice_dir_accs (s : State) (g sl : Nat) (f : Slice → Slice) : (s.modSlice g sl f).dir.accs = s.dir.accs := rfl
@[simp] theorem State.modSlice_dir_nextAcc (s : State) (g sl : Nat) (f : Slice → Slice) : (s.modSlice g sl f).dir.nextAcc = s.dir.nextAcc := rfl
@[simp] theorem State.modSlice_dir_stamp (s : State) (g sl : Nat) (f : Slice → Slice) : (s.modSlice g sl f).dir.stamp = s.dir.stamp := rfl
@[simp] theorem State.modSlice_dir_reports (s : State) (g sl : Nat) (f : Slice → Slice) : (s.modSlice g sl f).dir.reports = s.dir.reports := rfl

@[simp] theorem State.modSlice_self (s : State) (g sl : Nat) (f : Slice → Slice) : (s.modSlice g sl f).slice g sl = f (s.slice g sl) :=
  tget_tmod_self _ _ _ _

@[simp] theorem State.modFence_time (s : State) (a : Nat) (f : Fence → Fence) : (s.modFence a f).time = s.time := rfl
@[simp] theorem State.modFence_core (s : State) (a : Nat) (f : Fence → Fence) : (s.modFence a f).core = s.core := rfl
@[simp] theorem State.modFence_port (s : State) (a : Nat) (f : Fence → Fence) : (s.modFence a f).port = s.port := rfl
@[simp] theorem State.modFence_sched (s : State) (a : Nat) (f : Fence → Fence) : (s.modFence a f).sched = s.sched := rfl
@[simp] theorem State.modFence_mem (s : State) (a : Nat) (f : Fence → Fence) : (s.modFence a f).mem = s.mem := rfl
@[simp] theorem State.modFence_guard (s : State) (a : Nat) (f : Fence → Fence) : (s.modFence a f).guard = s.guard := rfl
@[simp] theorem State.modFence_echo (s : State) (a : Nat) (f : Fence → Fence) : (s.modFence a f).echo = s.echo := rfl
@[simp] theorem State.modFence_check (s : State) (a : Nat) (f : Fence → Fence) : (s.modFence a f).check = s.check := rfl
@[simp] theorem State.modFence_power (s : State) (a : Nat) (f : Fence → Fence) : (s.modFence a f).power = s.power := rfl
@[simp] theorem State.modFence_mgmt (s : State) (a : Nat) (f : Fence → Fence) : (s.modFence a f).mgmt = s.mgmt := rfl
@[simp] theorem State.modFence_proto (s : State) (a : Nat) (f : Fence → Fence) : (s.modFence a f).proto = s.proto := rfl
@[simp] theorem State.modFence_cfg (s : State) (a : Nat) (f : Fence → Fence) : (s.modFence a f).cfg = s.cfg := rfl
@[simp] theorem State.modFence_ev (s : State) (a : Nat) (f : Fence → Fence) : (s.modFence a f).ev = s.ev := rfl
@[simp] theorem State.modFence_lan (s : State) (a : Nat) (f : Fence → Fence) : (s.modFence a f).lan = s.lan := rfl
@[simp] theorem State.modFence_pin (s : State) (a : Nat) (f : Fence → Fence) : (s.modFence a f).pin = s.pin := rfl
@[simp] theorem State.modFence_out (s : State) (a : Nat) (f : Fence → Fence) : (s.modFence a f).out = s.out := rfl
@[simp] theorem State.modFence_free (s : State) (a : Nat) (f : Fence → Fence) : (s.modFence a f).free = s.free := rfl
@[simp] theorem State.modFence_pending (s : State) (a : Nat) (f : Fence → Fence) : (s.modFence a f).pending = s.pending := rfl
@[simp] theorem State.modFence_dir_slices (s : State) (a : Nat) (f : Fence → Fence) : (s.modFence a f).dir.slices = s.dir.slices := rfl
@[simp] theorem State.modFence_dir_full (s : State) (a : Nat) (f : Fence → Fence) : (s.modFence a f).dir.full = s.dir.full := rfl
@[simp] theorem State.modFence_dir_ptr (s : State) (a : Nat) (f : Fence → Fence) : (s.modFence a f).dir.ptr = s.dir.ptr := rfl
@[simp] theorem State.modFence_dir_shFull (s : State) (a : Nat) (f : Fence → Fence) : (s.modFence a f).dir.shFull = s.dir.shFull := rfl
@[simp] theorem State.modFence_dir_shPtr (s : State) (a : Nat) (f : Fence → Fence) : (s.modFence a f).dir.shPtr = s.dir.shPtr := rfl
@[simp] theorem State.modFence_dir_stash (s : State) (a : Nat) (f : Fence → Fence) : (s.modFence a f).dir.stash = s.dir.stash := rfl
@[simp] theorem State.modFence_dir_blind (s : State) (a : Nat) (f : Fence → Fence) : (s.modFence a f).dir.blind = s.dir.blind := rfl
@[simp] theorem State.modFence_dir_map (s : State) (a : Nat) (f : Fence → Fence) : (s.modFence a f).dir.map = s.dir.map := rfl
@[simp] theorem State.modFence_dir_migs (s : State) (a : Nat) (f : Fence → Fence) : (s.modFence a f).dir.migs = s.dir.migs := rfl
@[simp] theorem State.modFence_dir_accs (s : State) (a : Nat) (f : Fence → Fence) : (s.modFence a f).dir.accs = s.dir.accs := rfl
@[simp] theorem State.modFence_dir_nextAcc (s : State) (a : Nat) (f : Fence → Fence) : (s.modFence a f).dir.nextAcc = s.dir.nextAcc := rfl
@[simp] theorem State.modFence_dir_stamp (s : State) (a : Nat) (f : Fence → Fence) : (s.modFence a f).dir.stamp = s.dir.stamp := rfl
@[simp] theorem State.modFence_dir_reports (s : State) (a : Nat) (f : Fence → Fence) : (s.modFence a f).dir.reports = s.dir.reports := rfl

@[simp] theorem State.modFence_self (s : State) (a : Nat) (f : Fence → Fence) : (s.modFence a f).fence a = f (s.fence a) :=
  tget_tmod_self _ _ _ _

theorem State.modFence_ne (s : State) (a : Nat) (f : Fence → Fence) (j' : Nat) (h : j' ≠ a) : (s.modFence a f).fence j' = s.fence j' :=
  tget_tmod_ne _ _ _ h

@[simp] theorem State.modFn_time (s : State) (usp f : Nat) (h : FnCfg → FnCfg) : (s.modFn usp f h).time = s.time := rfl
@[simp] theorem State.modFn_core (s : State) (usp f : Nat) (h : FnCfg → FnCfg) : (s.modFn usp f h).core = s.core := rfl
@[simp] theorem State.modFn_dir (s : State) (usp f : Nat) (h : FnCfg → FnCfg) : (s.modFn usp f h).dir = s.dir := rfl
@[simp] theorem State.modFn_sched (s : State) (usp f : Nat) (h : FnCfg → FnCfg) : (s.modFn usp f h).sched = s.sched := rfl
@[simp] theorem State.modFn_mem (s : State) (usp f : Nat) (h : FnCfg → FnCfg) : (s.modFn usp f h).mem = s.mem := rfl
@[simp] theorem State.modFn_guard (s : State) (usp f : Nat) (h : FnCfg → FnCfg) : (s.modFn usp f h).guard = s.guard := rfl
@[simp] theorem State.modFn_echo (s : State) (usp f : Nat) (h : FnCfg → FnCfg) : (s.modFn usp f h).echo = s.echo := rfl
@[simp] theorem State.modFn_check (s : State) (usp f : Nat) (h : FnCfg → FnCfg) : (s.modFn usp f h).check = s.check := rfl
@[simp] theorem State.modFn_power (s : State) (usp f : Nat) (h : FnCfg → FnCfg) : (s.modFn usp f h).power = s.power := rfl
@[simp] theorem State.modFn_mgmt (s : State) (usp f : Nat) (h : FnCfg → FnCfg) : (s.modFn usp f h).mgmt = s.mgmt := rfl
@[simp] theorem State.modFn_proto (s : State) (usp f : Nat) (h : FnCfg → FnCfg) : (s.modFn usp f h).proto = s.proto := rfl
@[simp] theorem State.modFn_cfg (s : State) (usp f : Nat) (h : FnCfg → FnCfg) : (s.modFn usp f h).cfg = s.cfg := rfl
@[simp] theorem State.modFn_ev (s : State) (usp f : Nat) (h : FnCfg → FnCfg) : (s.modFn usp f h).ev = s.ev := rfl
@[simp] theorem State.modFn_lan (s : State) (usp f : Nat) (h : FnCfg → FnCfg) : (s.modFn usp f h).lan = s.lan := rfl
@[simp] theorem State.modFn_pin (s : State) (usp f : Nat) (h : FnCfg → FnCfg) : (s.modFn usp f h).pin = s.pin := rfl
@[simp] theorem State.modFn_out (s : State) (usp f : Nat) (h : FnCfg → FnCfg) : (s.modFn usp f h).out = s.out := rfl
@[simp] theorem State.modFn_free (s : State) (usp f : Nat) (h : FnCfg → FnCfg) : (s.modFn usp f h).free = s.free := rfl
@[simp] theorem State.modFn_pending (s : State) (usp f : Nat) (h : FnCfg → FnCfg) : (s.modFn usp f h).pending = s.pending := rfl
@[simp] theorem State.modFn_port_ports (s : State) (usp f : Nat) (h : FnCfg → FnCfg) : (s.modFn usp f h).port.ports = s.port.ports := rfl
@[simp] theorem State.modFn_port_lanes (s : State) (usp f : Nat) (h : FnCfg → FnCfg) : (s.modFn usp f h).port.lanes = s.port.lanes := rfl
@[simp] theorem State.modFn_port_eq (s : State) (usp f : Nat) (h : FnCfg → FnCfg) : (s.modFn usp f h).port.eq = s.port.eq := rfl
@[simp] theorem State.modFn_port_refclks (s : State) (usp f : Nat) (h : FnCfg → FnCfg) : (s.modFn usp f h).port.refclks = s.port.refclks := rfl
@[simp] theorem State.modFn_port_loops (s : State) (usp f : Nat) (h : FnCfg → FnCfg) : (s.modFn usp f h).port.loops = s.port.loops := rfl

@[simp] theorem State.modFn_self (s : State) (usp f : Nat) (h : FnCfg → FnCfg) : (s.modFn usp f h).fn usp f = h (s.fn usp f) :=
  tget_tmod_self _ _ _ _

@[simp] theorem State.modPrt_time (s : State) (b : Nat) (f : Port → Port) : (s.modPrt b f).time = s.time := rfl
@[simp] theorem State.modPrt_core (s : State) (b : Nat) (f : Port → Port) : (s.modPrt b f).core = s.core := rfl
@[simp] theorem State.modPrt_dir (s : State) (b : Nat) (f : Port → Port) : (s.modPrt b f).dir = s.dir := rfl
@[simp] theorem State.modPrt_sched (s : State) (b : Nat) (f : Port → Port) : (s.modPrt b f).sched = s.sched := rfl
@[simp] theorem State.modPrt_mem (s : State) (b : Nat) (f : Port → Port) : (s.modPrt b f).mem = s.mem := rfl
@[simp] theorem State.modPrt_guard (s : State) (b : Nat) (f : Port → Port) : (s.modPrt b f).guard = s.guard := rfl
@[simp] theorem State.modPrt_echo (s : State) (b : Nat) (f : Port → Port) : (s.modPrt b f).echo = s.echo := rfl
@[simp] theorem State.modPrt_check (s : State) (b : Nat) (f : Port → Port) : (s.modPrt b f).check = s.check := rfl
@[simp] theorem State.modPrt_power (s : State) (b : Nat) (f : Port → Port) : (s.modPrt b f).power = s.power := rfl
@[simp] theorem State.modPrt_mgmt (s : State) (b : Nat) (f : Port → Port) : (s.modPrt b f).mgmt = s.mgmt := rfl
@[simp] theorem State.modPrt_proto (s : State) (b : Nat) (f : Port → Port) : (s.modPrt b f).proto = s.proto := rfl
@[simp] theorem State.modPrt_cfg (s : State) (b : Nat) (f : Port → Port) : (s.modPrt b f).cfg = s.cfg := rfl
@[simp] theorem State.modPrt_ev (s : State) (b : Nat) (f : Port → Port) : (s.modPrt b f).ev = s.ev := rfl
@[simp] theorem State.modPrt_lan (s : State) (b : Nat) (f : Port → Port) : (s.modPrt b f).lan = s.lan := rfl
@[simp] theorem State.modPrt_pin (s : State) (b : Nat) (f : Port → Port) : (s.modPrt b f).pin = s.pin := rfl
@[simp] theorem State.modPrt_out (s : State) (b : Nat) (f : Port → Port) : (s.modPrt b f).out = s.out := rfl
@[simp] theorem State.modPrt_free (s : State) (b : Nat) (f : Port → Port) : (s.modPrt b f).free = s.free := rfl
@[simp] theorem State.modPrt_pending (s : State) (b : Nat) (f : Port → Port) : (s.modPrt b f).pending = s.pending := rfl
@[simp] theorem State.modPrt_port_lanes (s : State) (b : Nat) (f : Port → Port) : (s.modPrt b f).port.lanes = s.port.lanes := rfl
@[simp] theorem State.modPrt_port_eq (s : State) (b : Nat) (f : Port → Port) : (s.modPrt b f).port.eq = s.port.eq := rfl
@[simp] theorem State.modPrt_port_refclks (s : State) (b : Nat) (f : Port → Port) : (s.modPrt b f).port.refclks = s.port.refclks := rfl
@[simp] theorem State.modPrt_port_loops (s : State) (b : Nat) (f : Port → Port) : (s.modPrt b f).port.loops = s.port.loops := rfl
@[simp] theorem State.modPrt_port_fns (s : State) (b : Nat) (f : Port → Port) : (s.modPrt b f).port.fns = s.port.fns := rfl

@[simp] theorem State.modPrt_self (s : State) (b : Nat) (f : Port → Port) : (s.modPrt b f).prt b = f (s.prt b) :=
  tget_tmod_self _ _ _ _

theorem State.modPrt_ne (s : State) (b : Nat) (f : Port → Port) (j' : Nat) (h : j' ≠ b) : (s.modPrt b f).prt j' = s.prt j' :=
  tget_tmod_ne _ _ _ h

@[simp] theorem State.modLane_time (s : State) (m : Nat) (f : Lane → Lane) : (s.modLane m f).time = s.time := rfl
@[simp] theorem State.modLane_core (s : State) (m : Nat) (f : Lane → Lane) : (s.modLane m f).core = s.core := rfl
@[simp] theorem State.modLane_dir (s : State) (m : Nat) (f : Lane → Lane) : (s.modLane m f).dir = s.dir := rfl
@[simp] theorem State.modLane_sched (s : State) (m : Nat) (f : Lane → Lane) : (s.modLane m f).sched = s.sched := rfl
@[simp] theorem State.modLane_mem (s : State) (m : Nat) (f : Lane → Lane) : (s.modLane m f).mem = s.mem := rfl
@[simp] theorem State.modLane_guard (s : State) (m : Nat) (f : Lane → Lane) : (s.modLane m f).guard = s.guard := rfl
@[simp] theorem State.modLane_echo (s : State) (m : Nat) (f : Lane → Lane) : (s.modLane m f).echo = s.echo := rfl
@[simp] theorem State.modLane_check (s : State) (m : Nat) (f : Lane → Lane) : (s.modLane m f).check = s.check := rfl
@[simp] theorem State.modLane_power (s : State) (m : Nat) (f : Lane → Lane) : (s.modLane m f).power = s.power := rfl
@[simp] theorem State.modLane_mgmt (s : State) (m : Nat) (f : Lane → Lane) : (s.modLane m f).mgmt = s.mgmt := rfl
@[simp] theorem State.modLane_proto (s : State) (m : Nat) (f : Lane → Lane) : (s.modLane m f).proto = s.proto := rfl
@[simp] theorem State.modLane_cfg (s : State) (m : Nat) (f : Lane → Lane) : (s.modLane m f).cfg = s.cfg := rfl
@[simp] theorem State.modLane_ev (s : State) (m : Nat) (f : Lane → Lane) : (s.modLane m f).ev = s.ev := rfl
@[simp] theorem State.modLane_lan (s : State) (m : Nat) (f : Lane → Lane) : (s.modLane m f).lan = s.lan := rfl
@[simp] theorem State.modLane_pin (s : State) (m : Nat) (f : Lane → Lane) : (s.modLane m f).pin = s.pin := rfl
@[simp] theorem State.modLane_out (s : State) (m : Nat) (f : Lane → Lane) : (s.modLane m f).out = s.out := rfl
@[simp] theorem State.modLane_free (s : State) (m : Nat) (f : Lane → Lane) : (s.modLane m f).free = s.free := rfl
@[simp] theorem State.modLane_pending (s : State) (m : Nat) (f : Lane → Lane) : (s.modLane m f).pending = s.pending := rfl
@[simp] theorem State.modLane_port_ports (s : State) (m : Nat) (f : Lane → Lane) : (s.modLane m f).port.ports = s.port.ports := rfl
@[simp] theorem State.modLane_port_eq (s : State) (m : Nat) (f : Lane → Lane) : (s.modLane m f).port.eq = s.port.eq := rfl
@[simp] theorem State.modLane_port_refclks (s : State) (m : Nat) (f : Lane → Lane) : (s.modLane m f).port.refclks = s.port.refclks := rfl
@[simp] theorem State.modLane_port_loops (s : State) (m : Nat) (f : Lane → Lane) : (s.modLane m f).port.loops = s.port.loops := rfl
@[simp] theorem State.modLane_port_fns (s : State) (m : Nat) (f : Lane → Lane) : (s.modLane m f).port.fns = s.port.fns := rfl

@[simp] theorem State.modLane_self (s : State) (m : Nat) (f : Lane → Lane) : (s.modLane m f).lane m = f (s.lane m) :=
  tget_tmod_self _ _ _ _

theorem State.modLane_ne (s : State) (m : Nat) (f : Lane → Lane) (j' : Nat) (h : j' ≠ m) : (s.modLane m f).lane j' = s.lane j' :=
  tget_tmod_ne _ _ _ h

@[simp] theorem State.modRefclk_time (s : State) (j : Nat) (f : RefClk → RefClk) : (s.modRefclk j f).time = s.time := rfl
@[simp] theorem State.modRefclk_core (s : State) (j : Nat) (f : RefClk → RefClk) : (s.modRefclk j f).core = s.core := rfl
@[simp] theorem State.modRefclk_dir (s : State) (j : Nat) (f : RefClk → RefClk) : (s.modRefclk j f).dir = s.dir := rfl
@[simp] theorem State.modRefclk_sched (s : State) (j : Nat) (f : RefClk → RefClk) : (s.modRefclk j f).sched = s.sched := rfl
@[simp] theorem State.modRefclk_mem (s : State) (j : Nat) (f : RefClk → RefClk) : (s.modRefclk j f).mem = s.mem := rfl
@[simp] theorem State.modRefclk_guard (s : State) (j : Nat) (f : RefClk → RefClk) : (s.modRefclk j f).guard = s.guard := rfl
@[simp] theorem State.modRefclk_echo (s : State) (j : Nat) (f : RefClk → RefClk) : (s.modRefclk j f).echo = s.echo := rfl
@[simp] theorem State.modRefclk_check (s : State) (j : Nat) (f : RefClk → RefClk) : (s.modRefclk j f).check = s.check := rfl
@[simp] theorem State.modRefclk_power (s : State) (j : Nat) (f : RefClk → RefClk) : (s.modRefclk j f).power = s.power := rfl
@[simp] theorem State.modRefclk_mgmt (s : State) (j : Nat) (f : RefClk → RefClk) : (s.modRefclk j f).mgmt = s.mgmt := rfl
@[simp] theorem State.modRefclk_proto (s : State) (j : Nat) (f : RefClk → RefClk) : (s.modRefclk j f).proto = s.proto := rfl
@[simp] theorem State.modRefclk_cfg (s : State) (j : Nat) (f : RefClk → RefClk) : (s.modRefclk j f).cfg = s.cfg := rfl
@[simp] theorem State.modRefclk_ev (s : State) (j : Nat) (f : RefClk → RefClk) : (s.modRefclk j f).ev = s.ev := rfl
@[simp] theorem State.modRefclk_lan (s : State) (j : Nat) (f : RefClk → RefClk) : (s.modRefclk j f).lan = s.lan := rfl
@[simp] theorem State.modRefclk_pin (s : State) (j : Nat) (f : RefClk → RefClk) : (s.modRefclk j f).pin = s.pin := rfl
@[simp] theorem State.modRefclk_out (s : State) (j : Nat) (f : RefClk → RefClk) : (s.modRefclk j f).out = s.out := rfl
@[simp] theorem State.modRefclk_free (s : State) (j : Nat) (f : RefClk → RefClk) : (s.modRefclk j f).free = s.free := rfl
@[simp] theorem State.modRefclk_pending (s : State) (j : Nat) (f : RefClk → RefClk) : (s.modRefclk j f).pending = s.pending := rfl
@[simp] theorem State.modRefclk_port_ports (s : State) (j : Nat) (f : RefClk → RefClk) : (s.modRefclk j f).port.ports = s.port.ports := rfl
@[simp] theorem State.modRefclk_port_lanes (s : State) (j : Nat) (f : RefClk → RefClk) : (s.modRefclk j f).port.lanes = s.port.lanes := rfl
@[simp] theorem State.modRefclk_port_eq (s : State) (j : Nat) (f : RefClk → RefClk) : (s.modRefclk j f).port.eq = s.port.eq := rfl
@[simp] theorem State.modRefclk_port_loops (s : State) (j : Nat) (f : RefClk → RefClk) : (s.modRefclk j f).port.loops = s.port.loops := rfl
@[simp] theorem State.modRefclk_port_fns (s : State) (j : Nat) (f : RefClk → RefClk) : (s.modRefclk j f).port.fns = s.port.fns := rfl

@[simp] theorem State.modRefclk_self (s : State) (j : Nat) (f : RefClk → RefClk) : (s.modRefclk j f).refclk j = f (s.refclk j) :=
  tget_tmod_self _ _ _ _

theorem State.modRefclk_ne (s : State) (j : Nat) (f : RefClk → RefClk) (j' : Nat) (h : j' ≠ j) : (s.modRefclk j f).refclk j' = s.refclk j' :=
  tget_tmod_ne _ _ _ h

@[simp] theorem State.modLoop_time (s : State) (b : Nat) (f : Loop → Loop) : (s.modLoop b f).time = s.time := rfl
@[simp] theorem State.modLoop_core (s : State) (b : Nat) (f : Loop → Loop) : (s.modLoop b f).core = s.core := rfl
@[simp] theorem State.modLoop_dir (s : State) (b : Nat) (f : Loop → Loop) : (s.modLoop b f).dir = s.dir := rfl
@[simp] theorem State.modLoop_sched (s : State) (b : Nat) (f : Loop → Loop) : (s.modLoop b f).sched = s.sched := rfl
@[simp] theorem State.modLoop_mem (s : State) (b : Nat) (f : Loop → Loop) : (s.modLoop b f).mem = s.mem := rfl
@[simp] theorem State.modLoop_guard (s : State) (b : Nat) (f : Loop → Loop) : (s.modLoop b f).guard = s.guard := rfl
@[simp] theorem State.modLoop_echo (s : State) (b : Nat) (f : Loop → Loop) : (s.modLoop b f).echo = s.echo := rfl
@[simp] theorem State.modLoop_check (s : State) (b : Nat) (f : Loop → Loop) : (s.modLoop b f).check = s.check := rfl
@[simp] theorem State.modLoop_power (s : State) (b : Nat) (f : Loop → Loop) : (s.modLoop b f).power = s.power := rfl
@[simp] theorem State.modLoop_mgmt (s : State) (b : Nat) (f : Loop → Loop) : (s.modLoop b f).mgmt = s.mgmt := rfl
@[simp] theorem State.modLoop_proto (s : State) (b : Nat) (f : Loop → Loop) : (s.modLoop b f).proto = s.proto := rfl
@[simp] theorem State.modLoop_cfg (s : State) (b : Nat) (f : Loop → Loop) : (s.modLoop b f).cfg = s.cfg := rfl
@[simp] theorem State.modLoop_ev (s : State) (b : Nat) (f : Loop → Loop) : (s.modLoop b f).ev = s.ev := rfl
@[simp] theorem State.modLoop_lan (s : State) (b : Nat) (f : Loop → Loop) : (s.modLoop b f).lan = s.lan := rfl
@[simp] theorem State.modLoop_pin (s : State) (b : Nat) (f : Loop → Loop) : (s.modLoop b f).pin = s.pin := rfl
@[simp] theorem State.modLoop_out (s : State) (b : Nat) (f : Loop → Loop) : (s.modLoop b f).out = s.out := rfl
@[simp] theorem State.modLoop_free (s : State) (b : Nat) (f : Loop → Loop) : (s.modLoop b f).free = s.free := rfl
@[simp] theorem State.modLoop_pending (s : State) (b : Nat) (f : Loop → Loop) : (s.modLoop b f).pending = s.pending := rfl
@[simp] theorem State.modLoop_port_ports (s : State) (b : Nat) (f : Loop → Loop) : (s.modLoop b f).port.ports = s.port.ports := rfl
@[simp] theorem State.modLoop_port_lanes (s : State) (b : Nat) (f : Loop → Loop) : (s.modLoop b f).port.lanes = s.port.lanes := rfl
@[simp] theorem State.modLoop_port_eq (s : State) (b : Nat) (f : Loop → Loop) : (s.modLoop b f).port.eq = s.port.eq := rfl
@[simp] theorem State.modLoop_port_refclks (s : State) (b : Nat) (f : Loop → Loop) : (s.modLoop b f).port.refclks = s.port.refclks := rfl
@[simp] theorem State.modLoop_port_fns (s : State) (b : Nat) (f : Loop → Loop) : (s.modLoop b f).port.fns = s.port.fns := rfl

@[simp] theorem State.modLoop_self (s : State) (b : Nat) (f : Loop → Loop) : (s.modLoop b f).loop b = f (s.loop b) :=
  tget_tmod_self _ _ _ _

theorem State.modLoop_ne (s : State) (b : Nat) (f : Loop → Loop) (j' : Nat) (h : j' ≠ b) : (s.modLoop b f).loop j' = s.loop j' :=
  tget_tmod_ne _ _ _ h

@[simp] theorem State.modSch_time (s : State) (b : Nat) (f : Sched → Sched) : (s.modSch b f).time = s.time := rfl
@[simp] theorem State.modSch_core (s : State) (b : Nat) (f : Sched → Sched) : (s.modSch b f).core = s.core := rfl
@[simp] theorem State.modSch_dir (s : State) (b : Nat) (f : Sched → Sched) : (s.modSch b f).dir = s.dir := rfl
@[simp] theorem State.modSch_port (s : State) (b : Nat) (f : Sched → Sched) : (s.modSch b f).port = s.port := rfl
@[simp] theorem State.modSch_mem (s : State) (b : Nat) (f : Sched → Sched) : (s.modSch b f).mem = s.mem := rfl
@[simp] theorem State.modSch_guard (s : State) (b : Nat) (f : Sched → Sched) : (s.modSch b f).guard = s.guard := rfl
@[simp] theorem State.modSch_echo (s : State) (b : Nat) (f : Sched → Sched) : (s.modSch b f).echo = s.echo := rfl
@[simp] theorem State.modSch_check (s : State) (b : Nat) (f : Sched → Sched) : (s.modSch b f).check = s.check := rfl
@[simp] theorem State.modSch_power (s : State) (b : Nat) (f : Sched → Sched) : (s.modSch b f).power = s.power := rfl
@[simp] theorem State.modSch_mgmt (s : State) (b : Nat) (f : Sched → Sched) : (s.modSch b f).mgmt = s.mgmt := rfl
@[simp] theorem State.modSch_proto (s : State) (b : Nat) (f : Sched → Sched) : (s.modSch b f).proto = s.proto := rfl
@[simp] theorem State.modSch_cfg (s : State) (b : Nat) (f : Sched → Sched) : (s.modSch b f).cfg = s.cfg := rfl
@[simp] theorem State.modSch_ev (s : State) (b : Nat) (f : Sched → Sched) : (s.modSch b f).ev = s.ev := rfl
@[simp] theorem State.modSch_lan (s : State) (b : Nat) (f : Sched → Sched) : (s.modSch b f).lan = s.lan := rfl
@[simp] theorem State.modSch_pin (s : State) (b : Nat) (f : Sched → Sched) : (s.modSch b f).pin = s.pin := rfl
@[simp] theorem State.modSch_out (s : State) (b : Nat) (f : Sched → Sched) : (s.modSch b f).out = s.out := rfl
@[simp] theorem State.modSch_free (s : State) (b : Nat) (f : Sched → Sched) : (s.modSch b f).free = s.free := rfl
@[simp] theorem State.modSch_pending (s : State) (b : Nat) (f : Sched → Sched) : (s.modSch b f).pending = s.pending := rfl

@[simp] theorem State.modSch_self (s : State) (b : Nat) (f : Sched → Sched) : (s.modSch b f).sch b = f (s.sch b) :=
  tget_tmod_self _ _ _ _

theorem State.modSch_ne (s : State) (b : Nat) (f : Sched → Sched) (j' : Nat) (h : j' ≠ b) : (s.modSch b f).sch j' = s.sch j' :=
  tget_tmod_ne _ _ _ h

@[simp] theorem State.modGr_time (s : State) (n : Nat) (f : GrRt → GrRt) : (s.modGr n f).time = s.time := rfl
@[simp] theorem State.modGr_core (s : State) (n : Nat) (f : GrRt → GrRt) : (s.modGr n f).core = s.core := rfl
@[simp] theorem State.modGr_dir (s : State) (n : Nat) (f : GrRt → GrRt) : (s.modGr n f).dir = s.dir := rfl
@[simp] theorem State.modGr_port (s : State) (n : Nat) (f : GrRt → GrRt) : (s.modGr n f).port = s.port := rfl
@[simp] theorem State.modGr_sched (s : State) (n : Nat) (f : GrRt → GrRt) : (s.modGr n f).sched = s.sched := rfl
@[simp] theorem State.modGr_guard (s : State) (n : Nat) (f : GrRt → GrRt) : (s.modGr n f).guard = s.guard := rfl
@[simp] theorem State.modGr_echo (s : State) (n : Nat) (f : GrRt → GrRt) : (s.modGr n f).echo = s.echo := rfl
@[simp] theorem State.modGr_check (s : State) (n : Nat) (f : GrRt → GrRt) : (s.modGr n f).check = s.check := rfl
@[simp] theorem State.modGr_power (s : State) (n : Nat) (f : GrRt → GrRt) : (s.modGr n f).power = s.power := rfl
@[simp] theorem State.modGr_mgmt (s : State) (n : Nat) (f : GrRt → GrRt) : (s.modGr n f).mgmt = s.mgmt := rfl
@[simp] theorem State.modGr_proto (s : State) (n : Nat) (f : GrRt → GrRt) : (s.modGr n f).proto = s.proto := rfl
@[simp] theorem State.modGr_cfg (s : State) (n : Nat) (f : GrRt → GrRt) : (s.modGr n f).cfg = s.cfg := rfl
@[simp] theorem State.modGr_ev (s : State) (n : Nat) (f : GrRt → GrRt) : (s.modGr n f).ev = s.ev := rfl
@[simp] theorem State.modGr_lan (s : State) (n : Nat) (f : GrRt → GrRt) : (s.modGr n f).lan = s.lan := rfl
@[simp] theorem State.modGr_pin (s : State) (n : Nat) (f : GrRt → GrRt) : (s.modGr n f).pin = s.pin := rfl
@[simp] theorem State.modGr_out (s : State) (n : Nat) (f : GrRt → GrRt) : (s.modGr n f).out = s.out := rfl
@[simp] theorem State.modGr_free (s : State) (n : Nat) (f : GrRt → GrRt) : (s.modGr n f).free = s.free := rfl
@[simp] theorem State.modGr_pending (s : State) (n : Nat) (f : GrRt → GrRt) : (s.modGr n f).pending = s.pending := rfl
@[simp] theorem State.modGr_mem_wins (s : State) (n : Nat) (f : GrRt → GrRt) : (s.modGr n f).mem.wins = s.mem.wins := rfl
@[simp] theorem State.modGr_mem_removed (s : State) (n : Nat) (f : GrRt → GrRt) : (s.modGr n f).mem.removed = s.mem.removed := rfl
@[simp] theorem State.modGr_mem_twins (s : State) (n : Nat) (f : GrRt → GrRt) : (s.modGr n f).mem.twins = s.mem.twins := rfl
@[simp] theorem State.modGr_mem_twinWait (s : State) (n : Nat) (f : GrRt → GrRt) : (s.modGr n f).mem.twinWait = s.mem.twinWait := rfl
@[simp] theorem State.modGr_mem_nextTwin (s : State) (n : Nat) (f : GrRt → GrRt) : (s.modGr n f).mem.nextTwin = s.mem.nextTwin := rfl

@[simp] theorem State.modGr_self (s : State) (n : Nat) (f : GrRt → GrRt) : (s.modGr n f).gr n = f (s.gr n) :=
  tget_tmod_self _ _ _ _

theorem State.modGr_ne (s : State) (n : Nat) (f : GrRt → GrRt) (j' : Nat) (h : j' ≠ n) : (s.modGr n f).gr j' = s.gr j' :=
  tget_tmod_ne _ _ _ h

@[simp] theorem State.modWin_time (s : State) (w : Nat) (f : WinRt → WinRt) : (s.modWin w f).time = s.time := rfl
@[simp] theorem State.modWin_core (s : State) (w : Nat) (f : WinRt → WinRt) : (s.modWin w f).core = s.core := rfl
@[simp] theorem State.modWin_dir (s : State) (w : Nat) (f : WinRt → WinRt) : (s.modWin w f).dir = s.dir := rfl
@[simp] theorem State.modWin_port (s : State) (w : Nat) (f : WinRt → WinRt) : (s.modWin w f).port = s.port := rfl
@[simp] theorem State.modWin_sched (s : State) (w : Nat) (f : WinRt → WinRt) : (s.modWin w f).sched = s.sched := rfl
@[simp] theorem State.modWin_guard (s : State) (w : Nat) (f : WinRt → WinRt) : (s.modWin w f).guard = s.guard := rfl
@[simp] theorem State.modWin_echo (s : State) (w : Nat) (f : WinRt → WinRt) : (s.modWin w f).echo = s.echo := rfl
@[simp] theorem State.modWin_check (s : State) (w : Nat) (f : WinRt → WinRt) : (s.modWin w f).check = s.check := rfl
@[simp] theorem State.modWin_power (s : State) (w : Nat) (f : WinRt → WinRt) : (s.modWin w f).power = s.power := rfl
@[simp] theorem State.modWin_mgmt (s : State) (w : Nat) (f : WinRt → WinRt) : (s.modWin w f).mgmt = s.mgmt := rfl
@[simp] theorem State.modWin_proto (s : State) (w : Nat) (f : WinRt → WinRt) : (s.modWin w f).proto = s.proto := rfl
@[simp] theorem State.modWin_cfg (s : State) (w : Nat) (f : WinRt → WinRt) : (s.modWin w f).cfg = s.cfg := rfl
@[simp] theorem State.modWin_ev (s : State) (w : Nat) (f : WinRt → WinRt) : (s.modWin w f).ev = s.ev := rfl
@[simp] theorem State.modWin_lan (s : State) (w : Nat) (f : WinRt → WinRt) : (s.modWin w f).lan = s.lan := rfl
@[simp] theorem State.modWin_pin (s : State) (w : Nat) (f : WinRt → WinRt) : (s.modWin w f).pin = s.pin := rfl
@[simp] theorem State.modWin_out (s : State) (w : Nat) (f : WinRt → WinRt) : (s.modWin w f).out = s.out := rfl
@[simp] theorem State.modWin_free (s : State) (w : Nat) (f : WinRt → WinRt) : (s.modWin w f).free = s.free := rfl
@[simp] theorem State.modWin_pending (s : State) (w : Nat) (f : WinRt → WinRt) : (s.modWin w f).pending = s.pending := rfl
@[simp] theorem State.modWin_mem_grottos (s : State) (w : Nat) (f : WinRt → WinRt) : (s.modWin w f).mem.grottos = s.mem.grottos := rfl
@[simp] theorem State.modWin_mem_removed (s : State) (w : Nat) (f : WinRt → WinRt) : (s.modWin w f).mem.removed = s.mem.removed := rfl
@[simp] theorem State.modWin_mem_twins (s : State) (w : Nat) (f : WinRt → WinRt) : (s.modWin w f).mem.twins = s.mem.twins := rfl
@[simp] theorem State.modWin_mem_twinWait (s : State) (w : Nat) (f : WinRt → WinRt) : (s.modWin w f).mem.twinWait = s.mem.twinWait := rfl
@[simp] theorem State.modWin_mem_nextTwin (s : State) (w : Nat) (f : WinRt → WinRt) : (s.modWin w f).mem.nextTwin = s.mem.nextTwin := rfl

@[simp] theorem State.modWin_self (s : State) (w : Nat) (f : WinRt → WinRt) : (s.modWin w f).win w = f (s.win w) :=
  tget_tmod_self _ _ _ _

theorem State.modWin_ne (s : State) (w : Nat) (f : WinRt → WinRt) (j' : Nat) (h : j' ≠ w) : (s.modWin w f).win j' = s.win j' :=
  tget_tmod_ne _ _ _ h

@[simp] theorem State.modGrd_time (s : State) (b : Nat) (f : GuardRt → GuardRt) : (s.modGrd b f).time = s.time := rfl
@[simp] theorem State.modGrd_core (s : State) (b : Nat) (f : GuardRt → GuardRt) : (s.modGrd b f).core = s.core := rfl
@[simp] theorem State.modGrd_dir (s : State) (b : Nat) (f : GuardRt → GuardRt) : (s.modGrd b f).dir = s.dir := rfl
@[simp] theorem State.modGrd_port (s : State) (b : Nat) (f : GuardRt → GuardRt) : (s.modGrd b f).port = s.port := rfl
@[simp] theorem State.modGrd_sched (s : State) (b : Nat) (f : GuardRt → GuardRt) : (s.modGrd b f).sched = s.sched := rfl
@[simp] theorem State.modGrd_mem (s : State) (b : Nat) (f : GuardRt → GuardRt) : (s.modGrd b f).mem = s.mem := rfl
@[simp] theorem State.modGrd_echo (s : State) (b : Nat) (f : GuardRt → GuardRt) : (s.modGrd b f).echo = s.echo := rfl
@[simp] theorem State.modGrd_check (s : State) (b : Nat) (f : GuardRt → GuardRt) : (s.modGrd b f).check = s.check := rfl
@[simp] theorem State.modGrd_power (s : State) (b : Nat) (f : GuardRt → GuardRt) : (s.modGrd b f).power = s.power := rfl
@[simp] theorem State.modGrd_mgmt (s : State) (b : Nat) (f : GuardRt → GuardRt) : (s.modGrd b f).mgmt = s.mgmt := rfl
@[simp] theorem State.modGrd_proto (s : State) (b : Nat) (f : GuardRt → GuardRt) : (s.modGrd b f).proto = s.proto := rfl
@[simp] theorem State.modGrd_cfg (s : State) (b : Nat) (f : GuardRt → GuardRt) : (s.modGrd b f).cfg = s.cfg := rfl
@[simp] theorem State.modGrd_ev (s : State) (b : Nat) (f : GuardRt → GuardRt) : (s.modGrd b f).ev = s.ev := rfl
@[simp] theorem State.modGrd_lan (s : State) (b : Nat) (f : GuardRt → GuardRt) : (s.modGrd b f).lan = s.lan := rfl
@[simp] theorem State.modGrd_pin (s : State) (b : Nat) (f : GuardRt → GuardRt) : (s.modGrd b f).pin = s.pin := rfl
@[simp] theorem State.modGrd_out (s : State) (b : Nat) (f : GuardRt → GuardRt) : (s.modGrd b f).out = s.out := rfl
@[simp] theorem State.modGrd_free (s : State) (b : Nat) (f : GuardRt → GuardRt) : (s.modGrd b f).free = s.free := rfl
@[simp] theorem State.modGrd_pending (s : State) (b : Nat) (f : GuardRt → GuardRt) : (s.modGrd b f).pending = s.pending := rfl

@[simp] theorem State.modGrd_self (s : State) (b : Nat) (f : GuardRt → GuardRt) : (s.modGrd b f).grd b = f (s.grd b) :=
  tget_tmod_self _ _ _ _

theorem State.modGrd_ne (s : State) (b : Nat) (f : GuardRt → GuardRt) (j' : Nat) (h : j' ≠ b) : (s.modGrd b f).grd j' = s.grd j' :=
  tget_tmod_ne _ _ _ h

@[simp] theorem State.modEndp_time (s : State) (e : Nat) (f : Endp → Endp) : (s.modEndp e f).time = s.time := rfl
@[simp] theorem State.modEndp_core (s : State) (e : Nat) (f : Endp → Endp) : (s.modEndp e f).core = s.core := rfl
@[simp] theorem State.modEndp_dir (s : State) (e : Nat) (f : Endp → Endp) : (s.modEndp e f).dir = s.dir := rfl
@[simp] theorem State.modEndp_port (s : State) (e : Nat) (f : Endp → Endp) : (s.modEndp e f).port = s.port := rfl
@[simp] theorem State.modEndp_sched (s : State) (e : Nat) (f : Endp → Endp) : (s.modEndp e f).sched = s.sched := rfl
@[simp] theorem State.modEndp_mem (s : State) (e : Nat) (f : Endp → Endp) : (s.modEndp e f).mem = s.mem := rfl
@[simp] theorem State.modEndp_guard (s : State) (e : Nat) (f : Endp → Endp) : (s.modEndp e f).guard = s.guard := rfl
@[simp] theorem State.modEndp_check (s : State) (e : Nat) (f : Endp → Endp) : (s.modEndp e f).check = s.check := rfl
@[simp] theorem State.modEndp_power (s : State) (e : Nat) (f : Endp → Endp) : (s.modEndp e f).power = s.power := rfl
@[simp] theorem State.modEndp_mgmt (s : State) (e : Nat) (f : Endp → Endp) : (s.modEndp e f).mgmt = s.mgmt := rfl
@[simp] theorem State.modEndp_proto (s : State) (e : Nat) (f : Endp → Endp) : (s.modEndp e f).proto = s.proto := rfl
@[simp] theorem State.modEndp_cfg (s : State) (e : Nat) (f : Endp → Endp) : (s.modEndp e f).cfg = s.cfg := rfl
@[simp] theorem State.modEndp_ev (s : State) (e : Nat) (f : Endp → Endp) : (s.modEndp e f).ev = s.ev := rfl
@[simp] theorem State.modEndp_lan (s : State) (e : Nat) (f : Endp → Endp) : (s.modEndp e f).lan = s.lan := rfl
@[simp] theorem State.modEndp_pin (s : State) (e : Nat) (f : Endp → Endp) : (s.modEndp e f).pin = s.pin := rfl
@[simp] theorem State.modEndp_out (s : State) (e : Nat) (f : Endp → Endp) : (s.modEndp e f).out = s.out := rfl
@[simp] theorem State.modEndp_free (s : State) (e : Nat) (f : Endp → Endp) : (s.modEndp e f).free = s.free := rfl
@[simp] theorem State.modEndp_pending (s : State) (e : Nat) (f : Endp → Endp) : (s.modEndp e f).pending = s.pending := rfl
@[simp] theorem State.modEndp_echo_isls (s : State) (e : Nat) (f : Endp → Endp) : (s.modEndp e f).echo.isls = s.echo.isls := rfl
@[simp] theorem State.modEndp_echo_msix (s : State) (e : Nat) (f : Endp → Endp) : (s.modEndp e f).echo.msix = s.echo.msix := rfl

@[simp] theorem State.modEndp_self (s : State) (e : Nat) (f : Endp → Endp) : (s.modEndp e f).endp e = f (s.endp e) :=
  tget_tmod_self _ _ _ _

theorem State.modEndp_ne (s : State) (e : Nat) (f : Endp → Endp) (j' : Nat) (h : j' ≠ e) : (s.modEndp e f).endp j' = s.endp j' :=
  tget_tmod_ne _ _ _ h

@[simp] theorem State.modSvc_time (s : State) (g : Nat) (f : Island26 → Island26) : (s.modSvc g f).time = s.time := rfl
@[simp] theorem State.modSvc_core (s : State) (g : Nat) (f : Island26 → Island26) : (s.modSvc g f).core = s.core := rfl
@[simp] theorem State.modSvc_dir (s : State) (g : Nat) (f : Island26 → Island26) : (s.modSvc g f).dir = s.dir := rfl
@[simp] theorem State.modSvc_port (s : State) (g : Nat) (f : Island26 → Island26) : (s.modSvc g f).port = s.port := rfl
@[simp] theorem State.modSvc_sched (s : State) (g : Nat) (f : Island26 → Island26) : (s.modSvc g f).sched = s.sched := rfl
@[simp] theorem State.modSvc_mem (s : State) (g : Nat) (f : Island26 → Island26) : (s.modSvc g f).mem = s.mem := rfl
@[simp] theorem State.modSvc_guard (s : State) (g : Nat) (f : Island26 → Island26) : (s.modSvc g f).guard = s.guard := rfl
@[simp] theorem State.modSvc_check (s : State) (g : Nat) (f : Island26 → Island26) : (s.modSvc g f).check = s.check := rfl
@[simp] theorem State.modSvc_power (s : State) (g : Nat) (f : Island26 → Island26) : (s.modSvc g f).power = s.power := rfl
@[simp] theorem State.modSvc_mgmt (s : State) (g : Nat) (f : Island26 → Island26) : (s.modSvc g f).mgmt = s.mgmt := rfl
@[simp] theorem State.modSvc_proto (s : State) (g : Nat) (f : Island26 → Island26) : (s.modSvc g f).proto = s.proto := rfl
@[simp] theorem State.modSvc_cfg (s : State) (g : Nat) (f : Island26 → Island26) : (s.modSvc g f).cfg = s.cfg := rfl
@[simp] theorem State.modSvc_ev (s : State) (g : Nat) (f : Island26 → Island26) : (s.modSvc g f).ev = s.ev := rfl
@[simp] theorem State.modSvc_lan (s : State) (g : Nat) (f : Island26 → Island26) : (s.modSvc g f).lan = s.lan := rfl
@[simp] theorem State.modSvc_pin (s : State) (g : Nat) (f : Island26 → Island26) : (s.modSvc g f).pin = s.pin := rfl
@[simp] theorem State.modSvc_out (s : State) (g : Nat) (f : Island26 → Island26) : (s.modSvc g f).out = s.out := rfl
@[simp] theorem State.modSvc_free (s : State) (g : Nat) (f : Island26 → Island26) : (s.modSvc g f).free = s.free := rfl
@[simp] theorem State.modSvc_pending (s : State) (g : Nat) (f : Island26 → Island26) : (s.modSvc g f).pending = s.pending := rfl
@[simp] theorem State.modSvc_echo_endps (s : State) (g : Nat) (f : Island26 → Island26) : (s.modSvc g f).echo.endps = s.echo.endps := rfl
@[simp] theorem State.modSvc_echo_msix (s : State) (g : Nat) (f : Island26 → Island26) : (s.modSvc g f).echo.msix = s.echo.msix := rfl

@[simp] theorem State.modSvc_self (s : State) (g : Nat) (f : Island26 → Island26) : (s.modSvc g f).svc g = f (s.svc g) :=
  tget_tmod_self _ _ _ _

theorem State.modSvc_ne (s : State) (g : Nat) (f : Island26 → Island26) (j' : Nat) (h : j' ≠ g) : (s.modSvc g f).svc j' = s.svc j' :=
  tget_tmod_ne _ _ _ h

@[simp] theorem State.modCtx_time (s : State) (a h : Nat) (f : Ctx → Ctx) : (s.modCtx a h f).time = s.time := rfl
@[simp] theorem State.modCtx_core (s : State) (a h : Nat) (f : Ctx → Ctx) : (s.modCtx a h f).core = s.core := rfl
@[simp] theorem State.modCtx_dir (s : State) (a h : Nat) (f : Ctx → Ctx) : (s.modCtx a h f).dir = s.dir := rfl
@[simp] theorem State.modCtx_port (s : State) (a h : Nat) (f : Ctx → Ctx) : (s.modCtx a h f).port = s.port := rfl
@[simp] theorem State.modCtx_sched (s : State) (a h : Nat) (f : Ctx → Ctx) : (s.modCtx a h f).sched = s.sched := rfl
@[simp] theorem State.modCtx_mem (s : State) (a h : Nat) (f : Ctx → Ctx) : (s.modCtx a h f).mem = s.mem := rfl
@[simp] theorem State.modCtx_guard (s : State) (a h : Nat) (f : Ctx → Ctx) : (s.modCtx a h f).guard = s.guard := rfl
@[simp] theorem State.modCtx_echo (s : State) (a h : Nat) (f : Ctx → Ctx) : (s.modCtx a h f).echo = s.echo := rfl
@[simp] theorem State.modCtx_power (s : State) (a h : Nat) (f : Ctx → Ctx) : (s.modCtx a h f).power = s.power := rfl
@[simp] theorem State.modCtx_mgmt (s : State) (a h : Nat) (f : Ctx → Ctx) : (s.modCtx a h f).mgmt = s.mgmt := rfl
@[simp] theorem State.modCtx_proto (s : State) (a h : Nat) (f : Ctx → Ctx) : (s.modCtx a h f).proto = s.proto := rfl
@[simp] theorem State.modCtx_cfg (s : State) (a h : Nat) (f : Ctx → Ctx) : (s.modCtx a h f).cfg = s.cfg := rfl
@[simp] theorem State.modCtx_ev (s : State) (a h : Nat) (f : Ctx → Ctx) : (s.modCtx a h f).ev = s.ev := rfl
@[simp] theorem State.modCtx_lan (s : State) (a h : Nat) (f : Ctx → Ctx) : (s.modCtx a h f).lan = s.lan := rfl
@[simp] theorem State.modCtx_pin (s : State) (a h : Nat) (f : Ctx → Ctx) : (s.modCtx a h f).pin = s.pin := rfl
@[simp] theorem State.modCtx_out (s : State) (a h : Nat) (f : Ctx → Ctx) : (s.modCtx a h f).out = s.out := rfl
@[simp] theorem State.modCtx_free (s : State) (a h : Nat) (f : Ctx → Ctx) : (s.modCtx a h f).free = s.free := rfl
@[simp] theorem State.modCtx_pending (s : State) (a h : Nat) (f : Ctx → Ctx) : (s.modCtx a h f).pending = s.pending := rfl

@[simp] theorem State.modCtx_self (s : State) (a h : Nat) (f : Ctx → Ctx) : (s.modCtx a h f).ctx a h = f (s.ctx a h) :=
  tget_tmod_self _ _ _ _

@[simp] theorem State.modSlot_time (s : State) (n : Nat) (f : Slot → Slot) : (s.modSlot n f).time = s.time := rfl
@[simp] theorem State.modSlot_core (s : State) (n : Nat) (f : Slot → Slot) : (s.modSlot n f).core = s.core := rfl
@[simp] theorem State.modSlot_dir (s : State) (n : Nat) (f : Slot → Slot) : (s.modSlot n f).dir = s.dir := rfl
@[simp] theorem State.modSlot_port (s : State) (n : Nat) (f : Slot → Slot) : (s.modSlot n f).port = s.port := rfl
@[simp] theorem State.modSlot_sched (s : State) (n : Nat) (f : Slot → Slot) : (s.modSlot n f).sched = s.sched := rfl
@[simp] theorem State.modSlot_mem (s : State) (n : Nat) (f : Slot → Slot) : (s.modSlot n f).mem = s.mem := rfl
@[simp] theorem State.modSlot_guard (s : State) (n : Nat) (f : Slot → Slot) : (s.modSlot n f).guard = s.guard := rfl
@[simp] theorem State.modSlot_echo (s : State) (n : Nat) (f : Slot → Slot) : (s.modSlot n f).echo = s.echo := rfl
@[simp] theorem State.modSlot_check (s : State) (n : Nat) (f : Slot → Slot) : (s.modSlot n f).check = s.check := rfl
@[simp] theorem State.modSlot_mgmt (s : State) (n : Nat) (f : Slot → Slot) : (s.modSlot n f).mgmt = s.mgmt := rfl
@[simp] theorem State.modSlot_proto (s : State) (n : Nat) (f : Slot → Slot) : (s.modSlot n f).proto = s.proto := rfl
@[simp] theorem State.modSlot_cfg (s : State) (n : Nat) (f : Slot → Slot) : (s.modSlot n f).cfg = s.cfg := rfl
@[simp] theorem State.modSlot_ev (s : State) (n : Nat) (f : Slot → Slot) : (s.modSlot n f).ev = s.ev := rfl
@[simp] theorem State.modSlot_lan (s : State) (n : Nat) (f : Slot → Slot) : (s.modSlot n f).lan = s.lan := rfl
@[simp] theorem State.modSlot_pin (s : State) (n : Nat) (f : Slot → Slot) : (s.modSlot n f).pin = s.pin := rfl
@[simp] theorem State.modSlot_out (s : State) (n : Nat) (f : Slot → Slot) : (s.modSlot n f).out = s.out := rfl
@[simp] theorem State.modSlot_free (s : State) (n : Nat) (f : Slot → Slot) : (s.modSlot n f).free = s.free := rfl
@[simp] theorem State.modSlot_pending (s : State) (n : Nat) (f : Slot → Slot) : (s.modSlot n f).pending = s.pending := rfl
@[simp] theorem State.modSlot_power_buses (s : State) (n : Nat) (f : Slot → Slot) : (s.modSlot n f).power.buses = s.power.buses := rfl

@[simp] theorem State.modSlot_self (s : State) (n : Nat) (f : Slot → Slot) : (s.modSlot n f).slot n = f (s.slot n) :=
  tget_tmod_self _ _ _ _

theorem State.modSlot_ne (s : State) (n : Nat) (f : Slot → Slot) (j' : Nat) (h : j' ≠ n) : (s.modSlot n f).slot j' = s.slot j' :=
  tget_tmod_ne _ _ _ h

@[simp] theorem State.modBus_time (s : State) (b : Nat) (f : Bus → Bus) : (s.modBus b f).time = s.time := rfl
@[simp] theorem State.modBus_core (s : State) (b : Nat) (f : Bus → Bus) : (s.modBus b f).core = s.core := rfl
@[simp] theorem State.modBus_dir (s : State) (b : Nat) (f : Bus → Bus) : (s.modBus b f).dir = s.dir := rfl
@[simp] theorem State.modBus_port (s : State) (b : Nat) (f : Bus → Bus) : (s.modBus b f).port = s.port := rfl
@[simp] theorem State.modBus_sched (s : State) (b : Nat) (f : Bus → Bus) : (s.modBus b f).sched = s.sched := rfl
@[simp] theorem State.modBus_mem (s : State) (b : Nat) (f : Bus → Bus) : (s.modBus b f).mem = s.mem := rfl
@[simp] theorem State.modBus_guard (s : State) (b : Nat) (f : Bus → Bus) : (s.modBus b f).guard = s.guard := rfl
@[simp] theorem State.modBus_echo (s : State) (b : Nat) (f : Bus → Bus) : (s.modBus b f).echo = s.echo := rfl
@[simp] theorem State.modBus_check (s : State) (b : Nat) (f : Bus → Bus) : (s.modBus b f).check = s.check := rfl
@[simp] theorem State.modBus_mgmt (s : State) (b : Nat) (f : Bus → Bus) : (s.modBus b f).mgmt = s.mgmt := rfl
@[simp] theorem State.modBus_proto (s : State) (b : Nat) (f : Bus → Bus) : (s.modBus b f).proto = s.proto := rfl
@[simp] theorem State.modBus_cfg (s : State) (b : Nat) (f : Bus → Bus) : (s.modBus b f).cfg = s.cfg := rfl
@[simp] theorem State.modBus_ev (s : State) (b : Nat) (f : Bus → Bus) : (s.modBus b f).ev = s.ev := rfl
@[simp] theorem State.modBus_lan (s : State) (b : Nat) (f : Bus → Bus) : (s.modBus b f).lan = s.lan := rfl
@[simp] theorem State.modBus_pin (s : State) (b : Nat) (f : Bus → Bus) : (s.modBus b f).pin = s.pin := rfl
@[simp] theorem State.modBus_out (s : State) (b : Nat) (f : Bus → Bus) : (s.modBus b f).out = s.out := rfl
@[simp] theorem State.modBus_free (s : State) (b : Nat) (f : Bus → Bus) : (s.modBus b f).free = s.free := rfl
@[simp] theorem State.modBus_pending (s : State) (b : Nat) (f : Bus → Bus) : (s.modBus b f).pending = s.pending := rfl
@[simp] theorem State.modBus_power_slots (s : State) (b : Nat) (f : Bus → Bus) : (s.modBus b f).power.slots = s.power.slots := rfl

@[simp] theorem State.modBus_self (s : State) (b : Nat) (f : Bus → Bus) : (s.modBus b f).bus b = f (s.bus b) :=
  tget_tmod_self _ _ _ _

theorem State.modBus_ne (s : State) (b : Nat) (f : Bus → Bus) (j' : Nat) (h : j' ≠ b) : (s.modBus b f).bus j' = s.bus j' :=
  tget_tmod_ne _ _ _ h

@[simp] theorem State.modCluster_time (s : State) (n : Nat) (f : Cluster → Cluster) : (s.modCluster n f).time = s.time := rfl
@[simp] theorem State.modCluster_core (s : State) (n : Nat) (f : Cluster → Cluster) : (s.modCluster n f).core = s.core := rfl
@[simp] theorem State.modCluster_dir (s : State) (n : Nat) (f : Cluster → Cluster) : (s.modCluster n f).dir = s.dir := rfl
@[simp] theorem State.modCluster_port (s : State) (n : Nat) (f : Cluster → Cluster) : (s.modCluster n f).port = s.port := rfl
@[simp] theorem State.modCluster_sched (s : State) (n : Nat) (f : Cluster → Cluster) : (s.modCluster n f).sched = s.sched := rfl
@[simp] theorem State.modCluster_mem (s : State) (n : Nat) (f : Cluster → Cluster) : (s.modCluster n f).mem = s.mem := rfl
@[simp] theorem State.modCluster_guard (s : State) (n : Nat) (f : Cluster → Cluster) : (s.modCluster n f).guard = s.guard := rfl
@[simp] theorem State.modCluster_echo (s : State) (n : Nat) (f : Cluster → Cluster) : (s.modCluster n f).echo = s.echo := rfl
@[simp] theorem State.modCluster_check (s : State) (n : Nat) (f : Cluster → Cluster) : (s.modCluster n f).check = s.check := rfl
@[simp] theorem State.modCluster_power (s : State) (n : Nat) (f : Cluster → Cluster) : (s.modCluster n f).power = s.power := rfl
@[simp] theorem State.modCluster_proto (s : State) (n : Nat) (f : Cluster → Cluster) : (s.modCluster n f).proto = s.proto := rfl
@[simp] theorem State.modCluster_cfg (s : State) (n : Nat) (f : Cluster → Cluster) : (s.modCluster n f).cfg = s.cfg := rfl
@[simp] theorem State.modCluster_ev (s : State) (n : Nat) (f : Cluster → Cluster) : (s.modCluster n f).ev = s.ev := rfl
@[simp] theorem State.modCluster_lan (s : State) (n : Nat) (f : Cluster → Cluster) : (s.modCluster n f).lan = s.lan := rfl
@[simp] theorem State.modCluster_pin (s : State) (n : Nat) (f : Cluster → Cluster) : (s.modCluster n f).pin = s.pin := rfl
@[simp] theorem State.modCluster_out (s : State) (n : Nat) (f : Cluster → Cluster) : (s.modCluster n f).out = s.out := rfl
@[simp] theorem State.modCluster_free (s : State) (n : Nat) (f : Cluster → Cluster) : (s.modCluster n f).free = s.free := rfl
@[simp] theorem State.modCluster_pending (s : State) (n : Nat) (f : Cluster → Cluster) : (s.modCluster n f).pending = s.pending := rfl
@[simp] theorem State.modCluster_mgmt_boot (s : State) (n : Nat) (f : Cluster → Cluster) : (s.modCluster n f).mgmt.boot = s.mgmt.boot := rfl
@[simp] theorem State.modCluster_mgmt_bootAt (s : State) (n : Nat) (f : Cluster → Cluster) : (s.modCluster n f).mgmt.bootAt = s.mgmt.bootAt := rfl
@[simp] theorem State.modCluster_mgmt_bootPort (s : State) (n : Nat) (f : Cluster → Cluster) : (s.modCluster n f).mgmt.bootPort = s.mgmt.bootPort := rfl
@[simp] theorem State.modCluster_mgmt_source (s : State) (n : Nat) (f : Cluster → Cluster) : (s.modCluster n f).mgmt.source = s.mgmt.source := rfl
@[simp] theorem State.modCluster_mgmt_kept (s : State) (n : Nat) (f : Cluster → Cluster) : (s.modCluster n f).mgmt.kept = s.mgmt.kept := rfl
@[simp] theorem State.modCluster_mgmt_keptValid (s : State) (n : Nat) (f : Cluster → Cluster) : (s.modCluster n f).mgmt.keptValid = s.mgmt.keptValid := rfl
@[simp] theorem State.modCluster_mgmt_fromKept (s : State) (n : Nat) (f : Cluster → Cluster) : (s.modCluster n f).mgmt.fromKept = s.mgmt.fromKept := rfl
@[simp] theorem State.modCluster_mgmt_keptEcc (s : State) (n : Nat) (f : Cluster → Cluster) : (s.modCluster n f).mgmt.keptEcc = s.mgmt.keptEcc := rfl
@[simp] theorem State.modCluster_mgmt_rxTransport (s : State) (n : Nat) (f : Cluster → Cluster) : (s.modCluster n f).mgmt.rxTransport = s.mgmt.rxTransport := rfl
@[simp] theorem State.modCluster_mgmt_rxLen (s : State) (n : Nat) (f : Cluster → Cluster) : (s.modCluster n f).mgmt.rxLen = s.mgmt.rxLen := rfl
@[simp] theorem State.modCluster_mgmt_lastFail (s : State) (n : Nat) (f : Cluster → Cluster) : (s.modCluster n f).mgmt.lastFail = s.mgmt.lastFail := rfl
@[simp] theorem State.modCluster_mgmt_starts (s : State) (n : Nat) (f : Cluster → Cluster) : (s.modCluster n f).mgmt.starts = s.mgmt.starts := rfl
@[simp] theorem State.modCluster_mgmt_bridgeTo (s : State) (n : Nat) (f : Cluster → Cluster) : (s.modCluster n f).mgmt.bridgeTo = s.mgmt.bridgeTo := rfl
@[simp] theorem State.modCluster_mgmt_loadDrip (s : State) (n : Nat) (f : Cluster → Cluster) : (s.modCluster n f).mgmt.loadDrip = s.mgmt.loadDrip := rfl
@[simp] theorem State.modCluster_mgmt_runDrip (s : State) (n : Nat) (f : Cluster → Cluster) : (s.modCluster n f).mgmt.runDrip = s.mgmt.runDrip := rfl
@[simp] theorem State.modCluster_mgmt_digest (s : State) (n : Nat) (f : Cluster → Cluster) : (s.modCluster n f).mgmt.digest = s.mgmt.digest := rfl
@[simp] theorem State.modCluster_mgmt_keyRevoked (s : State) (n : Nat) (f : Cluster → Cluster) : (s.modCluster n f).mgmt.keyRevoked = s.mgmt.keyRevoked := rfl
@[simp] theorem State.modCluster_mgmt_rollback (s : State) (n : Nat) (f : Cluster → Cluster) : (s.modCluster n f).mgmt.rollback = s.mgmt.rollback := rfl
@[simp] theorem State.modCluster_mgmt_fusePlan (s : State) (n : Nat) (f : Cluster → Cluster) : (s.modCluster n f).mgmt.fusePlan = s.mgmt.fusePlan := rfl
@[simp] theorem State.modCluster_mgmt_fuseTries (s : State) (n : Nat) (f : Cluster → Cluster) : (s.modCluster n f).mgmt.fuseTries = s.mgmt.fuseTries := rfl
@[simp] theorem State.modCluster_mgmt_rom (s : State) (n : Nat) (f : Cluster → Cluster) : (s.modCluster n f).mgmt.rom = s.mgmt.rom := rfl
@[simp] theorem State.modCluster_mgmt_loadEnd (s : State) (n : Nat) (f : Cluster → Cluster) : (s.modCluster n f).mgmt.loadEnd = s.mgmt.loadEnd := rfl
@[simp] theorem State.modCluster_mgmt_token (s : State) (n : Nat) (f : Cluster → Cluster) : (s.modCluster n f).mgmt.token = s.mgmt.token := rfl
@[simp] theorem State.modCluster_mgmt_hbInterval (s : State) (n : Nat) (f : Cluster → Cluster) : (s.modCluster n f).mgmt.hbInterval = s.mgmt.hbInterval := rfl
@[simp] theorem State.modCluster_mgmt_bothDown (s : State) (n : Nat) (f : Cluster → Cluster) : (s.modCluster n f).mgmt.bothDown = s.mgmt.bothDown := rfl
@[simp] theorem State.modCluster_mgmt_mgmtRst (s : State) (n : Nat) (f : Cluster → Cluster) : (s.modCluster n f).mgmt.mgmtRst = s.mgmt.mgmtRst := rfl
@[simp] theorem State.modCluster_mgmt_coldRst (s : State) (n : Nat) (f : Cluster → Cluster) : (s.modCluster n f).mgmt.coldRst = s.mgmt.coldRst := rfl
@[simp] theorem State.modCluster_mgmt_resetWait (s : State) (n : Nat) (f : Cluster → Cluster) : (s.modCluster n f).mgmt.resetWait = s.mgmt.resetWait := rfl
@[simp] theorem State.modCluster_mgmt_closedByReset (s : State) (n : Nat) (f : Cluster → Cluster) : (s.modCluster n f).mgmt.closedByReset = s.mgmt.closedByReset := rfl
@[simp] theorem State.modCluster_mgmt_abortedByReset (s : State) (n : Nat) (f : Cluster → Cluster) : (s.modCluster n f).mgmt.abortedByReset = s.mgmt.abortedByReset := rfl
@[simp] theorem State.modCluster_mgmt_keyHash (s : State) (n : Nat) (f : Cluster → Cluster) : (s.modCluster n f).mgmt.keyHash = s.mgmt.keyHash := rfl
@[simp] theorem State.modCluster_mgmt_bridge (s : State) (n : Nat) (f : Cluster → Cluster) : (s.modCluster n f).mgmt.bridge = s.mgmt.bridge := rfl
@[simp] theorem State.modCluster_mgmt_guardBank0 (s : State) (n : Nat) (f : Cluster → Cluster) : (s.modCluster n f).mgmt.guardBank0 = s.mgmt.guardBank0 := rfl
@[simp] theorem State.modCluster_mgmt_guardBank1 (s : State) (n : Nat) (f : Cluster → Cluster) : (s.modCluster n f).mgmt.guardBank1 = s.mgmt.guardBank1 := rfl
@[simp] theorem State.modCluster_mgmt_journal (s : State) (n : Nat) (f : Cluster → Cluster) : (s.modCluster n f).mgmt.journal = s.mgmt.journal := rfl
@[simp] theorem State.modCluster_mgmt_nextRec (s : State) (n : Nat) (f : Cluster → Cluster) : (s.modCluster n f).mgmt.nextRec = s.mgmt.nextRec := rfl

@[simp] theorem State.modCluster_self (s : State) (n : Nat) (f : Cluster → Cluster) : (s.modCluster n f).cluster n = f (s.cluster n) :=
  tget_tmod_self _ _ _ _

theorem State.modCluster_ne (s : State) (n : Nat) (f : Cluster → Cluster) (j' : Nat) (h : j' ≠ n) : (s.modCluster n f).cluster j' = s.cluster j' :=
  tget_tmod_ne _ _ _ h

@[simp] theorem State.setSess_time (s : State) (n : Nat) (v : Option Sess) : (s.setSess n v).time = s.time := rfl
@[simp] theorem State.setSess_core (s : State) (n : Nat) (v : Option Sess) : (s.setSess n v).core = s.core := rfl
@[simp] theorem State.setSess_dir (s : State) (n : Nat) (v : Option Sess) : (s.setSess n v).dir = s.dir := rfl
@[simp] theorem State.setSess_port (s : State) (n : Nat) (v : Option Sess) : (s.setSess n v).port = s.port := rfl
@[simp] theorem State.setSess_sched (s : State) (n : Nat) (v : Option Sess) : (s.setSess n v).sched = s.sched := rfl
@[simp] theorem State.setSess_mem (s : State) (n : Nat) (v : Option Sess) : (s.setSess n v).mem = s.mem := rfl
@[simp] theorem State.setSess_guard (s : State) (n : Nat) (v : Option Sess) : (s.setSess n v).guard = s.guard := rfl
@[simp] theorem State.setSess_echo (s : State) (n : Nat) (v : Option Sess) : (s.setSess n v).echo = s.echo := rfl
@[simp] theorem State.setSess_check (s : State) (n : Nat) (v : Option Sess) : (s.setSess n v).check = s.check := rfl
@[simp] theorem State.setSess_power (s : State) (n : Nat) (v : Option Sess) : (s.setSess n v).power = s.power := rfl
@[simp] theorem State.setSess_mgmt (s : State) (n : Nat) (v : Option Sess) : (s.setSess n v).mgmt = s.mgmt := rfl
@[simp] theorem State.setSess_cfg (s : State) (n : Nat) (v : Option Sess) : (s.setSess n v).cfg = s.cfg := rfl
@[simp] theorem State.setSess_ev (s : State) (n : Nat) (v : Option Sess) : (s.setSess n v).ev = s.ev := rfl
@[simp] theorem State.setSess_lan (s : State) (n : Nat) (v : Option Sess) : (s.setSess n v).lan = s.lan := rfl
@[simp] theorem State.setSess_pin (s : State) (n : Nat) (v : Option Sess) : (s.setSess n v).pin = s.pin := rfl
@[simp] theorem State.setSess_out (s : State) (n : Nat) (v : Option Sess) : (s.setSess n v).out = s.out := rfl
@[simp] theorem State.setSess_free (s : State) (n : Nat) (v : Option Sess) : (s.setSess n v).free = s.free := rfl
@[simp] theorem State.setSess_pending (s : State) (n : Nat) (v : Option Sess) : (s.setSess n v).pending = s.pending := rfl
@[simp] theorem State.setSess_proto_stages (s : State) (n : Nat) (v : Option Sess) : (s.setSess n v).proto.stages = s.proto.stages := rfl
@[simp] theorem State.setSess_proto_grants (s : State) (n : Nat) (v : Option Sess) : (s.setSess n v).proto.grants = s.proto.grants := rfl
@[simp] theorem State.setSess_proto_commit (s : State) (n : Nat) (v : Option Sess) : (s.setSess n v).proto.commit = s.proto.commit := rfl
@[simp] theorem State.setSess_proto_epoch (s : State) (n : Nat) (v : Option Sess) : (s.setSess n v).proto.epoch = s.proto.epoch := rfl
@[simp] theorem State.setSess_proto_digest (s : State) (n : Nat) (v : Option Sess) : (s.setSess n v).proto.digest = s.proto.digest := rfl
@[simp] theorem State.setSess_proto_epochDrip (s : State) (n : Nat) (v : Option Sess) : (s.setSess n v).proto.epochDrip = s.proto.epochDrip := rfl
@[simp] theorem State.setSess_proto_lastOutcome (s : State) (n : Nat) (v : Option Sess) : (s.setSess n v).proto.lastOutcome = s.proto.lastOutcome := rfl
@[simp] theorem State.setSess_proto_discarded (s : State) (n : Nat) (v : Option Sess) : (s.setSess n v).proto.discarded = s.proto.discarded := rfl
@[simp] theorem State.setSess_proto_eids (s : State) (n : Nat) (v : Option Sess) : (s.setSess n v).proto.eids = s.proto.eids := rfl
@[simp] theorem State.setSess_proto_i3cAddr (s : State) (n : Nat) (v : Option Sess) : (s.setSess n v).proto.i3cAddr = s.proto.i3cAddr := rfl
@[simp] theorem State.setSess_proto_fmLimit (s : State) (n : Nat) (v : Option Sess) : (s.setSess n v).proto.fmLimit = s.proto.fmLimit := rfl
@[simp] theorem State.setSess_proto_committedOnce (s : State) (n : Nat) (v : Option Sess) : (s.setSess n v).proto.committedOnce = s.proto.committedOnce := rfl

@[simp] theorem State.setSess_self (s : State) (n : Nat) (v : Option Sess) : (s.setSess n v).sess n = v :=
  tget_tput_self _ _ _ _

theorem State.setSess_ne (s : State) (n : Nat) (v : Option Sess) (j' : Nat) (h : j' ≠ n) : (s.setSess n v).sess j' = s.sess j' :=
  tget_tput_ne _ _ _ h

@[simp] theorem State.setStage_time (s : State) (n : Nat) (v : Option (List Staged)) : (s.setStage n v).time = s.time := rfl
@[simp] theorem State.setStage_core (s : State) (n : Nat) (v : Option (List Staged)) : (s.setStage n v).core = s.core := rfl
@[simp] theorem State.setStage_dir (s : State) (n : Nat) (v : Option (List Staged)) : (s.setStage n v).dir = s.dir := rfl
@[simp] theorem State.setStage_port (s : State) (n : Nat) (v : Option (List Staged)) : (s.setStage n v).port = s.port := rfl
@[simp] theorem State.setStage_sched (s : State) (n : Nat) (v : Option (List Staged)) : (s.setStage n v).sched = s.sched := rfl
@[simp] theorem State.setStage_mem (s : State) (n : Nat) (v : Option (List Staged)) : (s.setStage n v).mem = s.mem := rfl
@[simp] theorem State.setStage_guard (s : State) (n : Nat) (v : Option (List Staged)) : (s.setStage n v).guard = s.guard := rfl
@[simp] theorem State.setStage_echo (s : State) (n : Nat) (v : Option (List Staged)) : (s.setStage n v).echo = s.echo := rfl
@[simp] theorem State.setStage_check (s : State) (n : Nat) (v : Option (List Staged)) : (s.setStage n v).check = s.check := rfl
@[simp] theorem State.setStage_power (s : State) (n : Nat) (v : Option (List Staged)) : (s.setStage n v).power = s.power := rfl
@[simp] theorem State.setStage_mgmt (s : State) (n : Nat) (v : Option (List Staged)) : (s.setStage n v).mgmt = s.mgmt := rfl
@[simp] theorem State.setStage_cfg (s : State) (n : Nat) (v : Option (List Staged)) : (s.setStage n v).cfg = s.cfg := rfl
@[simp] theorem State.setStage_ev (s : State) (n : Nat) (v : Option (List Staged)) : (s.setStage n v).ev = s.ev := rfl
@[simp] theorem State.setStage_lan (s : State) (n : Nat) (v : Option (List Staged)) : (s.setStage n v).lan = s.lan := rfl
@[simp] theorem State.setStage_pin (s : State) (n : Nat) (v : Option (List Staged)) : (s.setStage n v).pin = s.pin := rfl
@[simp] theorem State.setStage_out (s : State) (n : Nat) (v : Option (List Staged)) : (s.setStage n v).out = s.out := rfl
@[simp] theorem State.setStage_free (s : State) (n : Nat) (v : Option (List Staged)) : (s.setStage n v).free = s.free := rfl
@[simp] theorem State.setStage_pending (s : State) (n : Nat) (v : Option (List Staged)) : (s.setStage n v).pending = s.pending := rfl
@[simp] theorem State.setStage_proto_sessions (s : State) (n : Nat) (v : Option (List Staged)) : (s.setStage n v).proto.sessions = s.proto.sessions := rfl
@[simp] theorem State.setStage_proto_grants (s : State) (n : Nat) (v : Option (List Staged)) : (s.setStage n v).proto.grants = s.proto.grants := rfl
@[simp] theorem State.setStage_proto_commit (s : State) (n : Nat) (v : Option (List Staged)) : (s.setStage n v).proto.commit = s.proto.commit := rfl
@[simp] theorem State.setStage_proto_epoch (s : State) (n : Nat) (v : Option (List Staged)) : (s.setStage n v).proto.epoch = s.proto.epoch := rfl
@[simp] theorem State.setStage_proto_digest (s : State) (n : Nat) (v : Option (List Staged)) : (s.setStage n v).proto.digest = s.proto.digest := rfl
@[simp] theorem State.setStage_proto_epochDrip (s : State) (n : Nat) (v : Option (List Staged)) : (s.setStage n v).proto.epochDrip = s.proto.epochDrip := rfl
@[simp] theorem State.setStage_proto_lastOutcome (s : State) (n : Nat) (v : Option (List Staged)) : (s.setStage n v).proto.lastOutcome = s.proto.lastOutcome := rfl
@[simp] theorem State.setStage_proto_discarded (s : State) (n : Nat) (v : Option (List Staged)) : (s.setStage n v).proto.discarded = s.proto.discarded := rfl
@[simp] theorem State.setStage_proto_eids (s : State) (n : Nat) (v : Option (List Staged)) : (s.setStage n v).proto.eids = s.proto.eids := rfl
@[simp] theorem State.setStage_proto_i3cAddr (s : State) (n : Nat) (v : Option (List Staged)) : (s.setStage n v).proto.i3cAddr = s.proto.i3cAddr := rfl
@[simp] theorem State.setStage_proto_fmLimit (s : State) (n : Nat) (v : Option (List Staged)) : (s.setStage n v).proto.fmLimit = s.proto.fmLimit := rfl
@[simp] theorem State.setStage_proto_committedOnce (s : State) (n : Nat) (v : Option (List Staged)) : (s.setStage n v).proto.committedOnce = s.proto.committedOnce := rfl

@[simp] theorem State.setStage_self (s : State) (n : Nat) (v : Option (List Staged)) : (s.setStage n v).stage n = v :=
  tget_tput_self _ _ _ _

theorem State.setStage_ne (s : State) (n : Nat) (v : Option (List Staged)) (j' : Nat) (h : j' ≠ n) : (s.setStage n v).stage j' = s.stage j' :=
  tget_tput_ne _ _ _ h

end Sys2Proof.Machine
end

