-- ==== Sys2Proof/Laws/Ops.lean ====
section
/-!
SUPPORT. What the shared operations leave as it was, field by field: raising an event, sending, and drawing a free value.
-/

namespace Sys2Proof.Machine

theorem forEach_keep {α β : Type} (P : State → β) (l : List α) (s : State) (f : State → α → State)
    (h : ∀ s a, P (f s a) = P s) : P (forEach l s f) = P s := by
  unfold forEach
  induction l generalizing s with
  | nil => rfl
  | cons a l ih => rw [List.foldl_cons, ih, h]

theorem exec_due_true (c : Bool) (s t : State) (h : c = true) : due c s t = .next t := by
  rw [h]
  rfl

theorem exec_due_false (c : Bool) (s t : State) (h : c = false) : due c s t = .next s := by
  rw [h]
  rfl

/-- Where a raised record goes: on its way to the queue, or held back while no firmware runs for a processor's own source (R344). -/
theorem raiseAt_record (s : State) (drip source code sev island : Nat) (data : Bytes) (h : source < 1556 ∨ 1571 < source ∨ firmwareUp s = true) :
    (raiseAt s drip source code sev island data).ev.inbound = s.ev.inbound ++
      [{ source := source, code := code, sev := sev, unsure := s.unsure island, drip := drip, epoch := s.proto.epoch,
         data := data, isl := island, born := s.now }] := by
  have c : (decide (1556 ≤ source) && decide (source ≤ 1571) && !firmwareUp s) = false := by
    rcases h with h | h | h
    · simp [Nat.not_le.mpr h]
    · simp [Nat.not_le.mpr h]
    · simp [h]
  simp only [raiseAt, c, Bool.false_eq_true, if_false]

theorem raise_inbound (s : State) (source code sev island : Nat) (data : Bytes) (h : source < 1556 ∨ 1571 < source ∨ firmwareUp s = true) :
    (raise s source code sev island data).ev.inbound = s.ev.inbound ++
      [{ source := source, code := code, sev := sev, unsure := s.unsure island, drip := s.drip, epoch := s.proto.epoch,
         data := data, isl := island, born := s.now }] :=
  raiseAt_record s s.drip source code sev island data h

@[simp] theorem raiseAt_time (s : State) (drip source code sev island : Nat) (data : Bytes) : (raiseAt s drip source code sev island data).time = s.time := rfl
@[simp] theorem raiseAt_core (s : State) (drip source code sev island : Nat) (data : Bytes) : (raiseAt s drip source code sev island data).core = s.core := rfl
@[simp] theorem raiseAt_dir (s : State) (drip source code sev island : Nat) (data : Bytes) : (raiseAt s drip source code sev island data).dir = s.dir := rfl
@[simp] theorem raiseAt_port (s : State) (drip source code sev island : Nat) (data : Bytes) : (raiseAt s drip source code sev island data).port = s.port := rfl
@[simp] theorem raiseAt_sched (s : State) (drip source code sev island : Nat) (data : Bytes) : (raiseAt s drip source code sev island data).sched = s.sched := rfl
@[simp] theorem raiseAt_mem (s : State) (drip source code sev island : Nat) (data : Bytes) : (raiseAt s drip source code sev island data).mem = s.mem := rfl
@[simp] theorem raiseAt_guard (s : State) (drip source code sev island : Nat) (data : Bytes) : (raiseAt s drip source code sev island data).guard = s.guard := rfl
@[simp] theorem raiseAt_echo (s : State) (drip source code sev island : Nat) (data : Bytes) : (raiseAt s drip source code sev island data).echo = s.echo := rfl
@[simp] theorem raiseAt_check (s : State) (drip source code sev island : Nat) (data : Bytes) : (raiseAt s drip source code sev island data).check = s.check := rfl
@[simp] theorem raiseAt_power (s : State) (drip source code sev island : Nat) (data : Bytes) : (raiseAt s drip source code sev island data).power = s.power := rfl
@[simp] theorem raiseAt_mgmt (s : State) (drip source code sev island : Nat) (data : Bytes) : (raiseAt s drip source code sev island data).mgmt = s.mgmt := rfl
@[simp] theorem raiseAt_proto (s : State) (drip source code sev island : Nat) (data : Bytes) : (raiseAt s drip source code sev island data).proto = s.proto := rfl
@[simp] theorem raiseAt_cfg (s : State) (drip source code sev island : Nat) (data : Bytes) : (raiseAt s drip source code sev island data).cfg = s.cfg := rfl
@[simp] theorem raiseAt_lan (s : State) (drip source code sev island : Nat) (data : Bytes) : (raiseAt s drip source code sev island data).lan = s.lan := rfl
@[simp] theorem raiseAt_pin (s : State) (drip source code sev island : Nat) (data : Bytes) : (raiseAt s drip source code sev island data).pin = s.pin := rfl
@[simp] theorem raiseAt_out (s : State) (drip source code sev island : Nat) (data : Bytes) : (raiseAt s drip source code sev island data).out = s.out := rfl
@[simp] theorem raiseAt_free (s : State) (drip source code sev island : Nat) (data : Bytes) : (raiseAt s drip source code sev island data).free = s.free := rfl
@[simp] theorem raiseAt_pending (s : State) (drip source code sev island : Nat) (data : Bytes) : (raiseAt s drip source code sev island data).pending = s.pending := rfl

@[simp] theorem raise_time (s : State) (source code sev island : Nat) (data : Bytes) : (raise s source code sev island data).time = s.time := rfl
@[simp] theorem raise_core (s : State) (source code sev island : Nat) (data : Bytes) : (raise s source code sev island data).core = s.core := rfl
@[simp] theorem raise_dir (s : State) (source code sev island : Nat) (data : Bytes) : (raise s source code sev island data).dir = s.dir := rfl
@[simp] theorem raise_port (s : State) (source code sev island : Nat) (data : Bytes) : (raise s source code sev island data).port = s.port := rfl
@[simp] theorem raise_sched (s : State) (source code sev island : Nat) (data : Bytes) : (raise s source code sev island data).sched = s.sched := rfl
@[simp] theorem raise_mem (s : State) (source code sev island : Nat) (data : Bytes) : (raise s source code sev island data).mem = s.mem := rfl
@[simp] theorem raise_guard (s : State) (source code sev island : Nat) (data : Bytes) : (raise s source code sev island data).guard = s.guard := rfl
@[simp] theorem raise_echo (s : State) (source code sev island : Nat) (data : Bytes) : (raise s source code sev island data).echo = s.echo := rfl
@[simp] theorem raise_check (s : State) (source code sev island : Nat) (data : Bytes) : (raise s source code sev island data).check = s.check := rfl
@[simp] theorem raise_power (s : State) (source code sev island : Nat) (data : Bytes) : (raise s source code sev island data).power = s.power := rfl
@[simp] theorem raise_mgmt (s : State) (source code sev island : Nat) (data : Bytes) : (raise s source code sev island data).mgmt = s.mgmt := rfl
@[simp] theorem raise_proto (s : State) (source code sev island : Nat) (data : Bytes) : (raise s source code sev island data).proto = s.proto := rfl
@[simp] theorem raise_cfg (s : State) (source code sev island : Nat) (data : Bytes) : (raise s source code sev island data).cfg = s.cfg := rfl
@[simp] theorem raise_lan (s : State) (source code sev island : Nat) (data : Bytes) : (raise s source code sev island data).lan = s.lan := rfl
@[simp] theorem raise_pin (s : State) (source code sev island : Nat) (data : Bytes) : (raise s source code sev island data).pin = s.pin := rfl
@[simp] theorem raise_out (s : State) (source code sev island : Nat) (data : Bytes) : (raise s source code sev island data).out = s.out := rfl
@[simp] theorem raise_free (s : State) (source code sev island : Nat) (data : Bytes) : (raise s source code sev island data).free = s.free := rfl
@[simp] theorem raise_pending (s : State) (source code sev island : Nat) (data : Bytes) : (raise s source code sev island data).pending = s.pending := rfl

@[simp] theorem raiseTime_time (s : State) (source cause sev island drip : Nat) : (raiseTime s source cause sev island drip).time = s.time := rfl
@[simp] theorem raiseTime_core (s : State) (source cause sev island drip : Nat) : (raiseTime s source cause sev island drip).core = s.core := rfl
@[simp] theorem raiseTime_dir (s : State) (source cause sev island drip : Nat) : (raiseTime s source cause sev island drip).dir = s.dir := rfl
@[simp] theorem raiseTime_port (s : State) (source cause sev island drip : Nat) : (raiseTime s source cause sev island drip).port = s.port := rfl
@[simp] theorem raiseTime_sched (s : State) (source cause sev island drip : Nat) : (raiseTime s source cause sev island drip).sched = s.sched := rfl
@[simp] theorem raiseTime_mem (s : State) (source cause sev island drip : Nat) : (raiseTime s source cause sev island drip).mem = s.mem := rfl
@[simp] theorem raiseTime_guard (s : State) (source cause sev island drip : Nat) : (raiseTime s source cause sev island drip).guard = s.guard := rfl
@[simp] theorem raiseTime_echo (s : State) (source cause sev island drip : Nat) : (raiseTime s source cause sev island drip).echo = s.echo := rfl
@[simp] theorem raiseTime_check (s : State) (source cause sev island drip : Nat) : (raiseTime s source cause sev island drip).check = s.check := rfl
@[simp] theorem raiseTime_power (s : State) (source cause sev island drip : Nat) : (raiseTime s source cause sev island drip).power = s.power := rfl
@[simp] theorem raiseTime_mgmt (s : State) (source cause sev island drip : Nat) : (raiseTime s source cause sev island drip).mgmt = s.mgmt := rfl
@[simp] theorem raiseTime_proto (s : State) (source cause sev island drip : Nat) : (raiseTime s source cause sev island drip).proto = s.proto := rfl
@[simp] theorem raiseTime_cfg (s : State) (source cause sev island drip : Nat) : (raiseTime s source cause sev island drip).cfg = s.cfg := rfl
@[simp] theorem raiseTime_lan (s : State) (source cause sev island drip : Nat) : (raiseTime s source cause sev island drip).lan = s.lan := rfl
@[simp] theorem raiseTime_pin (s : State) (source cause sev island drip : Nat) : (raiseTime s source cause sev island drip).pin = s.pin := rfl
@[simp] theorem raiseTime_out (s : State) (source cause sev island drip : Nat) : (raiseTime s source cause sev island drip).out = s.out := rfl
@[simp] theorem raiseTime_free (s : State) (source cause sev island drip : Nat) : (raiseTime s source cause sev island drip).free = s.free := rfl
@[simp] theorem raiseTime_pending (s : State) (source cause sev island drip : Nat) : (raiseTime s source cause sev island drip).pending = s.pending := rfl

@[simp] theorem toPort_time (s : State) (b : Nat) (p : Pkt) : (toPort s b p).time = s.time := rfl
@[simp] theorem toPort_core (s : State) (b : Nat) (p : Pkt) : (toPort s b p).core = s.core := rfl
@[simp] theorem toPort_dir (s : State) (b : Nat) (p : Pkt) : (toPort s b p).dir = s.dir := rfl
@[simp] theorem toPort_port (s : State) (b : Nat) (p : Pkt) : (toPort s b p).port = s.port := rfl
@[simp] theorem toPort_sched (s : State) (b : Nat) (p : Pkt) : (toPort s b p).sched = s.sched := rfl
@[simp] theorem toPort_mem (s : State) (b : Nat) (p : Pkt) : (toPort s b p).mem = s.mem := rfl
@[simp] theorem toPort_guard (s : State) (b : Nat) (p : Pkt) : (toPort s b p).guard = s.guard := rfl
@[simp] theorem toPort_echo (s : State) (b : Nat) (p : Pkt) : (toPort s b p).echo = s.echo := rfl
@[simp] theorem toPort_check (s : State) (b : Nat) (p : Pkt) : (toPort s b p).check = s.check := rfl
@[simp] theorem toPort_power (s : State) (b : Nat) (p : Pkt) : (toPort s b p).power = s.power := rfl
@[simp] theorem toPort_mgmt (s : State) (b : Nat) (p : Pkt) : (toPort s b p).mgmt = s.mgmt := rfl
@[simp] theorem toPort_proto (s : State) (b : Nat) (p : Pkt) : (toPort s b p).proto = s.proto := rfl
@[simp] theorem toPort_cfg (s : State) (b : Nat) (p : Pkt) : (toPort s b p).cfg = s.cfg := rfl
@[simp] theorem toPort_ev (s : State) (b : Nat) (p : Pkt) : (toPort s b p).ev = s.ev := rfl
@[simp] theorem toPort_lan (s : State) (b : Nat) (p : Pkt) : (toPort s b p).lan = s.lan := rfl
@[simp] theorem toPort_pin (s : State) (b : Nat) (p : Pkt) : (toPort s b p).pin = s.pin := rfl
@[simp] theorem toPort_free (s : State) (b : Nat) (p : Pkt) : (toPort s b p).free = s.free := rfl
@[simp] theorem toPort_pending (s : State) (b : Nat) (p : Pkt) : (toPort s b p).pending = s.pending := rfl

@[simp] theorem extReply_time (s : State) (iface obj op rc : Nat) (vals : List Nat) : (extReply s iface obj op rc vals).time = s.time := rfl
@[simp] theorem extReply_core (s : State) (iface obj op rc : Nat) (vals : List Nat) : (extReply s iface obj op rc vals).core = s.core := rfl
@[simp] theorem extReply_dir (s : State) (iface obj op rc : Nat) (vals : List Nat) : (extReply s iface obj op rc vals).dir = s.dir := rfl
@[simp] theorem extReply_port (s : State) (iface obj op rc : Nat) (vals : List Nat) : (extReply s iface obj op rc vals).port = s.port := rfl
@[simp] theorem extReply_sched (s : State) (iface obj op rc : Nat) (vals : List Nat) : (extReply s iface obj op rc vals).sched = s.sched := rfl
@[simp] theorem extReply_mem (s : State) (iface obj op rc : Nat) (vals : List Nat) : (extReply s iface obj op rc vals).mem = s.mem := rfl
@[simp] theorem extReply_guard (s : State) (iface obj op rc : Nat) (vals : List Nat) : (extReply s iface obj op rc vals).guard = s.guard := rfl
@[simp] theorem extReply_echo (s : State) (iface obj op rc : Nat) (vals : List Nat) : (extReply s iface obj op rc vals).echo = s.echo := rfl
@[simp] theorem extReply_check (s : State) (iface obj op rc : Nat) (vals : List Nat) : (extReply s iface obj op rc vals).check = s.check := rfl
@[simp] theorem extReply_power (s : State) (iface obj op rc : Nat) (vals : List Nat) : (extReply s iface obj op rc vals).power = s.power := rfl
@[simp] theorem extReply_mgmt (s : State) (iface obj op rc : Nat) (vals : List Nat) : (extReply s iface obj op rc vals).mgmt = s.mgmt := rfl
@[simp] theorem extReply_proto (s : State) (iface obj op rc : Nat) (vals : List Nat) : (extReply s iface obj op rc vals).proto = s.proto := rfl
@[simp] theorem extReply_cfg (s : State) (iface obj op rc : Nat) (vals : List Nat) : (extReply s iface obj op rc vals).cfg = s.cfg := rfl
@[simp] theorem extReply_ev (s : State) (iface obj op rc : Nat) (vals : List Nat) : (extReply s iface obj op rc vals).ev = s.ev := rfl
@[simp] theorem extReply_lan (s : State) (iface obj op rc : Nat) (vals : List Nat) : (extReply s iface obj op rc vals).lan = s.lan := rfl
@[simp] theorem extReply_pin (s : State) (iface obj op rc : Nat) (vals : List Nat) : (extReply s iface obj op rc vals).pin = s.pin := rfl
@[simp] theorem extReply_free (s : State) (iface obj op rc : Nat) (vals : List Nat) : (extReply s iface obj op rc vals).free = s.free := rfl
@[simp] theorem extReply_pending (s : State) (iface obj op rc : Nat) (vals : List Nat) : (extReply s iface obj op rc vals).pending = s.pending := rfl

@[simp] theorem draw_time (s : State) : (draw s).2.time = s.time := rfl
@[simp] theorem draw_core (s : State) : (draw s).2.core = s.core := rfl
@[simp] theorem draw_dir (s : State) : (draw s).2.dir = s.dir := rfl
@[simp] theorem draw_port (s : State) : (draw s).2.port = s.port := rfl
@[simp] theorem draw_sched (s : State) : (draw s).2.sched = s.sched := rfl
@[simp] theorem draw_mem (s : State) : (draw s).2.mem = s.mem := rfl
@[simp] theorem draw_guard (s : State) : (draw s).2.guard = s.guard := rfl
@[simp] theorem draw_echo (s : State) : (draw s).2.echo = s.echo := rfl
@[simp] theorem draw_check (s : State) : (draw s).2.check = s.check := rfl
@[simp] theorem draw_power (s : State) : (draw s).2.power = s.power := rfl
@[simp] theorem draw_mgmt (s : State) : (draw s).2.mgmt = s.mgmt := rfl
@[simp] theorem draw_proto (s : State) : (draw s).2.proto = s.proto := rfl
@[simp] theorem draw_cfg (s : State) : (draw s).2.cfg = s.cfg := rfl
@[simp] theorem draw_ev (s : State) : (draw s).2.ev = s.ev := rfl
@[simp] theorem draw_lan (s : State) : (draw s).2.lan = s.lan := rfl
@[simp] theorem draw_pin (s : State) : (draw s).2.pin = s.pin := rfl
@[simp] theorem draw_out (s : State) : (draw s).2.out = s.out := rfl
@[simp] theorem draw_pending (s : State) : (draw s).2.pending = s.pending := rfl

@[simp] theorem sendReply_time (s : State) (t : Transport) (eid : Nat) (bytes : Bytes) : (sendReply s t eid bytes).time = s.time := rfl
@[simp] theorem sendReply_core (s : State) (t : Transport) (eid : Nat) (bytes : Bytes) : (sendReply s t eid bytes).core = s.core := rfl
@[simp] theorem sendReply_dir (s : State) (t : Transport) (eid : Nat) (bytes : Bytes) : (sendReply s t eid bytes).dir = s.dir := rfl
@[simp] theorem sendReply_port (s : State) (t : Transport) (eid : Nat) (bytes : Bytes) : (sendReply s t eid bytes).port = s.port := rfl
@[simp] theorem sendReply_sched (s : State) (t : Transport) (eid : Nat) (bytes : Bytes) : (sendReply s t eid bytes).sched = s.sched := rfl
@[simp] theorem sendReply_mem (s : State) (t : Transport) (eid : Nat) (bytes : Bytes) : (sendReply s t eid bytes).mem = s.mem := rfl
@[simp] theorem sendReply_guard (s : State) (t : Transport) (eid : Nat) (bytes : Bytes) : (sendReply s t eid bytes).guard = s.guard := rfl
@[simp] theorem sendReply_echo (s : State) (t : Transport) (eid : Nat) (bytes : Bytes) : (sendReply s t eid bytes).echo = s.echo := rfl
@[simp] theorem sendReply_check (s : State) (t : Transport) (eid : Nat) (bytes : Bytes) : (sendReply s t eid bytes).check = s.check := rfl
@[simp] theorem sendReply_power (s : State) (t : Transport) (eid : Nat) (bytes : Bytes) : (sendReply s t eid bytes).power = s.power := rfl
@[simp] theorem sendReply_mgmt (s : State) (t : Transport) (eid : Nat) (bytes : Bytes) : (sendReply s t eid bytes).mgmt = s.mgmt := rfl
@[simp] theorem sendReply_proto (s : State) (t : Transport) (eid : Nat) (bytes : Bytes) : (sendReply s t eid bytes).proto = s.proto := rfl
@[simp] theorem sendReply_cfg (s : State) (t : Transport) (eid : Nat) (bytes : Bytes) : (sendReply s t eid bytes).cfg = s.cfg := rfl
@[simp] theorem sendReply_ev (s : State) (t : Transport) (eid : Nat) (bytes : Bytes) : (sendReply s t eid bytes).ev = s.ev := rfl
@[simp] theorem sendReply_lan (s : State) (t : Transport) (eid : Nat) (bytes : Bytes) : (sendReply s t eid bytes).lan = s.lan := rfl
@[simp] theorem sendReply_pin (s : State) (t : Transport) (eid : Nat) (bytes : Bytes) : (sendReply s t eid bytes).pin = s.pin := rfl
@[simp] theorem sendReply_free (s : State) (t : Transport) (eid : Nat) (bytes : Bytes) : (sendReply s t eid bytes).free = s.free := rfl
@[simp] theorem sendReply_pending (s : State) (t : Transport) (eid : Nat) (bytes : Bytes) : (sendReply s t eid bytes).pending = s.pending := rfl

@[simp] theorem answer_time (s : State) (op : Nat) (t : Transport) (r : Req) (status : Nat) (payload : Bytes) : (answer s op t r status payload).time = s.time := rfl
@[simp] theorem answer_core (s : State) (op : Nat) (t : Transport) (r : Req) (status : Nat) (payload : Bytes) : (answer s op t r status payload).core = s.core := rfl
@[simp] theorem answer_dir (s : State) (op : Nat) (t : Transport) (r : Req) (status : Nat) (payload : Bytes) : (answer s op t r status payload).dir = s.dir := rfl
@[simp] theorem answer_port (s : State) (op : Nat) (t : Transport) (r : Req) (status : Nat) (payload : Bytes) : (answer s op t r status payload).port = s.port := rfl
@[simp] theorem answer_sched (s : State) (op : Nat) (t : Transport) (r : Req) (status : Nat) (payload : Bytes) : (answer s op t r status payload).sched = s.sched := rfl
@[simp] theorem answer_mem (s : State) (op : Nat) (t : Transport) (r : Req) (status : Nat) (payload : Bytes) : (answer s op t r status payload).mem = s.mem := rfl
@[simp] theorem answer_guard (s : State) (op : Nat) (t : Transport) (r : Req) (status : Nat) (payload : Bytes) : (answer s op t r status payload).guard = s.guard := rfl
@[simp] theorem answer_echo (s : State) (op : Nat) (t : Transport) (r : Req) (status : Nat) (payload : Bytes) : (answer s op t r status payload).echo = s.echo := rfl
@[simp] theorem answer_check (s : State) (op : Nat) (t : Transport) (r : Req) (status : Nat) (payload : Bytes) : (answer s op t r status payload).check = s.check := rfl
@[simp] theorem answer_power (s : State) (op : Nat) (t : Transport) (r : Req) (status : Nat) (payload : Bytes) : (answer s op t r status payload).power = s.power := rfl
@[simp] theorem answer_mgmt (s : State) (op : Nat) (t : Transport) (r : Req) (status : Nat) (payload : Bytes) : (answer s op t r status payload).mgmt = s.mgmt := rfl
@[simp] theorem answer_proto (s : State) (op : Nat) (t : Transport) (r : Req) (status : Nat) (payload : Bytes) : (answer s op t r status payload).proto = s.proto := rfl
@[simp] theorem answer_cfg (s : State) (op : Nat) (t : Transport) (r : Req) (status : Nat) (payload : Bytes) : (answer s op t r status payload).cfg = s.cfg := rfl
@[simp] theorem answer_ev (s : State) (op : Nat) (t : Transport) (r : Req) (status : Nat) (payload : Bytes) : (answer s op t r status payload).ev = s.ev := rfl
@[simp] theorem answer_lan (s : State) (op : Nat) (t : Transport) (r : Req) (status : Nat) (payload : Bytes) : (answer s op t r status payload).lan = s.lan := rfl
@[simp] theorem answer_pin (s : State) (op : Nat) (t : Transport) (r : Req) (status : Nat) (payload : Bytes) : (answer s op t r status payload).pin = s.pin := rfl
@[simp] theorem answer_free (s : State) (op : Nat) (t : Transport) (r : Req) (status : Nat) (payload : Bytes) : (answer s op t r status payload).free = s.free := rfl
@[simp] theorem answer_pending (s : State) (op : Nat) (t : Transport) (r : Req) (status : Nat) (payload : Bytes) : (answer s op t r status payload).pending = s.pending := rfl

@[simp] theorem selectRef_core (s : State) (k : Nat) : (selectRef s k).core = s.core := rfl
@[simp] theorem selectRef_dir (s : State) (k : Nat) : (selectRef s k).dir = s.dir := rfl
@[simp] theorem selectRef_port (s : State) (k : Nat) : (selectRef s k).port = s.port := rfl
@[simp] theorem selectRef_sched (s : State) (k : Nat) : (selectRef s k).sched = s.sched := rfl
@[simp] theorem selectRef_mem (s : State) (k : Nat) : (selectRef s k).mem = s.mem := rfl
@[simp] theorem selectRef_guard (s : State) (k : Nat) : (selectRef s k).guard = s.guard := rfl
@[simp] theorem selectRef_echo (s : State) (k : Nat) : (selectRef s k).echo = s.echo := rfl
@[simp] theorem selectRef_check (s : State) (k : Nat) : (selectRef s k).check = s.check := rfl
@[simp] theorem selectRef_power (s : State) (k : Nat) : (selectRef s k).power = s.power := rfl
@[simp] theorem selectRef_mgmt (s : State) (k : Nat) : (selectRef s k).mgmt = s.mgmt := rfl
@[simp] theorem selectRef_proto (s : State) (k : Nat) : (selectRef s k).proto = s.proto := rfl
@[simp] theorem selectRef_cfg (s : State) (k : Nat) : (selectRef s k).cfg = s.cfg := rfl
@[simp] theorem selectRef_ev (s : State) (k : Nat) : (selectRef s k).ev = s.ev := rfl
@[simp] theorem selectRef_lan (s : State) (k : Nat) : (selectRef s k).lan = s.lan := rfl
@[simp] theorem selectRef_pin (s : State) (k : Nat) : (selectRef s k).pin = s.pin := rfl
@[simp] theorem selectRef_out (s : State) (k : Nat) : (selectRef s k).out = s.out := rfl
@[simp] theorem selectRef_free (s : State) (k : Nat) : (selectRef s k).free = s.free := rfl
@[simp] theorem selectRef_pending (s : State) (k : Nat) : (selectRef s k).pending = s.pending := rfl

@[simp] theorem modArm_core (s : State) (id : Nat) (f : Arm → Arm) : (modArm s id f).core = s.core := rfl
@[simp] theorem modArm_dir (s : State) (id : Nat) (f : Arm → Arm) : (modArm s id f).dir = s.dir := rfl
@[simp] theorem modArm_port (s : State) (id : Nat) (f : Arm → Arm) : (modArm s id f).port = s.port := rfl
@[simp] theorem modArm_sched (s : State) (id : Nat) (f : Arm → Arm) : (modArm s id f).sched = s.sched := rfl
@[simp] theorem modArm_mem (s : State) (id : Nat) (f : Arm → Arm) : (modArm s id f).mem = s.mem := rfl
@[simp] theorem modArm_guard (s : State) (id : Nat) (f : Arm → Arm) : (modArm s id f).guard = s.guard := rfl
@[simp] theorem modArm_echo (s : State) (id : Nat) (f : Arm → Arm) : (modArm s id f).echo = s.echo := rfl
@[simp] theorem modArm_check (s : State) (id : Nat) (f : Arm → Arm) : (modArm s id f).check = s.check := rfl
@[simp] theorem modArm_power (s : State) (id : Nat) (f : Arm → Arm) : (modArm s id f).power = s.power := rfl
@[simp] theorem modArm_mgmt (s : State) (id : Nat) (f : Arm → Arm) : (modArm s id f).mgmt = s.mgmt := rfl
@[simp] theorem modArm_proto (s : State) (id : Nat) (f : Arm → Arm) : (modArm s id f).proto = s.proto := rfl
@[simp] theorem modArm_cfg (s : State) (id : Nat) (f : Arm → Arm) : (modArm s id f).cfg = s.cfg := rfl
@[simp] theorem modArm_ev (s : State) (id : Nat) (f : Arm → Arm) : (modArm s id f).ev = s.ev := rfl
@[simp] theorem modArm_lan (s : State) (id : Nat) (f : Arm → Arm) : (modArm s id f).lan = s.lan := rfl
@[simp] theorem modArm_pin (s : State) (id : Nat) (f : Arm → Arm) : (modArm s id f).pin = s.pin := rfl
@[simp] theorem modArm_out (s : State) (id : Nat) (f : Arm → Arm) : (modArm s id f).out = s.out := rfl
@[simp] theorem modArm_free (s : State) (id : Nat) (f : Arm → Arm) : (modArm s id f).free = s.free := rfl
@[simp] theorem modArm_pending (s : State) (id : Nat) (f : Arm → Arm) : (modArm s id f).pending = s.pending := rfl

@[simp] theorem modRom_time (s : State) (t : Transport) (f : RomSess → RomSess) : (modRom s t f).time = s.time := rfl
@[simp] theorem modRom_core (s : State) (t : Transport) (f : RomSess → RomSess) : (modRom s t f).core = s.core := rfl
@[simp] theorem modRom_dir (s : State) (t : Transport) (f : RomSess → RomSess) : (modRom s t f).dir = s.dir := rfl
@[simp] theorem modRom_port (s : State) (t : Transport) (f : RomSess → RomSess) : (modRom s t f).port = s.port := rfl
@[simp] theorem modRom_sched (s : State) (t : Transport) (f : RomSess → RomSess) : (modRom s t f).sched = s.sched := rfl
@[simp] theorem modRom_mem (s : State) (t : Transport) (f : RomSess → RomSess) : (modRom s t f).mem = s.mem := rfl
@[simp] theorem modRom_guard (s : State) (t : Transport) (f : RomSess → RomSess) : (modRom s t f).guard = s.guard := rfl
@[simp] theorem modRom_echo (s : State) (t : Transport) (f : RomSess → RomSess) : (modRom s t f).echo = s.echo := rfl
@[simp] theorem modRom_check (s : State) (t : Transport) (f : RomSess → RomSess) : (modRom s t f).check = s.check := rfl
@[simp] theorem modRom_power (s : State) (t : Transport) (f : RomSess → RomSess) : (modRom s t f).power = s.power := rfl
@[simp] theorem modRom_proto (s : State) (t : Transport) (f : RomSess → RomSess) : (modRom s t f).proto = s.proto := rfl
@[simp] theorem modRom_cfg (s : State) (t : Transport) (f : RomSess → RomSess) : (modRom s t f).cfg = s.cfg := rfl
@[simp] theorem modRom_ev (s : State) (t : Transport) (f : RomSess → RomSess) : (modRom s t f).ev = s.ev := rfl
@[simp] theorem modRom_lan (s : State) (t : Transport) (f : RomSess → RomSess) : (modRom s t f).lan = s.lan := rfl
@[simp] theorem modRom_pin (s : State) (t : Transport) (f : RomSess → RomSess) : (modRom s t f).pin = s.pin := rfl
@[simp] theorem modRom_out (s : State) (t : Transport) (f : RomSess → RomSess) : (modRom s t f).out = s.out := rfl
@[simp] theorem modRom_free (s : State) (t : Transport) (f : RomSess → RomSess) : (modRom s t f).free = s.free := rfl
@[simp] theorem modRom_pending (s : State) (t : Transport) (f : RomSess → RomSess) : (modRom s t f).pending = s.pending := rfl

@[simp] theorem hotplug_time (s : State) (agent vppb : Nat) (present : Bool) : (hotplug s agent vppb present).time = s.time :=
  forEach_keep (fun s => s.time) _ _ _ fun _ _ => rfl
@[simp] theorem hotplug_core (s : State) (agent vppb : Nat) (present : Bool) : (hotplug s agent vppb present).core = s.core :=
  forEach_keep (fun s => s.core) _ _ _ fun _ _ => rfl
@[simp] theorem hotplug_dir (s : State) (agent vppb : Nat) (present : Bool) : (hotplug s agent vppb present).dir = s.dir :=
  forEach_keep (fun s => s.dir) _ _ _ fun _ _ => rfl
@[simp] theorem hotplug_sched (s : State) (agent vppb : Nat) (present : Bool) : (hotplug s agent vppb present).sched = s.sched :=
  forEach_keep (fun s => s.sched) _ _ _ fun _ _ => rfl
@[simp] theorem hotplug_mem (s : State) (agent vppb : Nat) (present : Bool) : (hotplug s agent vppb present).mem = s.mem :=
  forEach_keep (fun s => s.mem) _ _ _ fun _ _ => rfl
@[simp] theorem hotplug_guard (s : State) (agent vppb : Nat) (present : Bool) : (hotplug s agent vppb present).guard = s.guard :=
  forEach_keep (fun s => s.guard) _ _ _ fun _ _ => rfl
@[simp] theorem hotplug_echo (s : State) (agent vppb : Nat) (present : Bool) : (hotplug s agent vppb present).echo = s.echo :=
  forEach_keep (fun s => s.echo) _ _ _ fun _ _ => rfl
@[simp] theorem hotplug_check (s : State) (agent vppb : Nat) (present : Bool) : (hotplug s agent vppb present).check = s.check :=
  forEach_keep (fun s => s.check) _ _ _ fun _ _ => rfl
@[simp] theorem hotplug_power (s : State) (agent vppb : Nat) (present : Bool) : (hotplug s agent vppb present).power = s.power :=
  forEach_keep (fun s => s.power) _ _ _ fun _ _ => rfl
@[simp] theorem hotplug_mgmt (s : State) (agent vppb : Nat) (present : Bool) : (hotplug s agent vppb present).mgmt = s.mgmt :=
  forEach_keep (fun s => s.mgmt) _ _ _ fun _ _ => rfl
@[simp] theorem hotplug_proto (s : State) (agent vppb : Nat) (present : Bool) : (hotplug s agent vppb present).proto = s.proto :=
  forEach_keep (fun s => s.proto) _ _ _ fun _ _ => rfl
@[simp] theorem hotplug_cfg (s : State) (agent vppb : Nat) (present : Bool) : (hotplug s agent vppb present).cfg = s.cfg :=
  forEach_keep (fun s => s.cfg) _ _ _ fun _ _ => rfl
@[simp] theorem hotplug_ev (s : State) (agent vppb : Nat) (present : Bool) : (hotplug s agent vppb present).ev = s.ev :=
  forEach_keep (fun s => s.ev) _ _ _ fun _ _ => rfl
@[simp] theorem hotplug_lan (s : State) (agent vppb : Nat) (present : Bool) : (hotplug s agent vppb present).lan = s.lan :=
  forEach_keep (fun s => s.lan) _ _ _ fun _ _ => rfl
@[simp] theorem hotplug_pin (s : State) (agent vppb : Nat) (present : Bool) : (hotplug s agent vppb present).pin = s.pin :=
  forEach_keep (fun s => s.pin) _ _ _ fun _ _ => rfl
@[simp] theorem hotplug_free (s : State) (agent vppb : Nat) (present : Bool) : (hotplug s agent vppb present).free = s.free :=
  forEach_keep (fun s => s.free) _ _ _ fun _ _ => rfl
@[simp] theorem hotplug_pending (s : State) (agent vppb : Nat) (present : Bool) : (hotplug s agent vppb present).pending = s.pending :=
  forEach_keep (fun s => s.pending) _ _ _ fun _ _ => rfl

end Sys2Proof.Machine
end

