-- ==== Sys2Proof/Laws/PerInstr.lean ====
section
/-!
SUPPORT. For every command by itself: a well-formed command that names a gallery names one of the eight.
-/

namespace Sys2Proof.Laws.Fields

/-- A well-formed command names a gallery of R2 or none. -/
def Statement (i : Instr) : Prop :=
  i.wf = true → ∀ g, i.gallery = some g → g < 8

theorem left {a b : Bool} (h : (a && b) = true) : a = true := by
  cases a
  · cases h
  · rfl

theorem right {a b : Bool} (h : (a && b) = true) : b = true := by
  cases a
  · cases h
  · exact h

theorem gallery_lt {g n : Nat} (h : isGallery g = true) (e : some g = some n) : n < 8 :=
  Option.some.inj e ▸ of_decide_eq_true h

theorem coldResetAssert (pwrOk : Bool) : Statement (.coldResetAssert pwrOk) :=
  fun _ _ e => nomatch e

theorem coldResetRelease (bootSel : Nat) : Statement (.coldResetRelease bootSel) :=
  fun _ _ e => nomatch e

theorem mgmtResetAssert : Statement .mgmtResetAssert :=
  fun _ _ e => nomatch e

theorem mgmtResetRelease : Statement .mgmtResetRelease :=
  fun _ _ e => nomatch e

theorem thermalTrip (die : Nat) (temp : Nat) : Statement (.thermalTrip die temp) :=
  fun _ _ e => nomatch e

theorem monitorSample (temps : List Nat) (rails : List Nat) : Statement (.monitorSample temps rails) :=
  fun _ _ e => nomatch e

theorem refClockLost (ref : Nat) : Statement (.refClockLost ref) :=
  fun _ _ e => nomatch e

theorem refGoodTimer (ref : Nat) : Statement (.refGoodTimer ref) :=
  fun _ _ e => nomatch e

theorem masterSplit (bad : Nat) : Statement (.masterSplit bad) :=
  fun _ _ e => nomatch e

theorem beaconSend : Statement .beaconSend :=
  fun _ _ e => nomatch e

theorem beaconReceived (island : Nat) (beacon : Nat) (at64 : Nat) (crcOk : Bool) (phase : Int) : Statement (.beaconReceived island beacon at64 crcOk phase) :=
  fun _ _ e => nomatch e

theorem beaconMissed (island : Nat) (beacon : Nat) : Statement (.beaconMissed island beacon) :=
  fun _ _ e => nomatch e

theorem recalibrationStart (island : Nat) : Statement (.recalibrationStart island) :=
  fun _ _ e => nomatch e

theorem calibrationEnd (island : Nat) (delay : Nat) : Statement (.calibrationEnd island delay) :=
  fun _ _ e => nomatch e

theorem armMessage (arm : Nat) (island : Nat) : Statement (.armMessage arm island) :=
  fun _ _ e => nomatch e

theorem launchDecide (arm : Nat) : Statement (.launchDecide arm) :=
  fun _ _ e => nomatch e

theorem launch (arm : Nat) : Statement (.launch arm) :=
  fun _ _ e => nomatch e

theorem ppsEdge (at16 : Nat) : Statement (.ppsEdge at16) :=
  fun _ _ e => nomatch e

theorem ppsMissing : Statement .ppsMissing :=
  fun _ _ e => nomatch e

theorem ppsOutPulse : Statement .ppsOutPulse :=
  fun _ _ e => nomatch e

theorem slotBoundary (r : SlotFill) : Statement (.slotBoundary r) :=
  fun h _ e => gallery_lt (left h) e

theorem rotationBoundary (g : Nat) : Statement (.rotationBoundary g) :=
  fun h _ e => gallery_lt h e

theorem columnCrossbarChange (c : Nat) (agree : Bool) : Statement (.columnCrossbarChange c agree) :=
  fun _ _ e => nomatch e

theorem columnDrainEnd (g : Nat) (c : Nat) : Statement (.columnDrainEnd g c) :=
  fun h _ e => gallery_lt (left h) e

theorem probingEnd (c : Nat) : Statement (.probingEnd c) :=
  fun _ _ e => nomatch e

theorem admissionTimeout (c : Nat) : Statement (.admissionTimeout c) :=
  fun _ _ e => nomatch e

theorem cellArrival (g : Nat) (c : Nat) (mask : Nat) : Statement (.cellArrival g c mask) :=
  fun h _ e => gallery_lt (left (left h)) e

theorem ackTimer (g : Nat) (c : Nat) (i : Nat) : Statement (.ackTimer g c i) :=
  fun h _ e => gallery_lt (left (left h)) e

theorem ackReceived (g : Nat) (c : Nat) (m : Nat) (seq : Nat) (check : Nat) : Statement (.ackReceived g c m seq check) :=
  fun h _ e => gallery_lt (left (left h)) e

theorem ackTimeout (g : Nat) (c : Nat) : Statement (.ackTimeout g c) :=
  fun h _ e => gallery_lt (left h) e

theorem receiveBufferRelease (g : Nat) (c : RxRead) : Statement (.receiveBufferRelease g c) :=
  fun h _ e => gallery_lt (left h) e

theorem advert (g : Nat) (c : Nat) (m : Nat) (relayOpen : Nat) (xoff : Nat) : Statement (.advert g c m relayOpen xoff) :=
  fun h _ e => gallery_lt (left (left (left (left h)))) e

theorem flow (g : Nat) (c : Nat) (m : Nat) (xoff : Nat) : Statement (.flow g c m xoff) :=
  fun h _ e => gallery_lt (left (left (left h))) e

theorem grantSend (g : Nat) (c : Nat) (cls : Nat) : Statement (.grantSend g c cls) :=
  fun h _ e => gallery_lt (left (left h)) e

theorem grant (g : Nat) (c : Nat) (m : Nat) (cls : Nat) (count : Nat) (slot : Nat) : Statement (.grant g c m cls count slot) :=
  fun h _ e => gallery_lt (left (left (left (left h)))) e

theorem grantExpiry (g : Nat) (c : Nat) (cls : Nat) (slot : Nat) : Statement (.grantExpiry g c cls slot) :=
  fun h _ e => gallery_lt (left (left h)) e

theorem notice (g : Nat) (code : Nat) (num : Nat) : Statement (.notice g code num) :=
  fun h _ e => gallery_lt h e

theorem passageError (p : Nat) (endp : Nat) (cause : Nat) (lane : Nat) : Statement (.passageError p endp cause lane) :=
  fun _ _ e => nomatch e

theorem forwardedClockLost (p : Nat) (endp : Nat) (lane : Nat) : Statement (.forwardedClockLost p endp lane) :=
  fun _ _ e => nomatch e

theorem kill (p : Nat) (endp : Nat) : Statement (.kill p endp) :=
  fun _ _ e => nomatch e

theorem passageDrainEnd (p : Nat) : Statement (.passageDrainEnd p) :=
  fun _ _ e => nomatch e

theorem passageTestEnd (p : Nat) (errors : Nat) (outMask : Nat) (inMask : Nat) : Statement (.passageTestEnd p errors outMask inMask) :=
  fun _ _ e => nomatch e

theorem passageAdmitEnd (p : Nat) (result : Nat) (errors : Nat) : Statement (.passageAdmitEnd p result errors) :=
  fun _ _ e => nomatch e

theorem reseqHoleTimeout (g : Nat) (srcGal : Nat) (srcPort : Nat) (cls : Nat) : Statement (.reseqHoleTimeout g srcGal srcPort cls) :=
  fun h _ e => gallery_lt (left (left (left h))) e

theorem rdShared (g : Nat) (sl : Nat) (f : LookupFault) : Statement (.rdShared g sl f) :=
  fun h _ e => gallery_lt (left (left h)) e

theorem rdAny (g : Nat) (sl : Nat) (f : LookupFault) : Statement (.rdAny g sl f) :=
  fun h _ e => gallery_lt (left (left h)) e

theorem rdOwn (g : Nat) (sl : Nat) (f : LookupFault) : Statement (.rdOwn g sl f) :=
  fun h _ e => gallery_lt (left (left h)) e

theorem invOwn (g : Nat) (sl : Nat) (f : LookupFault) : Statement (.invOwn g sl f) :=
  fun h _ e => gallery_lt (left (left h)) e

theorem rdCur (g : Nat) (sl : Nat) (f : LookupFault) : Statement (.rdCur g sl f) :=
  fun h _ e => gallery_lt (left (left h)) e

theorem writeReq (g : Nat) (sl : Nat) (f : LookupFault) : Statement (.writeReq g sl f) :=
  fun h _ e => gallery_lt (left (left h)) e

theorem evict (g : Nat) (sl : Nat) (f : LookupFault) : Statement (.evict g sl f) :=
  fun h _ e => gallery_lt (left (left h)) e

theorem retry (g : Nat) (sl : Nat) (f : LookupFault) : Statement (.retry g sl f) :=
  fun h _ e => gallery_lt (left (left h)) e

theorem birsp (g : Nat) (sl : Nat) (agent : Nat) (key : Nat) (a : SnoopAnswer) : Statement (.birsp g sl agent key a) :=
  fun h _ e => gallery_lt (left (left (left (left h)))) e

theorem biconflict (g : Nat) (sl : Nat) (agent : Nat) (key : Nat) : Statement (.biconflict g sl agent key) :=
  fun h _ e => gallery_lt (left (left (left h))) e

theorem snoopPathWrite (g : Nat) (sl : Nat) : Statement (.snoopPathWrite g sl) :=
  fun h _ e => gallery_lt (left h) e

theorem deviceAccessComplete (id : Nat) (ok : Bool) (data : Bytes) (poison : Bool) : Statement (.deviceAccessComplete id ok data poison) :=
  fun _ _ e => nomatch e

theorem snoopTimerCheck (g : Nat) (sl : Nat) : Statement (.snoopTimerCheck g sl) :=
  fun h _ e => gallery_lt (left h) e

theorem discardReport (g : Nat) (sl : Nat) (agent : Nat) (key : Nat) : Statement (.discardReport g sl agent key) :=
  fun h _ e => gallery_lt (left (left (left h))) e

theorem fenceSweepStep (g : Nat) (sl : Nat) (agent : Nat) (set : Nat) : Statement (.fenceSweepStep g sl agent set) :=
  fun h _ e => gallery_lt (left (left (left h))) e

theorem fenceSweepEnd (agent : Nat) : Statement (.fenceSweepEnd agent) :=
  fun _ _ e => nomatch e

theorem pointerStorePass (g : Nat) (sl : Nat) : Statement (.pointerStorePass g sl) :=
  fun h _ e => gallery_lt (left h) e

theorem fullArraySelfTestEnd (g : Nat) (sl : Nat) (pass : Bool) : Statement (.fullArraySelfTestEnd g sl pass) :=
  fun h _ e => gallery_lt (left h) e

theorem conversionStep (g : Nat) (sl : Nat) : Statement (.conversionStep g sl) :=
  fun h _ e => gallery_lt (left h) e

theorem conversionEnd (g : Nat) (sl : Nat) : Statement (.conversionEnd g sl) :=
  fun h _ e => gallery_lt (left h) e

theorem migrationSetCopy (g : Nat) : Statement (.migrationSetCopy g) :=
  fun h _ e => gallery_lt h e

theorem migrationEnd (g : Nat) : Statement (.migrationEnd g) :=
  fun h _ e => gallery_lt h e

theorem eccIntervalEnd (g : Nat) (sl : Nat) : Statement (.eccIntervalEnd g sl) :=
  fun h _ e => gallery_lt (left h) e

theorem sliceTestEnd (g : Nat) (sl : Nat) (pass : Bool) (failArray : Nat) (failAddr : Nat) : Statement (.sliceTestEnd g sl pass failArray failAddr) :=
  fun h _ e => gallery_lt (left h) e

theorem linkUp (port : Nat) (p : Partner) : Statement (.linkUp port p) :=
  fun _ _ e => nomatch e

theorem linkDown (port : Nat) (cause : Nat) : Statement (.linkDown port cause) :=
  fun _ _ e => nomatch e

theorem packetAtDownPort (port : Nat) : Statement (.packetAtDownPort port) :=
  fun _ _ e => nomatch e

theorem laneRefclkLost (j : Nat) : Statement (.laneRefclkLost j) :=
  fun _ _ e => nomatch e

theorem laneRefclkGood (j : Nat) : Statement (.laneRefclkGood j) :=
  fun _ _ e => nomatch e

theorem adaptationUpdate (lane : Nat) (dirs : List Int) (ctleDir : Int) : Statement (.adaptationUpdate lane dirs ctleDir) :=
  fun _ _ e => nomatch e

theorem tapPinned (lane : Nat) (tap : Nat) : Statement (.tapPinned lane tap) :=
  fun _ _ e => nomatch e

theorem idleTimerExpiry (port : Nat) (target : Nat) : Statement (.idleTimerExpiry port target) :=
  fun _ _ e => nomatch e

theorem lowPowerExitComplete (port : Nat) (rate : Nat) (t : Retrain) : Statement (.lowPowerExitComplete port rate t) :=
  fun _ _ e => nomatch e

theorem partnerMarginRequest (q : MarginAsk) : Statement (.partnerMarginRequest q) :=
  fun _ _ e => nomatch e

theorem marginMeasurementEnd (lane : Nat) (bits : Nat) (errors : Nat) : Statement (.marginMeasurementEnd lane bits errors) :=
  fun _ _ e => nomatch e

theorem devTimeout (port : Nat) (id : Nat) : Statement (.devTimeout port id) :=
  fun _ _ e => nomatch e

theorem ingressDecode (port : Nat) (q : HostReq) : Statement (.ingressDecode port q) :=
  fun _ _ e => nomatch e

theorem guardRestoreEnd (port : Nat) (copyOk : Bool) : Statement (.guardRestoreEnd port copyOk) :=
  fun _ _ e => nomatch e

theorem egressEnqueue (port : Nat) : Statement (.egressEnqueue port) :=
  fun _ _ e => nomatch e

theorem egressPick (port : Nat) (i : PickIn) : Statement (.egressPick port i) :=
  fun _ _ e => nomatch e

theorem gateEntryChange (port : Nat) : Statement (.gateEntryChange port) :=
  fun _ _ e => nomatch e

theorem doorbell (agent : Nat) (ep : Nat) (win : Nat) (usp : Nat) : Statement (.doorbell agent ep win usp) :=
  fun _ _ e => nomatch e

theorem echoDeliveryPick (g : Nat) (ep : Nat) (prio : Nat) : Statement (.echoDeliveryPick g ep prio) :=
  fun h _ e => gallery_lt (left (left h)) e

theorem intDelayExpiry (agent : Nat) (ep : Nat) : Statement (.intDelayExpiry agent ep) :=
  fun _ _ e => nomatch e

theorem ringWriteAck (g : Nat) : Statement (.ringWriteAck g) :=
  fun h _ e => gallery_lt h e

theorem ringRpWrite (agent : Nat) (ep : Nat) (value : Nat) : Statement (.ringRpWrite agent ep value) :=
  fun _ _ e => nomatch e

theorem ringEnWrite (agent : Nat) (ep : Nat) (value : Nat) : Statement (.ringEnWrite agent ep value) :=
  fun _ _ e => nomatch e

theorem registerWrite (agent : Nat) (bar : Nat) (off : Nat) (size : Nat) (value : Nat) : Statement (.registerWrite agent bar off size value) :=
  fun _ _ e => nomatch e

theorem feed (agent : Nat) (slot : CtxAt) (off : Nat) (bytes : Bytes) : Statement (.feed agent slot off bytes) :=
  fun _ _ e => nomatch e

theorem startOp (agent : Nat) (slot : CtxAt) : Statement (.startOp agent slot) :=
  fun _ _ e => nomatch e

theorem sealOp (agent : Nat) (slot : CtxAt) (short : Bool) : Statement (.sealOp agent slot short) :=
  fun _ _ e => nomatch e

theorem verifyOp (agent : Nat) (slot : CtxAt) (short : Bool) : Statement (.verifyOp agent slot short) :=
  fun _ _ e => nomatch e

theorem scanOp (agent : Nat) (slot : Nat) : Statement (.scanOp agent slot) :=
  fun _ _ e => nomatch e

theorem scanLineArrival (agent : Nat) (slot : CtxAt) : Statement (.scanLineArrival agent slot) :=
  fun _ _ e => nomatch e

theorem drainEnd (grotto : Nat) (gen : Nat) : Statement (.drainEnd grotto gen) :=
  fun _ _ e => nomatch e

theorem drainTimeout (grotto : Nat) (gen : Nat) : Statement (.drainTimeout grotto gen) :=
  fun _ _ e => nomatch e

theorem recallSweepStep (grotto : Nat) (g : Nat) (sl : Nat) (set : Nat) : Statement (.recallSweepStep grotto g sl set) :=
  fun h _ e => gallery_lt (right (left (left h))) e

theorem recallSweepEnd (grotto : Nat) : Statement (.recallSweepEnd grotto) :=
  fun _ _ e => nomatch e

theorem generationHoldExpiry (grotto : Nat) (gen : Nat) : Statement (.generationHoldExpiry grotto gen) :=
  fun _ _ e => nomatch e

theorem sanitizeEnd (win : Nat) (ok : Bool) : Statement (.sanitizeEnd win ok) :=
  fun _ _ e => nomatch e

theorem twinWriteComplete (g : Nat) (id : Nat) (copy : Nat) (ok : Bool) : Statement (.twinWriteComplete g id copy ok) :=
  fun h _ e => gallery_lt h e

theorem resyncBlock (win : Nat) (ext : Nat) : Statement (.resyncBlock win ext) :=
  fun _ _ e => nomatch e

theorem resyncEnd (win : Nat) (ext : Nat) : Statement (.resyncEnd win ext) :=
  fun _ _ e => nomatch e

theorem windowRemoveSweepEnd (win : Nat) : Statement (.windowRemoveSweepEnd win) :=
  fun _ _ e => nomatch e

theorem slotLoopSample (slot : Nat) (vin : Nat) (vout : Nat) (cur : Nat) : Statement (.slotLoopSample slot vin vout cur) :=
  fun _ _ e => nomatch e

theorem faultTimerExpiry (slot : Nat) : Statement (.faultTimerExpiry slot) :=
  fun _ _ e => nomatch e

theorem faultTimerClear (slot : Nat) : Statement (.faultTimerClear slot) :=
  fun _ _ e => nomatch e

theorem fastTrip (slot : Nat) (cur : Nat) : Statement (.fastTrip slot cur) :=
  fun _ _ e => nomatch e

theorem powerGood (slot : Nat) : Statement (.powerGood slot) :=
  fun _ _ e => nomatch e

theorem warnLeadEnd (slot : Nat) : Statement (.warnLeadEnd slot) :=
  fun _ _ e => nomatch e

theorem cooldownEnd (slot : Nat) : Statement (.cooldownEnd slot) :=
  fun _ _ e => nomatch e

theorem presenceDebounced (slot : Nat) : Statement (.presenceDebounced slot) :=
  fun _ _ e => nomatch e

theorem slotRemoved (slot : Nat) : Statement (.slotRemoved slot) :=
  fun _ _ e => nomatch e

theorem fetShort (slot : Nat) : Statement (.fetShort slot) :=
  fun _ _ e => nomatch e

theorem busSample (bus : Nat) (mv : Nat) : Statement (.busSample bus mv) :=
  fun _ _ e => nomatch e

theorem busWarningClear (bus : Nat) : Statement (.busWarningClear bus) :=
  fun _ _ e => nomatch e

theorem romInitEnd (passA : Bool) (passB : Bool) (keptOk : Bool) : Statement (.romInitEnd passA passB keptOk) :=
  fun _ _ e => nomatch e

theorem receiveTimeout : Statement .receiveTimeout :=
  fun _ _ e => nomatch e

theorem verifyEnd (eccOk : Bool) : Statement (.verifyEnd eccOk) :=
  fun _ _ e => nomatch e

theorem fuseBit (readsBack : Bool) : Statement (.fuseBit readsBack) :=
  fun _ _ e => nomatch e

theorem startingEnd : Statement .startingEnd :=
  fun _ _ e => nomatch e

theorem bridgeReadTimeout (id : Nat) : Statement (.bridgeReadTimeout id) :=
  fun _ _ e => nomatch e

theorem heartbeat (cluster : Nat) : Statement (.heartbeat cluster) :=
  fun _ _ e => nomatch e

theorem heartbeatIntervalEnd : Statement .heartbeatIntervalEnd :=
  fun _ _ e => nomatch e

theorem clusterSelfReport (cluster : Nat) (ecc : Bool) : Statement (.clusterSelfReport cluster ecc) :=
  fun _ _ e => nomatch e

theorem standbyReady (cluster : Nat) : Statement (.standbyReady cluster) :=
  fun _ _ e => nomatch e

theorem bothRestarted (cluster : Nat) : Statement (.bothRestarted cluster) :=
  fun _ _ e => nomatch e

theorem galleryLostDeclare (g : Nat) : Statement (.galleryLostDeclare g) :=
  fun h _ e => gallery_lt h e

theorem galleryLostHoleClose (g : Nat) (srcGal : Nat) (srcPort : Nat) (cls : Nat) : Statement (.galleryLostHoleClose g srcGal srcPort cls) :=
  fun h _ e => gallery_lt (left (left (left h))) e

theorem eventRecordArrival (i : Nat) : Statement (.eventRecordArrival i) :=
  fun _ _ e => nomatch e

theorem eventNotice : Statement .eventNotice :=
  fun _ _ e => nomatch e

theorem sessionIdleTimeout (n : Nat) : Statement (.sessionIdleTimeout n) :=
  fun _ _ e => nomatch e

theorem commitShadowsPosted : Statement .commitShadowsPosted :=
  fun _ _ e => nomatch e

theorem commitLateCancel : Statement .commitLateCancel :=
  fun _ _ e => nomatch e

theorem lanternFrame : Statement .lanternFrame :=
  fun _ _ e => nomatch e

theorem traceRecordAgeDrop : Statement .traceRecordAgeDrop :=
  fun _ _ e => nomatch e

theorem counterSweep : Statement .counterSweep :=
  fun _ _ e => nomatch e

theorem sweepComplete : Statement .sweepComplete :=
  fun _ _ e => nomatch e

theorem counterWrap (g : Nat) (k : Nat) (skid : Nat) : Statement (.counterWrap g k skid) :=
  fun h _ e => gallery_lt (left h) e

theorem sampleEnd (g : Nat) (id : Nat) (port : Nat) : Statement (.sampleEnd g id port) :=
  fun h _ e => gallery_lt (left h) e

theorem loopbackEnd (port : Nat) (bits : Nat) (errors : List Nat) (aborted : Bool) : Statement (.loopbackEnd port bits errors aborted) :=
  fun _ _ e => nomatch e

theorem sessionOpen (t : Transport) (r : Req) : Statement (.sessionOpen t r) :=
  fun _ _ e => nomatch e

theorem sessionClose (t : Transport) (r : Req) : Statement (.sessionClose t r) :=
  fun _ _ e => nomatch e

theorem mgmtReset (t : Transport) (r : Req) : Statement (.mgmtReset t r) :=
  fun _ _ e => nomatch e

theorem getIdentity (t : Transport) (r : Req) : Statement (.getIdentity t r) :=
  fun _ _ e => nomatch e

theorem getEpoch (t : Transport) (r : Req) : Statement (.getEpoch t r) :=
  fun _ _ e => nomatch e

theorem stageBegin (t : Transport) (r : Req) : Statement (.stageBegin t r) :=
  fun _ _ e => nomatch e

theorem stageAbort (t : Transport) (r : Req) : Statement (.stageAbort t r) :=
  fun _ _ e => nomatch e

theorem commit (t : Transport) (r : Req) : Statement (.commit t r) :=
  fun _ _ e => nomatch e

theorem portConfig (t : Transport) (r : Req) : Statement (.portConfig t r) :=
  fun _ _ e => nomatch e

theorem portState (t : Transport) (r : Req) : Statement (.portState t r) :=
  fun _ _ e => nomatch e

theorem portEnable (t : Transport) (r : Req) : Statement (.portEnable t r) :=
  fun _ _ e => nomatch e

theorem laneEqTableLoad (t : Transport) (r : Req) : Statement (.laneEqTableLoad t r) :=
  fun _ _ e => nomatch e

theorem laneMargin (t : Transport) (r : Req) : Statement (.laneMargin t r) :=
  fun _ _ e => nomatch e

theorem hierCreate (t : Transport) (r : Req) : Statement (.hierCreate t r) :=
  fun _ _ e => nomatch e

theorem hierDestroy (t : Transport) (r : Req) : Statement (.hierDestroy t r) :=
  fun _ _ e => nomatch e

theorem grottoCreate (t : Transport) (r : Req) : Statement (.grottoCreate t r) :=
  fun _ _ e => nomatch e

theorem grottoBind (t : Transport) (r : Req) : Statement (.grottoBind t r) :=
  fun _ _ e => nomatch e

theorem grottoUnbind (t : Transport) (r : Req) : Statement (.grottoUnbind t r) :=
  fun _ _ e => nomatch e

theorem grottoRecall (t : Transport) (r : Req) : Statement (.grottoRecall t r) :=
  fun _ _ e => nomatch e

theorem grottoState (t : Transport) (r : Req) : Statement (.grottoState t r) :=
  fun _ _ e => nomatch e

theorem windowDefine (t : Transport) (r : Req) : Statement (.windowDefine t r) :=
  fun _ _ e => nomatch e

theorem windowRemove (t : Transport) (r : Req) : Statement (.windowRemove t r) :=
  fun _ _ e => nomatch e

theorem windowSanitize (t : Transport) (r : Req) : Statement (.windowSanitize t r) :=
  fun _ _ e => nomatch e

theorem windowResync (t : Transport) (r : Req) : Statement (.windowResync t r) :=
  fun _ _ e => nomatch e

theorem guardRuleSet (t : Transport) (r : Req) : Statement (.guardRuleSet t r) :=
  fun _ _ e => nomatch e

theorem guardRuleClear (t : Transport) (r : Req) : Statement (.guardRuleClear t r) :=
  fun _ _ e => nomatch e

theorem guardViolationRead (t : Transport) (r : Req) : Statement (.guardViolationRead t r) :=
  fun _ _ e => nomatch e

theorem guardViolationClear (t : Transport) (r : Req) : Statement (.guardViolationClear t r) :=
  fun _ _ e => nomatch e

theorem schedQueueSet (t : Transport) (r : Req) : Statement (.schedQueueSet t r) :=
  fun _ _ e => nomatch e

theorem gateListSet (t : Transport) (r : Req) : Statement (.gateListSet t r) :=
  fun _ _ e => nomatch e

theorem policerSet (t : Transport) (r : Req) : Statement (.policerSet t r) :=
  fun _ _ e => nomatch e

theorem wredProfileSet (t : Transport) (r : Req) : Statement (.wredProfileSet t r) :=
  fun _ _ e => nomatch e

theorem echoEndpointSet (t : Transport) (r : Req) : Statement (.echoEndpointSet t r) :=
  fun _ _ e => nomatch e

theorem checkContextAssign (t : Transport) (r : Req) : Statement (.checkContextAssign t r) :=
  fun _ _ e => nomatch e

theorem dirMode (t : Transport) (r : Req) : Statement (.dirMode t r) :=
  fun _ _ e => nomatch e

theorem dirSliceTest (t : Transport) (r : Req) : Statement (.dirSliceTest t r) :=
  fun _ _ e => nomatch e

theorem dirStats (t : Transport) (r : Req) : Statement (.dirStats t r) :=
  fun _ _ e => nomatch e

theorem eventRead (t : Transport) (r : Req) : Statement (.eventRead t r) :=
  fun _ _ e => nomatch e

theorem eventMask (t : Transport) (r : Req) : Statement (.eventMask t r) :=
  fun _ _ e => nomatch e

theorem columnState (t : Transport) (r : Req) : Statement (.columnState t r) :=
  fun _ _ e => nomatch e

theorem passageTest (t : Transport) (r : Req) : Statement (.passageTest t r) :=
  fun _ _ e => nomatch e

theorem portLoopback (t : Transport) (r : Req) : Statement (.portLoopback t r) :=
  fun _ _ e => nomatch e

theorem slotConfig (t : Transport) (r : Req) : Statement (.slotConfig t r) :=
  fun _ _ e => nomatch e

theorem slotPower (t : Transport) (r : Req) : Statement (.slotPower t r) :=
  fun _ _ e => nomatch e

theorem slotState (t : Transport) (r : Req) : Statement (.slotState t r) :=
  fun _ _ e => nomatch e

theorem traceConfig (t : Transport) (r : Req) : Statement (.traceConfig t r) :=
  fun _ _ e => nomatch e

theorem counterConfig (t : Transport) (r : Req) : Statement (.counterConfig t r) :=
  fun _ _ e => nomatch e

theorem counterSnapshot (t : Transport) (r : Req) : Statement (.counterSnapshot t r) :=
  fun _ _ e => nomatch e

theorem sampleConfig (t : Transport) (r : Req) : Statement (.sampleConfig t r) :=
  fun _ _ e => nomatch e

theorem timeConfig (t : Transport) (r : Req) : Statement (.timeConfig t r) :=
  fun _ _ e => nomatch e

theorem timeRead (t : Transport) (r : Req) : Statement (.timeRead t r) :=
  fun _ _ e => nomatch e

theorem fwInfo (t : Transport) (r : Req) : Statement (.fwInfo t r) :=
  fun _ _ e => nomatch e

theorem loadBegin (t : Transport) (r : Req) : Statement (.loadBegin t r) :=
  fun _ _ e => nomatch e

theorem loadData (t : Transport) (r : Req) : Statement (.loadData t r) :=
  fun _ _ e => nomatch e

theorem loadEnd (t : Transport) (r : Req) : Statement (.loadEnd t r) :=
  fun _ _ e => nomatch e

theorem identify (t : Transport) : Statement (.identify t) :=
  fun _ _ e => nomatch e

theorem backgroundOperationStatus (t : Transport) : Statement (.backgroundOperationStatus t) :=
  fun _ _ e => nomatch e

theorem getResponseMessageLimit (t : Transport) : Statement (.getResponseMessageLimit t) :=
  fun _ _ e => nomatch e

theorem setResponseMessageLimit (t : Transport) (limit : Nat) : Statement (.setResponseMessageLimit t limit) :=
  fun _ _ e => nomatch e

theorem identifySwitchDevice (t : Transport) : Statement (.identifySwitchDevice t) :=
  fun _ _ e => nomatch e

theorem getPhysicalPortState (t : Transport) (ports : List Nat) : Statement (.getPhysicalPortState t ports) :=
  fun _ _ e => nomatch e

theorem getVirtualCxlSwitchInfo (t : Transport) (vcs : Nat) : Statement (.getVirtualCxlSwitchInfo t vcs) :=
  fun _ _ e => nomatch e

theorem physicalPortControl (t : Transport) : Statement (.physicalPortControl t) :=
  fun _ _ e => nomatch e

theorem sendPpbCxlIoConfigRequest (t : Transport) : Statement (.sendPpbCxlIoConfigRequest t) :=
  fun _ _ e => nomatch e

theorem bindVppb (t : Transport) : Statement (.bindVppb t) :=
  fun _ _ e => nomatch e

theorem unbindVppb (t : Transport) : Statement (.unbindVppb t) :=
  fun _ _ e => nomatch e

theorem generateAerEvent (t : Transport) : Statement (.generateAerEvent t) :=
  fun _ _ e => nomatch e

theorem setEndpointId (t : Transport) (eid : Nat) : Statement (.setEndpointId t eid) :=
  fun _ _ e => nomatch e

theorem getEndpointId (t : Transport) : Statement (.getEndpointId t) :=
  fun _ _ e => nomatch e

theorem getMctpVersionSupport (t : Transport) (msgType : Nat) : Statement (.getMctpVersionSupport t msgType) :=
  fun _ _ e => nomatch e

theorem getMessageTypeSupport (t : Transport) : Statement (.getMessageTypeSupport t) :=
  fun _ _ e => nomatch e

theorem getVendorDefinedMessageSupport (t : Transport) (sel : Nat) : Statement (.getVendorDefinedMessageSupport t sel) :=
  fun _ _ e => nomatch e

theorem identifyMemoryDevice (grotto : Nat) : Statement (.identifyMemoryDevice grotto) :=
  fun _ _ e => nomatch e

theorem getPartitionInfo (grotto : Nat) : Statement (.getPartitionInfo grotto) :=
  fun _ _ e => nomatch e

theorem getEventRecords (grotto : Nat) (log : Nat) : Statement (.getEventRecords grotto log) :=
  fun _ _ e => nomatch e

theorem clearEventRecords (grotto : Nat) (log : Nat) (handles : List Nat) : Statement (.clearEventRecords grotto log handles) :=
  fun _ _ e => nomatch e

theorem getEventInterruptPolicy (grotto : Nat) : Statement (.getEventInterruptPolicy grotto) :=
  fun _ _ e => nomatch e

theorem setEventInterruptPolicy (grotto : Nat) (policy : Nat) : Statement (.setEventInterruptPolicy grotto policy) :=
  fun _ _ e => nomatch e

theorem sysRefclkRestored (ref : Nat) : Statement (.sysRefclkRestored ref) :=
  fun _ _ e => nomatch e

theorem laneRefclkRestored (j : Nat) : Statement (.laneRefclkRestored j) :=
  fun _ _ e => nomatch e

theorem slotPrsntNChange (slot : Nat) (high : Bool) : Statement (.slotPrsntNChange slot high) :=
  fun _ _ e => nomatch e

theorem deviceReply (port : Nat) (id : Nat) (c : Cmp) (d : ReplyData) : Statement (.deviceReply port id c d) :=
  fun _ _ e => nomatch e

theorem undefinedOpcodeRequest (t : Transport) (op : Nat) (r : Req) : Statement (.undefinedOpcodeRequest t op r) :=
  fun _ _ e => nomatch e

theorem unsupportedFmApiCommand (t : Transport) (op : Nat) : Statement (.unsupportedFmApiCommand t op) :=
  fun _ _ e => nomatch e

theorem unsupportedMailboxCommand (grotto : Nat) (op : Nat) : Statement (.unsupportedMailboxCommand grotto op) :=
  fun _ _ e => nomatch e

theorem setdasa (t : Transport) (addr : Nat) : Statement (.setdasa t addr) :=
  fun _ _ e => nomatch e

theorem vidCodeValid : Statement .vidCodeValid :=
  fun _ _ e => nomatch e

theorem keptImageUncorrectable : Statement .keptImageUncorrectable :=
  fun _ _ e => nomatch e

theorem linkStateChange (port : Nat) (state : Nat) (rate : Nat) (t : Retrain) : Statement (.linkStateChange port state rate t) :=
  fun _ _ e => nomatch e

theorem windowSweepStep (win : Nat) (g : Nat) (sl : Nat) (set : Nat) : Statement (.windowSweepStep win g sl set) :=
  fun h _ e => gallery_lt (right (left (left h))) e

end Sys2Proof.Laws.Fields
end

