-- ==== Sys2Proof/Tests/Slice0.lean ====
section
/-!
SUPPORT. The model's own tests: well-formedness, single steps against the spec's figures, and for every statement with
hypotheses a state and operands that meet them.
-/

namespace Sys2Proof.Tests

open Sys2Proof.Machine


/-! ## Well-formed and ill-formed commands -/

/-- For each check of `Instr.wf` a command that it refuses. -/
def illFormed : List Instr :=
  [.coldResetRelease 2, .thermalTrip 13 0, .monitorSample [] (List.replicate 31 0), .monitorSample (List.replicate 13 0) [], .refClockLost 2,
    .beaconMissed 290 0, .slotBoundary ⟨8, []⟩, .columnCrossbarChange 4 true, .cellArrival 0 0 (2 ^ 128), .advert 0 0 0 256 0] ++
  [.flow 0 0 0 128, .grantSend 0 0 7, .grant 0 0 0 0 256 0, .passageDrainEnd 32, .reseqHoleTimeout 0 0 72 0, .rdShared 0 9 .none,
    .rdShared 0 0 (.corrected 96), .birsp 0 0 256 0 ⟨.i, .none⟩, .birsp 0 0 0 (2 ^ 45) ⟨.i, .none⟩, .fenceSweepStep 0 0 0 65536] ++
  [.linkDown 512 0, .linkUp 0 { rate := 7 }, .linkUp 0 { lanes := 17 }, .laneRefclkLost 32, .tapPinned 1024 0, .tapPinned 0 12,
    .adaptationUpdate 0 [2] 0, .adaptationUpdate 0 [] (-2), .doorbell 0 16 0 0, .doorbell 0 0 4 0] ++
  [.registerWrite 0 3 0 1 0, .registerWrite 0 0 65536 1 0, .registerWrite 0 0 0 3 0, .feed 0 ⟨32, false⟩ 0 [], .drainEnd 4096 0, .sanitizeEnd 1024 true,
    .resyncBlock 0 256, .powerGood 128, .busSample 4 0, .heartbeat 2] ++
  [.sessionIdleTimeout 8, .counterWrap 0 8 0, .sampleEnd 8 0 0, .sampleEnd 0 0 512, .echoDeliveryPick 8 0 0, .echoDeliveryPick 0 4096 0, .echoDeliveryPick 0 0 8, .lowPowerExitComplete 0 7 {},
    .undefinedOpcodeRequest .boot 65536 {}, .setdasa .i3cA 128, .linkStateChange 0 8 6 {},
    .clearEventRecords 0 2 [65536], .getEpoch (.mailbox 256) {}, .getEpoch .boot { crc := 2 ^ 32 }, .egressPick 0 { frac := 3200 }] ++
  [.egressPick 0 { flits := 0 }, .ingressDecode 0 { op := .memRdData, data := List.replicate 65 0 }, .setEndpointId .boot 256]

theorem test_ill_formed_refused : illFormed.all (fun i => !i.wf) = true := by decide +kernel

theorem test_well_formed : ([.coldResetRelease 1, .thermalTrip 12 0, .rdShared 7 8 (.corrected 95), .linkUp 511 {},
    .registerWrite 255 2 65535 8 0, .drainEnd 4095 0, .getEpoch (.mailbox 255) { plen := 65535 }] : List Instr).all Instr.wf = true := by
  decide +kernel

/-! ## Figures of the spec -/

/-- The home of the worked example under R89: device line 123456789C0h of `P304` is `G4.S5`, set 2266h, tag 30091A2h. -/
theorem test_home_of_line : keySlice (keyOf 304 0x123456789C0) = 5 ∧ keySet (keyOf 304 0x123456789C0) = 0x2266 ∧
    keyTag (keyOf 304 0x123456789C0) = 0x30091A2 := by decide +kernel

/-- The islands of the example under R13: slice `G3.S2` is island 112, the column end of `G5`-`C2` is 272. -/
theorem test_island_numbers : sliceIsl 3 2 = 112 ∧ pasIslC 5 2 = 272 := by decide

/-- The window of the worked example under R179. -/
def windowThree : WinCfg :=
  { live := true, shared := true, waysLog := 4, gran := 1
    segs := List.replicate 4 { units := 4096, ways := List.replicate 9 (512, 0) ++ [(296, 0)] ++ List.replicate 6 (512, 0), twins := [] } }

/-- Address 123456789AC0h lies in segment 1, way 9, at 2345678AC0h of device `P296`. -/
theorem test_window_decode : (locate windowThree 0x123456789AC0).map (fun l => (l.seg, l.way, l.port, l.dpa)) =
    some (1, 9, 296, 0x2345678AC0) := by decide +kernel

/-- The guard of the worked example under R211. -/
def guardExample : GuardCfg :=
  { rules := [(0, { base := 0x2040000, end_ := 0x2040001, valid := true, space := 1, rd := true, wr := true }),
      (1, { base := 0x2040001, end_ := 0x2040100, valid := true, space := 1, rd := true })]
    closedP := true }

/-- The 512-byte write fails with `PERMISSION` at page 2040001h, the 4,096-byte read with `NO_MATCH` at page 2040100h. -/
theorem test_guard_example : spanCheck guardExample false 1 0x2040000F00 512 2 = .refuse 2 0x2040001 1 true false ∧
    spanCheck guardExample false 1 0x20400FF800 4096 1 = .refuse 1 0x2040100 255 true false := by decide +kernel

/-- The bytes "123456789". -/
def nineDigits : Bytes := [0x31, 0x32, 0x33, 0x34, 0x35, 0x36, 0x37, 0x38, 0x39]

/-- The check values of R263. -/
theorem test_check_values : (List.range 4).map (fun a => algCheck a (algFeeds a (algInit a) nineDigits)) =
    [0xD0DB, 0xCBF43926, 0xE3069283, 0x6C40DF5F0B497347] ∧ crc32c nineDigits = 0xE3069283 := by decide +kernel

/-- SHA-384 of "abc", as FIPS 180 gives it. -/
theorem test_sha384 : (sha384 [0x61, 0x62, 0x63]).take 8 = [0xCB, 0x00, 0x75, 0x3F, 0x45, 0xA3, 0x5E, 0x8B] := by decide +kernel

/-- The gate of the worked example under R25: open in [2,000, 2,040) with guard 4. -/
def gateExample : Sched :=
  { gate := some { base := 0, guard := 4, entries := [(2000, 0), (40, 1), (2000, 0)] } }

/-- A transfer of 6.4 drips may start at 2,029.5 and at 2,029.6, not at 2,030.0. -/
theorem test_gate_window : startOk gateExample 0 2029 1600 20480 = true ∧ startOk gateExample 0 2029 1920 20480 = true ∧
    startOk gateExample 0 2030 0 20480 = false := by decide +kernel


/-- An event queue that is full but for its last place. -/
theorem full_queue (r : EvRec) : 4095 ≤ (List.replicate 4094 (0, r) ++ [(0, r)] : List (Nat × EvRec)).length := by
  rw [List.length_append, List.length_replicate, List.length_singleton]

/-- A queue whose newest record is an open `EV_EVENT_LOST`. -/
theorem full_open (r : EvRec) (h : r.code = evEventLost) :
    lostOpen { State.reset with ev := { State.reset.ev with queue := List.replicate 4094 (0, r) ++ [(0, r)], lostOpen := true } } = true := by
  unfold lostOpen
  dsimp only
  rw [List.getLast?_concat, Option.map_some, h]
  rfl

/-! ## Requests of the vendor protocol -/

/-- A request of session 0 with `ALIVE` 1 and its CRC. -/
def rq (op : Nat) (p : Bytes) : Req :=
  let r : Req := { session := 0, alive := 1, plen := p.length, payload := p }
  { r with crc := crc32c (reqBytes op r) }

/-- A request with `SESSION` FFh and its CRC. -/
def rf (op : Nat) (p : Bytes) : Req :=
  let r : Req := { session := 255, plen := p.length, payload := p }
  { r with crc := crc32c (reqBytes op r) }

/-- A request of session 0 whose reserved header byte is not 0. -/
def rh (op : Nat) : Req :=
  let r : Req := { session := 0, alive := 1, rsv := 7 }
  { r with crc := crc32c (reqBytes op r) }

/-- An `OWNER` session opened over the boot port. -/
def sess0 : Sess :=
  { transport := .boot, eid := 0, priv := 0, idleS := 3600, tag := 0, last := 0, openAlive := 0 }

/-- Firmware runs, and no session is open. -/
def run0 : State :=
  { State.reset with mgmt := { State.reset.mgmt with boot := .running, cl := [(0, { st := .active }), (1, { st := .standby })] } }

/-- Firmware runs, and session 0 is open. -/
def sessState (x : Sess) : State :=
  { run0 with proto := { run0.proto with sessions := [(0, some x)] } }

/-- Firmware runs, and session 0 is an `OWNER`'s. -/
def run1 : State := sessState sess0

theorem crcOk_rq (op : Nat) (p : Bytes) : crcOk op (rq op p) = true := by
  unfold crcOk
  exact beq_self_eq_true _

theorem crcOk_rf (op : Nat) (p : Bytes) : crcOk op (rf op p) = true := by
  unfold crcOk
  exact beq_self_eq_true _

theorem crcOk_rh (op : Nat) : crcOk op (rh op) = true := by
  unfold crcOk
  exact beq_self_eq_true _

theorem arrives_of (op : Nat) (p : Bytes) (s : State)
    (h : (answering s && lengthOk (rq op p) && !ungranted s .boot) = true) : arrives op .boot (rq op p) s = true := by
  unfold arrives
  rw [crcOk_rq, Bool.and_true]
  exact h

theorem arrives_rf (op : Nat) (p : Bytes) (s : State)
    (h : (answering s && lengthOk (rf op p) && !ungranted s .boot) = true) : arrives op .boot (rf op p) s = true := by
  unfold arrives
  rw [crcOk_rf, Bool.and_true]
  exact h

theorem arrives_rh (op : Nat) (s : State)
    (h : (answering s && lengthOk (rh op) && !ungranted s .boot) = true) : arrives op .boot (rh op) s = true := by
  unfold arrives
  rw [crcOk_rh, Bool.and_true]
  exact h

/-- The request of session 0 reaches step 10. -/
theorem meets_in (op : Nat) (p : Bytes) (s : State) (x : Sess)
    (h : ((answering s && lengthOk (rq op p) && !ungranted s .boot) && (!inRom s && opcodes.contains op && !isLoaderOp op &&
      s.sess 0 == some x && x.transport == .boot && x.eid == 0 && !x.busy && x.last == 0)) = true) :
    inSession op .boot (rq op p) s x = true := by
  simp only [Bool.and_eq_true, Bool.not_eq_true', beq_iff_eq] at h
  obtain ⟨h0, ⟨⟨⟨⟨⟨⟨h1, h2⟩, h3⟩, h4⟩, h5⟩, h6⟩, h7⟩, h8⟩ := h
  have ha := arrives_of op p s (by simpa using h0)
  have e1 : (rq op p).session = 0 := rfl
  have e2 : (rq op p).alive = 1 := rfl
  have e3 : headerOk (rq op p) = true := rfl
  have e4 : epochOk s (rq op p) = true := rfl
  have e5 : (rq op p).eid = 0 := rfl
  unfold inSession
  rw [ha, h1, h2, h3, e1, e2, e3, e4, e5, h4, h5, h6, h7, h8]
  simp

/-- The request with `SESSION` FFh reaches step 10. -/
theorem free_of (op : Nat) (p : Bytes) (s : State)
    (h : ((answering s && lengthOk (rf op p) && !ungranted s .boot) && (!inRom s && isFreeOp op &&
      ((List.range 8).filterMap (fun n => s.sess n)).isEmpty)) = true) : freeTurn op .boot (rf op p) s = true := by
  simp only [Bool.and_eq_true, Bool.not_eq_true'] at h
  obtain ⟨h0, ⟨h1, h2⟩, h3⟩ := h
  have ha := arrives_rf op p s (by simpa using h0)
  have e1 : repeatedOpen s op .boot (rf op p) = none := by
    unfold repeatedOpen
    rw [List.isEmpty_iff] at h3
    rw [h3]
    exact ite_self _
  have e2 : (rf op p).session = 255 := rfl
  have e3 : headerOk (rf op p) = true := rfl
  have e4 : epochOk s (rf op p) = true := rfl
  unfold freeTurn
  rw [ha, h1, h2, e1, e2, e3, e4]
  rfl

/-- The request is the ROM's next command. -/
theorem rom_of (op : Nat) (p : Bytes) (s : State)
    (h : ((answering s && lengthOk (rq op p) && !ungranted s .boot) && (inRom s && isRomOp op && !(romSess s .boot).waiting &&
      (romSess s .boot).last.isNone)) = true) : romTurn op .boot (rq op p) s = true := by
  simp only [Bool.and_eq_true, Bool.not_eq_true', Option.isNone_iff_eq_none] at h
  obtain ⟨h0, ⟨⟨h1, h2⟩, h3⟩, h4⟩ := h
  have ha := arrives_of op p s (by simpa using h0)
  have e1 : (rq op p).session = 0 := rfl
  have e2 : (rq op p).epoch = 0 := rfl
  have e3 : headerOk (rq op p) = true := rfl
  have e4 : epochOk s (rq op p) = true := rfl
  unfold romTurn
  rw [ha, h1, h2, h3, h4, e1, e2, e3, e4]
  rfl

/-- Session 0 has an empty stage. -/
def run2 : State := { run1 with proto := { run1.proto with stages := [(0, some [])] } }

/-- The header of a small image of one empty section, with key 0. -/
def smallHead : Bytes :=
  leBytes 4 0x4E554D4F ++ leBytes 2 1 ++ leBytes 2 512 ++ leBytes 4 1024 ++ leBytes 2 0x5120 ++ [1, 0] ++ zeros 16 ++ [4] ++ zeros 99 ++
    leBytes 4 1 ++ leBytes 4 512 ++ zeros 372

/-- The ROM in a state, with no fuse burnt but the hash of that image's key. -/
def romState (b : Boot) : State :=
  { State.reset with mgmt := { State.reset.mgmt with
      boot := b, keyHash := [leNat (sha384 (pubKey smallHead)), 0, 0, 0], keyRevoked := 0, rollback := 0 } }

/-- The payload of `LOAD_BEGIN` with that header. -/
def loadHead : Bytes := leBytes 4 1024 ++ zeros 4 ++ smallHead

/-- The ROM receives an image of `n` bytes over the boot port. -/
def rxState (n : Nat) : State :=
  { State.reset with mgmt := { State.reset.mgmt with boot := .receiving, rxTransport := 1, rxLen := n } }

/-- `TRACE_CONFIG` that turns Lantern off. -/
def traceOff : Bytes := zeros 8

/-- Ports 4 and 68 are Type 3 devices of one unit and more, 8 and 12 are USPs; hierarchy 2 has USP 8, hierarchy 5 nothing; windows 7 and 9
are defined, grotto 1 may be bound and grotto 3 is; a guard has rule 3. -/
def run3 : State :=
  { run2 with
    cfg := { run2.cfg with
      ports := [(4, { role := 2 }), (8, { role := 1 }), (12, { role := 1 }), (68, { role := 2 })]
      hiers := [(2, { live := true, usps := [8], vppbs := 4 }), (5, { live := true, usps := [24], vppbs := 1 })]
      wins := [(7, { live := true, base := 0, segs := [{ units := 1, ways := [(4, 0)], twins := [] }] }),
        (9, { live := true, assumeClean := true, base := 268435456, segs := [{ units := 1, ways := [(4, 1)], twins := [] }] })]
      grottos := [(1, { live := true, agent := 2, wins := [] }), (3, { live := true, agent := 2, wins := [(9, 0)], bound := true, vppb := 3 })]
      guards := [(8, { rules := [(3, { base := 0, end_ := 1, valid := true })] })] }
    port := { run2.port with ports := [(4, { capacity := some 8 }), (68, { capacity := some 8 })] }
    mem := { run2.mem with grottos := [(3, { st := .bound, vppb := 3 })] } }

/-- For each staged command a payload that it accepts in that state. -/
def stagedExamples : List (Nat × Bytes) :=
  [(0xC020, [16, 0, 1, 0, 6, 1, 0, 0, 1, 0, 0, 0, 0, 0, 0, 0, 255, 255, 0, 0]), (0xC030, [9, 1, 64, 0, 12, 0, 255, 255, 255, 255, 255, 255]),
    (0xC031, [5, 0, 0, 0]), (0xC032, [255, 15, 2, 1, 7, 0, 0, 0, 0, 0, 0, 0]), (0xC033, [1, 0, 2, 1, 1, 0, 0, 0])] ++
  [(0xC034, [3, 0, 0, 0]), (0xC040, [10, 0, 0, 0, 0, 1, 0, 0] ++ leBytes 8 (2 ^ 40) ++ [255, 255] ++ zeros 6 ++ leBytes 8 1 ++ [4, 0, 0, 0] ++ leBytes 4 2),
    (0xC041, [7, 0, 0, 0]), (0xC050, [8, 0, 63, 0, 31, 0, 0, 0] ++ leBytes 8 1 ++ leBytes 8 (2 ^ 52))] ++
  [(0xC051, [8, 0, 3, 0]), (0xC060, [0, 0, 4, 0, 63, 0, 0, 0, 1, 0, 64, 1, 64, 0, 0, 0]), (0xC061, [4, 0, 1, 64] ++ zeros 12 ++ leBytes 8 100000 ++ leBytes 8 1),
    (0xC062, [32, 0, 0, 0] ++ zeros 20), (0xC063, [15, 0, 0, 0] ++ leBytes 4 262143 ++ leBytes 4 262144 ++ [0, 1, 0, 0])] ++
  [(0xC070, [47, 0, 0, 1, 0, 0, 15, 15, 15] ++ zeros 7), (0xC071, [2, 31, 0, 7, 3, 255, 0, 0]), (0xC0B0, traceOff),
    (0xC0B1, [7, 3, 0, 0] ++ leBytes 4 80000 ++ zeros 128), (0xC0B3, [7, 1, 2, 0, 0, 0, 255, 1, 255, 255, 0, 0] ++ leBytes 4 16777216)]

/-- Every staged command completes somewhere. -/
theorem test_staged_examples : stagedExamples.map (·.1) = stagedForms.map (·.1) ∧
    stagedExamples.all (fun e => refusalOf (stageConds e.1 e.2 0 run3) == 0) = true := by decide +kernel

/-- A `LANE_EQ_TABLE` entry for lane 4 at rate 3. -/
def eqSample : Bytes :=
  [4, 0, 3, 0, 0, 0, 0, 0, 1, 1, 1, 0, 0, 0, 11, 40] ++ zeros 32

/-- Port 4 is an enabled DSP in L0 at rate 4 with one lane. -/
def laneRun : State :=
  { run1 with
    cfg := { run1.cfg with ports := [(4, { role := 2 })] }
    port := { run1.port with ports := [(4, { link := .l0, rate := 4, lanes := 2 })] } }

/-- The bound grotto 3 of `run3`, with a shared window. -/
def shState : State :=
  { run3 with cfg := { run3.cfg with wins := [(9, { live := true, shared := true, base := 0, segs := [{ units := 1, ways := [(4, 1)], twins := [] }] })] } }

/-- Window 9 is twinned, its primary copy is out of date, and both its devices' links are up. -/
def twState : State :=
  { run3 with
    cfg := { run3.cfg with
      wins := [(9, { live := true, twinned := true, base := 0, segs := [{ units := 1, ways := [(4, 1)], twins := [(68, 1)] }] })] }
    port := { run3.port with ports := [(4, { capacity := some 8, link := .l0 }), (68, { capacity := some 8, link := .l0 })] }
    mem := { run3.mem with wins := [(9, { exts := [(0, { lost := 1 })] })] } }

/-- One bit through an empty scrambler comes out again 39 and 58 bits later (R355, by hand from x^58 + x^39 + 1). -/
theorem test_scrambler : (scramble 0 1).1 = 1 + 2 ^ 39 + 2 ^ 58 ∧ (scramble 0 1).2 = 2 ^ 5 + 2 ^ 24 := by decide

/-- A state and operands that meet the hypotheses of every clause of `Obligations.StepOnEmptyQueueIsOneDrip`. -/
theorem test_meets_StepOnEmptyQueueIsOneDrip :
    (∃ (s : State), s.pending = []) ∧
    (∃ (s : State), s.pending = [] ∧ s.mgmt.coldRst = true) ∧
    (∃ (s : State), s.pending = [] ∧ s.mgmt.coldRst = false ∧ atRest s = true ∧ (s.drip + 1) % 2 ^ 64 % 800 ≠ 0) ∧
    (∃ (s : State), s.pending = [] ∧ s.mgmt.coldRst = false ∧ atRest s = true ∧ (s.drip + 1) % 2 ^ 64 % 800 = 0) :=
  ⟨⟨State.reset, by decide⟩,
    ⟨coldState State.reset, by decide, by decide⟩,
    ⟨State.reset, by decide, by decide, by decide, by decide⟩,
    ⟨{ State.reset with time := { State.reset.time with drip := 799 } }, by decide, by decide, by decide, by decide⟩⟩

/-- A state and operands that meet the hypotheses of every clause of `Obligations.FusesStayBurnt`. -/
theorem test_meets_FusesStayBurnt :
    (∃ (K : Nat) (R : Nat) (s : State) (t : State), burnt K R s ∧ step s = .next t) :=
  ⟨0, 0, State.reset, tick State.reset, ⟨Nat.zero_and _, Nat.zero_and _⟩, rfl⟩

/-- A state and operands that meet the hypotheses of every clause of `Obligations.QueueIsUntouchedByCommands`. -/
theorem test_meets_QueueIsUntouchedByCommands :
    (∃ (c : Instr) (s : State) (t : State), exec c s = .next t) :=
  ⟨.vidCodeValid, State.reset, { State.reset with pin := { State.reset.pin with vidValid := true } }, rfl⟩

/-- A state and operands that meet the hypotheses of every clause of `Obligations.ColdReset`. -/
theorem test_meets_ColdReset :
    (∃ (s : State), s.mgmt.coldRst = true ∧ s.pin.thermTripN = true ∧ s.time.refA.good = true) ∧
    (∃ (s : State), s.mgmt.coldRst = true ∧ s.pin.thermTripN = true ∧ s.time.refA.good = false ∧ s.time.refB.good = true) ∧
    (∃ (s : State), ((s.mgmt.coldRst = false ∨ s.pin.thermTripN = false ∨ s.time.refA.good = false ∧ s.time.refB.good = false))) ∧
    (∃ (die : Nat) (temp : Nat) (s : State), die ≤ 12 ∧ 118 ≤ temp ∧ s.pin.pwrOk = true) ∧
    (∃ (die : Nat) (temp : Nat) (s : State), ((12 < die ∨ temp < 118 ∨ s.pin.pwrOk = false))) :=
  ⟨⟨coldState State.reset, by decide, by decide, by decide⟩,
    ⟨coldState { State.reset with time := { State.reset.time with refA := { good := false }, refB := { good := true } } }, by decide, by decide, by decide, by decide⟩,
    ⟨State.reset, .inl rfl⟩,
    ⟨12, 118, State.reset, by decide, by decide, by decide⟩,
    ⟨0, 117, State.reset, .inr (.inl (by decide))⟩⟩

/-- A state and operands that meet the hypotheses of every clause of `Obligations.MgmtReset`. -/
theorem test_meets_MgmtReset :
    (∃ (s : State), s.mgmt.coldRst = false) ∧
    (∃ (s : State), s.mgmt.coldRst = true) :=
  ⟨⟨State.reset, by decide⟩,
    ⟨coldState State.reset, by decide⟩⟩

/-- A state and operands that meet the hypotheses of every clause of `Obligations.SystemReferences`. -/
theorem test_meets_SystemReferences :
    (∃ (ref : Nat) (s : State), ref < 2 ∧ (refIn s ref).good = true ∧ s.time.sel = ref ∧ s.time.holdover = false ∧ forced s = false ∧ (refIn s (1 - ref)).good = true) ∧
    (∃ (ref : Nat) (s : State), ref < 2 ∧ (refIn s ref).good = true ∧ s.time.sel = ref ∧ s.time.holdover = false ∧ ((forced s = true ∨ (refIn s (1 - ref)).good = false))) ∧
    (∃ (ref : Nat) (s : State), ref < 2 ∧ (refIn s ref).good = true ∧ ((s.time.sel ≠ ref ∨ s.time.holdover = true))) ∧
    (∃ (ref : Nat) (s : State), ref < 2 ∧ (refIn s ref).good = false) ∧
    (∃ (s : State), s.time.refA.good = true ∧ s.time.refA.goodSince + 800000000 ≤ s.now ∧ s.time.refMode = 1 ∧ ((s.time.sel = 1 ∨ s.time.holdover = true))) ∧
    (∃ (ref : Nat) (s : State), ref < 2 ∧ (refIn s ref).good = true ∧ (refIn s ref).goodSince + 800000000 ≤ s.now ∧ s.time.refMode = 2 + ref ∧ s.time.holdover = true) ∧
    (∃ (bad : Nat), bad < 2) :=
  ⟨⟨0, State.reset, by decide, by decide, by decide, by decide, by decide, by decide⟩,
    ⟨0, { State.reset with time := { State.reset.time with refMode := 2 } }, by decide, by decide, by decide, by decide, .inl (by decide)⟩,
    ⟨1, State.reset, by decide, by decide, .inl (by decide)⟩,
    ⟨0, { State.reset with time := { State.reset.time with refA := { good := false } } }, by decide, by decide⟩,
    ⟨{ State.reset with time := { State.reset.time with refMode := 1, sel := 1, elapsed := 800000000 } }, rfl, by decide, rfl, .inl rfl⟩,
    ⟨1, { State.reset with time := { State.reset.time with refMode := 3, refB := { good := true }, holdover := true, elapsed := 800000000 } }, by decide, by decide, by decide, by decide, by decide⟩,
    ⟨1, by decide⟩⟩

/-- A state and operands that meet the hypotheses of every clause of `Obligations.Beacons`. -/
theorem test_meets_Beacons :
    (∃ (s : State), s.drip % 1024 = 0) ∧
    (∃ (island : Nat) (beacon : Nat) (at64 : Nat) (crcOk : Bool) (phase : Int) (s : State), watched island = true ∧ (s.isl island).st ≠ .poweredDown ∧ beacon % 1024 = 0 ∧ beaconGood beacon at64 crcOk phase = true ∧ (s.isl island).judged ≤ beacon) ∧
    (∃ (island : Nat) (beacon : Nat) (phase : Int) (s : State), watched island = true ∧ (s.isl island).st ≠ .poweredDown ∧ beacon % 1024 = 0 ∧ 16 < phase.natAbs) ∧
    (∃ (island : Nat) (beacon : Nat) (s : State), watched island = true ∧ (s.isl island).st ≠ .poweredDown ∧ beacon % 1024 = 0 ∧ beacon + 32 ≤ s.drip ∧ (s.isl island).judged ≤ beacon) ∧
    (∃ (island : Nat) (s : State), (((s.isl island).st = .sure ∨ (s.isl island).st = .calibrating))) ∧
    (∃ (island : Nat) (s : State), (s.isl island).st ≠ .sure ∧ (s.isl island).st ≠ .calibrating) :=
  ⟨⟨State.reset, by decide⟩,
    ⟨289, 1024, 65536, true, 8, State.reset, by decide, by decide, by decide, by decide, by decide⟩,
    ⟨0, 0, -17, State.reset, by decide, by decide, by decide, by decide⟩,
    ⟨285, 0, { State.reset with time := { State.reset.time with drip := 32 } }, by decide, by decide, by decide, by decide, by decide⟩,
    ⟨0, State.reset, .inl rfl⟩,
    ⟨0, (State.reset.modIsl 0 (fun x => { x with st := .poweredDown })), by decide, by decide⟩⟩

/-- A state and operands that meet the hypotheses of every clause of `Obligations.Recalibration`. -/
theorem test_meets_Recalibration :
    (∃ (island : Nat) (s : State), firmwareUp s = true ∧ watched island = true ∧ admittedIsland island = false ∧ (s.isl island).st = .unsure ∧ 16 ≤ (s.isl island).goodRun) ∧
    (∃ (island : Nat) (s : State), watched island = true ∧ (s.isl island).st = .calibrating ∧ firmwareUp s = true ∧ calReady s island = true ∧ ((284 ≤ island ∨ island < 248 ∧ island % 31 ≠ 16 ∧ island % 31 < 27))) ∧
    (∃ (island : Nat) (s : State), watched island = true ∧ (s.isl island).st = .calibrating ∧ firmwareUp s = true ∧ calReady s island = true ∧ island < 248 ∧ island % 31 = 16) ∧
    (∃ (island : Nat) (s : State), watched island = true ∧ (s.isl island).st = .calibrating ∧ firmwareUp s = true ∧ calReady s island = true ∧ island < 248 ∧ 27 ≤ island % 31) ∧
    (∃ (island : Nat) (s : State), watched island = true ∧ (s.isl island).st = .calibrating ∧ firmwareUp s = true ∧ calReady s island = true ∧ 248 ≤ island ∧ island < 284) :=
  ⟨⟨289, (({ State.reset with mgmt := { State.reset.mgmt with boot := .running } } : State).modIsl 289 (fun x => { x with st := .unsure, goodRun := 16 })), by decide, by decide, by decide, by decide, by decide⟩,
    ⟨289, (({ State.reset with mgmt := { State.reset.mgmt with boot := .running } } : State).modIsl 289 (fun x => { x with st := .calibrating, goodRun := 16 })), by decide, by decide, by decide, by decide, .inl (by decide)⟩,
    ⟨16, (({ State.reset with mgmt := { State.reset.mgmt with boot := .running } } : State).modIsl 16 (fun x => { x with st := .calibrating, goodRun := 16 })), by decide, by decide, by decide, by decide, by decide, by decide⟩,
    ⟨27, (({ State.reset with mgmt := { State.reset.mgmt with boot := .running } } : State).modIsl 27 (fun x => { x with st := .calibrating, goodRun := 16 })), by decide, by decide, by decide, by decide, by decide, by decide⟩,
    ⟨248, (({ State.reset with mgmt := { State.reset.mgmt with boot := .running } } : State).modIsl 248 (fun x => { x with st := .calibrating, goodRun := 16 })), by decide, by decide, by decide, by decide, by decide, by decide⟩⟩

/-- A state and operands that meet the hypotheses of every clause of `Obligations.Arming`. -/
theorem test_meets_Arming :
    (∃ (arm : Nat) (island : Nat) (a : Arm) (s : State), armOf s arm = some a ∧ a.islands.contains island = true ∧ a.acked.contains island = false ∧ (s.isl island).st ≠ .calibrating ∧ (s.isl island).st ≠ .poweredDown) ∧
    (∃ (arm : Nat) (a : Arm) (s : State), armOf s arm = some a ∧ a.decided = false ∧ a.at_ ≤ s.drip + 512) ∧
    (∃ (arm : Nat) (a : Arm) (s : State), armOf s arm = some a ∧ a.decided = true ∧ launchHere s a = true ∧ inTurn s a = true) ∧
    (∃ (arm : Nat) (a : Arm) (s : State), armOf s arm = some a ∧ a.decided = true ∧ launchHere s a = false ∧ a.at_ < s.drip) ∧
    (∃ (s : State), s.time.skip = none) ∧
    (∃ (lo : Nat) (hi : Nat) (s : State), s.time.skip = some (lo, hi) ∧ s.drip = hi) ∧
    (∃ (s : State), s.proto.committedOnce = false) ∧
    (∃ (s : State), s.proto.committedOnce = true) :=
  ⟨⟨3, 0, { id := 3, at_ := 1000, kind := .timeLoad 56, islands := [0], acked := [], decided := false }, { State.reset with time := { State.reset.time with drip := 488, arms := [{ id := 3, at_ := 1000, kind := .timeLoad 56, islands := [0], acked := [], decided := false }] } }, by decide, by decide, by decide, by decide, by decide⟩,
    ⟨3, { id := 3, at_ := 1000, kind := .timeLoad 56, islands := [0], acked := [0], decided := false }, { State.reset with time := { State.reset.time with drip := 488, arms := [{ id := 3, at_ := 1000, kind := .timeLoad 56, islands := [0], acked := [0], decided := false }] } }, by decide, by decide, by decide⟩,
    ⟨3, { id := 3, at_ := 488, kind := .timeLoad 56, islands := [0], acked := [0], decided := true }, { State.reset with time := { State.reset.time with drip := 488, arms := [{ id := 3, at_ := 488, kind := .timeLoad 56, islands := [0], acked := [0], decided := true }] } }, by decide, by decide, by decide, by decide⟩,
    ⟨3, { id := 3, at_ := 487, kind := .timeLoad 56, islands := [0], acked := [0], decided := true }, { State.reset with time := { State.reset.time with drip := 488, arms := [{ id := 3, at_ := 487, kind := .timeLoad 56, islands := [0], acked := [0], decided := true }] } }, by decide, by decide, by decide, by decide⟩,
    ⟨State.reset, by decide⟩,
    ⟨0, 56, { State.reset with time := { State.reset.time with drip := 56, skip := some (0, 56) } }, by decide, by decide⟩,
    ⟨State.reset, by decide⟩,
    ⟨{ State.reset with proto := { State.reset.proto with committedOnce := true } }, by decide⟩⟩

/-- A state and operands that meet the hypotheses of every clause of `Obligations.PpsFollower`. -/
theorem test_meets_PpsFollower :
    (∃ (s : State), ((s.time.ppsRole = 2 ∨ s.time.ppsRole = 3)) ∧ s.time.load = none) ∧
    (∃ (at16 : Nat) (v : Nat) (s : State), ((s.time.ppsRole = 2 ∨ s.time.ppsRole = 3)) ∧ s.time.load = some v ∧ ((loadStep v (ppsCount s at16) < 1024 ∨ s.proto.committedOnce = true))) ∧
    (∃ (at16 : Nat) (v : Nat) (s : State), ((s.time.ppsRole = 2 ∨ s.time.ppsRole = 3)) ∧ s.time.load = some v ∧ 1024 ≤ loadStep v (ppsCount s at16) ∧ s.proto.committedOnce = false) ∧
    (∃ (s : State), ((s.time.ppsRole = 2 ∨ s.time.ppsRole = 3)) ∧ s.time.ppsMissing ≠ 2) ∧
    (∃ (s : State), ((s.time.ppsRole = 2 ∨ s.time.ppsRole = 3)) ∧ s.time.ppsMissing = 2) :=
  ⟨⟨{ State.reset with time := { State.reset.time with ppsRole := 2 } }, .inl rfl, rfl⟩,
    ⟨0, 560, { State.reset with time := { State.reset.time with ppsRole := 2, load := some 560 } }, .inl rfl, rfl, .inl (by decide)⟩,
    ⟨0, 5600, { State.reset with time := { State.reset.time with ppsRole := 2, load := some 5600 } }, .inl rfl, rfl, by decide, rfl⟩,
    ⟨{ State.reset with time := { State.reset.time with ppsRole := 2 } }, .inl rfl, by decide⟩,
    ⟨{ State.reset with time := { State.reset.time with ppsRole := 2, ppsMissing := 2 } }, .inl rfl, rfl⟩⟩

/-- A state and operands that meet the hypotheses of every clause of `Obligations.RotationSchedule`. -/
theorem test_meets_RotationSchedule :
    (∃ (c : Nat) (i : Nat), c < 4 ∧ i < 8) ∧
    (∃ (c : Nat) (d : Nat) (i : Nat), c < 4 ∧ d < 4 ∧ c ≠ d ∧ i < 8) :=
  ⟨⟨3, 7, by decide, by decide⟩,
    ⟨0, 3, 0, by decide, by decide, by decide, by decide⟩⟩

/-- A state and operands that meet the hypotheses of every clause of `Obligations.SlotAndRotationBoundaries`. -/
theorem test_meets_SlotAndRotationBoundaries :
    (∃ (g : Nat) (s : State), g < 8 ∧ s.drip % 8 = 0 ∧ (s.gal g).lastSlot ≠ some (slotNo s.drip) ∧ (s.gal g).lost = none ∧ launchWaits s = false) ∧
    (∃ (g : Nat) (s : State), g < 8 ∧ isRotation s.drip = true ∧ (s.gal g).lost = none ∧ launchWaits s = false) ∧
    (∃ (g : Nat) (c : Nat) (t : Nat) (s : State), useOf s g c = .stopping t) ∧
    (∃ (c : Nat) (n : Nat) (s : State), c < 4 ∧ 17 ≤ s.drip ∧ n = (s.drip - 9) / 8 ∧ (s.col c).slotN < n) :=
  ⟨⟨7, State.reset, by decide, by decide, by decide, by decide, by decide⟩,
    ⟨0, State.reset, by decide, by decide, by decide, by decide⟩,
    ⟨0, 0, 0, setUse State.reset 0 0 (.stopping 0), by decide⟩,
    ⟨3, 1, { State.reset with time := { State.reset.time with drip := 17 } }, by decide, by decide, by decide, by decide⟩⟩

/-- A state and operands that meet the hypotheses of every clause of `Obligations.ColumnsLeaveAndReturn`. -/
theorem test_meets_ColumnsLeaveAndReturn :
    (∃ (g : Nat) (c : Nat) (b : Nat) (s : State), g < 8 ∧ c < 4 ∧ useOf s g c = .draining b ∧ b + 112 ≤ s.now) ∧
    (∃ (c : Nat) (s : State), allOff s c = true ∧ (s.col c).st = .draining) ∧
    (∃ (c : Nat) (s : State), ((allOff s c = false ∨ (s.col c).st ≠ .draining))) ∧
    (∃ (c : Nat) (s : State), c < 4 ∧ firmwareUp s = true ∧ (s.col c).st = .probing ∧ (s.col c).cleanEnd = none ∧ (s.col c).probeStart + 3584 ≤ s.now) ∧
    (∃ (c : Nat) (t : Nat) (s : State), c < 4 ∧ firmwareUp s = true ∧ (s.col c).st = .probing ∧ (s.col c).cleanEnd = some t ∧ t + 160000 ≤ s.now) :=
  ⟨⟨7, 3, 0, setUse { State.reset with time := { State.reset.time with elapsed := 112 } } 7 3 (.draining 0), by decide, by decide, by decide, by decide⟩,
    ⟨3, (forEach (List.range 8) (State.reset.modCol 3 (fun x => { x with st := .draining })) (fun s g => setUse s g 3 .off)), by decide, by decide⟩,
    ⟨3, State.reset, .inr (by decide)⟩,
    ⟨1, (({ State.reset with mgmt := { State.reset.mgmt with boot := .running }, time := { State.reset.time with elapsed := 3584 } } : State).modCol 1 (fun x => { x with st := .probing })), by decide, by decide, by decide, by decide, by decide⟩,
    ⟨1, 0, (({ State.reset with mgmt := { State.reset.mgmt with boot := .running }, time := { State.reset.time with elapsed := 160000 } } : State).modCol 1 (fun x => { x with st := .probing, cleanEnd := some 0 })), by decide, by decide, by decide, by decide, by decide⟩⟩

/-- A state and operands that meet the hypotheses of every clause of `Obligations.CellsArriveAndAreAcknowledged`. -/
theorem test_meets_CellsArriveAndAreAcknowledged :
    (∃ (g : Nat) (c : Nat) (f : Flight) (s : State), nextFlight s g c = some f ∧ f.at24 < 24 * s.now + 24 ∧ (s.pas (4 * g + c)).galDead = true) ∧
    (∃ (g : Nat) (c : Nat) (f : Flight) (s : State), nextFlight s g c = some f ∧ f.at24 < 24 * s.now + 24 ∧ (s.pas (4 * g + c)).galDead = false ∧ f.cell.pkt.cls ≠ 7) ∧
    (∃ (g : Nat) (c : Nat) (f : Flight) (s : State), nextFlight s g c = some f ∧ f.at24 < 24 * s.now + 24 ∧ (s.pas (4 * g + c)).galDead = false ∧ f.cell.pkt.cls = 7) ∧
    (∃ (g : Nat) (c : Nat) (i : Nat) (s : State), g < 8 ∧ c < 4 ∧ i < 8 ∧ 0 < (tget {} (s.pas (4 * g + c)).ins i).unacked ∧ (tget {} (s.pas (4 * g + c)).ins i).stopped = false ∧ (tget {} (s.pas (4 * g + c)).ins i).firstAt + 32 ≤ s.now) ∧
    (∃ (g : Nat) (c : Nat) (m : Nat) (seq : Nat) (check : Nat) (n : Nat) (e : ReplayEnt) (o : StreamOut) (s : State), g < 8 ∧ c < 4 ∧ m < 8 ∧ pasAlive s (4 * g + c) = true ∧ useOf s g c ≠ .off ∧ o = tget {} (s.pas (4 * g + c)).outs m ∧ n = (seq + 1 + 65536 - o.acked) % 65536 ∧ 0 < n ∧ n ≤ (o.next + 65536 - o.acked) % 65536 ∧ (s.pas (4 * g + c)).replay.find? (fun e => e.m == m && e.num == seq % 65536) = some e ∧ e.check = check) ∧
    (∃ (g : Nat) (c : Nat) (m : Nat) (seq : Nat) (n : Nat) (o : StreamOut) (s : State), g < 8 ∧ c < 4 ∧ m < 8 ∧ pasAlive s (4 * g + c) = true ∧ useOf s g c ≠ .off ∧ o = tget {} (s.pas (4 * g + c)).outs m ∧ n = (seq + 1 + 65536 - o.acked) % 65536 ∧ ((n = 0 ∨ (o.next + 65536 - o.acked) % 65536 < n))) ∧
    (∃ (g : Nat) (c : Nat) (m : Nat) (seq : Nat) (check : Nat) (n : Nat) (e : ReplayEnt) (o : StreamOut) (s : State), g < 8 ∧ c < 4 ∧ m < 8 ∧ pasAlive s (4 * g + c) = true ∧ useOf s g c ≠ .off ∧ o = tget {} (s.pas (4 * g + c)).outs m ∧ n = (seq + 1 + 65536 - o.acked) % 65536 ∧ 0 < n ∧ n ≤ (o.next + 65536 - o.acked) % 65536 ∧ (s.pas (4 * g + c)).replay.find? (fun e => e.m == m && e.num == seq % 65536) = some e ∧ e.check ≠ check) ∧
    (∃ (g : Nat) (c : Nat) (e : ReplayEnt) (s : State), g < 8 ∧ c < 4 ∧ useOf s g c ≠ .off ∧ e ∈ (s.pas (4 * g + c)).replay ∧ e.at24 + 256 * 24 ≤ 24 * s.now) ∧
    (∃ (g : Nat) (c : Nat) (s : State), g < 8 ∧ c < 4 ∧ (s.gal g).lost = none) ∧
    (∃ (g : Nat) (c : Nat) (cls : Nat) (s : State), g < 8 ∧ c < 4 ∧ (s.gal g).lost = none ∧ nextClass s g (4 * g + c) = some cls) ∧
    (∃ (g : Nat) (c : Nat) (s : State), g < 8 ∧ c < 4 ∧ (s.gal g).lost = none ∧ nextClass s g (4 * g + c) = none) ∧
    (∃ (p : Nat) (cls : Nat) (e : RxCell) (s : State), classHead (s.pas p) cls = some e) :=
  ⟨⟨0, 0, { i := 1, c := 0, m := 0, slot := 0, at24 := 0, cell := { pkt := { cls := 0, srcGal := 1, dstGal := 0, kind := .probe } } }, (({ State.reset with core := { State.reset.core with flights := [{ i := 1, c := 0, m := 0, slot := 0, at24 := 0, cell := { pkt := { cls := 0, srcGal := 1, dstGal := 0, kind := .probe } } }] } }) : State).modPas 0 (fun x => { x with galDead := true }), by decide, by decide, by decide⟩,
    ⟨0, 0, { i := 1, c := 0, m := 0, slot := 0, at24 := 0, cell := { pkt := { cls := 0, srcGal := 1, dstGal := 0, kind := .probe } } }, { State.reset with core := { State.reset.core with flights := [{ i := 1, c := 0, m := 0, slot := 0, at24 := 0, cell := { pkt := { cls := 0, srcGal := 1, dstGal := 0, kind := .probe } } }] } }, rfl, by decide, rfl, by decide⟩,
    ⟨0, 0, { i := 1, c := 0, m := 0, slot := 0, at24 := 0, cell := { pkt := { cls := 7, srcGal := 1, dstGal := 0, kind := .probe } } }, { State.reset with core := { State.reset.core with flights := [{ i := 1, c := 0, m := 0, slot := 0, at24 := 0, cell := { pkt := { cls := 7, srcGal := 1, dstGal := 0, kind := .probe } } }] } }, rfl, by decide, rfl, rfl⟩,
    ⟨0, 0, 1, ({ State.reset with time := { State.reset.time with elapsed := 32 } } : State).modPas 0 (fun x => { x with ins := tput {} x.ins 1 { unacked := 1 } }), by decide, by decide, by decide, by decide, by decide, by decide⟩,
    ⟨0, 0, 1, 0, 0, 1, { m := 1, num := 0, check := 0, at24 := 0, hop2 := false, cell := { pkt := { cls := 0, srcGal := 0, dstGal := 1, kind := .probe } } }, { next := 1 }, State.reset.modPas 0 (fun x => { x with replay := [{ m := 1, num := 0, check := 0, at24 := 0, hop2 := false, cell := { pkt := { cls := 0, srcGal := 0, dstGal := 1, kind := .probe } } }], outs := tput {} x.outs 1 { next := 1 } }), by decide, by decide, by decide, by decide, by decide, by decide, by decide, by decide, by decide, by decide, by decide⟩,
    ⟨0, 0, 1, 65535, 0, {}, State.reset, by decide, by decide, by decide, by decide, by decide, by decide, by decide, .inl rfl⟩,
    ⟨0, 0, 1, 0, 9, 1, { m := 1, num := 0, check := 0, at24 := 0, hop2 := false, cell := { pkt := { cls := 0, srcGal := 0, dstGal := 1, kind := .probe } } }, { next := 1 }, State.reset.modPas 0 (fun x => { x with replay := [{ m := 1, num := 0, check := 0, at24 := 0, hop2 := false, cell := { pkt := { cls := 0, srcGal := 0, dstGal := 1, kind := .probe } } }], outs := tput {} x.outs 1 { next := 1 } }), by decide, by decide, by decide, by decide, by decide, by decide, by decide, by decide, by decide, by decide, by decide⟩,
    ⟨0, 0, { m := 1, num := 0, check := 0, at24 := 0, hop2 := false, cell := { pkt := { cls := 0, srcGal := 0, dstGal := 1, kind := .probe } } }, ({ State.reset with time := { State.reset.time with elapsed := 256 } } : State).modPas 0 (fun x => { x with replay := [{ m := 1, num := 0, check := 0, at24 := 0, hop2 := false, cell := { pkt := { cls := 0, srcGal := 0, dstGal := 1, kind := .probe } } }] }), by decide, by decide, by decide, by decide, by decide⟩,
    ⟨7, 3, State.reset, by decide, by decide, by decide⟩,
    ⟨0, 0, 0, State.reset.modPas 0 (fun x => { x with rx := [{ cell := { pkt := { cls := 0, srcGal := 1, dstGal := 0, kind := .probe } }, reserve := true }] }), by decide, by decide, by decide, by decide +kernel⟩,
    ⟨7, 3, State.reset, by decide, by decide, by decide, by decide⟩,
    ⟨0, 0, { cell := { pkt := { cls := 0, srcGal := 1, dstGal := 0, kind := .probe } }, reserve := true }, State.reset.modPas 0 (fun x => { x with rx := [{ cell := { pkt := { cls := 0, srcGal := 1, dstGal := 0, kind := .probe } }, reserve := true }] }), by decide⟩⟩

/-- A state and operands that meet the hypotheses of every clause of `Obligations.SidebandWords`. -/
theorem test_meets_SidebandWords :
    (∃ (g : Nat) (c : Nat) (m : Nat) (s : State), g < 8 ∧ c < 4 ∧ m < 8 ∧ pasAlive s (4 * g + c) = true) ∧
    (∃ (g : Nat) (c : Nat) (m : Nat) (s : State), g < 8 ∧ c < 4 ∧ m < 8 ∧ pasAlive s (4 * g + c) = true) ∧
    (∃ (g : Nat) (c : Nat) (m : Nat) (cls : Nat) (count : Nat) (s : State), g < 8 ∧ c < 4 ∧ m < 8 ∧ cls < 7 ∧ count ≤ 64 ∧ pasAlive s (4 * g + c) = true) ∧
    (∃ (g : Nat) (c : Nat) (cls : Nat) (s : State), g < 8 ∧ c < 4 ∧ cls < 7 ∧ pasAlive s (4 * g + c) = true ∧ 0 < tget 0 (s.pas (4 * g + c)).heldSince cls ∧ tget 0 (s.pas (4 * g + c)).heldSince cls + 27 ≤ s.now + 1 ∧ 0 < grantRoom (s.pas (4 * g + c)) cls) ∧
    (∃ (g : Nat) (c : Nat), g < 8 ∧ c < 4) ∧
    (∃ (g : Nat) (p : Nat) (s : State), g < 8 ∧ p < 32 ∧ (((s.pas p).st = .dead ∨ (s.pas p).st = .testing))) ∧
    (∃ (g : Nat) (c : Nat) (code : Nat) (s : State), g < 8 ∧ c < 4 ∧ ((code = 2 ∧ (s.col c).untrusted = 2 ∨ code = 3 ∧ (s.col c).untrusted = 3 ∨ code = 4 ∧ (s.col c).untrusted = 5))) ∧
    (∃ (g : Nat) (k : Nat) (s : State), g < 8 ∧ k < 8 ∧ s.unsure (coreIsl k) = true) ∧
    (∃ (g : Nat) (k : Nat) (s : State), g < 8 ∧ k < 8 ∧ (s.gal k).supplyBad = true) ∧
    (∃ (g : Nat) (k : Nat) (s : State), g < 8 ∧ k < 8 ∧ s.unsure (coreIsl k) = false) :=
  ⟨⟨7, 3, 7, State.reset, by decide, by decide, by decide, by decide⟩,
    ⟨7, 3, 7, State.reset, by decide, by decide, by decide, by decide⟩,
    ⟨7, 3, 7, 6, 64, State.reset, by decide, by decide, by decide, by decide, by decide, by decide⟩,
    ⟨0, 0, 0, ({ State.reset with time := { State.reset.time with elapsed := 27 } } : State).modPas 0 (fun x => { x with heldSince := tput 0 x.heldSince 0 1 }), by decide, by decide, by decide, by decide, by decide, by decide, by decide⟩,
    ⟨0, 0, by decide, by decide⟩,
    ⟨0, 31, State.reset.modPas 31 (fun x => { x with st := .dead }), by decide, by decide, .inl (by decide)⟩,
    ⟨0, 3, 3, State.reset.modCol 3 (fun x => { x with untrusted := 3 }), by decide, by decide, .inr (.inl (by decide))⟩,
    ⟨0, 7, State.reset.modIsl (coreIsl 7) (fun x => { x with st := .unsure, unsure := true }), by decide, by decide, by decide⟩,
    ⟨0, 7, State.reset.modGal 7 (fun x => { x with supplyBad := true }), by decide, by decide, by decide⟩,
    ⟨0, 7, State.reset, by decide, by decide, by decide⟩⟩

/-- A state and operands that meet the hypotheses of every clause of `Obligations.PassagesDie`. -/
theorem test_meets_PassagesDie :
    (∃ (p : Nat) (endp : Nat) (cause : Nat), p < 32 ∧ endp < 2 ∧ (cause = 1 ∨ cause = 2 ∨ cause = 4 ∨ cause = 5)) ∧
    (∃ (p : Nat) (endp : Nat), p < 32 ∧ endp < 2) ∧
    (∃ (p : Nat) (b : Nat) (s : State), p < 32 ∧ (s.pas p).st = .draining b ∧ b + 112 ≤ s.now) ∧
    (∃ (p : Nat) (endp : Nat) (s : State), endp < 3 ∧ (s.pas p).st = .alive ∧ (s.pas p).testAsked = none) ∧
    (∃ (p : Nat) (s : State), ((s.pas p).st = .dead ∨ (s.pas p).st = .testing ∨ (s.pas p).st = .admitting)) ∧
    (∃ (p : Nat) (endp : Nat) (s : State), p < 32 ∧ endp < 2 ∧ ((s.pas p).st = .dead ∨ (s.pas p).st = .testing)) :=
  ⟨⟨31, 1, 4, by decide, by decide, .inr (.inr (.inl rfl))⟩,
    ⟨0, 0, by decide, by decide⟩,
    ⟨5, 0, { State.reset with time := { State.reset.time with elapsed := 112 }, core := { State.reset.core with pas := [(5, { st := .draining 0 })] } }, by decide, by decide, by decide⟩,
    ⟨5, 0, State.reset, by decide, by decide, by decide⟩,
    ⟨5, { State.reset with core := { State.reset.core with pas := [(5, { st := .dead })] } }, .inl rfl⟩,
    ⟨5, 1, { State.reset with core := { State.reset.core with pas := [(5, { st := .dead })] } }, by decide, by decide, .inl rfl⟩⟩

/-- A state and operands that meet the hypotheses of every clause of `Obligations.PassageTestAndAdmissionEnd`. -/
theorem test_meets_PassageTestAndAdmissionEnd :
    (∃ (p : Nat) (s : State), p < 32 ∧ (s.pas p).st = .testing ∧ (s.pas p).op.blocks * 65536 * 66 ≤ (s.now - (s.pas p).op.started) * 125) ∧
    (∃ (p : Nat) (s : State), p < 32 ∧ firmwareUp s = true ∧ (s.pas p).st = .admitting ∧ (s.pas p).op.forColumn = true) ∧
    (∃ (p : Nat) (s : State), p < 32 ∧ firmwareUp s = true ∧ (s.pas p).st = .admitting ∧ (s.pas p).op.forColumn = false) ∧
    (∃ (p : Nat) (s : State), p < 32 ∧ firmwareUp s = true ∧ (s.pas p).st ≠ .admitting ∧ (s.pas p).op.returned = true) :=
  ⟨⟨5, { State.reset with core := { State.reset.core with pas := [(5, { st := .testing })] } }, by decide, by decide, by decide⟩,
    ⟨5, { State.reset with mgmt := { State.reset.mgmt with boot := .running }, core := { State.reset.core with pas := [(5, { st := .admitting, op := { forColumn := true } })] } }, by decide, by decide, by decide, by decide⟩,
    ⟨5, { State.reset with mgmt := { State.reset.mgmt with boot := .running }, core := { State.reset.core with pas := [(5, { st := .admitting, op := {  } })] } }, by decide, by decide, by decide, by decide⟩,
    ⟨5, { State.reset with mgmt := { State.reset.mgmt with boot := .running }, core := { State.reset.core with pas := [(5, { st := .alive, op := { returned := true } })] } }, by decide, by decide, by decide, by decide⟩⟩

/-- A state and operands that meet the hypotheses of every clause of `Obligations.ReorderHoles`. -/
theorem test_meets_ReorderHoles :
    (∃ (g : Nat) (srcGal : Nat) (srcPort : Nat) (at_ : Nat) (drip : Nat) (s : State), g < 8 ∧ srcGal < 8 ∧ srcPort < 64 ∧ (tget {} (s.gal g).flows (flowKey srcGal srcPort 6)).hole = some (drip, at_) ∧ at_ + 1600 ≤ s.now) ∧
    (∃ (g : Nat) (srcGal : Nat) (srcPort : Nat) (cls : Nat) (at_ : Nat) (drip : Nat) (fl : Flow) (s : State), g < 8 ∧ srcGal < 8 ∧ srcPort < 64 ∧ cls < 6 ∧ fl = tget {} (s.gal g).flows (flowKey srcGal srcPort cls) ∧ fl.hole = some (drip, at_) ∧ at_ + 1600 ≤ s.now) ∧
    (∃ (g : Nat) (srcGal : Nat) (srcPort : Nat) (cls : Nat) (at_ : Nat) (drip : Nat) (s : State), g < 8 ∧ srcGal < 8 ∧ srcPort < 64 ∧ cls < 6 ∧ (tget {} (s.gal g).flows (flowKey srcGal srcPort cls)).hole = some (drip, at_) ∧ at_ + 1600 ≤ s.now ∧ lostLongAgo s = true) :=
  ⟨⟨2, 1, 0, 0, 0, { State.reset with time := { State.reset.time with elapsed := 16000 }, core := { State.reset.core with gals := [(2, { flows := [(flowKey 1 0 6, { hole := some (0, 0) })] }), (1, { lost := some 0 })] } }, by decide, by decide, by decide, by decide, by decide⟩,
    ⟨2, 1, 0, 0, 0, 0, { hole := some (0, 0) }, { State.reset with time := { State.reset.time with elapsed := 16000 }, core := { State.reset.core with gals := [(2, { flows := [(flowKey 1 0 0, { hole := some (0, 0) })] }), (1, { lost := some 0 })] } }, by decide, by decide, by decide, by decide, by decide, by decide, by decide⟩,
    ⟨2, 1, 0, 0, 0, 0, { State.reset with time := { State.reset.time with elapsed := 16000 }, core := { State.reset.core with gals := [(2, { flows := [(flowKey 1 0 0, { hole := some (0, 0) })] }), (1, { lost := some 0 })] } }, by decide, by decide, by decide, by decide, by decide, by decide, by decide⟩⟩

/-- A state and operands that meet the hypotheses of every clause of `Obligations.GalleryLossAndMonitors`. -/
theorem test_meets_GalleryLossAndMonitors :
    (∃ (g : Nat) (s : State), g < 8 ∧ (s.gal g).lost = none ∧ lostDue s g = true) ∧
    (∃ (g : Nat) (s : State), g < 8 ∧ ((s.gal g).lost.isSome = true ∨ lostDue s g = false)) ∧
    (∃ (d : Nat) (v : Nat) (s : State), 1050 ≤ v ∧ bitOf s.pin.hot d = false) ∧
    (∃ (d : Nat) (v : Nat) (s : State), v ≤ 1000 ∧ bitOf s.pin.hot d = true) ∧
    (∃ (v : Nat), 1000 < v ∧ v < 1050) ∧
    (∃ (i : Nat) (v : Nat) (s : State), (railRange i).1 ≤ v ∧ v ≤ (railRange i).2 ∧ bitOf s.pin.railBad i = true) :=
  ⟨⟨6, { State.reset with core := { State.reset.core with gals := [(6, { supplyBad := true }), (0, { peerSupply := 64 })] } }, by decide, by decide, by decide⟩,
    ⟨0, State.reset, by decide, .inr (by decide)⟩,
    ⟨12, 1050, State.reset, by decide, by decide⟩,
    ⟨0, 1000, { State.reset with pin := { State.reset.pin with hot := 1 } }, by decide, by decide⟩,
    ⟨1049, by decide, by decide⟩,
    ⟨8, 7275, { State.reset with pin := { State.reset.pin with railBad := 256 } }, by decide, by decide, by decide⟩⟩

/-- A state and operands that meet the hypotheses of every clause of `Obligations.DirectoryKeysSplit`. -/
theorem test_meets_DirectoryKeysSplit :
    (∃ (k : Nat) (j : Nat), k < 2 ^ 45 ∧ j < 2 ^ 45 ∧ keySlice k = keySlice j ∧ keySet k = keySet j ∧ keyTag k = keyTag j) :=
  ⟨0, 0, by decide, by decide, by decide, by decide, by decide⟩

/-- A state and operands that meet the hypotheses of every clause of `Obligations.SliceLookups`. -/
theorem test_meets_SliceLookups :
    (∃ (g : Nat) (sl : Nat) (r : SliceReq) (s : State), mayLook s g sl = true ∧ retryTurn (s.slice g sl) = false ∧ nextIntake (s.slice g sl) = some r ∧ r.kind = .rdShared) ∧
    (∃ (g : Nat) (sl : Nat) (r : SliceReq) (s : State), mayLook s g sl = true ∧ retryTurn (s.slice g sl) = false ∧ nextIntake (s.slice g sl) = some r ∧ r.kind = .rdAny) ∧
    (∃ (g : Nat) (sl : Nat) (r : SliceReq) (s : State), mayLook s g sl = true ∧ retryTurn (s.slice g sl) = false ∧ nextIntake (s.slice g sl) = some r ∧ r.kind = .rdOwn) ∧
    (∃ (g : Nat) (sl : Nat) (r : SliceReq) (s : State), mayLook s g sl = true ∧ retryTurn (s.slice g sl) = false ∧ nextIntake (s.slice g sl) = some r ∧ r.kind = .invOwn) ∧
    (∃ (g : Nat) (sl : Nat) (r : SliceReq) (s : State), mayLook s g sl = true ∧ retryTurn (s.slice g sl) = false ∧ nextIntake (s.slice g sl) = some r ∧ r.kind = .rdCur) ∧
    (∃ (g : Nat) (sl : Nat) (r : SliceReq) (s : State), mayLook s g sl = true ∧ retryTurn (s.slice g sl) = false ∧ nextIntake (s.slice g sl) = some r ∧ r.kind = .write) ∧
    (∃ (g : Nat) (sl : Nat) (r : SliceReq) (s : State), mayLook s g sl = true ∧ retryTurn (s.slice g sl) = false ∧ nextIntake (s.slice g sl) = some r ∧ r.kind = .evict) ∧
    (∃ (k : ReqKind) (g : Nat) (sl : Nat) (s : State), ((∀ r, nextIntake (s.slice g sl) = some r → r.kind ≠ k))) ∧
    (∃ (g : Nat) (sl : Nat) (e : RetryEnt) (s : State), mayLook s g sl = true ∧ retryTurn (s.slice g sl) = true ∧ nextRetry (s.slice g sl) = some e) :=
  ⟨⟨0, 0, { kind := .rdShared, agent := 3 }, { State.reset with dir := { State.reset.dir with slices := [(0, { mode := .full, intake := [{ kind := .rdShared, agent := 3 }] })], fences := [] } }, by decide, by decide, by decide, by decide⟩,
    ⟨0, 0, { kind := .rdAny, agent := 3 }, { State.reset with dir := { State.reset.dir with slices := [(0, { mode := .full, intake := [{ kind := .rdAny, agent := 3 }] })], fences := [] } }, by decide, by decide, by decide, by decide⟩,
    ⟨0, 0, { kind := .rdOwn, agent := 3 }, { State.reset with dir := { State.reset.dir with slices := [(0, { mode := .full, intake := [{ kind := .rdOwn, agent := 3 }] })], fences := [] } }, by decide, by decide, by decide, by decide⟩,
    ⟨0, 0, { kind := .invOwn, agent := 3 }, { State.reset with dir := { State.reset.dir with slices := [(0, { mode := .full, intake := [{ kind := .invOwn, agent := 3 }] })], fences := [] } }, by decide, by decide, by decide, by decide⟩,
    ⟨0, 0, { kind := .rdCur, agent := 3 }, { State.reset with dir := { State.reset.dir with slices := [(0, { mode := .full, intake := [{ kind := .rdCur, agent := 3 }] })], fences := [] } }, by decide, by decide, by decide, by decide⟩,
    ⟨0, 0, { kind := .write, agent := 3 }, { State.reset with dir := { State.reset.dir with slices := [(0, { mode := .full, intake := [{ kind := .write, agent := 3 }] })], fences := [] } }, by decide, by decide, by decide, by decide⟩,
    ⟨0, 0, { kind := .evict, agent := 3 }, { State.reset with dir := { State.reset.dir with slices := [(0, { mode := .full, intake := [{ kind := .evict, agent := 3 }] })], fences := [] } }, by decide, by decide, by decide, by decide⟩,
    ⟨.rdAny, 0, 0, State.reset, fun _ h => nomatch ((by decide : nextIntake (State.reset.slice 0 0) = none).symm.trans h)⟩,
    ⟨0, 0, { req := { agent := 3 }, reserved := false, onSet := false, due := true }, { State.reset with dir := { State.reset.dir with slices := [(0, { mode := .full, retry := [{ req := { agent := 3 }, reserved := false, onSet := false, due := true }] })] } }, by decide, by decide, by decide⟩⟩

/-- A state and operands that meet the hypotheses of every clause of `Obligations.DirectoryTable`. -/
theorem test_meets_DirectoryTable :
    (∃ (e : Entry), e.st = .i ∧ e.stash = false) ∧
    (∃ (e : Entry) (r : SliceReq), e.st = .i ∧ e.stash = false ∧ r.kind = .rdShared) ∧
    (∃ (e : Entry) (r : SliceReq), e.st = .i ∧ e.stash = false ∧ (r.kind = .rdAny ∨ r.kind = .rdOwn)) ∧
    (∃ (e : Entry) (r : SliceReq), (e.st = .i ∨ e.st = .s ∨ e.st = .o ∨ isOwned e = true ∧ e.owner ≠ r.agent ∨ isOwned e = true ∧ e.owner = r.agent) ∧ r.kind = .invOwn) ∧
    (∃ (e : Entry) (r : SliceReq), e.st = .i ∧ e.stash = false ∧ r.kind = .rdCur) ∧
    (∃ (e : Entry) (r : SliceReq), e.st = .i ∧ e.stash = false ∧ r.kind = .write) ∧
    (∃ (e : Entry) (r : SliceReq), (e.st = .s ∨ e.st = .o) ∧ (r.kind = .rdShared ∨ r.kind = .rdAny)) ∧
    (∃ (e : Entry) (r : SliceReq), (e.st = .s ∨ e.st = .o) ∧ (r.kind = .rdOwn ∨ r.kind = .invOwn ∨ r.kind = .write)) ∧
    (∃ (e : Entry) (r : SliceReq), (e.st = .s ∨ e.st = .o) ∧ r.kind = .rdOwn) ∧
    (∃ (e : Entry) (r : SliceReq), (e.st = .s ∨ e.st = .o) ∧ r.kind = .rdCur) ∧
    (∃ (e : Entry) (r : SliceReq), (e.st = .s ∧ e.stash = false ∨ e.st = .o ∧ e.stash = true) ∧ r.kind = .write) ∧
    (∃ (e : Entry) (r : SliceReq), isOwned e = true ∧ e.owner ≠ r.agent ∧ (r.kind = .rdShared ∨ r.kind = .rdAny)) ∧
    (∃ (e : Entry) (r : SliceReq), isOwned e = true ∧ e.owner ≠ r.agent ∧ (r.kind = .rdOwn ∨ r.kind = .invOwn ∨ r.kind = .write)) ∧
    (∃ (e : Entry) (r : SliceReq), isOwned e = true ∧ e.owner ≠ r.agent ∧ r.kind = .rdOwn) ∧
    (∃ (e : Entry) (r : SliceReq), isOwned e = true ∧ e.owner ≠ r.agent ∧ r.kind = .rdCur) ∧
    (∃ (e : Entry) (r : SliceReq), isOwned e = true ∧ e.owner = r.agent) ∧
    (∃ (e : Entry) (r : SliceReq), isOwned e = true ∧ e.owner = r.agent ∧ r.kind = .write) ∧
    (∃ (e : Entry) (r : SliceReq), isOwned e = true ∧ e.owner = r.agent ∧ (r.kind = .rdAny ∨ r.kind = .rdOwn)) ∧
    (∃ (e : Entry) (r : SliceReq), isOwned e = true ∧ e.owner = r.agent ∧ r.kind = .rdCur) ∧
    (∃ (e : Entry) (q : Nat), bitOf e.sharers q = false) :=
  ⟨⟨{ way := 0, st := .i }, by decide, by decide⟩,
    ⟨{ way := 0, st := .i }, { kind := .rdShared, agent := 7 }, by decide, by decide, by decide⟩,
    ⟨{ way := 0, st := .i }, { kind := .rdOwn, agent := 7 }, rfl, rfl, .inr rfl⟩,
    ⟨{ way := 0, st := .s }, { kind := .invOwn, agent := 7 }, .inr (.inl rfl), rfl⟩,
    ⟨{ way := 0, st := .i }, { kind := .rdCur, agent := 7 }, by decide, by decide, by decide⟩,
    ⟨{ way := 0, st := .i }, { kind := .write, agent := 7 }, by decide, by decide, by decide⟩,
    ⟨{ way := 0, st := .s, sharers := 1 }, { kind := .rdAny, agent := 7 }, .inl rfl, .inr rfl⟩,
    ⟨{ way := 0, st := .s, sharers := 1 }, { kind := .rdOwn, agent := 7 }, .inl rfl, .inl rfl⟩,
    ⟨{ way := 0, st := .s, sharers := 1 }, { kind := .rdOwn, agent := 7 }, .inl rfl, rfl⟩,
    ⟨{ way := 0, st := .o, stash := true }, { kind := .rdCur, agent := 7 }, .inr rfl, rfl⟩,
    ⟨{ way := 0, st := .o, stash := true }, { kind := .write, agent := 7 }, .inr ⟨rfl, rfl⟩, rfl⟩,
    ⟨{ way := 0, st := .m, owner := 2 }, { kind := .rdShared, agent := 7 }, rfl, by decide, .inl rfl⟩,
    ⟨{ way := 0, st := .e, owner := 2 }, { kind := .rdOwn, agent := 7 }, rfl, by decide, .inl rfl⟩,
    ⟨{ way := 0, st := .e, owner := 2 }, { kind := .rdOwn, agent := 7 }, by decide, by decide, by decide⟩,
    ⟨{ way := 0, st := .e, owner := 2 }, { kind := .rdCur, agent := 7 }, by decide, by decide, by decide⟩,
    ⟨{ way := 0, st := .e, owner := 7 }, { kind := .rdCur, agent := 7 }, by decide, by decide⟩,
    ⟨{ way := 0, st := .m, owner := 7 }, { kind := .write, agent := 7 }, by decide, by decide, by decide⟩,
    ⟨{ way := 0, st := .m, owner := 7 }, { kind := .rdAny, agent := 7 }, rfl, rfl, .inl rfl⟩,
    ⟨{ way := 0, st := .m, owner := 7 }, { kind := .rdCur, agent := 7 }, by decide, by decide, by decide⟩,
    ⟨{ way := 0, st := .s, sharers := 15 }, 4, by decide⟩⟩

/-- A state and operands that meet the hypotheses of every clause of `Obligations.SnoopAnswers`. -/
theorem test_meets_SnoopAnswers :
    (∃ (g : Nat) (sl : Nat) (agent : Nat) (key : Nat) (rsp : BiRsp) (s : State) (u : State), g < 8 ∧ sl < 9 ∧ (s.slice g sl).answers.contains { agent := agent, key := key, rsp := some rsp } = true ∧ u = takeAnswer s g sl { agent := agent, key := key, rsp := some rsp } ∧ snoopOut u g sl key agent = true) ∧
    (∃ (g : Nat) (sl : Nat) (agent : Nat) (key : Nat) (rsp : BiRsp) (s : State) (u : State), g < 8 ∧ sl < 9 ∧ (s.slice g sl).answers.contains { agent := agent, key := key, rsp := some rsp } = true ∧ u = takeAnswer s g sl { agent := agent, key := key, rsp := some rsp } ∧ snoopOut u g sl key agent = false) ∧
    (∃ (g : Nat) (sl : Nat) (agent : Nat) (key : Nat) (rsp : BiRsp) (s : State), (s.slice g sl).answers.contains { agent := agent, key := key, rsp := some rsp } = false) ∧
    (∃ (g : Nat) (sl : Nat) (agent : Nat) (key : Nat) (s : State) (u : State), g < 8 ∧ sl < 9 ∧ (s.slice g sl).answers.contains { agent := agent, key := key, rsp := none } = true ∧ onPath s g sl key agent = false ∧ u = takeAnswer s g sl { agent := agent, key := key, rsp := none } ∧ snoopOut u g sl key agent = false) ∧
    (∃ (g : Nat) (sl : Nat) (agent : Nat) (key : Nat) (s : State) (u : State), g < 8 ∧ sl < 9 ∧ (s.slice g sl).answers.contains { agent := agent, key := key, rsp := none } = true ∧ onPath s g sl key agent = false ∧ u = takeAnswer s g sl { agent := agent, key := key, rsp := none } ∧ snoopOut u g sl key agent = true) ∧
    (∃ (g : Nat) (sl : Nat) (agent : Nat) (key : Nat) (s : State), ((s.slice g sl).answers.contains { agent := agent, key := key, rsp := none } = false ∨ onPath s g sl key agent = true)) ∧
    (∃ (g : Nat) (sl : Nat) (r : SliceReq) (rs : List SliceReq) (s : State), (s.slice g sl).snoopPath = r :: rs) :=
  ⟨⟨0, 0, 5, 0, .i, { State.reset with dir := { State.reset.dir with full := [(0, [{ way := 0, key := 0, st := .m, owner := 5, txn := some { kind := .own, req := some { agent := 9 }, snoops := [{ agent := 5, kind := .inv, sentAt := 0, sentDrip := 0, limit := 800 }] } }])], slices := [(0, { mode := .full, answers := [{ agent := 5, key := 0, rsp := some .i }] })] } }, _, by decide, by decide, by decide, rfl, by decide⟩,
    ⟨0, 0, 5, 0, .i, { State.reset with dir := { State.reset.dir with full := [(0, [{ way := 0, key := 9, st := .m, owner := 5, txn := some { kind := .own, req := some { agent := 9 }, snoops := [{ agent := 5, kind := .inv, sentAt := 0, sentDrip := 0, limit := 800 }] } }])], slices := [(0, { mode := .full, answers := [{ agent := 5, key := 0, rsp := some .i }] })] } }, _, by decide, by decide, by decide, rfl, by decide⟩,
    ⟨7, 8, 5, 0, .i, State.reset, by decide⟩,
    ⟨0, 0, 5, 0, { State.reset with dir := { State.reset.dir with full := [(0, [{ way := 0, key := 9, st := .m, owner := 5, txn := some { kind := .own, req := some { agent := 9 }, snoops := [{ agent := 5, kind := .inv, sentAt := 0, sentDrip := 0, limit := 800 }] } }])], slices := [(0, { mode := .full, answers := [{ agent := 5, key := 0, rsp := none }] })] } }, _, by decide, by decide, by decide, by decide, rfl, by decide⟩,
    ⟨0, 0, 5, 0, { State.reset with dir := { State.reset.dir with full := [(0, [{ way := 0, key := 0, st := .m, owner := 5, txn := some { kind := .own, req := some { agent := 9 }, snoops := [{ agent := 5, kind := .inv, sentAt := 0, sentDrip := 0, limit := 800 }] } }])], slices := [(0, { mode := .full, answers := [{ agent := 5, key := 0, rsp := none }] })] } }, _, by decide, by decide, by decide, by decide, rfl, by decide⟩,
    ⟨7, 8, 5, 0, State.reset, .inl rfl⟩,
    ⟨0, 0, { kind := .write, agent := 5 }, [], { State.reset with dir := { State.reset.dir with full := [(0, [{ way := 0, key := 0, st := .m, owner := 5, txn := some { kind := .own, req := some { agent := 9 }, snoops := [{ agent := 5, kind := .inv, sentAt := 0, sentDrip := 0, limit := 800 }] } }])], slices := [(0, { mode := .full, snoopPath := [{ kind := .write, agent := 5 }] })] } }, by decide⟩⟩

/-- A state and operands that meet the hypotheses of every clause of `Obligations.SnoopTimersReportsAndFences`. -/
theorem test_meets_SnoopTimersReportsAndFences :
    (∃ (g : Nat) (sl : Nat) (s : State), g < 8 ∧ sl < 9 ∧ s.drip % 1024 = 0) ∧
    (∃ (g : Nat) (sl : Nat) (k : Nat) (n : Snoop) (s : State), snoopOut s g sl k n.agent = true ∧ ((loseSnoop s g sl k n.agent).1.fence n.agent).on = true) ∧
    (∃ (g : Nat) (sl : Nat) (k : Nat) (n : Snoop) (s : State), snoopOut s g sl k n.agent = true ∧ ((loseSnoop s g sl k n.agent).1.fence n.agent).on = false) ∧
    (∃ (g : Nat) (sl : Nat) (agent : Nat) (key : Nat) (rep : Report) (s : State), rep = { g := g, sl := sl, agent := agent, key := key } ∧ s.dir.reports.contains rep = true) ∧
    (∃ (g : Nat) (sl : Nat) (agent : Nat) (set : Nat) (s : State), (s.fence agent).on = true ∧ (s.fence agent).sweeping = true ∧ (activeSlices s).contains (g, sl) = true ∧ sweepMay (tget 0 (s.fence agent).sweep (sweepKey s g sl)) set (sweepHits s g sl (names agent)) = true) ∧
    (∃ (agent : Nat) (s : State), (s.fence agent).on = true ∧ (s.fence agent).sweeping = true ∧ ((activeSlices s).all (fun p =>
    sweepDone (tget 0 (s.fence agent).sweep (sweepKey s p.1 p.2)) (sweepHits s p.1 p.2 (names agent)) &&
      !(sweptEntries s p.1 p.2).any (fun e => e.txn.any (fun t => t.late.contains agent)))) = true) :=
  ⟨⟨0, 0, { State.reset with time := { State.reset.time with drip := 1024, elapsed := 1024 } }, by decide, by decide, by decide⟩,
    ⟨0, 0, 0, { agent := 5, kind := .inv, sentAt := 0, sentDrip := 0, limit := 800 }, { State.reset with dir := { State.reset.dir with full := [(0, [{ way := 0, key := 0, st := .m, owner := 5, txn := some { kind := .own, req := some { agent := 9 }, snoops := [{ agent := 5, kind := .inv, sentAt := 0, sentDrip := 0, limit := 800 }] } }])], slices := [(0, { mode := .full })], fences := [(5, { on := true })] } }, by decide, by decide⟩,
    ⟨0, 0, 0, { agent := 5, kind := .inv, sentAt := 0, sentDrip := 0, limit := 800 }, { State.reset with dir := { State.reset.dir with full := [(0, [{ way := 0, key := 0, st := .m, owner := 5, txn := some { kind := .own, req := some { agent := 9 }, snoops := [{ agent := 5, kind := .inv, sentAt := 0, sentDrip := 0, limit := 800 }] } }])], slices := [(0, { mode := .full })], fences := [(5, { on := false })] } }, by decide, by decide⟩,
    ⟨0, 0, 5, 0, { g := 0, sl := 0, agent := 5, key := 0 }, { State.reset with dir := { State.reset.dir with reports := [{ g := 0, sl := 0, agent := 5, key := 0 }] } }, by decide, by decide⟩,
    ⟨0, 0, 5, 0, { State.reset with dir := { State.reset.dir with slices := [(0, { mode := .full })], fences := [(5, { on := true, sweeping := true })] } }, by decide, by decide, by decide, by decide⟩,
    ⟨5, { State.reset with dir := { State.reset.dir with fences := [(5, { on := true, sweeping := true })] } }, by decide, by decide, by decide⟩⟩

/-- A state and operands that meet the hypotheses of every clause of `Obligations.SliceSelfTests`. -/
theorem test_meets_SliceSelfTests :
    (∃ (g : Nat) (sl : Nat) (s : State), g < 8 ∧ sl < 9 ∧ (s.slice g sl).mode = .down) ∧
    (∃ (g : Nat) (sl : Nat) (s : State), g < 8 ∧ sl < 9 ∧ (s.slice g sl).mode = .pointer ∧ (s.slice g sl).fullTested = false ∧ (s.slice g sl).modeCause = 1) ∧
    (∃ (g : Nat) (sl : Nat) (s : State), g < 8 ∧ sl < 9 ∧ (s.slice g sl).role = .testing) ∧
    (∃ (g : Nat) (sl : Nat) (s : State), g < 8 ∧ sl < 9 ∧ (s.slice g sl).role = .active ∧ (s.slice g sl).testPending = true ∧ (s.slice g sl).mode = .pointer) ∧
    (∃ (g : Nat) (sl : Nat), g < 8 ∧ sl < 9) :=
  ⟨⟨7, 8, State.reset, by decide, by decide, by decide⟩,
    ⟨0, 0, { State.reset with dir := { State.reset.dir with slices := [(0, { mode := .pointer })] } }, by decide, by decide, by decide, by decide, by decide⟩,
    ⟨0, 0, { State.reset with dir := { State.reset.dir with slices := [(0, { role := .testing })] } }, by decide, by decide, by decide⟩,
    ⟨0, 0, { State.reset with dir := { State.reset.dir with slices := [(0, { testPending := true, mode := .pointer })] } }, by decide, by decide, by decide, by decide, by decide⟩,
    ⟨0, 0, by decide, by decide⟩⟩

/-- A state and operands that meet the hypotheses of every clause of `Obligations.ConversionsAndMigrations`. -/
theorem test_meets_ConversionsAndMigrations :
    (∃ (g : Nat) (sl : Nat) (n : Nat) (s : State), g < 8 ∧ sl < 9 ∧ (s.slice g sl).mode = .toFull n ∧ n < 16384 ∧ (convSource s g sl n true).any isBusy = false) ∧
    (∃ (g : Nat) (sl : Nat) (n : Nat) (s : State), g < 8 ∧ sl < 9 ∧ (s.slice g sl).mode = .toPointer n ∧ n < 16384 ∧ (convSource s g sl n false).any isBusy = false) ∧
    (∃ (g : Nat) (sl : Nat) (n : Nat) (s : State), g < 8 ∧ sl < 9 ∧ (s.slice g sl).mode = .toFull n ∧ convLeft s g sl n true = false) ∧
    (∃ (g : Nat) (sl : Nat) (n : Nat) (s : State), g < 8 ∧ sl < 9 ∧ (s.slice g sl).mode = .toPointer n ∧ convLeft s g sl n false = false) ∧
    (∃ (g : Nat) (m : Mig) (s : State), g < 8 ∧ tget none s.dir.migs g = some m ∧ m.p < 65536 ∧ ((entriesAt s g m.src m.p).filter (fun e => keySet e.key == m.p)).any isBusy = false) ∧
    (∃ (g : Nat) (m : Mig) (s : State), g < 8 ∧ tget none s.dir.migs g = some m ∧ (allEntries s g m.src).any (fun e => decide (m.p ≤ keySet e.key)) = false) :=
  ⟨⟨0, 0, 0, { State.reset with dir := { State.reset.dir with slices := [(0, { mode := .toFull 0 })] } }, by decide, by decide, by decide, by decide, by decide⟩,
    ⟨0, 0, 0, { State.reset with dir := { State.reset.dir with slices := [(0, { mode := .toPointer 0 })] } }, by decide, by decide, by decide, by decide, by decide⟩,
    ⟨0, 0, 0, { State.reset with dir := { State.reset.dir with slices := [(0, { mode := .toFull 0 })] } }, by decide, by decide, by decide, by decide⟩,
    ⟨0, 0, 0, { State.reset with dir := { State.reset.dir with slices := [(0, { mode := .toPointer 0 })] } }, by decide, by decide, by decide, by decide⟩,
    ⟨0, { src := 0, dst := 8 }, { State.reset with dir := { State.reset.dir with migs := [(0, some { src := 0, dst := 8 })] } }, by decide, by decide, by decide, by decide⟩,
    ⟨0, { src := 0, dst := 8 }, { State.reset with dir := { State.reset.dir with migs := [(0, some { src := 0, dst := 8 })] } }, by decide, by decide, by decide⟩⟩

/-- A state and operands that meet the hypotheses of every clause of `Obligations.LinksComeUp`. -/
theorem test_meets_LinksComeUp :
    (∃ (port : Nat) (p : Partner) (s : State), mayTrain s port = true ∧ refAbsent s port = false ∧ p.version ≠ 3 ∧ protocolsOk s port p = true ∧ (flitMode (modesOf s port) p.flitModes (min p.rate (min (advertised s port) p.maxRate))).isSome = true) ∧
    (∃ (port : Nat) (p : Partner) (s : State), mayTrain s port = true ∧ refAbsent s port = false ∧ ((p.version = 3 ∨ protocolsOk s port p = false ∧ (flitMode (modesOf s port) p.flitModes (min p.rate (min (advertised s port) p.maxRate))).isSome = true))) ∧
    (∃ (port : Nat) (s : State), mayTrain s port = true ∧ refAbsent s port = true) ∧
    (∃ (port : Nat) (p : Partner) (s : State), mayTrain s port = true ∧ refAbsent s port = false ∧ p.version ≠ 3 ∧ flitMode (modesOf s port) p.flitModes (min p.rate (min (advertised s port) p.maxRate)) = none) ∧
    (∃ (port : Nat) (s : State), mayTrain s port = false) :=
  ⟨⟨0, { version := 2, io := true, flitModes := 7 }, State.reset, by decide, by decide, by decide, by decide, by decide⟩,
    ⟨0, { version := 3 }, State.reset, by decide, by decide, .inl rfl⟩,
    ⟨5, { State.reset with cfg := { State.reset.cfg with ports := [(5, { role := 1, clocking := 0 })] }, port := { State.reset.port with refclks := [(0, { good := false, lost := true })] } }, by decide, by decide⟩,
    ⟨0, { flitModes := 0 }, State.reset, by decide, by decide, by decide, by decide⟩,
    ⟨511, State.reset, by decide⟩⟩

/-- A state and operands that meet the hypotheses of every clause of `Obligations.LinksGoDown`. -/
theorem test_meets_LinksGoDown :
    (∃ (port : Nat) (s : State), Machine.isBundle s s.cfg port = true ∧ (s.up port) = true) ∧
    (∃ (port : Nat) (p : Pkt) (ps : List Pkt) (s : State), port < 512 ∧ s.up port = false ∧ egHead s port = p :: ps ∧ p.stage ≠ .begun) ∧
    (∃ (b : Nat) (p : Pkt) (s : State), s.role b = 2 ∧ isLate s b p = false ∧ p.kind = .ioNonPosted) ∧
    (∃ (b : Nat) (p : Pkt) (s : State), s.role b = 2 ∧ isLate s b p = false ∧ p.kind = .memReq) ∧
    (∃ (b : Nat) (p : Pkt) (s : State), s.role b = 1 ∧ isLate s b p = false ∧ p.kind = .ioCpl) ∧
    (∃ (b : Nat) (p : Pkt) (s : State), isLate s b p = true) :=
  ⟨⟨0, { State.reset with port := { State.reset.port with ports := [(0, { link := .l0 })] } }, by decide, by decide⟩,
    ⟨0, { cls := 4, srcGal := 1, dstGal := 0, kind := .ioNonPosted }, [], { State.reset with core := { State.reset.core with gals := [(0, { egIn := [(0, [{ cls := 4, srcGal := 1, dstGal := 0, kind := .ioNonPosted }])] })] } }, by decide, by decide, by decide, by decide⟩,
    ⟨5, { cls := 4, srcGal := 1, dstGal := 0, kind := .ioNonPosted }, { State.reset with cfg := { State.reset.cfg with ports := [(5, { role := 2 })] } }, by decide, by decide, by decide⟩,
    ⟨5, { cls := 0, srcGal := 1, dstGal := 0, kind := .memReq }, { State.reset with cfg := { State.reset.cfg with ports := [(5, { role := 2 })] } }, by decide, by decide, by decide⟩,
    ⟨5, { cls := 5, srcGal := 1, dstGal := 0, kind := .ioCpl }, { State.reset with cfg := { State.reset.cfg with ports := [(5, { role := 1 })] } }, by decide, by decide, by decide⟩,
    ⟨5, { cls := 1, srcGal := 1, dstGal := 0, kind := .memRsp, grotto := 3, gv := true, gen := 1 }, { State.reset with cfg := { State.reset.cfg with ports := [(5, { role := 1 })] } }, by decide⟩⟩

/-- A state and operands that meet the hypotheses of every clause of `Obligations.LaneReferences`. -/
theorem test_meets_LaneReferences :
    (∃ (j : Nat) (s : State), j < 32 ∧ (s.refclk j).good = true) ∧
    (∃ (j : Nat) (s : State), j < 32 ∧ (s.refclk j).lost = true ∧ (s.refclk j).good = false) ∧
    (∃ (j : Nat) (s : State), j < 32 ∧ (s.refclk j).lost = true ∧ (s.refclk j).good = true ∧ (s.refclk j).goodSince + 800000000 ≤ s.now) :=
  ⟨⟨31, State.reset, by decide, by decide⟩,
    ⟨0, { State.reset with time := { State.reset.time with elapsed := 800000000 }, port := { State.reset.port with refclks := [(0, { good := false, lost := true })] } }, by decide, by decide, by decide⟩,
    ⟨0, { State.reset with time := { State.reset.time with elapsed := 800000000 }, port := { State.reset.port with refclks := [(0, { good := true, lost := true })] } }, by decide, rfl, rfl, by decide⟩⟩

/-- A state and operands that meet the hypotheses of every clause of `Obligations.LowPowerAndRecovery`. -/
theorem test_meets_LowPowerAndRecovery :
    (∃ (port : Nat) (target : Nat) (l : LinkSt) (s : State), lowState target = some l ∧ (s.up port) = true ∧ ((s.prt port).link = .l0 ∨ (s.prt port).link = .l0p) ∧ bitOf (s.cfg.port port).lp target = true ∧ egressEmpty s port = true ∧ (s.prt port).emptySince + (s.cfg.port port).idleUs * 800 ≤ s.now ∧ (s.prt port).l0At + (s.cfg.port port).idleUs * 800 ≤ s.now ∧ ((lanesOf s port).any (fun k => (s.lane k).margin.isSome || (s.lane k).partnerMargin)) = false ∧ gateStaged s port = false) ∧
    (∃ (l : LinkSt), l ≠ .l1) ∧
    (∃ (port : Nat) (s : State), (s.up port) = true ∧ (s.prt port).exiting = true) ∧
    (∃ (port : Nat) (s : State), (s.up port) = true ∧ (s.prt port).link = .recovery) ∧
    (∃ (port : Nat) (s : State), (s.up port) = true ∧ (s.prt port).link = .l0p) ∧
    (∃ (port : Nat) (s : State), (s.up port) = true ∧ (s.prt port).link = .l1) ∧
    (∃ (port : Nat) (s : State), (s.up port) = true ∧ (((s.prt port).link = .l11 ∨ (s.prt port).link = .l12))) ∧
    (∃ (port : Nat) (s : State), (s.up port) = true ∧ (s.prt port).link = .l0) ∧
    (∃ (port : Nat) (s : State), (s.up port) = true ∧ (((s.prt port).link = .l0 ∨ (s.prt port).link = .l0p)) ∧ bitOf (s.cfg.port port).lp 0 = true ∧ 1 < lanesNow (s.prt port)) ∧
    (∃ (port : Nat) (s : State), (s.up port) = true ∧ (((s.prt port).link = .l0 ∨ (s.prt port).link = .l0p)) ∧ bitOf (s.cfg.port port).lp 1 = true) ∧
    (∃ (port : Nat) (s : State), (s.up port) = true ∧ (((s.prt port).link = .l0 ∨ (s.prt port).link = .l0p)) ∧ bitOf (s.cfg.port port).lp 2 = true) ∧
    (∃ (port : Nat) (s : State), (s.up port) = true ∧ (((s.prt port).link = .l0 ∨ (s.prt port).link = .l0p)) ∧ bitOf (s.cfg.port port).lp 3 = true) ∧
    (∃ (port : Nat) (s : State), (s.up port) = true ∧ (s.prt port).link ≠ .recovery) ∧
    (∃ (port : Nat) (state : Nat) (s : State), ((s.up port = false ∨ state < 2 ∨ 7 < state))) :=
  ⟨⟨0, 1, .l1, { State.reset with cfg := { State.reset.cfg with ports := [(0, { lp := 15 })] }, port := { State.reset.port with ports := [(0, { link := .l0 })] } }, rfl, by decide, .inl rfl, by decide, by decide, by decide, by decide, by decide, by decide⟩,
    ⟨.l12, by decide⟩,
    ⟨0, { State.reset with port := { State.reset.port with ports := [(0, { link := .l11, exiting := true })] } }, by decide, by decide⟩,
    ⟨0, { State.reset with port := { State.reset.port with ports := [(0, { link := .recovery })] } }, by decide, by decide⟩,
    ⟨0, { State.reset with port := { State.reset.port with ports := [(0, { link := .l0p })] } }, by decide, by decide⟩,
    ⟨0, { State.reset with port := { State.reset.port with ports := [(0, { link := .l1 })] } }, by decide, by decide⟩,
    ⟨0, { State.reset with port := { State.reset.port with ports := [(0, { link := .l12 })] } }, by decide, .inr rfl⟩,
    ⟨0, { State.reset with port := { State.reset.port with ports := [(0, { link := .l0 })] } }, by decide, by decide⟩,
    ⟨0, { State.reset with cfg := { State.reset.cfg with ports := [(0, { lp := 15 })] }, port := { State.reset.port with ports := [(0, { link := .l0, lanes := 4 })] } }, by decide, .inl rfl, by decide, by decide⟩,
    ⟨0, { State.reset with cfg := { State.reset.cfg with ports := [(0, { lp := 15 })] }, port := { State.reset.port with ports := [(0, { link := .l0p })] } }, by decide, .inr rfl, by decide⟩,
    ⟨0, { State.reset with cfg := { State.reset.cfg with ports := [(0, { lp := 15 })] }, port := { State.reset.port with ports := [(0, { link := .l0p })] } }, by decide, .inr rfl, by decide⟩,
    ⟨0, { State.reset with cfg := { State.reset.cfg with ports := [(0, { lp := 15 })] }, port := { State.reset.port with ports := [(0, { link := .l0 })] } }, by decide, .inl rfl, by decide⟩,
    ⟨0, { State.reset with port := { State.reset.port with ports := [(0, { link := .l0 })] } }, by decide, by decide⟩,
    ⟨0, 2, State.reset, .inl (by decide)⟩⟩

/-- A state and operands that meet the hypotheses of every clause of `Obligations.AdaptationAndMargining`. -/
theorem test_meets_AdaptationAndMargining :
    (∃ (lane : Nat) (e : EqEnt) (s : State), lane < 1024 ∧ laneInL0 s lane = true ∧ (s.lane lane).lastUpd + 1024 ≤ s.now ∧ e = eqOf s lane (s.prt (laneBundle s lane)).rate) ∧
    (∃ (e : EqEnt) (i : Nat) (t : Tap), tapFrozen e i = false ∧ -(tapLimit e i : Int) ≤ t.val ∧ t.val ≤ (tapLimit e i : Int)) ∧
    (∃ (e : EqEnt) (i : Nat), tapFrozen e i = true) ∧
    (∃ (lane : Nat) (tap : Nat) (at_ : Nat) (t : Tap) (e : EqEnt) (s : State), lane < 1024 ∧ tap < 12 ∧ t = (tapsOf (s.lane lane)).getD tap {} ∧ e = eqOf s lane (s.prt (laneBundle s lane)).rate ∧ t.raised = false ∧ t.pinnedSince = some at_ ∧ at_ + 800000000 ≤ s.now ∧ laneInL0 s lane = true ∧ tapFrozen e tap = false ∧ t.val.natAbs = tapLimit e tap) ∧
    (∃ (lane : Nat) (tap : Nat) (s : State), ((tapsOf (s.lane lane)).getD tap {}).raised = true) ∧
    (∃ (lane : Nat) (s : State), lane < 1024 ∧ laneInL0 s lane = true ∧ 3 ≤ (s.prt (laneBundle s lane)).rate) ∧
    (∃ (lane : Nat) (s : State), lane < 1024 ∧ laneInL0 s lane = true ∧ 3 ≤ (s.prt (laneBundle s lane)).rate) ∧
    (∃ (lane : Nat) (s : State), ((laneInL0 s lane = false ∨ (s.prt (laneBundle s lane)).rate < 3))) ∧
    (∃ (lane : Nat) (bits : Nat) (m : Margin) (s : State), (s.lane lane).margin = some m ∧ (m.aborted = true ∨ 2 ^ m.dwell ≤ bits)) :=
  ⟨⟨0, (defaultEq 6), { State.reset with time := { State.reset.time with elapsed := 800000000 }, port := { State.reset.port with ports := [(0, { link := .l0, lanes := 2, rate := 6 })], lanes := [(0, {  })] } }, by decide, by decide, by decide, by decide⟩,
    ⟨(defaultEq 6), 0, { val := 3 }, by decide, by decide, by decide⟩,
    ⟨{ freeze := 4 }, 0, by decide⟩,
    ⟨0, 0, 0, { val := 127, pinnedSince := some 0 }, (defaultEq 6), { State.reset with time := { State.reset.time with elapsed := 800000000 }, port := { State.reset.port with ports := [(0, { link := .l0, lanes := 2, rate := 6 })], lanes := [(0, { taps := [{ val := 127, pinnedSince := some 0 }] })] } }, by decide, by decide, by decide, by decide, by decide, by decide, by decide, by decide, by decide, by decide⟩,
    ⟨0, 0, { State.reset with time := { State.reset.time with elapsed := 800000000 }, port := { State.reset.port with ports := [(0, { link := .l0, lanes := 2, rate := 6 })], lanes := [(0, { taps := [{ raised := true }] })] } }, by decide⟩,
    ⟨0, { State.reset with time := { State.reset.time with elapsed := 800000000 }, port := { State.reset.port with ports := [(0, { link := .l0, lanes := 2, rate := 6 })], lanes := [(0, {  })] } }, by decide, by decide, by decide⟩,
    ⟨0, { State.reset with time := { State.reset.time with elapsed := 800000000 }, port := { State.reset.port with ports := [(0, { link := .l0, lanes := 2, rate := 6 })], lanes := [(0, {  })] } }, by decide, by decide, by decide⟩,
    ⟨0, State.reset, .inl (by decide)⟩,
    ⟨0, 1048576, { session := none, action := 1, eye := 0, offset := 3, dwell := 20 }, { State.reset with time := { State.reset.time with elapsed := 800000000 }, port := { State.reset.port with ports := [(0, { link := .l0, lanes := 2, rate := 6 })], lanes := [(0, { margin := some { session := none, action := 1, eye := 0, offset := 3, dwell := 20 } })] } }, rfl, .inr (by decide)⟩⟩

/-- A state and operands that meet the hypotheses of every clause of `Obligations.DeviceAccesses`. -/
theorem test_meets_DeviceAccesses :
    (∃ (port : Nat) (id : Nat) (data : Bytes) (o : DevOut) (s : State), s.up port = true ∧ (s.cfg.port port).role = 2 ∧ isType3 s.cfg port = true ∧ ((rxMsg s port data.length).prt port).outs.find? (fun o => o.id == id) = some o) ∧
    (∃ (port : Nat) (id : Nat) (data : Bytes) (o : DevOut) (s : State), s.up port = true ∧ (s.cfg.port port).role = 2 ∧ isType3 s.cfg port = false ∧ ((rxMsg s port data.length).prt port).outs.find? (fun o => o.id == id) = some o) ∧
    (∃ (port : Nat) (id : Nat) (data : Bytes) (s : State), s.up port = true ∧ (s.cfg.port port).role = 2 ∧ ((rxMsg s port data.length).prt port).outs.find? (fun o => o.id == id) = none) ∧
    (∃ (port : Nat) (id : Nat) (o : DevOut) (s : State), isType3 s.cfg port = true ∧ (s.prt port).outs.find? (fun o => o.id == id) = some o ∧ o.sentAt + devLimit s port ≤ s.now) ∧
    (∃ (id : Nat) (port : Nat) (o : DevOut) (a : DevAcc) (s : State), accOf s id = some a ∧ outAt s a.id = some (port, o)) ∧
    (∃ (id : Nat) (port : Nat) (o : DevOut) (a : DevAcc) (s : State), accOf s id = some a ∧ outAt s a.id = some (port, o)) :=
  ⟨⟨5, 9, [], { id := 9, sentAt := 0, pkt := { cls := 0, srcGal := 1, dstGal := 0, kind := .memReq, id := 9 } }, { State.reset with cfg := { State.reset.cfg with ports := [(5, { role := 2 })] }, port := { State.reset.port with ports := [(5, { link := .l0, outs := [{ id := 9, sentAt := 0, pkt := { cls := 0, srcGal := 1, dstGal := 0, kind := .memReq, id := 9 } }] })] }, time := { State.reset.time with elapsed := 800000000 } }, by decide, by decide, by decide, by decide⟩,
    ⟨5, 9, [], { id := 9, sentAt := 0, pkt := { cls := 0, srcGal := 1, dstGal := 0, kind := .memReq, id := 9 } }, { State.reset with cfg := { State.reset.cfg with ports := [(5, { role := 2, passAgent := 3 })] }, port := { State.reset.port with ports := [(5, { link := .l0, outs := [{ id := 9, sentAt := 0, pkt := { cls := 0, srcGal := 1, dstGal := 0, kind := .memReq, id := 9 } }] })] }, time := { State.reset.time with elapsed := 800000000 } }, by decide, by decide, by decide, by decide⟩,
    ⟨5, 9, [], { State.reset with cfg := { State.reset.cfg with ports := [(5, { role := 2 })] }, port := { State.reset.port with ports := [(5, { link := .l0, outs := [] })] }, time := { State.reset.time with elapsed := 800000000 } }, by decide, by decide, by decide⟩,
    ⟨5, 9, { id := 9, sentAt := 0, pkt := { cls := 0, srcGal := 1, dstGal := 0, kind := .memReq, id := 9 } }, { State.reset with cfg := { State.reset.cfg with ports := [(5, { role := 2 })] }, port := { State.reset.port with ports := [(5, { link := .l0, outs := [{ id := 9, sentAt := 0, pkt := { cls := 0, srcGal := 1, dstGal := 0, kind := .memReq, id := 9 } }] })] }, time := { State.reset.time with elapsed := 800000000 } }, rfl, rfl, by decide⟩,
    ⟨9, 5, { id := 9, sentAt := 0, pkt := { cls := 0, srcGal := 1, dstGal := 0, kind := .memReq, id := 9 } }, { id := 9, g := 0, sl := 0, key := 0, write := false, pkt := { cls := 0, srcGal := 1, dstGal := 0, kind := .memReq, id := 9 }, use := .nothing }, { State.reset with cfg := { State.reset.cfg with ports := [(5, { role := 2 })] }, port := { State.reset.port with ports := [(5, { link := .l0, outs := [{ id := 9, sentAt := 0, pkt := { cls := 0, srcGal := 1, dstGal := 0, kind := .memReq, id := 9 } }] })] }, time := { State.reset.time with elapsed := 800000000 }, dir := { State.reset.dir with accs := [{ id := 9, g := 0, sl := 0, key := 0, write := false, pkt := { cls := 0, srcGal := 1, dstGal := 0, kind := .memReq, id := 9 }, use := .nothing }] } }, by decide, by decide⟩,
    ⟨9, 5, { id := 9, sentAt := 0, pkt := { cls := 0, srcGal := 1, dstGal := 0, kind := .memReq, id := 9 } }, { id := 9, g := 0, sl := 0, key := 0, write := false, pkt := { cls := 0, srcGal := 1, dstGal := 0, kind := .memReq, id := 9 }, use := .nothing }, { State.reset with cfg := { State.reset.cfg with ports := [(5, { role := 2 })] }, port := { State.reset.port with ports := [(5, { link := .l0, outs := [{ id := 9, sentAt := 0, pkt := { cls := 0, srcGal := 1, dstGal := 0, kind := .memReq, id := 9 } }] })] }, time := { State.reset.time with elapsed := 800000000 }, dir := { State.reset.dir with accs := [{ id := 9, g := 0, sl := 0, key := 0, write := false, pkt := { cls := 0, srcGal := 1, dstGal := 0, kind := .memReq, id := 9 }, use := .nothing }] } }, by decide, by decide⟩⟩

/-- A state and operands that meet the hypotheses of every clause of `Obligations.IngressByRole`. -/
theorem test_meets_IngressByRole :
    (∃ (port : Nat) (s : State), Machine.isBundle s s.cfg port = true ∧ s.up port = true ∧ s.role port = 1) ∧
    (∃ (port : Nat) (s : State), Machine.isBundle s s.cfg port = true ∧ s.up port = true ∧ s.role port = 2 ∧ (s.cfg.port port).passAgent = 65535) ∧
    (∃ (port : Nat) (s : State), Machine.isBundle s s.cfg port = true ∧ s.up port = true ∧ s.role port = 2 ∧ (s.cfg.port port).passAgent ≠ 65535) ∧
    (∃ (port : Nat) (s : State), Machine.isBundle s s.cfg port = true ∧ s.up port = true ∧ s.role port = 3) ∧
    (∃ (port : Nat) (s : State), Machine.isBundle s s.cfg port = true ∧ s.up port = true ∧ s.role port = 4) ∧
    (∃ (q : HostReq), isNonPosted q.op = true) ∧
    (∃ (b : Nat) (q : HostReq) (s : State), (q.dpid ≠ (s.cfg.port b).localPbr ∨ q.spid ≠ (s.cfg.port b).peerPbr)) ∧
    (∃ (port : Nat) (s : State), s.up port = false) :=
  ⟨⟨5, { State.reset with cfg := { State.reset.cfg with ports := [(5, { role := 1 })] }, port := { State.reset.port with ports := [(5, { link := .l0 })] } }, by decide, by decide, by decide⟩,
    ⟨5, { State.reset with cfg := { State.reset.cfg with ports := [(5, { role := 2 })] }, port := { State.reset.port with ports := [(5, { link := .l0 })] } }, by decide, by decide, by decide, by decide⟩,
    ⟨5, { State.reset with cfg := { State.reset.cfg with ports := [(5, { role := 2, passAgent := 3 })] }, port := { State.reset.port with ports := [(5, { link := .l0 })] } }, by decide, by decide, by decide, by decide⟩,
    ⟨5, { State.reset with cfg := { State.reset.cfg with ports := [(5, { role := 3 })] }, port := { State.reset.port with ports := [(5, { link := .l0 })] } }, by decide, by decide, by decide⟩,
    ⟨0, { State.reset with port := { State.reset.port with ports := [(0, { link := .l0 })] } }, by decide, by decide, by decide⟩,
    ⟨{ op := .ioCfg }, by decide⟩,
    ⟨5, { op := .ioCfg, dpid := 77 }, { State.reset with cfg := { State.reset.cfg with ports := [(5, { role := 3 })] }, port := { State.reset.port with ports := [(5, { link := .l0 })] } }, .inl (by decide)⟩,
    ⟨5, State.reset, by decide⟩⟩

/-- A state and operands that meet the hypotheses of every clause of `Obligations.EgressStages`. -/
theorem test_meets_EgressStages :
    (∃ (port : Nat) (p : Pkt) (ps : List Pkt) (s : State), s.up port = true ∧ egHead s port = p :: ps ∧ isLate (egPop s port) port p = false) ∧
    (∃ (port : Nat) (p : Pkt) (ps : List Pkt) (s : State), s.up port = true ∧ egHead s port = p :: ps ∧ isLate (egPop s port) port p = true) ∧
    (∃ (b : Nat) (s : State), s.role b ≠ 4) ∧
    (∃ (port : Nat) (s : State), s.up port = true ∧ ((s.prt port).link = .l0 ∨ (s.prt port).link = .l0p)) ∧
    (∃ (port : Nat) (s : State), ((s.up port = false ∨ (s.prt port).link ≠ .l0 ∧ (s.prt port).link ≠ .l0p))) ∧
    (∃ (b : Nat) (s : State), s.role b ≠ 4) ∧
    (∃ (port : Nat) (s : State), port < 512 ∧ launchWaits s = false ∧ ((s.up port = true ∧ ((s.prt port).link = .l0 ∨ (s.prt port).link = .l0p)))) ∧
    (∃ (port : Nat) (s : State), port < 512 ∧ launchWaits s = false ∧ ((s.up port = false ∨ (s.prt port).link ≠ .l0 ∧ (s.prt port).link ≠ .l0p))) :=
  ⟨⟨0, { cls := 4, srcGal := 1, dstGal := 0, kind := .ioNonPosted }, [], { State.reset with port := { State.reset.port with ports := [(0, { link := .l0 })] }, core := { State.reset.core with gals := [(0, { egIn := [(0, [{ cls := 4, srcGal := 1, dstGal := 0, kind := .ioNonPosted }])] })] } }, by decide, by decide, by decide⟩,
    ⟨5, { cls := 1, srcGal := 1, dstGal := 0, kind := .memRsp, grotto := 3, gv := true, gen := 1 }, [], { State.reset with cfg := { State.reset.cfg with ports := [(5, { role := 1 })] }, port := { State.reset.port with ports := [(5, { link := .l0 })] }, core := { State.reset.core with gals := [(0, { egIn := [(5, [{ cls := 1, srcGal := 1, dstGal := 0, kind := .memRsp, grotto := 3, gv := true, gen := 1 }])] })] } }, by decide, by decide, by decide⟩,
    ⟨5, State.reset, by decide⟩,
    ⟨0, { State.reset with port := { State.reset.port with ports := [(0, { link := .l0 })] }, core := { State.reset.core with gals := [(0, { egIn := [(0, [{ cls := 4, srcGal := 1, dstGal := 0, kind := .ioNonPosted }])] })] } }, by decide, .inl rfl⟩,
    ⟨5, State.reset, .inl (by decide)⟩,
    ⟨5, State.reset, by decide⟩,
    ⟨0, { State.reset with port := { State.reset.port with ports := [(0, { link := .l0 })] }, core := { State.reset.core with gals := [(0, { egIn := [(0, [{ cls := 4, srcGal := 1, dstGal := 0, kind := .ioNonPosted }])] })] } }, by decide, by decide, ⟨by decide, .inl rfl⟩⟩,
    ⟨511, State.reset, by decide, by decide, .inl (by decide)⟩⟩

/-- A state and operands that meet the hypotheses of every clause of `Obligations.FairTags`. -/
theorem test_meets_FairTags :
    (∃ (share : Nat) (q : Nat) (x : Sched) (f : FairQ), 1 ≤ share ∧ share ≤ 65535 ∧ f = tget {} x.queues q ∧ x.v < 2 ^ 47 ∧ f.fLast < 2 ^ 47) :=
  ⟨1, 0, {}, {}, by decide, by decide, by decide, by decide, by decide⟩

/-- A state and operands that meet the hypotheses of every clause of `Obligations.GuardRestore`. -/
theorem test_meets_GuardRestore :
    (∃ (port : Nat) (s : State), (s.grd port).fault = true ∧ (s.grd port).copyLost = false ∧ firmwareUp s = true) ∧
    (∃ (port : Nat) (s : State), ((s.grd port).fault = false ∨ (s.grd port).copyLost = true ∨ firmwareUp s = false)) ∧
    (∃ (c : Checked) (i : Nat) (s : State), (s.grd c.port).fault = false ∧ c.store = .corrected i ∧ i < 64) ∧
    (∃ (c : Checked) (i : Nat) (s : State), (s.grd c.port).fault = false ∧ c.store = .uncorrectable i ∧ i < 64) :=
  ⟨⟨5, (({ State.reset with mgmt := { State.reset.mgmt with boot := .running } } : State).modGrd 5 (fun g => { g with fault := true })), by decide, by decide, by decide⟩,
    ⟨5, State.reset, .inl rfl⟩,
    ⟨{ port := 5, kind := 6, space := 1, addr := 0, len := 512, requester := 0, agent := 22, store := .corrected 3 }, 3, State.reset, by decide, by decide, by decide⟩,
    ⟨{ port := 5, kind := 6, space := 1, addr := 0, len := 512, requester := 0, agent := 22, store := .uncorrectable 3 }, 3, State.reset, by decide, by decide, by decide⟩⟩

/-- A state and operands that meet the hypotheses of every clause of `Obligations.GuardChecks`. -/
theorem test_meets_GuardChecks :
    (∃ (c : Checked) (s : State), (s.grd c.port).fault = false ∧ closedIn (s.cfg.grd c.port) c.space = true ∧ 1 ≤ c.len) ∧
    (∃ (c : Checked) (s : State), (s.grd c.port).fault = false ∧ closedIn (s.cfg.grd c.port) c.space = false) ∧
    (∃ (c : Checked) (p : Pkt) (s : State), c.kind ≠ 0 ∧ creditFor s c.port p = true ∧ verdictOf (ruleFault s c) c ≠ .pass) ∧
    (∃ (c : Checked), c.store = .none) :=
  ⟨⟨{ port := 5, kind := 6, space := 1, addr := 0x2040000F00, len := 512, requester := 0, agent := 22 }, { State.reset with cfg := { State.reset.cfg with guards := [(5, { closedP := true, rules := [(0, { base := 0x2040000, end_ := 0x2040001, valid := true, space := 1, rd := true, wr := true }), (1, { base := 0x2040001, end_ := 0x2040100, valid := true, space := 1, rd := true })] })] } }, by decide, by decide, by decide⟩,
    ⟨{ port := 5, kind := 6, space := 1, addr := 0x2040000F00, len := 512, requester := 0, agent := 22 }, State.reset, by decide, by decide⟩,
    ⟨{ port := 5, kind := 6, space := 1, addr := 0x2040000F00, len := 512, requester := 0, agent := 22 }, {}, { State.reset with cfg := { State.reset.cfg with guards := [(5, { closedP := true, rules := [(0, { base := 0x2040000, end_ := 0x2040001, valid := true, space := 1, rd := true, wr := true }), (1, { base := 0x2040001, end_ := 0x2040100, valid := true, space := 1, rd := true })] })] } }, by decide, by decide, by decide⟩,
    ⟨{ port := 5, kind := 6, space := 1, addr := 0x2040000F00, len := 512, requester := 0, agent := 22 }, by decide⟩⟩

/-- A state and operands that meet the hypotheses of every clause of `Obligations.EchoDoorbell`. -/
theorem test_meets_EchoDoorbell :
    (∃ (agent : Nat) (ep : Nat) (win : Nat) (usp : Nat) (e : Nat) (g : Nat) (h : Bytes) (s : State), e = 16 * agent + ep ∧ agent < 256 ∧ ep < 16 ∧ win < 4 ∧ homed s agent = true ∧ (s.cfg.hier agent).usps.contains usp = true ∧ s.up usp = true ∧ g = (epHier s e).home ∧ h = winBytes (s.endp e) win 16 ∧ epEnabled s e = false) ∧
    (∃ (agent : Nat) (ep : Nat) (win : Nat) (usp : Nat) (e : Nat) (g : Nat) (h : Bytes) (s : State), e = 16 * agent + ep ∧ agent < 256 ∧ ep < 16 ∧ win < 4 ∧ homed s agent = true ∧ (s.cfg.hier agent).usps.contains usp = true ∧ s.up usp = true ∧ g = (epHier s e).home ∧ h = winBytes (s.endp e) win 16 ∧ epEnabled s e = true ∧ headerGoodEcho s (e / 16) h = false) ∧
    (∃ (agent : Nat) (ep : Nat) (win : Nat) (usp : Nat) (e : Nat) (g : Nat) (h : Bytes) (s : State), e = 16 * agent + ep ∧ agent < 256 ∧ ep < 16 ∧ win < 4 ∧ homed s agent = true ∧ (s.cfg.hier agent).usps.contains usp = true ∧ s.up usp = true ∧ g = (epHier s e).home ∧ h = winBytes (s.endp e) win 16 ∧ epEnabled s e = true ∧ headerGoodEcho s (e / 16) h = true ∧ epEnabled s (fieldAt h 0 2) = false) ∧
    (∃ (agent : Nat) (ep : Nat) (win : Nat) (usp : Nat) (e : Nat) (g : Nat) (h : Bytes) (s : State), e = 16 * agent + ep ∧ agent < 256 ∧ ep < 16 ∧ win < 4 ∧ homed s agent = true ∧ (s.cfg.hier agent).usps.contains usp = true ∧ s.up usp = true ∧ g = (epHier s e).home ∧ h = winBytes (s.endp e) win 16 ∧ epEnabled s e = true ∧ headerGoodEcho s (e / 16) h = true ∧ epEnabled s (fieldAt h 0 2) = true ∧ (s.cfg.endp e).domain ≠ (s.cfg.endp (fieldAt h 0 2)).domain) ∧
    (∃ (agent : Nat) (ep : Nat) (win : Nat) (usp : Nat) (e : Nat) (g : Nat) (h : Bytes) (s : State), e = 16 * agent + ep ∧ agent < 256 ∧ ep < 16 ∧ win < 4 ∧ homed s agent = true ∧ (s.cfg.hier agent).usps.contains usp = true ∧ s.up usp = true ∧ g = (epHier s e).home ∧ h = winBytes (s.endp e) win 16 ∧ epEnabled s e = true ∧ headerGoodEcho s (e / 16) h = true ∧ epEnabled s (fieldAt h 0 2) = true ∧ (s.cfg.endp e).domain = (s.cfg.endp (fieldAt h 0 2)).domain ∧ (police (s.cfg.endp e) s.now (64 * byteAt h 2) (s.endp e)).1 = 2) ∧
    (∃ (agent : Nat) (ep : Nat) (win : Nat) (usp : Nat) (e : Nat) (g : Nat) (h : Bytes) (s : State), e = 16 * agent + ep ∧ agent < 256 ∧ ep < 16 ∧ win < 4 ∧ homed s agent = true ∧ (s.cfg.hier agent).usps.contains usp = true ∧ s.up usp = true ∧ g = (epHier s e).home ∧ h = winBytes (s.endp e) win 16 ∧ epEnabled s e = true ∧ headerGoodEcho s (e / 16) h = true ∧ epEnabled s (fieldAt h 0 2) = true ∧ (s.cfg.endp e).domain = (s.cfg.endp (fieldAt h 0 2)).domain ∧ (police (s.cfg.endp e) s.now (64 * byteAt h 2) (s.endp e)).1 ≠ 2) ∧
    (∃ (g : Nat) (m : HeldMsg) (s : State), ((∃ h, m.slot = some h ∧ (s.ctx (m.ep / 16) h).busy = true) ∨ (s.svc g).held.any (fun h => h.ep == m.ep) = true)) ∧
    (∃ (g : Nat) (m : HeldMsg) (s : State), m.slot = none ∧ (s.svc g).held.any (fun h => h.ep == m.ep) = false) ∧
    (∃ (g : Nat) (k : Nat) (m : HeldMsg) (s : State), m.slot = some k ∧ (s.ctx (m.ep / 16) k).busy = false ∧ assigned s (m.ep / 16) k = true ∧ (s.svc g).held.any (fun h => h.ep == m.ep) = false) ∧
    (∃ (agent : Nat) (s : State), homed s agent = false) :=
  ⟨⟨3, 0, 0, 5, 48, 0, (winBytes (({ State.reset with cfg := { State.reset.cfg with hiers := [(3, { live := true, home := 0, homePort := 5, usps := [5] })], endps := [(48, { enable := false })], ports := [(5, { role := 1 })] }, port := { State.reset.port with ports := [(5, { link := .l0 })] }, echo := { State.reset.echo with endps := [(48, {  })] } }).endp 48) 0 16), { State.reset with cfg := { State.reset.cfg with hiers := [(3, { live := true, home := 0, homePort := 5, usps := [5] })], endps := [(48, { enable := false })], ports := [(5, { role := 1 })] }, port := { State.reset.port with ports := [(5, { link := .l0 })] }, echo := { State.reset.echo with endps := [(48, {  })] } }, by decide, by decide, by decide, by decide, by decide, by decide, by decide, by decide, by decide, by decide⟩,
    ⟨3, 0, 0, 5, 48, 0, (winBytes (({ State.reset with cfg := { State.reset.cfg with hiers := [(3, { live := true, home := 0, homePort := 5, usps := [5] })], endps := [(48, { enable := true })], ports := [(5, { role := 1 })] }, port := { State.reset.port with ports := [(5, { link := .l0 })] }, echo := { State.reset.echo with endps := [(48, { wins := [(0, [(0, 48), (2, 0), (3, 0)])] })] } }).endp 48) 0 16), { State.reset with cfg := { State.reset.cfg with hiers := [(3, { live := true, home := 0, homePort := 5, usps := [5] })], endps := [(48, { enable := true })], ports := [(5, { role := 1 })] }, port := { State.reset.port with ports := [(5, { link := .l0 })] }, echo := { State.reset.echo with endps := [(48, { wins := [(0, [(0, 48), (2, 0), (3, 0)])] })] } }, by decide, by decide, by decide, by decide, by decide, by decide, by decide, by decide, by decide, by decide, by decide⟩,
    ⟨3, 0, 0, 5, 48, 0, (winBytes (({ State.reset with cfg := { State.reset.cfg with hiers := [(3, { live := true, home := 0, homePort := 5, usps := [5] })], endps := [(48, { enable := true })], ports := [(5, { role := 1 })] }, port := { State.reset.port with ports := [(5, { link := .l0 })] }, echo := { State.reset.echo with endps := [(48, { wins := [(0, [(0, 49), (2, 1), (3, 0)])] })] } }).endp 48) 0 16), { State.reset with cfg := { State.reset.cfg with hiers := [(3, { live := true, home := 0, homePort := 5, usps := [5] })], endps := [(48, { enable := true })], ports := [(5, { role := 1 })] }, port := { State.reset.port with ports := [(5, { link := .l0 })] }, echo := { State.reset.echo with endps := [(48, { wins := [(0, [(0, 49), (2, 1), (3, 0)])] })] } }, by decide, by decide, by decide, by decide, by decide, by decide, by decide, by decide, by decide, by decide, by decide, by decide⟩,
    ⟨3, 0, 0, 5, 48, 0, (winBytes (({ State.reset with cfg := { State.reset.cfg with hiers := [(3, { live := true, home := 0, homePort := 5, usps := [5] })], endps := [(48, { enable := true, domain := 7 }), (49, { enable := true })], ports := [(5, { role := 1 })] }, port := { State.reset.port with ports := [(5, { link := .l0 })] }, echo := { State.reset.echo with endps := [(48, { wins := [(0, [(0, 49), (2, 1), (3, 0)])] })] } }).endp 48) 0 16), { State.reset with cfg := { State.reset.cfg with hiers := [(3, { live := true, home := 0, homePort := 5, usps := [5] })], endps := [(48, { enable := true, domain := 7 }), (49, { enable := true })], ports := [(5, { role := 1 })] }, port := { State.reset.port with ports := [(5, { link := .l0 })] }, echo := { State.reset.echo with endps := [(48, { wins := [(0, [(0, 49), (2, 1), (3, 0)])] })] } }, by decide, by decide, by decide, by decide, by decide, by decide, by decide, by decide, by decide, by decide, by decide, by decide, by decide⟩,
    ⟨3, 0, 0, 5, 48, 0, (winBytes (({ State.reset with cfg := { State.reset.cfg with hiers := [(3, { live := true, home := 0, homePort := 5, usps := [5] })], endps := [(48, { enable := true, cir := 1, cbs := 64, pir := 1, pbs := 64 })], ports := [(5, { role := 1 })] }, port := { State.reset.port with ports := [(5, { link := .l0 })] }, echo := { State.reset.echo with endps := [(48, { wins := [(0, [(0, 48), (2, 1), (3, 0)])] })] } }).endp 48) 0 16), { State.reset with cfg := { State.reset.cfg with hiers := [(3, { live := true, home := 0, homePort := 5, usps := [5] })], endps := [(48, { enable := true, cir := 1, cbs := 64, pir := 1, pbs := 64 })], ports := [(5, { role := 1 })] }, port := { State.reset.port with ports := [(5, { link := .l0 })] }, echo := { State.reset.echo with endps := [(48, { wins := [(0, [(0, 48), (2, 1), (3, 0)])] })] } }, by decide, by decide, by decide, by decide, by decide, by decide, by decide, by decide, by decide, by decide, by decide, by decide, by decide, by decide⟩,
    ⟨3, 0, 0, 5, 48, 0, (winBytes (({ State.reset with cfg := { State.reset.cfg with hiers := [(3, { live := true, home := 0, homePort := 5, usps := [5] })], endps := [(48, { enable := true })], ports := [(5, { role := 1 })] }, port := { State.reset.port with ports := [(5, { link := .l0 })] }, echo := { State.reset.echo with endps := [(48, { wins := [(0, [(0, 48), (2, 1), (3, 5)])] })] } }).endp 48) 0 16), { State.reset with cfg := { State.reset.cfg with hiers := [(3, { live := true, home := 0, homePort := 5, usps := [5] })], endps := [(48, { enable := true })], ports := [(5, { role := 1 })] }, port := { State.reset.port with ports := [(5, { link := .l0 })] }, echo := { State.reset.echo with endps := [(48, { wins := [(0, [(0, 48), (2, 1), (3, 5)])] })] } }, by decide, by decide, by decide, by decide, by decide, by decide, by decide, by decide, by decide, by decide, by decide, by decide, by decide, by decide⟩,
    ⟨0, { ep := 48, dst := 48, prio := 5, slot := some 0, msg := [] }, { State.reset with check := [(96, { busy := true })] }, .inl ⟨0, rfl, by decide⟩⟩,
    ⟨0, { ep := 48, dst := 48, prio := 5, slot := none, msg := [] }, State.reset, by decide, by decide⟩,
    ⟨0, 1, { ep := 48, dst := 48, prio := 5, slot := some 1, msg := [] }, { State.reset with cfg := { State.reset.cfg with hiers := [(3, { live := true })], checks := [(97, { assigned := true })] }, check := [(97, {  })] }, by decide, by decide, by decide, by decide⟩,
    ⟨3, State.reset, by decide⟩⟩

/-- A state and operands that meet the hypotheses of every clause of `Obligations.EchoDelivery`. -/
theorem test_meets_EchoDelivery :
    (∃ (g : Nat) (e : Nat) (m : EchoMsg) (rest : List EchoMsg) (s : State) (u : State), g < 8 ∧ (s.gal g).lost = none ∧ launchWaits s = false ∧ (s.svc g).pickedAt ≠ some s.now ∧ pickEcho s g = some e ∧ (s.endp e).queue = m :: rest ∧ u = (freeEg (s.modEndp e (fun x => { x with queue := rest })) g (localOf (epHier s e).homePort) 6 m.units).modSvc g (fun v => { v with lastServed := e, pickedAt := some s.now }) ∧ epEnabled u e = false) ∧
    (∃ (g : Nat) (e : Nat) (m : EchoMsg) (rest : List EchoMsg) (s : State) (u : State), g < 8 ∧ (s.gal g).lost = none ∧ launchWaits s = false ∧ (s.svc g).pickedAt ≠ some s.now ∧ pickEcho s g = some e ∧ (s.endp e).queue = m :: rest ∧ u = (freeEg (s.modEndp e (fun x => { x with queue := rest })) g (localOf (epHier s e).homePort) 6 m.units).modSvc g (fun v => { v with lastServed := e, pickedAt := some s.now }) ∧ epEnabled u e = true ∧ (s.endp e).ringEn = false) ∧
    (∃ (g : Nat) (e : Nat) (m : EchoMsg) (rest : List EchoMsg) (s : State) (u : State), g < 8 ∧ (s.gal g).lost = none ∧ launchWaits s = false ∧ (s.svc g).pickedAt ≠ some s.now ∧ pickEcho s g = some e ∧ (s.endp e).queue = m :: rest ∧ u = (freeEg (s.modEndp e (fun x => { x with queue := rest })) g (localOf (epHier s e).homePort) 6 m.units).modSvc g (fun v => { v with lastServed := e, pickedAt := some s.now }) ∧ epEnabled u e = true ∧ (s.endp e).ringEn = true ∧ ringUnits (s.endp e) - ringUsed (s.endp e) < m.units) ∧
    (∃ (g : Nat) (e : Nat) (m : EchoMsg) (rest : List EchoMsg) (s : State) (u : State), g < 8 ∧ (s.gal g).lost = none ∧ launchWaits s = false ∧ (s.svc g).pickedAt ≠ some s.now ∧ pickEcho s g = some e ∧ (s.endp e).queue = m :: rest ∧ u = (freeEg (s.modEndp e (fun x => { x with queue := rest })) g (localOf (epHier s e).homePort) 6 m.units).modSvc g (fun v => { v with lastServed := e, pickedAt := some s.now }) ∧ epEnabled u e = true ∧ (s.endp e).ringEn = true ∧ m.units ≤ ringUnits (s.endp e) - ringUsed (s.endp e) ∧ (firstLive u (e / 16) = none ∨ ∃ k, firstLive u (e / 16) = some k ∧ (u.fn k 1).busMaster = false)) ∧
    (∃ (g : Nat) (e : Nat) (usp : Nat) (m : EchoMsg) (rest : List EchoMsg) (s : State) (u : State), g < 8 ∧ (s.gal g).lost = none ∧ launchWaits s = false ∧ (s.svc g).pickedAt ≠ some s.now ∧ pickEcho s g = some e ∧ (s.endp e).queue = m :: rest ∧ u = (freeEg (s.modEndp e (fun x => { x with queue := rest })) g (localOf (epHier s e).homePort) 6 m.units).modSvc g (fun v => { v with lastServed := e, pickedAt := some s.now }) ∧ epEnabled u e = true ∧ (s.endp e).ringEn = true ∧ m.units ≤ ringUnits (s.endp e) - ringUsed (s.endp e) ∧ firstLive u (e / 16) = some usp ∧ (u.fn usp 1).busMaster = true) ∧
    (∃ (g : Nat) (e : Nat) (ep : Nat) (prio : Nat) (m : EchoMsg) (rest : List EchoMsg) (s : State), (pickEcho s g = none ∨ pickEcho s g = some e ∧ (s.endp e).queue = m :: rest ∧ (e ≠ ep ∨ m.prio ≠ prio))) ∧
    (∃ (agent : Nat) (ep : Nat) (t : Nat) (usp : Nat) (s : State), ep < 16 ∧ homed s agent = true ∧ (s.endp (16 * agent + ep)).oldest = some t ∧ (if ((s.endp (16 * agent + ep)).via.map s.up).getD false then (s.endp (16 * agent + ep)).via else firstLive s agent) = some usp ∧ (s.endp (16 * agent + ep)).intEn = true ∧ (s.endp (16 * agent + ep)).intDelay ≠ 0 ∧ t + 1024 * (s.endp (16 * agent + ep)).intDelay ≤ s.now) ∧
    (∃ (g : Nat), g < 8) :=
  ⟨⟨0, 48, { bytes := List.replicate 64 0#8, units := 1, prio := 0, src := 48, dst := 48, yellow := false }, [], { State.reset with cfg := { State.reset.cfg with hiers := [(3, { live := true, home := 0, homePort := 5, usps := [5] })], endps := [(48, { enable := false })], ports := [(5, { role := 1 })] }, port := { State.reset.port with ports := [(5, { link := .l0 })] }, echo := { State.reset.echo with endps := [(48, { queue := [{ bytes := List.replicate 64 0#8, units := 1, prio := 0, src := 48, dst := 48, yellow := false }] })] } }, _, by decide, by decide, by decide, by decide, by decide, by decide, rfl, by decide⟩,
    ⟨0, 48, { bytes := List.replicate 64 0#8, units := 1, prio := 0, src := 48, dst := 48, yellow := false }, [], { State.reset with cfg := { State.reset.cfg with hiers := [(3, { live := true, home := 0, homePort := 5, usps := [5] })], endps := [(48, { enable := true })], ports := [(5, { role := 1 })] }, port := { State.reset.port with ports := [(5, { link := .l0 })] }, echo := { State.reset.echo with endps := [(48, { queue := [{ bytes := List.replicate 64 0#8, units := 1, prio := 0, src := 48, dst := 48, yellow := false }] })] } }, _, by decide, by decide, by decide, by decide, by decide, by decide, rfl, by decide, by decide⟩,
    ⟨0, 48, { bytes := List.replicate 64 0#8, units := 1, prio := 0, src := 48, dst := 48, yellow := false }, [], { State.reset with cfg := { State.reset.cfg with hiers := [(3, { live := true, home := 0, homePort := 5, usps := [5] })], endps := [(48, { enable := true })], ports := [(5, { role := 1 })] }, port := { State.reset.port with ports := [(5, { link := .l0 })] }, echo := { State.reset.echo with endps := [(48, { queue := [{ bytes := List.replicate 64 0#8, units := 1, prio := 0, src := 48, dst := 48, yellow := false }], ringEn := true })] } }, _, by decide, by decide, by decide, by decide, by decide, by decide, rfl, by decide, by decide, by decide⟩,
    ⟨0, 48, { bytes := List.replicate 64 0#8, units := 1, prio := 0, src := 48, dst := 48, yellow := false }, [], { State.reset with cfg := { State.reset.cfg with hiers := [(3, { live := true, home := 0, homePort := 5, usps := [5] })], endps := [(48, { enable := true })], ports := [(5, { role := 1 })] }, port := { State.reset.port with ports := [(5, { link := .l0 })] }, echo := { State.reset.echo with endps := [(48, { queue := [{ bytes := List.replicate 64 0#8, units := 1, prio := 0, src := 48, dst := 48, yellow := false }], ringEn := true, sizeLog := 16 })] } }, _, by decide, by decide, by decide, by decide, by decide, by decide, rfl, by decide, by decide, by decide, .inr ⟨5, by decide, by decide⟩⟩,
    ⟨0, 48, 5, { bytes := List.replicate 64 0#8, units := 1, prio := 0, src := 48, dst := 48, yellow := false }, [], { State.reset with cfg := { State.reset.cfg with hiers := [(3, { live := true, home := 0, homePort := 5, usps := [5] })], endps := [(48, { enable := true })], ports := [(5, { role := 1 })] }, port := { State.reset.port with ports := [(5, { link := .l0 })], fns := [(1281, { busMaster := true })] }, echo := { State.reset.echo with endps := [(48, { queue := [{ bytes := List.replicate 64 0#8, units := 1, prio := 0, src := 48, dst := 48, yellow := false }], ringEn := true, sizeLog := 16 })] } }, _, by decide, by decide, by decide, by decide, by decide, by decide, rfl, by decide, by decide, by decide, by decide, by decide⟩,
    ⟨0, 48, 47, 0, { bytes := List.replicate 64 0#8, units := 1, prio := 0, src := 48, dst := 48, yellow := false }, [], { State.reset with cfg := { State.reset.cfg with hiers := [(3, { live := true, home := 0, homePort := 5, usps := [5] })], endps := [(48, { enable := true })], ports := [(5, { role := 1 })] }, port := { State.reset.port with ports := [(5, { link := .l0 })] }, echo := { State.reset.echo with endps := [(48, { queue := [{ bytes := List.replicate 64 0#8, units := 1, prio := 0, src := 48, dst := 48, yellow := false }] })] } }, .inr ⟨by decide, by decide, .inl (by decide)⟩⟩,
    ⟨3, 0, 0, 5, { State.reset with cfg := { State.reset.cfg with hiers := [(3, { live := true, home := 0, homePort := 5, usps := [5] })], endps := [(48, { enable := true })], ports := [(5, { role := 1 })] }, port := { State.reset.port with ports := [(5, { link := .l0 })] }, echo := { State.reset.echo with endps := [(48, { oldest := some 0, intEn := true, intDelay := 1 })] }, time := { State.reset.time with elapsed := 1024 } }, by decide, by decide, by decide, by decide, by decide, by decide, by decide⟩,
    ⟨7, by decide⟩⟩

/-- A state and operands that meet the hypotheses of every clause of `Obligations.EchoRegisters`. -/
theorem test_meets_EchoRegisters :
    (∃ (agent : Nat) (ep : Nat) (s : State), ep < 16 ∧ homed s agent = true) ∧
    (∃ (agent : Nat) (ep : Nat) (s : State), ep < 16 ∧ homed s agent = true) ∧
    (∃ (v : Nat) (x : Endp), x.ringEn = false ∧ bitOf v 8 = true) ∧
    (∃ (x : Endp), x.ringEn = true) ∧
    (∃ (off : Nat) (x : Endp), x.ringEn = true ∧ (off / 8 = 1 ∨ off / 8 = 5)) ∧
    (∃ (agent : Nat) (s : State), homed s agent = true ∧ agent < 256) ∧
    (∃ (e : Nat) (w : Nat), e < 16 ∧ w < 4) ∧
    (∃ (agent : Nat) (s : State), homed s agent = false) :=
  ⟨⟨3, 15, { State.reset with cfg := { State.reset.cfg with hiers := [(3, { live := true, home := 0, homePort := 5, usps := [5] })], endps := [(48, { enable := true })], ports := [(5, { role := 1 })] }, port := { State.reset.port with ports := [(5, { link := .l0 })] }, echo := { State.reset.echo with endps := [(48, {  })] } }, by decide, by decide⟩,
    ⟨3, 15, { State.reset with cfg := { State.reset.cfg with hiers := [(3, { live := true, home := 0, homePort := 5, usps := [5] })], endps := [(48, { enable := true })], ports := [(5, { role := 1 })] }, port := { State.reset.port with ports := [(5, { link := .l0 })] }, echo := { State.reset.echo with endps := [(48, {  })] } }, by decide, by decide⟩,
    ⟨272, {}, by decide, by decide⟩,
    ⟨{ ringEn := true }, by decide⟩,
    ⟨8, { ringEn := true }, rfl, .inl rfl⟩,
    ⟨3, { State.reset with cfg := { State.reset.cfg with hiers := [(3, { live := true, home := 0, homePort := 5, usps := [5] })], endps := [(48, { enable := true })], ports := [(5, { role := 1 })] }, port := { State.reset.port with ports := [(5, { link := .l0 })] }, echo := { State.reset.echo with endps := [(48, {  })] } }, by decide, by decide⟩,
    ⟨15, 3, by decide, by decide⟩,
    ⟨3, State.reset, by decide⟩⟩

/-- A state and operands that meet the hypotheses of every clause of `Obligations.CheckSlots`. -/
theorem test_meets_CheckSlots :
    (∃ (agent : Nat) (slot : Nat) (s : State), assigned s agent slot = true ∧ (s.ctx agent slot).busy = false) ∧
    (∃ (agent : Nat) (slot : Nat) (s : State), assigned s agent slot = true ∧ (s.ctx agent slot).busy = false) ∧
    (∃ (agent : Nat) (slot : Nat) (s : State), assigned s agent slot = true ∧ (s.ctx agent slot).busy = false) ∧
    (∃ (agent : Nat) (slot : Nat) (s : State), assigned s agent slot = true ∧ (s.ctx agent slot).busy = false) ∧
    (∃ (agent : Nat) (slot : Nat) (s : State), assigned s agent slot = true ∧ (s.ctx agent slot).busy = false) ∧
    (∃ (agent : Nat) (slot : Nat) (s : State), assigned s agent slot = true ∧ (s.ctx agent slot).busy = true) ∧
    (∃ (agent : Nat) (slot : Nat) (s : State), assigned s agent slot = false) ∧
    (∃ (agent : Nat) (slot : Nat) (i : Nat) (l : ScanLine) (s : State), (s.ctx agent slot).busy = true ∧ (s.cfg.hier agent).homeless = false ∧ scanBound s agent (s.ctx agent slot).scanGrotto = true ∧ (s.ctx agent slot).arrived.find? (fun e => e.1 == (s.ctx agent slot).scanNext) = some (i, l)) ∧
    (∃ (agent : Nat) (slot : Nat) (lost : Bool) (s : State), (s.ctx agent slot).busy = true ∧ (s.cfg.hier agent).homeless = false ∧ (lost = true ∨ scanBound s agent (s.ctx agent slot).scanGrotto = false)) :=
  ⟨⟨3, 1, { State.reset with cfg := { State.reset.cfg with hiers := [(3, { live := true })], checks := [(97, { assigned := true })] }, check := [(97, {  })] }, by decide, by decide⟩,
    ⟨3, 1, { State.reset with cfg := { State.reset.cfg with hiers := [(3, { live := true })], checks := [(97, { assigned := true })] }, check := [(97, {  })] }, by decide, by decide⟩,
    ⟨3, 1, { State.reset with cfg := { State.reset.cfg with hiers := [(3, { live := true })], checks := [(97, { assigned := true })] }, check := [(97, {  })] }, by decide, by decide⟩,
    ⟨3, 1, { State.reset with cfg := { State.reset.cfg with hiers := [(3, { live := true })], checks := [(97, { assigned := true })] }, check := [(97, {  })] }, by decide, by decide⟩,
    ⟨3, 1, { State.reset with cfg := { State.reset.cfg with hiers := [(3, { live := true })], checks := [(97, { assigned := true })] }, check := [(97, {  })] }, by decide, by decide⟩,
    ⟨3, 1, { State.reset with cfg := { State.reset.cfg with hiers := [(3, { live := true })], checks := [(97, { assigned := true })] }, check := [(97, { busy := true })] }, by decide, by decide⟩,
    ⟨3, 1, State.reset, by decide⟩,
    ⟨3, 1, 0, .guard, { State.reset with cfg := { State.reset.cfg with grottos := [(0, { live := true, agent := 3 })], hiers := [(3, { live := true })], checks := [(97, { assigned := true })] }, check := [(97, { busy := true, arrived := [(0, .guard)] })] , mem := { State.reset.mem with grottos := [(0, { st := .bound })] } }, by decide, by decide, by decide, by decide⟩,
    ⟨3, 1, true, { State.reset with cfg := { State.reset.cfg with hiers := [(3, { live := true })], checks := [(97, { assigned := true })] }, check := [(97, { busy := true })] }, by decide, by decide, .inl rfl⟩⟩

/-- A state and operands that meet the hypotheses of every clause of `Obligations.VerifyResults`. -/
theorem test_meets_VerifyResults :
    (∃ (alg : Nat) (v : Nat) (short : Bool) (same : Bool) (x : Ctx), x.alive < 256 ∧ v = checkAfter alg x.running (x.inLo % 256) ∧ same = (if short then decide (x.inLo / 2 ^ 8 % 2 ^ 24 = v % 2 ^ 24) else decide (x.inLo / 2 ^ 32 % 2 ^ 32 + x.inHi % 2 ^ 32 * 2 ^ 32 = v)) ∧ same = false) ∧
    (∃ (alg : Nat) (v : Nat) (short : Bool) (same : Bool) (x : Ctx), x.alive < 256 ∧ v = checkAfter alg x.running (x.inLo % 256) ∧ same = (if short then decide (x.inLo / 2 ^ 8 % 2 ^ 24 = v % 2 ^ 24) else decide (x.inLo / 2 ^ 32 % 2 ^ 32 + x.inHi % 2 ^ 32 * 2 ^ 32 = v)) ∧ same = true ∧ x.inLo % 256 = x.alive) ∧
    (∃ (alg : Nat) (v : Nat) (short : Bool) (same : Bool) (x : Ctx), x.alive < 256 ∧ v = checkAfter alg x.running (x.inLo % 256) ∧ same = (if short then decide (x.inLo / 2 ^ 8 % 2 ^ 24 = v % 2 ^ 24) else decide (x.inLo / 2 ^ 32 % 2 ^ 32 + x.inHi % 2 ^ 32 * 2 ^ 32 = v)) ∧ same = true ∧ x.inLo % 256 = (x.alive + 255) % 256) ∧
    (∃ (alg : Nat) (v : Nat) (short : Bool) (same : Bool) (x : Ctx), x.alive < 256 ∧ v = checkAfter alg x.running (x.inLo % 256) ∧ same = (if short then decide (x.inLo / 2 ^ 8 % 2 ^ 24 = v % 2 ^ 24) else decide (x.inLo / 2 ^ 32 % 2 ^ 32 + x.inHi % 2 ^ 32 * 2 ^ 32 = v)) ∧ same = true ∧ x.inLo % 256 ≠ x.alive ∧ x.inLo % 256 ≠ (x.alive + 255) % 256) :=
  ⟨⟨0, _, false, false, { inLo := 21474836480 }, by decide, rfl, by decide, rfl⟩,
    ⟨0, _, true, _, { alive := 0 }, by decide, rfl, rfl, by decide, rfl⟩,
    ⟨0, _, true, _, { alive := 1 }, by decide, rfl, rfl, by decide, rfl⟩,
    ⟨0, _, true, _, { alive := 2 }, by decide, rfl, rfl, by decide, by decide, by decide⟩⟩

/-- A state and operands that meet the hypotheses of every clause of `Obligations.GrottosAndWindows`. -/
theorem test_meets_GrottosAndWindows :
    (∃ (grotto : Nat) (gen : Nat) (v : LiveGen) (s : State), drainOf s grotto gen = some v ∧ v.count = 0 ∧ v.sweepDone = true) ∧
    (∃ (grotto : Nat) (gen : Nat) (v : LiveGen) (s : State), drainOf s grotto gen = some v ∧ v.deadline ≤ s.now) ∧
    (∃ (grotto : Nat) (gen : Nat) (s : State), ((s.gr grotto).holds.any (fun h => h.1 == gen && decide (h.2 ≤ s.now))) = true) ∧
    (∃ (grotto : Nat) (g : Nat) (sl : Nat) (set : Nat) (es : List (Nat × Entry)) (s : State), (s.gr grotto).recallOn = true ∧ (activeSlices s).contains (g, sl) = true ∧ sweepMay (tget 0 (s.gr grotto).sweep (sweepKey s g sl)) set (sweepHits s g sl (recallHit s grotto g)) = true ∧ es = (sweepEntries s g sl set).filter (fun h => recallHit s grotto g h.2) ∧ (es.all (fun h => h.2.txn.isNone)) = true) ∧
    (∃ (grotto : Nat) (s : State), (s.gr grotto).recallOn = true ∧ ((activeSlices s).all (fun p =>
    sweepDone (tget 0 (s.gr grotto).sweep (sweepKey s p.1 p.2)) (sweepHits s p.1 p.2 (recallHit s grotto p.1)) &&
      !(sweptEntries s p.1 p.2).any (fun e => inGrotto s grotto p.1 e.key && e.txn.any (fun t =>
        t.req.isNone && t.kind == .own && t.snoops.any (fun n => n.agent == (s.cfg.gr grotto).agent))))) = true) ∧
    (∃ (win : Nat) (s : State), (s.win win).sanSt = 1 ∧ sanWritten s win = true) ∧
    (∃ (win : Nat) (s : State), (s.win win).sanSt = 1 ∧ deviceGone s win = true) ∧
    (∃ (g : Nat) (id : Nat) (copy : Nat) (port : Nat) (o : DevOut) (a : DevAcc) (s : State), s.dir.accs.find? (fun a => a.use == .copy g id copy) = some a ∧ outAt s a.id = some (port, o)) ∧
    (∃ (g : Nat) (id : Nat) (copy : Nat) (port : Nat) (o : DevOut) (a : DevAcc) (s : State), s.dir.accs.find? (fun a => a.use == .copy g id copy) = some a ∧ outAt s a.id = some (port, o)) ∧
    (∃ (win : Nat) (ext : Nat) (x : ExtRt) (s : State), x = tget {} (s.win win).exts ext ∧ resyncOn s win ext = true ∧ x.p < extBlocks s win ext ∧ 64 ≤ x.done) ∧
    (∃ (win : Nat) (ext : Nat) (s : State), (tget {} (s.win win).exts ext).resync = true ∧ (tget {} (s.win win).exts ext).p = extBlocks s win ext) ∧
    (∃ (win : Nat) (s : State), ((s.win win).exts.any (fun e => e.2.lost == 1 || e.2.lost == 2)) = true) ∧
    (∃ (win : Nat) (e : Nat × Nat × Nat) (s : State), ((s.win win).exts.any (fun e => e.2.lost == 1 || e.2.lost == 2)) = false ∧ (s.win win).resynced ≠ [] ∧ (extents (s.cfg.win win)).find? (fun e => (s.win win).resynced.contains e.1) = some e) ∧
    (∃ (win : Nat) (g : Nat) (sl : Nat) (set : Nat) (r : Removed) (es : List (Nat × Entry)) (s : State), removedOf s win = some r ∧ es = (sweepEntries s g sl set).filter (fun h => inRemoved r g h.2.key) ∧ r.cfg.shared = true ∧ (activeSlices s).contains (g, sl) = true ∧ sweepMay (tget 0 r.sweep (sweepKey s g sl)) set (removeHits s r g sl) = true ∧ (es.all (fun h => h.2.txn.isNone)) = true) ∧
    (∃ (win : Nat) (r : Removed) (s : State), removedOf s win = some r ∧ ((activeSlices s).all (fun p => (removeHits s r p.1 p.2).isEmpty)) = true ∧ (s.mem.twins.any (fun e => e.2.any (fun t => t.win == win)) ||
      s.mem.twinWait.any (fun e => e.2.any (fun p => inRemoved r e.1 (keyOf (64 * p.dstGal + p.dstPort) p.addr)))) = false) :=
  ⟨⟨3, 5, { gen := 5, count := 0, draining := true, vppb := 2, sweepDone := true, deadline := 0 }, { State.reset with mem := { State.reset.mem with grottos := [(3, { gens := [{ gen := 5, count := 0, draining := true, vppb := 2, sweepDone := true, deadline := 0 }] })] } }, by decide, by decide, by decide⟩,
    ⟨3, 5, { gen := 5, count := 0, draining := true, vppb := 2, sweepDone := true, deadline := 0 }, { State.reset with mem := { State.reset.mem with grottos := [(3, { gens := [{ gen := 5, count := 0, draining := true, vppb := 2, sweepDone := true, deadline := 0 }] })] } }, by decide, by decide⟩,
    ⟨3, 5, { State.reset with mem := { State.reset.mem with grottos := [(3, { holds := [(5, 0)] })] } }, by decide⟩,
    ⟨3, 0, 0, 0, [], { State.reset with mem := { State.reset.mem with grottos := [(3, { recallOn := true })] }, dir := { State.reset.dir with slices := [(0, { mode := .full })] } }, by decide, by decide, by decide, by decide, by decide⟩,
    ⟨3, { State.reset with mem := { State.reset.mem with grottos := [(3, { recallOn := true })] } }, by decide, by decide⟩,
    ⟨3, { State.reset with mem := { State.reset.mem with wins := [(3, { sanSt := 1 })] } }, by decide, by decide⟩,
    ⟨3, { State.reset with cfg := { State.reset.cfg with wins := [(3, { live := true, segs := [{ units := 1, ways := [5], twins := [] }] })], ports := [(5, { role := 2 })] }, mem := { State.reset.mem with wins := [(3, { sanSt := 1 })] } }, by decide, by decide⟩,
    ⟨0, 4, 1, 5, { id := 9, sentAt := 0, pkt := {} }, { id := 9, use := .copy 0 4 1 }, { State.reset with dir := { State.reset.dir with accs := [{ id := 9, use := .copy 0 4 1 }] }, port := { State.reset.port with ports := [(5, { outs := [{ id := 9, sentAt := 0, pkt := {} }] })] } }, by decide, by decide⟩,
    ⟨0, 4, 1, 5, { id := 9, sentAt := 0, pkt := {} }, { id := 9, use := .copy 0 4 1 }, { State.reset with dir := { State.reset.dir with accs := [{ id := 9, use := .copy 0 4 1 }] }, port := { State.reset.port with ports := [(5, { outs := [{ id := 9, sentAt := 0, pkt := {} }] })] } }, by decide, by decide⟩,
    ⟨3, 0, { resync := true, lost := 2, done := 64 }, { State.reset with cfg := { State.reset.cfg with wins := [(3, { live := true, twinned := true, segs := [{ units := 1, ways := [5], twins := [9] }] })], ports := [(5, { role := 2 }), (9, { role := 2 })] }, port := { State.reset.port with ports := [(5, { link := .l0 }), (9, { link := .l0 })] }, mem := { State.reset.mem with wins := [(3, { exts := [(0, { resync := true, lost := 2, done := 64 })] })] } }, by decide, by decide, by decide, by decide⟩,
    ⟨3, 0, { State.reset with mem := { State.reset.mem with wins := [(3, { exts := [(0, { resync := true })] })] } }, by decide, by decide⟩,
    ⟨3, { State.reset with mem := { State.reset.mem with wins := [(3, { exts := [(0, { lost := 1 })] })] } }, by decide⟩,
    ⟨3, (0, 5, 9), { State.reset with cfg := { State.reset.cfg with wins := [(3, { live := true, twinned := true, segs := [{ units := 1, ways := [5], twins := [9] }] })] }, mem := { State.reset.mem with wins := [(3, { resynced := [0] })] } }, by decide, by decide, by decide⟩,
    ⟨3, 0, 0, 0, { win := 3, cfg := { shared := true } }, [], { State.reset with mem := { State.reset.mem with removed := [{ win := 3, cfg := { shared := true } }] }, dir := { State.reset.dir with slices := [(0, { mode := .full })] } }, by decide, by decide, by decide, by decide, by decide, by decide⟩,
    ⟨3, { win := 3, cfg := {} }, { State.reset with mem := { State.reset.mem with removed := [{ win := 3, cfg := {} }] } }, by decide, by decide, by decide⟩⟩

/-- A state and operands that meet the hypotheses of every clause of `Obligations.PowerSlots`. -/
theorem test_meets_PowerSlots :
    (∃ (slot : Nat), slot < 128) ∧
    (∃ (slot : Nat) (s : State), slot < 128 ∧ timerDue s slot = true ∧ removalDue s slot = false) ∧
    (∃ (slot : Nat) (cur : Nat) (s : State), slot < 128 ∧ gateOn (s.slot slot).st = true ∧ 20 * (slotCfg s slot).iLim < cur) ∧
    (∃ (slot : Nat) (s : State), slot < 128 ∧ removalDue s slot = true) ∧
    (∃ (slot : Nat) (s : State), slot < 128 ∧ fetDue s slot = true) ∧
    (∃ (n : Nat) (cause : Nat) (s : State), gateOn (s.slot n).st = true ∧ (cause = 1 ∨ cause = 2 ∨ cause = 4)) ∧
    (∃ (slot : Nat) (t : Nat) (s : State), slot < 128 ∧ (s.slot slot).clearAt = some t ∧ (s.slot slot).inLimit = false ∧ t + 800000 ≤ s.now) ∧
    (∃ (slot : Nat) (t : Nat) (s : State), slot < 128 ∧ (s.slot slot).st = .ramping ∧ removalDue s slot = false ∧ timerDue s slot = false ∧ (s.slot slot).goodSince = some t ∧ t + 800000 ≤ s.now) ∧
    (∃ (slot : Nat) (s : State), slot < 128 ∧ (s.slot slot).st = .warnOff ∧ removalDue s slot = false ∧ timerDue s slot = false ∧ (s.slot slot).warnAt + 800000 * (slotCfg s slot).warnLead ≤ s.now) ∧
    (∃ (slot : Nat) (ramp : State) (go : SlotSt → State) (s : State), slot < 128 ∧ (s.slot slot).st = .cooldown ∧ (s.slot slot).coolEnd ≤ s.now ∧ ramp = s.modSlot slot (fun x => { rampUp s.drip s.now x with removedInCool := false, offInCool := false }) ∧ go = (fun st => s.modSlot slot (fun x => { slotTo s.drip st x with removedInCool := false, offInCool := false }))) ∧
    (∃ (slot : Nat) (high : Bool) (s : State), slot < 128 ∧ (s.slot slot).rawHigh = !high) ∧
    (∃ (slot : Nat) (s : State), slot < 128 ∧ (s.slot slot).present = (s.slot slot).rawHigh ∧ (s.slot slot).rawSince + 80000000 ≤ s.now) ∧
    (∃ (bus : Nat) (x : Bus) (s : State), bus < 4 ∧ x = s.bus bus) ∧
    (∃ (bus : Nat) (t : Nat) (s : State), bus < 4 ∧ (s.bus bus).warn = true ∧ (s.bus bus).okSince = some t ∧ t + 800000 ≤ s.now) :=
  ⟨⟨127, by decide⟩,
    ⟨3, { State.reset with power := { State.reset.power with slots := [(3, { st := .on, timer := 800000000, rawHigh := false })], buses := [] }, time := { State.reset.time with elapsed := 100000000 } }, by decide, by decide, by decide⟩,
    ⟨3, 5000, { State.reset with power := { State.reset.power with slots := [(3, { st := .on })], buses := [] }, time := { State.reset.time with elapsed := 100000000 } }, by decide, by decide, by decide⟩,
    ⟨3, { State.reset with power := { State.reset.power with slots := [(3, { st := .on, rawHigh := true, rawSince := 0 })], buses := [] }, time := { State.reset.time with elapsed := 100000000 } }, by decide, by decide⟩,
    ⟨3, { State.reset with power := { State.reset.power with slots := [(3, { st := .off, offAt := some 0 })], buses := [] }, time := { State.reset.time with elapsed := 100000000 } }, by decide, by decide⟩,
    ⟨3, 1, { State.reset with power := { State.reset.power with slots := [(3, { st := .on })], buses := [] }, time := { State.reset.time with elapsed := 100000000 } }, by decide, .inl rfl⟩,
    ⟨3, 0, { State.reset with power := { State.reset.power with slots := [(3, { clearAt := some 0 })], buses := [] }, time := { State.reset.time with elapsed := 100000000 } }, by decide, by decide, by decide, by decide⟩,
    ⟨3, 0, { State.reset with power := { State.reset.power with slots := [(3, { rawHigh := false, st := .ramping, goodSince := some 0 })], buses := [] }, time := { State.reset.time with elapsed := 100000000 } }, by decide, by decide, by decide, by decide, by decide, by decide⟩,
    ⟨3, { State.reset with power := { State.reset.power with slots := [(3, { rawHigh := false, st := .warnOff, cfg := some { warnLead := 1 } })], buses := [] }, time := { State.reset.time with elapsed := 100000000 } }, by decide, by decide, by decide, by decide, by decide⟩,
    ⟨3, _, _, { State.reset with power := { State.reset.power with slots := [(3, { st := .cooldown, coolEnd := 0 })], buses := [] }, time := { State.reset.time with elapsed := 100000000 } }, by decide, by decide, by decide, rfl, rfl⟩,
    ⟨3, true, { State.reset with power := { State.reset.power with slots := [(3, { rawHigh := false })], buses := [] }, time := { State.reset.time with elapsed := 100000000 } }, by decide, by decide⟩,
    ⟨3, { State.reset with power := { State.reset.power with slots := [(3, { rawHigh := true, present := true, rawSince := 0 })], buses := [] }, time := { State.reset.time with elapsed := 100000000 } }, by decide, by decide, by decide⟩,
    ⟨3, {}, { State.reset with power := { State.reset.power with buses := [(3, {})] } }, by decide, by decide⟩,
    ⟨3, 0, { State.reset with power := { State.reset.power with slots := [(3, {  })], buses := [(3, { warn := true, okSince := some 0 })] }, time := { State.reset.time with elapsed := 100000000 } }, by decide, by decide, by decide, by decide⟩⟩

/-- A state and operands that meet the hypotheses of every clause of `Obligations.BootRom`. -/
theorem test_meets_BootRom :
    (∃ (s : State), s.mgmt.boot = .romInit ∧ romRuns s = true) ∧
    (∃ (s : State), s.mgmt.boot = .romInit ∧ romRuns s = true ∧ (s.cluster 0).st ≠ .failed ∧ s.mgmt.keptValid = true) ∧
    (∃ (keptOk : Bool) (s : State), s.mgmt.boot = .romInit ∧ romRuns s = true ∧ (s.cluster 0).st ≠ .failed ∧ (s.mgmt.keptValid = false ∨ keptOk = false)) ∧
    (∃ (s : State), s.mgmt.boot = .receiving ∧ romRuns s = true ∧ s.mgmt.bootAt + 8000000000 ≤ s.now) ∧
    (∃ (s : State), s.mgmt.boot = .verifying ∧ romRuns s = true) ∧
    (∃ (d : Bytes) (s : State), s.mgmt.boot = .verifying ∧ romRuns s = true ∧ d = sha384 (signedBytes s.mgmt.kept)) ∧
    (∃ (b : Nat) (rest : List Nat) (s : State), s.mgmt.boot = .fusing ∧ romRuns s = true ∧ s.mgmt.fusePlan = b :: rest) ∧
    (∃ (s : State), s.mgmt.coldRst = false ∧ s.mgmt.keptValid = true) ∧
    (∃ (s : State), s.mgmt.coldRst = false) :=
  ⟨⟨State.reset, by decide, by decide⟩,
    ⟨{ State.reset with mgmt := { State.reset.mgmt with keptValid := true } }, by decide, by decide, by decide, by decide⟩,
    ⟨true, State.reset, by decide, by decide, by decide, .inl rfl⟩,
    ⟨{ State.reset with mgmt := { State.reset.mgmt with boot := .receiving }, time := { State.reset.time with elapsed := 8000000000 } }, rfl, by decide, Nat.le_refl _⟩,
    ⟨{ State.reset with mgmt := { State.reset.mgmt with boot := .verifying } }, by decide, by decide⟩,
    ⟨_, { State.reset with mgmt := { State.reset.mgmt with boot := .verifying } }, rfl, by decide, rfl⟩,
    ⟨3, [], { State.reset with mgmt := { State.reset.mgmt with boot := .fusing, fusePlan := [3] } }, by decide, by decide, by decide⟩,
    ⟨{ State.reset with mgmt := { State.reset.mgmt with keptValid := true } }, by decide, by decide⟩,
    ⟨State.reset, by decide⟩⟩

/-- A state and operands that meet the hypotheses of every clause of `Obligations.ClustersAndFirmware`. -/
theorem test_meets_ClustersAndFirmware :
    (∃ (s : State), s.mgmt.boot = .starting ∧ s.mgmt.bothDown = false ∧ s.mgmt.mgmtRst = false ∧ s.mgmt.coldRst = false) ∧
    (∃ (cluster : Nat) (s : State), cluster < 2 ∧ clusterRuns s cluster = true ∧ firmwareUp s = true) ∧
    (∃ (s : State) (u : State), firmwareUp s = true ∧ s.drip / 800000 ≠ s.mgmt.hbInterval ∧ u = beatEnd (beatEnd { s with mgmt := { s.mgmt with hbInterval := s.drip / 800000 } } 0) 1) ∧
    (∃ (n : Nat) (s : State), clusterRuns s n = true) ∧
    (∃ (cluster : Nat) (s : State), cluster < 2 ∧ clusterRuns s cluster = true ∧ firmwareUp s = true) ∧
    (∃ (n : Nat) (s : State) (u : State), u = noteFailure s n ∧ n = u.mgmt.token ∧ (u.cluster (1 - n)).st = .standby) ∧
    (∃ (n : Nat) (s : State) (u : State), u = noteFailure s n ∧ n = u.mgmt.token ∧ (u.cluster (1 - n)).st ≠ .standby) ∧
    (∃ (n : Nat) (s : State) (u : State), u = noteFailure s n ∧ n ≠ u.mgmt.token) ∧
    (∃ (cluster : Nat) (s : State), cluster < 2 ∧ firmwareUp s = true ∧ cluster ≠ s.mgmt.token ∧ (s.cluster cluster).st = .rom ∧ s.mgmt.keptValid = true) ∧
    (∃ (cluster : Nat) (s : State), s.mgmt.bothDown = true ∧ s.mgmt.mgmtRst = false ∧ s.mgmt.coldRst = false ∧ s.mgmt.boot = .starting ∧ cluster < 2 ∧ (s.cluster cluster).st ≠ .failed) :=
  ⟨⟨{ State.reset with mgmt := { State.reset.mgmt with boot := .starting } }, by decide, by decide, by decide, by decide⟩,
    ⟨0, { State.reset with mgmt := { State.reset.mgmt with boot := .running, cl := [(0, { st := .active }), (1, { st := .standby })] } }, by decide, by decide, by decide⟩,
    ⟨{ State.reset with mgmt := { State.reset.mgmt with boot := .running, cl := [(0, { st := .active }), (1, { st := .standby })] }, time := { State.reset.time with drip := 800000 } }, _, by decide, by decide, rfl⟩,
    ⟨0, { State.reset with mgmt := { State.reset.mgmt with boot := .running, cl := [(0, { st := .active }), (1, { st := .standby })] } }, by decide⟩,
    ⟨1, { State.reset with mgmt := { State.reset.mgmt with boot := .running, cl := [(0, { st := .active }), (1, { st := .standby })] } }, by decide, by decide, by decide⟩,
    ⟨0, { State.reset with mgmt := { State.reset.mgmt with boot := .running, cl := [(0, { st := .active }), (1, { st := .standby })] } }, _, rfl, by decide, by decide⟩,
    ⟨0, { State.reset with mgmt := { State.reset.mgmt with boot := .running, cl := [(0, { st := .active }), (1, { st := .rom })] } }, _, rfl, by decide, by decide⟩,
    ⟨1, { State.reset with mgmt := { State.reset.mgmt with boot := .running, cl := [(0, { st := .active }), (1, { st := .standby })] } }, _, rfl, by decide⟩,
    ⟨1, { State.reset with mgmt := { State.reset.mgmt with boot := .running, cl := [(0, { st := .active }), (1, { st := .rom })], keptValid := true } }, by decide, by decide, by decide, by decide, by decide⟩,
    ⟨1, { State.reset with mgmt := { State.reset.mgmt with boot := .starting, bothDown := true } }, by decide, by decide, by decide, by decide, by decide, by decide⟩⟩

/-- A state and operands that meet the hypotheses of every clause of `Obligations.EventsNoticesAndCommits`. -/
theorem test_meets_EventsNoticesAndCommits :
    (∃ (i : Nat) (r : EvRec) (s : State), s.ev.inbound[i]? = some r ∧ ((s.ev.inbound.take i).any (fun x => x.source == r.source)) = false ∧ dataAhead s (islandDie r.isl) r.drip = false) ∧
    (∃ (r : EvRec) (s : State), suppressor s r = none ∧ s.ev.queue.length < 4095) ∧
    (∃ (r : EvRec) (s : State), suppressor s r = none ∧ 4095 ≤ s.ev.queue.length ∧ lostOpen s = false) ∧
    (∃ (r : EvRec) (s : State), suppressor s r = none ∧ 4095 ≤ s.ev.queue.length ∧ lostOpen s = true) ∧
    (∃ (i : Nat) (r : EvRec) (s : State), suppressor s r = some i) ∧
    (∃ (s : State), s.ev.newSince = true ∧ (s.ev.lastNotice = none ∨ (∃ t, s.ev.lastNotice = some t ∧ t + 800000 ≤ s.now))) ∧
    (∃ (n : Nat) (x : Sess) (s : State), n < 8 ∧ s.sess n = some x ∧ x.lastAt + x.idleS * 800000000 ≤ s.now) ∧
    (∃ (c : Commit) (s : State), s.proto.commit = some c ∧ c.posted = false ∧ firmwareUp s = true ∧ s.drip + 1024 ≤ c.at_ ∧ (c.asked ≠ 0 ∨ nextLaunch s.drip = c.at_) ∧ writesFor s (touched s c.cmds) = false) ∧
    (∃ (c : Commit) (s : State), s.proto.commit = some c ∧ c.posted = false ∧ c.at_ ≤ s.drip + 1024) :=
  ⟨⟨0, { source := 1260, code := evCounterWrap, sev := 0, drip := 0, epoch := 0, isl := 287, data := [] }, { State.reset with ev := { State.reset.ev with inbound := [{ source := 1260, code := evCounterWrap, sev := 0, drip := 0, epoch := 0, isl := 287, data := [] }] } }, by decide, by decide, by decide⟩,
    ⟨{ source := 1260, code := evCounterWrap, sev := 0, drip := 0, epoch := 0, isl := 287, data := [] }, State.reset, by decide, by decide⟩,
    ⟨{ source := 1260, code := evCounterWrap, sev := 0, drip := 0, epoch := 0, isl := 287, data := [] }, { State.reset with ev := { State.reset.ev with queue := List.replicate 4094 (0, { source := 1260, code := evCounterWrap, sev := 0, drip := 0, epoch := 0, isl := 287, data := [] }) ++ [(0, { source := 1260, code := evCounterWrap, sev := 0, drip := 0, epoch := 0, isl := 287, data := [] })] } }, by decide, full_queue _, rfl⟩,
    ⟨{ source := 1260, code := evCounterWrap, sev := 0, drip := 0, epoch := 0, isl := 287, data := [] }, { State.reset with ev := { State.reset.ev with queue := List.replicate 4094 (0, { source := 1260, code := evEventLost, sev := 0, drip := 0, epoch := 0, isl := 287, data := [] }) ++ [(0, { source := 1260, code := evEventLost, sev := 0, drip := 0, epoch := 0, isl := 287, data := [] })], lostOpen := true } }, by decide, full_queue _, full_open _ rfl⟩,
    ⟨0, { source := 1260, code := evCounterWrap, sev := 0, drip := 0, epoch := 0, isl := 287, data := [] }, { State.reset with ev := { State.reset.ev with masks := [(0, { code := 4095, sevMask := 7, lo := 0, hi := 2047 })] } }, by decide⟩,
    ⟨{ State.reset with ev := { State.reset.ev with newSince := true } }, rfl, .inl rfl⟩,
    ⟨7, { priv := 0, tag := 0, openAlive := 0, transport := .i3cA, eid := 8, last := 0, idleS := 1, lastAt := 0 }, { State.reset with proto := { State.reset.proto with sessions := [(7, some { priv := 0, tag := 0, openAlive := 0, transport := .i3cA, eid := 8, last := 0, idleS := 1, lastAt := 0 })] }, time := { State.reset.time with elapsed := 800000000 } }, by decide, rfl, by decide⟩,
    ⟨{ session := 0, cmds := [], asked := 0, at_ := 2048 }, { State.reset with mgmt := { State.reset.mgmt with boot := .running }, proto := { State.reset.proto with commit := some { session := 0, cmds := [], asked := 0, at_ := 2048 } }, time := { State.reset.time with drip := 1024 } }, rfl, rfl, by decide, by decide, .inr (by decide), by decide⟩,
    ⟨{ session := 0, cmds := [], asked := 0, at_ := 2048 }, { State.reset with mgmt := { State.reset.mgmt with boot := .running }, proto := { State.reset.proto with commit := some { session := 0, cmds := [], asked := 0, at_ := 2048 } }, time := { State.reset.time with drip := 1024 } }, by decide, by decide, by decide⟩⟩

/-- A state and operands that meet the hypotheses of every clause of `Obligations.LanternAndCounters`. -/
theorem test_meets_LanternAndCounters :
    (∃ (s : State), s.cfg.traceOn = true) ∧
    (∃ (s : State), launchWaits s = false ∧ s.drip % s.cfg.sweep = 0 ∧ latchedHere s = false) ∧
    (∃ (s : State), launchWaits s = false ∧ s.drip % s.cfg.sweep ≠ 0 ∧ latchedHere s = false) ∧
    (∃ (s : State), s.lan.latched.isSome = true ∧ (s.mgmt.bridge.all (·.outbound)) = true) ∧
    (∃ (g : Nat) (k : Nat) (v : Nat) (p : Prog) (c : ProgCfg) (s : State), g < 8 ∧ k < 8 ∧ p = tget {} s.lan.progs g ∧ c = ((tget [] s.cfg.progs g)[k]?).getD {} ∧ v = tget 0 p.counts k ∧ 2 ^ 48 ≤ v) ∧
    (∃ (g : Nat) (id : Nat) (port : Nat) (x : Samp) (r : SampRun) (s : State), x = tget {} s.lan.samps g ∧ x.flying.find? (fun r => r.id == id && r.port == port && r.ended) = some r) ∧
    (∃ (port : Nat) (s : State), (s.loop port).st = 1 ∧ loopBits s port = (s.loop port).blocks * 2 ^ 24) ∧
    (∃ (port : Nat) (s : State), (s.loop port).st = 1 ∧ (s.loop port).mode = 2) :=
  ⟨⟨{ State.reset with cfg := { State.reset.cfg with traceOn := true }, lan := { State.reset.lan with  } }, by decide⟩,
    ⟨State.reset, by decide, by decide, by decide⟩,
    ⟨{ State.reset with time := { State.reset.time with drip := 1 } }, by decide, by decide, by decide⟩,
    ⟨{ State.reset with cfg := { State.reset.cfg with  }, lan := { State.reset.lan with latched := some (0, [], []) } }, by decide, by decide⟩,
    ⟨3, 0, 281474976710656, { counts := [(0, 281474976710656)] }, {}, { State.reset with cfg := { State.reset.cfg with  }, lan := { State.reset.lan with progs := [(3, { counts := [(0, 281474976710656)] })] } }, by decide, by decide, by decide, by decide, by decide, by decide⟩,
    ⟨3, 7, 0, { flying := [{ id := 7, port := 0, tag := 0, proto := 0, head := [], start := 0, ended := true }] }, { id := 7, port := 0, tag := 0, proto := 0, head := [], start := 0, ended := true }, { State.reset with cfg := { State.reset.cfg with  }, lan := { State.reset.lan with samps := [(3, { flying := [{ id := 7, port := 0, tag := 0, proto := 0, head := [], start := 0, ended := true }] })] } }, by decide, by decide⟩,
    ⟨5, State.reset.modLoop 5 (fun x => { x with st := 1 }), by decide, by decide⟩,
    ⟨5, State.reset.modLoop 5 (fun x => { x with st := 1, mode := 2 }), by decide, by decide⟩⟩

/-- A state and operands that meet the hypotheses of every clause of `Obligations.VendorSteps`. -/
theorem test_meets_VendorSteps :
    (∃ (op : Nat) (c : Transport → Req → Instr) (s : State), (op, c) ∈ vendorCmds ∧ answering s = false) ∧
    (∃ (op : Nat) (c : Transport → Req → Instr) (t : Transport) (r : Req) (s : State), (op, c) ∈ vendorCmds ∧ answering s = true ∧ (inRom s = false ∨ mailboxAgent t = none) ∧ lengthOk r = false) ∧
    (∃ (op : Nat) (c : Transport → Req → Instr) (t : Transport) (r : Req) (s : State), (op, c) ∈ vendorCmds ∧ answering s = true ∧ (inRom s = false ∨ mailboxAgent t = none) ∧ lengthOk r = true ∧ crcOk op r = false) ∧
    (∃ (op : Nat) (c : Transport → Req → Instr) (t : Transport) (r : Req) (s : State), (op, c) ∈ vendorCmds ∧ answering s = true ∧ inRom s = false ∧ lengthOk r = true ∧ crcOk op r = true ∧ ungranted s t = true) ∧
    (∃ (op : Nat) (c : Transport → Req → Instr) (t : Transport) (r : Req) (s : State), (op, c) ∈ vendorCmds ∧ arrives op t r s = true ∧ inRom s = true ∧ mailboxAgent t = none ∧ isRomOp op = false) ∧
    (∃ (op : Nat) (c : Transport → Req → Instr) (t : Transport) (r : Req) (s : State), (op, c) ∈ vendorCmds ∧ arrives op t r s = true ∧ inRom s = false ∧ isLoaderOp op = true) ∧
    (∃ (op : Nat) (c : Transport → Req → Instr) (t : Transport) (r : Req) (s : State), (op, c) ∈ vendorCmds ∧ arrives op t r s = true ∧ inRom s = false ∧ isLoaderOp op = false ∧ r.session = 255 ∧ isFreeOp op = false) ∧
    (∃ (op : Nat) (c : Transport → Req → Instr) (t : Transport) (r : Req) (s : State), (op, c) ∈ vendorCmds ∧ arrives op t r s = true ∧ inRom s = false ∧ isLoaderOp op = false ∧ r.session ≠ 255 ∧ (r.session < 8 → s.sess r.session = none)) ∧
    (∃ (op : Nat) (c : Transport → Req → Instr) (t : Transport) (r : Req) (s : State) (x : Sess), (op, c) ∈ vendorCmds ∧ arrives op t r s = true ∧ inRom s = false ∧ isLoaderOp op = false ∧ r.session < 8 ∧ s.sess r.session = some x ∧ (x.transport ≠ t ∨ x.eid ≠ r.eid)) ∧
    (∃ (op : Nat) (c : Transport → Req → Instr) (t : Transport) (r : Req) (s : State) (x : Sess), (op, c) ∈ vendorCmds ∧ arrives op t r s = true ∧ inRom s = false ∧ isLoaderOp op = false ∧ r.session < 8 ∧ s.sess r.session = some x ∧ x.transport = t ∧ x.eid = r.eid ∧ x.busy = true) ∧
    (∃ (op : Nat) (c : Transport → Req → Instr) (t : Transport) (r : Req) (s : State) (x : Sess), (op, c) ∈ vendorCmds ∧ arrives op t r s = true ∧ inRom s = false ∧ isLoaderOp op = false ∧ r.session < 8 ∧ s.sess r.session = some x ∧ x.transport = t ∧ x.eid = r.eid ∧ x.busy = false ∧ r.alive = x.last) ∧
    (∃ (op : Nat) (c : Transport → Req → Instr) (t : Transport) (r : Req) (s : State) (x : Sess), (op, c) ∈ vendorCmds ∧ arrives op t r s = true ∧ inRom s = false ∧ isLoaderOp op = false ∧ r.session < 8 ∧ s.sess r.session = some x ∧ x.transport = t ∧ x.eid = r.eid ∧ x.busy = false ∧ r.alive ≠ x.last ∧ r.alive ≠ (x.last + 1) % 256) ∧
    (∃ (op : Nat) (c : Transport → Req → Instr) (t : Transport) (r : Req) (s : State) (x : Sess), (op, c) ∈ vendorCmds ∧ arrives op t r s = true ∧ inRom s = false ∧ isLoaderOp op = false ∧ r.session < 8 ∧ s.sess r.session = some x ∧ x.transport = t ∧ x.eid = r.eid ∧ x.busy = false ∧ r.alive ≠ x.last ∧ r.alive = (x.last + 1) % 256 ∧ (headerOk r = false ∨ epochOk s r = false)) ∧
    (∃ (op : Nat) (c : Transport → Req → Instr) (t : Transport) (r : Req) (s : State) (x : Sess), (op, c) ∈ ownerCmds ∧ inSession op t r s x = true ∧ x.priv ≠ 0) :=
  ⟨⟨0xC004, .getEpoch, { State.reset with mgmt := { State.reset.mgmt with boot := .halted } }, by simp [vendorCmds], by decide⟩,
    ⟨0xC004, .getEpoch, .boot, { plen := 3 }, run1, by simp [vendorCmds], by decide, .inl (by decide), by decide⟩,
    ⟨0xC004, .getEpoch, .boot, { }, run1, by simp [vendorCmds], by decide, .inl (by decide), by decide, by decide +kernel⟩,
    ⟨0xC004, .getEpoch, .mailbox 3, rq 0xC004 [], run1, by simp [vendorCmds], by decide, by decide, by decide, crcOk_rq _ _, by decide⟩,
    ⟨0xC004, .getEpoch, .boot, rq 0xC004 [], State.reset, by simp [vendorCmds], arrives_of _ _ _ (by decide), by decide, by decide, by decide⟩,
    ⟨0xC0F1, .loadData, .boot, rq 0xC0F1 [], run1, by simp [vendorCmds], arrives_of _ _ _ (by decide), by decide, by decide⟩,
    ⟨0xC0C1, .timeRead, .boot, rf 0xC0C1 [], run1, by simp [vendorCmds], arrives_rf _ _ _ (by decide), by decide, by decide, rfl, by decide⟩,
    ⟨0xC004, .getEpoch, .boot, rq 0xC004 [], run0, by simp [vendorCmds], arrives_of _ _ _ (by decide), by decide, by decide, by decide, fun _ => rfl⟩,
    ⟨0xC004, .getEpoch, .boot, rq 0xC004 [], sessState { sess0 with transport := .i3cA }, { sess0 with transport := .i3cA }, by simp [vendorCmds], arrives_of _ _ _ (by decide), by decide, by decide, by decide, rfl, .inl (by decide)⟩,
    ⟨0xC004, .getEpoch, .boot, rq 0xC004 [], sessState { sess0 with busy := true }, { sess0 with busy := true }, by simp [vendorCmds], arrives_of _ _ _ (by decide), by decide, by decide, by decide, rfl, rfl, rfl, rfl⟩,
    ⟨0xC004, .getEpoch, .boot, rq 0xC004 [], sessState { sess0 with last := 1 }, { sess0 with last := 1 }, by simp [vendorCmds], arrives_of _ _ _ (by decide), by decide, by decide, by decide, rfl, rfl, rfl, rfl, rfl⟩,
    ⟨0xC004, .getEpoch, .boot, rq 0xC004 [], sessState { sess0 with last := 9 }, { sess0 with last := 9 }, by simp [vendorCmds], arrives_of _ _ _ (by decide), by decide, by decide, by decide, rfl, rfl, rfl, rfl, by decide, by decide⟩,
    ⟨0xC004, .getEpoch, .boot, rh 0xC004, run1, sess0, by simp [vendorCmds], arrives_rh _ _ (by decide), by decide, by decide, by decide, rfl, rfl, rfl, rfl, by decide, by decide, .inl rfl⟩,
    ⟨0xC010, .stageBegin, .boot, rq 0xC010 [], sessState { sess0 with priv := 1 }, { sess0 with priv := 1 }, by simp [ownerCmds], meets_in _ _ _ _ (by decide), by decide⟩⟩

/-- A state and operands that meet the hypotheses of every clause of `Obligations.SessionsAndTheLoader`. -/
theorem test_meets_SessionsAndTheLoader :
    (∃ (t : Transport) (r : Req) (k : Nat) (s : State) (u : State), freeTurn 0xC000 t r s = true ∧ openBad r.payload false = false ∧ byteAt r.payload 0 = 0 ∧ openAllowed t r none = true ∧ lowestFree s = some k ∧ (∀ a, mailboxAgent t = some a → (mailboxSessions s a).length < 2) ∧ u = s.setSess k (some
          { transport := t, eid := r.eid, priv := byteAt r.payload 1, idleS := fieldAt r.payload 4 2, tag := fieldAt r.payload 8 8,
            last := r.alive, openAlive := r.alive, lastAt := s.now })) ∧
    (∃ (t : Transport) (r : Req) (s : State) (x : Sess), inSession 0xC000 t r s x = true ∧ x.priv = 0 ∧ openBad r.payload true = false ∧ byteAt r.payload 0 = 1) ∧
    (∃ (t : Transport) (r : Req) (s : State) (x : Sess), inSession 0xC000 t r s x = true ∧ x.priv = 0 ∧ openBad r.payload true = false ∧ byteAt r.payload 0 = 2) ∧
    (∃ (t : Transport) (r : Req) (s : State) (x : Sess), inSession 0xC001 t r s x = true ∧ r.payload = []) ∧
    (∃ (t : Transport) (r : Req) (s : State) (x : Sess), inSession 0xC003 t r s x = true ∧ r.payload = []) ∧
    (∃ (t : Transport) (r : Req) (s : State) (x : Sess), inSession 0xC004 t r s x = true ∧ r.payload = []) ∧
    (∃ (t : Transport) (r : Req) (s : State) (x : Sess), inSession 0xC0D0 t r s x = true ∧ r.payload = []) ∧
    (∃ (t : Transport) (r : Req) (s : State), freeTurn 0xC003 t r s = true ∧ r.payload = []) ∧
    (∃ (t : Transport) (r : Req) (s : State), freeTurn 0xC004 t r s = true ∧ r.payload = []) ∧
    (∃ (t : Transport) (r : Req) (s : State), freeTurn 0xC0D0 t r s = true ∧ r.payload = []) ∧
    (∃ (t : Transport) (r : Req) (s : State), romTurn 0xC003 t r s = true ∧ r.payload = []) ∧
    (∃ (t : Transport) (r : Req) (s : State), romTurn 0xC0D0 t r s = true ∧ r.payload = []) ∧
    (∃ (t : Transport) (r : Req) (s : State) (u : State) (x : Sess), inSession 0xC010 t r s x = true ∧ x.priv = 0 ∧ r.payload = [] ∧ u = served r s ∧ u.stage r.session = none ∧ commitArmedIn u r.session = false) ∧
    (∃ (t : Transport) (r : Req) (cmds : List Staged) (s : State) (u : State) (x : Sess), inSession 0xC011 t r s x = true ∧ x.priv = 0 ∧ r.payload = [] ∧ u = served r s ∧ u.stage r.session = some cmds ∧ commitArmedIn u r.session = false) ∧
    (∃ (t : Transport) (r : Req) (cmds : List Staged) (s : State) (u : State) (x : Sess), inSession 0xC012 t r s x = true ∧ x.priv = 0 ∧ u = served r s ∧ commitArmed u = false ∧ launchBad u r.payload = false ∧ u.stage r.session = some cmds ∧ firstFailing u r.session [] cmds = none ∧ unsureTouched u cmds = false) ∧
    (∃ (t : Transport) (r : Req) (s : State) (x : Sess), inSession 0xC002 t r s x = true ∧ x.priv = 0 ∧ mailboxAgent t = none ∧ r.payload.length = 4 ∧ fieldAt r.payload 0 4 = 0x5453524D) ∧
    (∃ (t : Transport) (r : Req) (hd : Bytes) (s : State) (u : State), romTurn 0xC0F0 t r s = true ∧ s.mgmt.boot = .loader ∧ r.payload.length = 520 ∧ fieldAt r.payload 4 4 = 0 ∧ hd = (r.payload.drop 8).take 512 ∧ fieldAt r.payload 0 4 = imageLen hd ∧ headerTest hd = true ∧ headerFail s hd = 0 ∧ u = toBoot s .receiving) ∧
    (∃ (t : Transport) (r : Req) (s : State), romTurn 0xC0F1 t r s = true ∧ s.mgmt.boot = .receiving ∧ s.mgmt.rxTransport = transportNo t ∧ 9 ≤ r.payload.length ∧ r.payload.length ≤ 16392 ∧ fieldAt r.payload 4 4 = 0 ∧ fieldAt r.payload 0 4 = received s ∧ received s + (r.payload.length - 8) ≤ s.mgmt.rxLen) ∧
    (∃ (t : Transport) (r : Req) (s : State) (u : State), romTurn 0xC0F2 t r s = true ∧ s.mgmt.boot = .receiving ∧ s.mgmt.rxTransport = transportNo t ∧ r.payload.length = 4 ∧ fieldAt r.payload 0 4 = 0 ∧ s.mgmt.rxLen ≤ received s ∧ u = toBoot s .verifying) ∧
    (∃ (t : Transport) (op : Nat) (r : Req) (s : State), opcodes.contains op = false ∧ arrives op t r s = true ∧ (inRom s = false ∨ mailboxAgent t = none)) :=
  ⟨⟨.boot, (rf 0xC000 [0, 0, 0, 0, 60, 0, 0, 0, 0, 0, 0, 0, 0, 0, 0, 0]), 0, run0, _, free_of _ _ _ (by decide), by decide, by decide, by decide, by decide, (by intro a h; cases h), rfl⟩,
    ⟨.boot, (rq 0xC000 [1, 0, 3, 0, 0, 0, 0, 0, 0, 0, 0, 0, 0, 0, 0, 0]), run1, sess0, meets_in _ _ _ _ (by decide), rfl, by decide, by decide⟩,
    ⟨.boot, (rq 0xC000 [2, 0, 3, 0, 0, 0, 0, 0, 0, 0, 0, 0, 0, 0, 0, 0]), run1, sess0, meets_in _ _ _ _ (by decide), rfl, by decide, by decide⟩,
    ⟨.boot, (rq 0xC001 []), run1, sess0, meets_in _ _ _ _ (by decide), rfl⟩,
    ⟨.boot, (rq 0xC003 []), run1, sess0, meets_in _ _ _ _ (by decide), rfl⟩,
    ⟨.boot, (rq 0xC004 []), run1, sess0, meets_in _ _ _ _ (by decide), rfl⟩,
    ⟨.boot, (rq 0xC0D0 []), run1, sess0, meets_in _ _ _ _ (by decide), rfl⟩,
    ⟨.boot, (rf 0xC003 []), run0, free_of _ _ _ (by decide), rfl⟩,
    ⟨.boot, (rf 0xC004 []), run0, free_of _ _ _ (by decide), rfl⟩,
    ⟨.boot, (rf 0xC0D0 []), run0, free_of _ _ _ (by decide), rfl⟩,
    ⟨.boot, (rq 0xC003 []), State.reset, rom_of _ _ _ (by decide), rfl⟩,
    ⟨.boot, (rq 0xC0D0 []), State.reset, rom_of _ _ _ (by decide), rfl⟩,
    ⟨.boot, (rq 0xC010 []), run1, _, sess0, meets_in _ _ _ _ (by decide), rfl, rfl, rfl, by decide, by decide⟩,
    ⟨.boot, (rq 0xC011 []), [], run2, _, sess0, meets_in _ _ _ _ (by decide), rfl, rfl, rfl, by decide, by decide⟩,
    ⟨.boot, (rq 0xC012 [0, 0, 0, 0, 0, 0, 0, 0]), [], run2, _, sess0, meets_in _ _ _ _ (by decide), rfl, rfl, by decide, by decide, by decide, by decide, by decide⟩,
    ⟨.boot, (rq 0xC002 [0x4D, 0x52, 0x53, 0x54]), run1, sess0, meets_in _ _ _ _ (by decide), rfl, rfl, rfl, by decide⟩,
    ⟨.boot, (rq 0xC0F0 loadHead), _, romState .loader, _, rom_of _ _ _ (by decide +kernel), rfl, by decide +kernel, by decide +kernel, rfl, by decide +kernel, by decide +kernel, by decide +kernel, rfl⟩,
    ⟨.boot, (rq 0xC0F1 [0, 0, 0, 0, 0, 0, 0, 0, 7]), rxState 1024, rom_of _ _ _ (by decide), rfl, rfl, by decide, by decide, by decide, by decide, by decide⟩,
    ⟨.boot, (rq 0xC0F2 [0, 0, 0, 0]), rxState 0, _, rom_of _ _ _ (by decide), rfl, rfl, by decide, by decide, by decide, rfl⟩,
    ⟨.boot, 0xC999, (rq 0xC999 []), State.reset, by decide, arrives_of _ _ _ (by decide), .inr rfl⟩⟩

/-- A state and operands that meet the hypotheses of every clause of `Obligations.StagedCommands`. -/
theorem test_meets_StagedCommands :
    (∃ (op : Nat) (c : Transport → Req → Instr) (q : Option (Nat × Nat)) (t : Transport) (r : Req) (s : State) (u : State) (x : Sess) (cmds : List Staged), (op, c, q) ∈ stagedForms ∧ inSession op t r s x = true ∧ asks r.payload q = false ∧ u = served r s ∧ x.priv = 0 ∧ u.stage r.session = some cmds ∧ commitArmedIn u r.session = false ∧ refusalOf (stagedConds u r.session (stageView u r.session) op r.payload) = 0 ∧ stagedElsewhere u r.session (stageView u r.session) op r.payload = false ∧ cmds.length < 4096 ∧ stageBytes cmds + r.payload.length ≤ 2097152) ∧
    (∃ (t : Transport) (r : Req) (s : State) (u : State) (x : Sess), inSession 0xC020 t r s x = true ∧ x.priv = 0 ∧ u = served r s ∧ refusalOf (stageConds 0xC020 r.payload r.session u) = 0) ∧
    (∃ (t : Transport) (r : Req) (s : State) (u : State) (x : Sess), inSession 0xC030 t r s x = true ∧ x.priv = 0 ∧ u = served r s ∧ refusalOf (stageConds 0xC030 r.payload r.session u) = 0) ∧
    (∃ (t : Transport) (r : Req) (s : State) (u : State) (x : Sess), inSession 0xC031 t r s x = true ∧ x.priv = 0 ∧ u = served r s ∧ refusalOf (stageConds 0xC031 r.payload r.session u) = 0) ∧
    (∃ (t : Transport) (r : Req) (s : State) (u : State) (x : Sess), inSession 0xC032 t r s x = true ∧ x.priv = 0 ∧ u = served r s ∧ refusalOf (stageConds 0xC032 r.payload r.session u) = 0) ∧
    (∃ (t : Transport) (r : Req) (s : State) (u : State) (x : Sess), inSession 0xC033 t r s x = true ∧ x.priv = 0 ∧ u = served r s ∧ refusalOf (stageConds 0xC033 r.payload r.session u) = 0) ∧
    (∃ (t : Transport) (r : Req) (s : State) (u : State) (x : Sess), inSession 0xC034 t r s x = true ∧ x.priv = 0 ∧ u = served r s ∧ refusalOf (stageConds 0xC034 r.payload r.session u) = 0) ∧
    (∃ (t : Transport) (r : Req) (s : State) (u : State) (x : Sess), inSession 0xC040 t r s x = true ∧ x.priv = 0 ∧ u = served r s ∧ refusalOf (stageConds 0xC040 r.payload r.session u) = 0) ∧
    (∃ (t : Transport) (r : Req) (s : State) (u : State) (x : Sess), inSession 0xC041 t r s x = true ∧ x.priv = 0 ∧ u = served r s ∧ refusalOf (stageConds 0xC041 r.payload r.session u) = 0) ∧
    (∃ (t : Transport) (r : Req) (s : State) (u : State) (x : Sess), inSession 0xC050 t r s x = true ∧ byteAt r.payload 3 ≠ 1 ∧ x.priv = 0 ∧ u = served r s ∧ refusalOf (stageConds 0xC050 r.payload r.session u) = 0) ∧
    (∃ (t : Transport) (r : Req) (s : State) (u : State) (x : Sess), inSession 0xC051 t r s x = true ∧ x.priv = 0 ∧ u = served r s ∧ refusalOf (stageConds 0xC051 r.payload r.session u) = 0) ∧
    (∃ (t : Transport) (r : Req) (s : State) (u : State) (x : Sess), inSession 0xC060 t r s x = true ∧ byteAt r.payload 0 ≠ 3 ∧ x.priv = 0 ∧ u = served r s ∧ refusalOf (stageConds 0xC060 r.payload r.session u) = 0) ∧
    (∃ (t : Transport) (r : Req) (s : State) (u : State) (x : Sess), inSession 0xC061 t r s x = true ∧ x.priv = 0 ∧ u = served r s ∧ refusalOf (stageConds 0xC061 r.payload r.session u) = 0) ∧
    (∃ (t : Transport) (r : Req) (s : State) (u : State) (x : Sess), inSession 0xC062 t r s x = true ∧ byteAt r.payload 2 ≠ 1 ∧ x.priv = 0 ∧ u = served r s ∧ refusalOf (stageConds 0xC062 r.payload r.session u) = 0) ∧
    (∃ (t : Transport) (r : Req) (s : State) (u : State) (x : Sess), inSession 0xC063 t r s x = true ∧ byteAt r.payload 1 ≠ 1 ∧ x.priv = 0 ∧ u = served r s ∧ refusalOf (stageConds 0xC063 r.payload r.session u) = 0) ∧
    (∃ (t : Transport) (r : Req) (s : State) (u : State) (x : Sess), inSession 0xC070 t r s x = true ∧ byteAt r.payload 2 ≠ 1 ∧ x.priv = 0 ∧ u = served r s ∧ refusalOf (stageConds 0xC070 r.payload r.session u) = 0) ∧
    (∃ (t : Transport) (r : Req) (s : State) (u : State) (x : Sess), inSession 0xC071 t r s x = true ∧ byteAt r.payload 2 ≠ 2 ∧ x.priv = 0 ∧ u = served r s ∧ refusalOf (stageConds 0xC071 r.payload r.session u) = 0) ∧
    (∃ (t : Transport) (r : Req) (s : State) (u : State) (x : Sess), inSession 0xC0B0 t r s x = true ∧ x.priv = 0 ∧ u = served r s ∧ refusalOf (stageConds 0xC0B0 r.payload r.session u) = 0) ∧
    (∃ (t : Transport) (r : Req) (s : State) (u : State) (x : Sess), inSession 0xC0B1 t r s x = true ∧ x.priv = 0 ∧ u = served r s ∧ refusalOf (stageConds 0xC0B1 r.payload r.session u) = 0) ∧
    (∃ (t : Transport) (r : Req) (s : State) (u : State) (x : Sess), inSession 0xC0B3 t r s x = true ∧ x.priv = 0 ∧ u = served r s ∧ refusalOf (stageConds 0xC0B3 r.payload r.session u) = 0) ∧
    (∃ (op : Nat) (c : Transport → Req → Instr) (q : Option (Nat × Nat)) (t : Transport) (r : Req) (s : State) (u : State) (x : Sess), (op, c, q) ∈ stagedForms ∧ inSession op t r s x = true ∧ asks r.payload q = false ∧ u = served r s ∧ x.priv = 0 ∧ refusalOf (stageConds op r.payload r.session u) ≠ 0) ∧
    (∃ (op : Nat) (c : Transport → Req → Instr) (q : Option (Nat × Nat)) (t : Transport) (r : Req) (s : State) (u : State) (x : Sess), (op, c, q) ∈ stagedForms ∧ inSession op t r s x = true ∧ asks r.payload q = false ∧ u = served r s ∧ x.priv ≠ 0) ∧
    (∃ (t : Transport) (r : Req) (s : State) (u : State) (x : Sess), inSession 0xC080 t r s x = true ∧ x.priv = 0 ∧ byteAt r.payload 2 = 4 ∧ u = served r s ∧ refusalOf (stageConds 0xC080 r.payload r.session u) = 0) ∧
    (∃ (t : Transport) (r : Req) (s : State) (x : Sess), inSession 0xC080 t r s x = true ∧ byteAt r.payload 2 = 0 ∧ dirModeBad r.payload = false ∧ dirModeBarred (served r s) (byteAt r.payload 0) (byteAt r.payload 1) 0 = false) ∧
    (∃ (t : Transport) (r : Req) (s : State) (x : Sess), inSession 0xC080 t r s x = true ∧ x.priv = 0 ∧ (1 ≤ byteAt r.payload 2 ∧ byteAt r.payload 2 < 4) ∧ dirModeBad r.payload = false ∧ dirModeBarred (served r s) (byteAt r.payload 0) (byteAt r.payload 1) (byteAt r.payload 2) = false ∧ commitArmed (served r s) = false) ∧
    (∃ (t : Transport) (r : Req) (s : State) (x : Sess), inSession 0xC050 t r s x = true ∧ byteAt r.payload 3 = 1 ∧ r.payload.length = 24 ∧ fieldAt r.payload 5 3 = 0 ∧ fieldAt r.payload 0 2 ≤ 511 ∧ byteAt r.payload 2 ≤ 63 ∧ fieldAt r.payload 4 1 = 0 ∧ fieldAt r.payload 8 16 = 0) ∧
    (∃ (t : Transport) (r : Req) (s : State) (x : Sess), inSession 0xC060 t r s x = true ∧ byteAt r.payload 0 = 3 ∧ 0 < r.payload.length ∧ schedBad (served r s) (served r s).cfg r.payload = false ∧ scheduled (served r s) (served r s).cfg (fieldAt r.payload 2 2) = true) ∧
    (∃ (t : Transport) (r : Req) (s : State) (x : Sess), inSession 0xC062 t r s x = true ∧ byteAt r.payload 2 = 1 ∧ r.payload.length = 24 ∧ fieldAt r.payload 0 2 ≤ 4095 ∧ fieldAt r.payload 3 21 = 0) ∧
    (∃ (t : Transport) (r : Req) (s : State) (x : Sess), inSession 0xC063 t r s x = true ∧ byteAt r.payload 1 = 1 ∧ r.payload.length = 16 ∧ byteAt r.payload 0 ≤ 15 ∧ fieldAt r.payload 2 14 = 0) ∧
    (∃ (t : Transport) (r : Req) (s : State) (x : Sess), inSession 0xC070 t r s x = true ∧ byteAt r.payload 2 = 1 ∧ r.payload.length = 16 ∧ fieldAt r.payload 0 2 ≤ 4095 ∧ fieldAt r.payload 3 13 = 0) ∧
    (∃ (t : Transport) (r : Req) (s : State) (x : Sess), inSession 0xC071 t r s x = true ∧ byteAt r.payload 2 = 2 ∧ r.payload.length = 8 ∧ byteAt r.payload 1 ≤ 31 ∧ fieldAt r.payload 3 5 = 0) :=
  ⟨⟨0xC0B0, .traceConfig, none, .boot, (rq 0xC0B0 traceOff), run2, _, sess0, [], by simp [stagedForms], meets_in _ _ _ _ (by decide), rfl, rfl, rfl, rfl, by decide, by decide, by decide, by decide, by decide⟩,
    ⟨.boot, (rq 0xC020 (stagedExamples[0]!).2), run3, _, sess0, meets_in _ _ _ _ (by decide +kernel), rfl, rfl, by decide +kernel⟩,
    ⟨.boot, (rq 0xC030 (stagedExamples[1]!).2), run3, _, sess0, meets_in _ _ _ _ (by decide +kernel), rfl, rfl, by decide +kernel⟩,
    ⟨.boot, (rq 0xC031 (stagedExamples[2]!).2), run3, _, sess0, meets_in _ _ _ _ (by decide +kernel), rfl, rfl, by decide +kernel⟩,
    ⟨.boot, (rq 0xC032 (stagedExamples[3]!).2), run3, _, sess0, meets_in _ _ _ _ (by decide +kernel), rfl, rfl, by decide +kernel⟩,
    ⟨.boot, (rq 0xC033 (stagedExamples[4]!).2), run3, _, sess0, meets_in _ _ _ _ (by decide +kernel), rfl, rfl, by decide +kernel⟩,
    ⟨.boot, (rq 0xC034 (stagedExamples[5]!).2), run3, _, sess0, meets_in _ _ _ _ (by decide +kernel), rfl, rfl, by decide +kernel⟩,
    ⟨.boot, (rq 0xC040 (stagedExamples[6]!).2), run3, _, sess0, meets_in _ _ _ _ (by decide +kernel), rfl, rfl, by decide +kernel⟩,
    ⟨.boot, (rq 0xC041 (stagedExamples[7]!).2), run3, _, sess0, meets_in _ _ _ _ (by decide +kernel), rfl, rfl, by decide +kernel⟩,
    ⟨.boot, (rq 0xC050 (stagedExamples[8]!).2), run3, _, sess0, meets_in _ _ _ _ (by decide +kernel), by decide, rfl, rfl, by decide +kernel⟩,
    ⟨.boot, (rq 0xC051 (stagedExamples[9]!).2), run3, _, sess0, meets_in _ _ _ _ (by decide +kernel), rfl, rfl, by decide +kernel⟩,
    ⟨.boot, (rq 0xC060 (stagedExamples[10]!).2), run3, _, sess0, meets_in _ _ _ _ (by decide +kernel), by decide, rfl, rfl, by decide +kernel⟩,
    ⟨.boot, (rq 0xC061 (stagedExamples[11]!).2), run3, _, sess0, meets_in _ _ _ _ (by decide +kernel), rfl, rfl, by decide +kernel⟩,
    ⟨.boot, (rq 0xC062 (stagedExamples[12]!).2), run3, _, sess0, meets_in _ _ _ _ (by decide +kernel), by decide, rfl, rfl, by decide +kernel⟩,
    ⟨.boot, (rq 0xC063 (stagedExamples[13]!).2), run3, _, sess0, meets_in _ _ _ _ (by decide +kernel), by decide, rfl, rfl, by decide +kernel⟩,
    ⟨.boot, (rq 0xC070 (stagedExamples[14]!).2), run3, _, sess0, meets_in _ _ _ _ (by decide +kernel), by decide, rfl, rfl, by decide +kernel⟩,
    ⟨.boot, (rq 0xC071 (stagedExamples[15]!).2), run3, _, sess0, meets_in _ _ _ _ (by decide +kernel), by decide, rfl, rfl, by decide +kernel⟩,
    ⟨.boot, (rq 0xC0B0 (stagedExamples[16]!).2), run3, _, sess0, meets_in _ _ _ _ (by decide +kernel), rfl, rfl, by decide +kernel⟩,
    ⟨.boot, (rq 0xC0B1 (stagedExamples[17]!).2), run3, _, sess0, meets_in _ _ _ _ (by decide +kernel), rfl, rfl, by decide +kernel⟩,
    ⟨.boot, (rq 0xC0B3 (stagedExamples[18]!).2), run3, _, sess0, meets_in _ _ _ _ (by decide +kernel), rfl, rfl, by decide +kernel⟩,
    ⟨0xC0B0, .traceConfig, none, .boot, (rq 0xC0B0 []), run2, _, sess0, by simp [stagedForms], meets_in _ _ _ _ (by decide), rfl, rfl, rfl, by decide⟩,
    ⟨0xC0B0, .traceConfig, none, .boot, (rq 0xC0B0 []), sessState { sess0 with priv := 1 }, _, { sess0 with priv := 1 }, by simp [stagedForms], meets_in _ _ _ _ (by decide), rfl, rfl, by decide⟩,
    ⟨.boot, (rq 0xC080 [0, 0, 4, 0, 100, 0, 0, 0]), run2, _, sess0, meets_in _ _ _ _ (by decide), rfl, rfl, rfl, by decide⟩,
    ⟨.boot, (rq 0xC080 [1, 2, 0, 0, 0, 0, 0, 0]), run1, sess0, meets_in _ _ _ _ (by decide), by decide, by decide, by decide⟩,
    ⟨.boot, (rq 0xC080 [1, 2, 1, 0, 0, 0, 0, 0]), { run2 with dir := { run2.dir with slices := [(11, { role := .active, mode := .full })] } }, sess0, meets_in _ _ _ _ (by decide), rfl, by decide, by decide, by decide, by decide⟩,
    ⟨.boot, (rq 0xC050 ([5, 0, 63, 1] ++ zeros 20)), run1, sess0, meets_in _ _ _ _ (by decide), by decide, by decide, by decide, by decide, by decide, by decide, by decide⟩,
    ⟨.boot, (rq 0xC060 ([3, 0, 4, 0] ++ zeros 4)), run3, sess0, meets_in _ _ _ _ (by decide), by decide, by decide, by decide, by decide⟩,
    ⟨.boot, (rq 0xC062 ([255, 15, 1] ++ zeros 21)), run1, sess0, meets_in _ _ _ _ (by decide), by decide, by decide, by decide, by decide⟩,
    ⟨.boot, (rq 0xC063 ([15, 1] ++ zeros 14)), run1, sess0, meets_in _ _ _ _ (by decide), by decide, by decide, by decide, by decide⟩,
    ⟨.boot, (rq 0xC070 ([1, 0, 1] ++ zeros 13)), run1, sess0, meets_in _ _ _ _ (by decide), by decide, by decide, by decide, by decide⟩,
    ⟨.boot, (rq 0xC071 ([9, 31, 2] ++ zeros 5)), run1, sess0, meets_in _ _ _ _ (by decide), by decide, by decide, by decide, by decide⟩⟩

/-- A state and operands that meet the hypotheses of every clause of `Obligations.PortLaneAndSlotCommands`. -/
theorem test_meets_PortLaneAndSlotCommands :
    (∃ (t : Transport) (r : Req) (s : State) (u : State) (x : Sess), inSession 0xC021 t r s x = true ∧ u = served r s ∧ r.payload.length = 4 ∧ fieldAt r.payload 2 2 = 0 ∧ fieldAt r.payload 0 2 ≤ 511) ∧
    (∃ (t : Transport) (r : Req) (s : State) (u : State) (x : Sess), inSession 0xC022 t r s x = true ∧ u = served r s ∧ x.priv = 0 ∧ r.payload.length = 4 ∧ fieldAt r.payload 3 1 = 0 ∧ Machine.isBundle u u.cfg (fieldAt r.payload 0 2) = true ∧ (byteAt r.payload 2 = 0 ∨ byteAt r.payload 2 = 1) ∧ (byteAt r.payload 2 = 0 → u.role (fieldAt r.payload 0 2) ≠ 4) ∧ commitArmed u = false) ∧
    (∃ (t : Transport) (r : Req) (n : Nat) (es : List Bytes) (s : State) (u : State) (x : Sess), inSession 0xC023 t r s x = true ∧ u = served r s ∧ x.priv = 0 ∧ n = byteAt r.payload 0 ∧ (1 ≤ n ∧ n ≤ 16) ∧ r.payload.length = 4 + 48 * n ∧ fieldAt r.payload 1 3 = 0 ∧ es = (List.range n).map (eqEntry r.payload) ∧ es.any eqBad = false ∧ repeats (es.map eqKey) = false ∧ commitArmed u = false) ∧
    (∃ (t : Transport) (r : Req) (s : State) (u : State) (x : Sess), inSession 0xC024 t r s x = true ∧ u = served r s ∧ byteAt r.payload 2 = 0 ∧ marginBad u r.payload = false) ∧
    (∃ (t : Transport) (r : Req) (lane : Nat) (s : State) (u : State) (x : Sess), inSession 0xC024 t r s x = true ∧ u = served r s ∧ x.priv = 0 ∧ byteAt r.payload 2 ≠ 0 ∧ marginBad u r.payload = false ∧ lane = fieldAt r.payload 0 2 ∧ laneInL0 u lane = true ∧ 3 ≤ (u.prt (laneBundle u lane)).rate ∧ (u.lane lane).margin = none ∧ (u.lane lane).partnerMargin = false) ∧
    (∃ (t : Transport) (r : Req) (s : State) (u : State) (x : Sess), inSession 0xC092 t r s x = true ∧ u = served r s ∧ r.payload.length = 4 ∧ fieldAt r.payload 2 2 = 0 ∧ byteAt r.payload 0 < 4 ∧ byteAt r.payload 1 = 0) ∧
    (∃ (t : Transport) (r : Req) (c : Nat) (v : State) (s : State) (u : State) (x : Sess), inSession 0xC092 t r s x = true ∧ u = served r s ∧ x.priv = 0 ∧ r.payload.length = 4 ∧ fieldAt r.payload 2 2 = 0 ∧ c = byteAt r.payload 0 ∧ c < 4 ∧ byteAt r.payload 1 = 1 ∧ commitArmed u = false ∧ drainable u c = true ∧ 3 ≤ ((List.range 4).filter (fun k => k != c && drainable u k)).length ∧ v = armFor (u.modCol c (fun y => { y with drainAsked := true })) (.columnDrain c) (nextRotation (u.drip + 1024)) (coreIslands u)) ∧
    (∃ (t : Transport) (r : Req) (c : Nat) (s : State) (u : State) (x : Sess), inSession 0xC092 t r s x = true ∧ u = served r s ∧ x.priv = 0 ∧ r.payload.length = 4 ∧ fieldAt r.payload 2 2 = 0 ∧ c = byteAt r.payload 0 ∧ c < 4 ∧ byteAt r.payload 1 = 2 ∧ commitArmed u = false ∧ (u.col c).st = .offline) ∧
    (∃ (t : Transport) (r : Req) (s : State) (u : State) (x : Sess), inSession 0xC093 t r s x = true ∧ u = served r s ∧ r.payload.length = 8 ∧ byteAt r.payload 0 < 32 ∧ byteAt r.payload 1 = 0 ∧ fieldAt r.payload 2 1 = 0 ∧ fieldAt r.payload 3 1 = 0 ∧ fieldAt r.payload 4 2 = 0 ∧ fieldAt r.payload 6 2 = 0) ∧
    (∃ (t : Transport) (r : Req) (p : Nat) (v : State) (s : State) (u : State) (x : Sess), inSession 0xC093 t r s x = true ∧ u = served r s ∧ x.priv = 0 ∧ r.payload.length = 8 ∧ p = byteAt r.payload 0 ∧ p < 32 ∧ byteAt r.payload 1 = 1 ∧ byteAt r.payload 2 ≤ 1 ∧ fieldAt r.payload 3 1 = 0 ∧ (1 ≤ fieldAt r.payload 4 2 ∧ fieldAt r.payload 4 2 ≤ 16384) ∧ fieldAt r.payload 6 2 = 0 ∧ commitArmed u = false ∧ passageBusy u p = false ∧ (u.pas p).st = .alive ∧ 3 ≤ liveWithout u p ∧ v = armFor (u.modPas p (fun y => { y with testAsked := some { started := u.now, pattern := byteAt r.payload 2, blocks := fieldAt r.payload 4 2 } })) (.passageDrain p) (nextRotation (u.drip + 1024)) (coreIslands u)) ∧
    (∃ (t : Transport) (r : Req) (p : Nat) (v : State) (s : State) (u : State) (x : Sess), inSession 0xC093 t r s x = true ∧ u = served r s ∧ x.priv = 0 ∧ r.payload.length = 8 ∧ p = byteAt r.payload 0 ∧ p < 32 ∧ byteAt r.payload 1 = 1 ∧ byteAt r.payload 2 ≤ 1 ∧ fieldAt r.payload 3 1 = 0 ∧ (1 ≤ fieldAt r.payload 4 2 ∧ fieldAt r.payload 4 2 ≤ 16384) ∧ fieldAt r.payload 6 2 = 0 ∧ commitArmed u = false ∧ passageBusy u p = false ∧ (u.pas p).st = .dead ∧ v = (allLearn u p).modPas p (fun y => { y with st := .testing, op := { started := u.now, pattern := byteAt r.payload 2, blocks := fieldAt r.payload 4 2 } })) ∧
    (∃ (t : Transport) (r : Req) (p : Nat) (s : State) (u : State) (x : Sess), inSession 0xC093 t r s x = true ∧ u = served r s ∧ x.priv = 0 ∧ r.payload.length = 8 ∧ p = byteAt r.payload 0 ∧ p < 32 ∧ byteAt r.payload 1 = 2 ∧ fieldAt r.payload 2 1 = 0 ∧ fieldAt r.payload 3 1 = 0 ∧ fieldAt r.payload 4 2 = 0 ∧ fieldAt r.payload 6 2 = 0 ∧ commitArmed u = false ∧ passageBusy u p = false ∧ (u.pas p).st = .dead ∧ (u.col (p % 4)).st = .inUse ∧ (u.gal (p / 4)).lost = none) ∧
    (∃ (t : Transport) (r : Req) (b : Nat) (s : State) (u : State) (x : Sess), inSession 0xC094 t r s x = true ∧ u = served r s ∧ r.payload.length = 8 ∧ b = fieldAt r.payload 0 2 ∧ Machine.isBundle u u.cfg b = true ∧ byteAt r.payload 2 = 0 ∧ fieldAt r.payload 3 1 = 0 ∧ fieldAt r.payload 4 4 = 0) ∧
    (∃ (t : Transport) (r : Req) (b : Nat) (v : State) (s : State) (u : State) (x : Sess), inSession 0xC094 t r s x = true ∧ u = served r s ∧ x.priv = 0 ∧ r.payload.length = 8 ∧ b = fieldAt r.payload 0 2 ∧ Machine.isBundle u u.cfg b = true ∧ (byteAt r.payload 2 = 1 ∨ byteAt r.payload 2 = 2) ∧ byteAt r.payload 3 ≤ 1 ∧ (1 ≤ fieldAt r.payload 4 4 ∧ fieldAt r.payload 4 4 ≤ 65535) ∧ commitArmed u = false ∧ (u.loop b).st ≠ 1 ∧ (byteAt r.payload 2 = 1 → (u.prt b).enabled = false) ∧ (byteAt r.payload 2 = 2 → u.up b = true ∧ u.role b ≠ 4 ∧ inUse u b = false) ∧ v = startLoop u b (byteAt r.payload 2) (byteAt r.payload 3) (fieldAt r.payload 4 4)) ∧
    (∃ (t : Transport) (r : Req) (b : Nat) (s : State) (u : State) (x : Sess), inSession 0xC094 t r s x = true ∧ u = served r s ∧ x.priv = 0 ∧ r.payload.length = 8 ∧ b = fieldAt r.payload 0 2 ∧ Machine.isBundle u u.cfg b = true ∧ byteAt r.payload 2 = 3 ∧ byteAt r.payload 3 ≤ 1 ∧ fieldAt r.payload 4 4 = 0 ∧ (u.loop b).st = 1) ∧
    (∃ (t : Transport) (r : Req) (s : State) (u : State) (x : Sess), inSession 0xC0A0 t r s x = true ∧ u = settleSlot (served r s) (byteAt r.payload 0) ∧ byteAt r.payload 1 = 1 ∧ slotBad u r.payload = false) ∧
    (∃ (t : Transport) (r : Req) (y : Slot) (s : State) (u : State) (x : Sess), inSession 0xC0A0 t r s x = true ∧ u = settleSlot (served r s) (byteAt r.payload 0) ∧ x.priv = 0 ∧ byteAt r.payload 1 = 0 ∧ slotBad u r.payload = false ∧ y = u.slot (byteAt r.payload 0) ∧ (y.st = .unconfigured ∨ y.st = .empty ∨ y.st = .off ∨ y.st = .locked) ∧ (y.fetShort = false ∨ (slotFrom r.payload).enable = true)) ∧
    (∃ (t : Transport) (r : Req) (n : Nat) (a : Nat) (s : State) (u : State) (x : Sess), inSession 0xC0A1 t r s x = true ∧ u = settleSlot (served r s) (byteAt r.payload 0) ∧ r.payload.length = 4 ∧ (x.priv = 0 ∨ x.priv = 2) ∧ n = byteAt r.payload 0 ∧ n ≤ 127 ∧ a = byteAt r.payload 1 ∧ a ≤ 3 ∧ fieldAt r.payload 3 1 = 0 ∧ (a = 3 → byteAt r.payload 2 ≤ 2) ∧ (a ≠ 3 → fieldAt r.payload 2 1 = 0) ∧ slotPowerState (u.slot n) a = false) ∧
    (∃ (t : Transport) (r : Req) (s : State) (u : State) (x : Sess), inSession 0xC0A2 t r s x = true ∧ u = served r s ∧ r.payload.length = 4 ∧ fieldAt r.payload 1 3 = 0 ∧ byteAt r.payload 0 ≤ 127) ∧
    (∃ (t : Transport) (r : Req) (s : State) (u : State) (x : Sess), inSession 0xC0C0 t r s x = true ∧ u = served r s ∧ x.priv = 0 ∧ r.payload.length = 16 ∧ byteAt r.payload 0 ≤ 3 ∧ byteAt r.payload 1 ≤ 3 ∧ (1 ≤ byteAt r.payload 4 ∧ byteAt r.payload 4 ≤ 100) ∧ byteAt r.payload 5 ≤ 1 ∧ fieldAt r.payload 6 2 = 0 ∧ (byteAt r.payload 5 = 1 → 2 ≤ byteAt r.payload 1 ∧ fieldAt r.payload 8 8 % 800000000 = 0 ∧ u.drip + 1600000000 ≤ fieldAt r.payload 8 8 ∧ u.proto.committedOnce = false) ∧ commitArmed u = false) ∧
    (∃ (t : Transport) (r : Req) (s : State) (u : State) (x : Sess), inSession 0xC0C1 t r s x = true ∧ u = served r s ∧ r.payload.length = 2 ∧ (fieldAt r.payload 0 2 ≤ 289 ∨ fieldAt r.payload 0 2 = 65535)) :=
  ⟨⟨.boot, (rq 0xC021 [255, 1, 0, 0]), run1, _, sess0, meets_in _ _ _ _ (by decide), rfl, by decide, by decide, by decide⟩,
    ⟨.boot, (rq 0xC022 [4, 0, 0, 0]), run1, _, sess0, meets_in _ _ _ _ (by decide), rfl, rfl, by decide, by decide, by decide, .inl rfl, (by decide), by decide⟩,
    ⟨.boot, (rq 0xC023 ([1, 0, 0, 0] ++ eqSample)), 1, _, run1, _, sess0, meets_in _ _ _ _ (by decide), rfl, rfl, by decide, by decide, by decide, by decide, rfl, by decide +kernel, by decide +kernel, by decide⟩,
    ⟨.boot, (rq 0xC024 [9, 0, 0, 0, 0, 0, 0, 0]), run1, _, sess0, meets_in _ _ _ _ (by decide), rfl, by decide, by decide⟩,
    ⟨.boot, (rq 0xC024 [8, 0, 1, 0, 0, 20, 0, 0]), 8, laneRun, _, sess0, meets_in _ _ _ _ (by decide), rfl, rfl, by decide, by decide, by decide, by decide, by decide, by decide, by decide⟩,
    ⟨.boot, (rq 0xC092 [3, 0, 0, 0]), run1, _, sess0, meets_in _ _ _ _ (by decide), rfl, by decide, by decide, by decide, by decide⟩,
    ⟨.boot, (rq 0xC092 [3, 1, 0, 0]), 3, _, run1, _, sess0, meets_in _ _ _ _ (by decide), rfl, rfl, by decide, by decide, by decide, by decide, by decide, by decide, by decide, by decide, rfl⟩,
    ⟨.boot, (rq 0xC092 [3, 2, 0, 0]), 3, { run1 with core := { run1.core with cols := [(3, { st := .offline })] } }, _, sess0, meets_in _ _ _ _ (by decide), rfl, rfl, by decide, by decide, by decide, by decide, by decide, by decide, rfl⟩,
    ⟨.boot, (rq 0xC093 [31, 0, 0, 0, 0, 0, 0, 0]), run1, _, sess0, meets_in _ _ _ _ (by decide), rfl, by decide, by decide, by decide, by decide, by decide, by decide, by decide⟩,
    ⟨.boot, (rq 0xC093 [31, 1, 0, 0, 1, 0, 0, 0]), 31, _, run1, _, sess0, meets_in _ _ _ _ (by decide), rfl, rfl, by decide, by decide, by decide, by decide, by decide, by decide, by decide, by decide, by decide, by decide, by decide, by decide, rfl⟩,
    ⟨.boot, (rq 0xC093 [31, 1, 1, 0, 0, 64, 0, 0]), 31, _, { run1 with core := { run1.core with pas := [(31, { st := .dead })] } }, _, sess0, meets_in _ _ _ _ (by decide), rfl, rfl, by decide, by decide, by decide, by decide, by decide, by decide, by decide, by decide, by decide, by decide, by decide, rfl⟩,
    ⟨.boot, (rq 0xC093 [31, 2, 0, 0, 0, 0, 0, 0]), 31, { run1 with core := { run1.core with pas := [(31, { st := .dead })] } }, _, sess0, meets_in _ _ _ _ (by decide), rfl, rfl, by decide, by decide, by decide, by decide, by decide, by decide, by decide, by decide, by decide, by decide, by decide, by decide, by decide⟩,
    ⟨.boot, (rq 0xC094 [4, 0, 0, 0, 0, 0, 0, 0]), 4, run1, _, sess0, meets_in _ _ _ _ (by decide), rfl, by decide, by decide, by decide, by decide, by decide, by decide⟩,
    ⟨.boot, (rq 0xC094 [4, 0, 1, 1, 1, 0, 0, 0]), 4, _, { run1 with port := { run1.port with ports := [(4, { enabled := false })] } }, _, sess0, meets_in _ _ _ _ (by decide), rfl, rfl, by decide, by decide, by decide, .inl rfl, by decide, by decide, by decide, by decide, (by decide), (by decide), rfl⟩,
    ⟨.boot, (rq 0xC094 [4, 0, 3, 0, 0, 0, 0, 0]), 4, { run1 with port := { run1.port with loops := [(4, { st := 1 })] } }, _, sess0, meets_in _ _ _ _ (by decide), rfl, rfl, by decide, by decide, by decide, by decide, by decide, by decide, by decide⟩,
    ⟨.boot, (rq 0xC0A0 ([127, 1] ++ zeros 14)), run1, _, sess0, meets_in _ _ _ _ (by decide), rfl, by decide, by decide⟩,
    ⟨.boot, (rq 0xC0A0 [127, 0, 15, 10, 200, 0, 5, 200, 255, 0, 232, 3, 255, 255, 0, 0]), _, run1, _, sess0, meets_in _ _ _ _ (by decide), rfl, rfl, by decide, by decide, rfl, .inl rfl, .inl rfl⟩,
    ⟨.boot, (rq 0xC0A1 [127, 3, 2, 0]), 127, 3, run1, _, sess0, meets_in _ _ _ _ (by decide), rfl, by decide, .inl rfl, by decide, by decide, by decide, by decide, by decide, (by decide), (by decide), by decide⟩,
    ⟨.boot, (rq 0xC0A2 [127, 0, 0, 0]), run1, _, sess0, meets_in _ _ _ _ (by decide), rfl, by decide, by decide, by decide⟩,
    ⟨.boot, (rq 0xC0C0 ([0, 2, 5, 0, 100, 1, 0, 0] ++ leBytes 8 2400000000)), run1, _, sess0, meets_in _ _ _ _ (by decide), rfl, rfl, by decide, by decide, by decide, by decide, by decide, by decide, (by decide), by decide⟩,
    ⟨.boot, (rq 0xC0C1 [33, 1]), run1, _, sess0, meets_in _ _ _ _ (by decide), rfl, by decide, .inl (by decide)⟩⟩

/-- A state and operands that meet the hypotheses of every clause of `Obligations.MemoryDirectoryAndEventCommands`. -/
theorem test_meets_MemoryDirectoryAndEventCommands :
    (∃ (t : Transport) (r : Req) (n : Nat) (s : State) (u : State) (x : Sess), inSession 0xC035 t r s x = true ∧ u = served r s ∧ x.priv = 0 ∧ r.payload.length = 4 ∧ fieldAt r.payload 2 2 = 0 ∧ n = fieldAt r.payload 0 2 ∧ n ≤ 4095 ∧ (u.cfg.gr n).live = true ∧ (u.gr n).st = .bound ∧ holdsShared u.cfg n = true ∧ (u.gr n).recallCmd = false ∧ commitArmed u = false) ∧
    (∃ (t : Transport) (r : Req) (s : State) (u : State) (x : Sess), inSession 0xC036 t r s x = true ∧ u = served r s ∧ r.payload.length = 4 ∧ fieldAt r.payload 2 2 = 0 ∧ fieldAt r.payload 0 2 ≤ 4095) ∧
    (∃ (t : Transport) (r : Req) (w : Nat) (s : State) (u : State) (x : Sess), inSession 0xC042 t r s x = true ∧ u = served r s ∧ r.payload.length = 16 ∧ fieldAt r.payload 4 4 = 0 ∧ w = fieldAt r.payload 0 2 ∧ w ≤ 1023 ∧ (u.cfg.win w).live = true ∧ byteAt r.payload 2 = 0 ∧ byteAt r.payload 3 = 0 ∧ fieldAt r.payload 8 8 = 0) ∧
    (∃ (t : Transport) (r : Req) (w : Nat) (v : State) (s : State) (u : State) (x : Sess), inSession 0xC042 t r s x = true ∧ u = served r s ∧ x.priv = 0 ∧ r.payload.length = 16 ∧ fieldAt r.payload 4 4 = 0 ∧ w = fieldAt r.payload 0 2 ∧ w ≤ 1023 ∧ (u.cfg.win w).live = true ∧ byteAt r.payload 2 = 1 ∧ byteAt r.payload 3 ≤ 1 ∧ (byteAt r.payload 3 = 0 → fieldAt r.payload 8 8 = 0) ∧ (u.cfg.win w).export_ = 65535 ∧ heldBusy u w = false ∧ (u.win w).sanSt ≠ 1 ∧ resyncRuns u w = false ∧ commitArmed u = false ∧ v = startSanitise u w (fieldAt r.payload 8 8) none) ∧
    (∃ (t : Transport) (r : Req) (w : Nat) (s : State) (u : State) (x : Sess), inSession 0xC043 t r s x = true ∧ u = served r s ∧ r.payload.length = 8 ∧ fieldAt r.payload 4 4 = 0 ∧ w = fieldAt r.payload 0 2 ∧ w ≤ 1023 ∧ (u.cfg.win w).live = true ∧ byteAt r.payload 2 = 0 ∧ byteAt r.payload 3 = 0) ∧
    (∃ (t : Transport) (r : Req) (w : Nat) (v : State) (s : State) (u : State) (x : Sess), inSession 0xC043 t r s x = true ∧ u = served r s ∧ x.priv = 0 ∧ r.payload.length = 8 ∧ fieldAt r.payload 4 4 = 0 ∧ w = fieldAt r.payload 0 2 ∧ w ≤ 1023 ∧ (u.cfg.win w).live = true ∧ byteAt r.payload 2 = 1 ∧ (1 ≤ byteAt r.payload 3 ∧ byteAt r.payload 3 ≤ 16) ∧ (u.cfg.win w).twinned = true ∧ resyncable u w ≠ [] ∧ resyncRuns u w = false ∧ (u.win w).sanSt ≠ 1 ∧ commitArmed u = false ∧ v = startResync u w (byteAt r.payload 3)) ∧
    (∃ (t : Transport) (r : Req) (s : State) (u : State) (x : Sess), inSession 0xC052 t r s x = true ∧ u = served r s ∧ r.payload.length = 4 ∧ fieldAt r.payload 2 2 = 0 ∧ fieldAt r.payload 0 2 ≤ 511) ∧
    (∃ (t : Transport) (r : Req) (s : State) (u : State) (x : Sess), inSession 0xC053 t r s x = true ∧ u = served r s ∧ x.priv = 0 ∧ r.payload.length = 4 ∧ fieldAt r.payload 2 2 = 0 ∧ fieldAt r.payload 0 2 ≤ 511) ∧
    (∃ (t : Transport) (r : Req) (g : Nat) (sl : Nat) (s : State) (u : State) (x : Sess), inSession 0xC081 t r s x = true ∧ u = served r s ∧ r.payload.length = 4 ∧ g = byteAt r.payload 0 ∧ g ≤ 7 ∧ sl = byteAt r.payload 1 ∧ sl ≤ 8 ∧ byteAt r.payload 2 = 0 ∧ byteAt r.payload 3 ≤ 1) ∧
    (∃ (t : Transport) (r : Req) (g : Nat) (sl : Nat) (s : State) (u : State) (x : Sess), inSession 0xC081 t r s x = true ∧ u = served r s ∧ x.priv = 0 ∧ r.payload.length = 4 ∧ g = byteAt r.payload 0 ∧ g ≤ 7 ∧ sl = byteAt r.payload 1 ∧ sl ≤ 8 ∧ byteAt r.payload 2 = 1 ∧ byteAt r.payload 3 ≤ 1 ∧ commitArmed u = false ∧ sliceBusy u g = false ∧ ((u.slice g sl).role = .active → spareOf u g = none → byteAt r.payload 3 = 1)) ∧
    (∃ (t : Transport) (r : Req) (s : State) (u : State) (x : Sess), inSession 0xC082 t r s x = true ∧ u = served r s ∧ r.payload.length = 4 ∧ fieldAt r.payload 2 2 = 0 ∧ byteAt r.payload 0 ≤ 7 ∧ byteAt r.payload 1 ≤ 8) ∧
    (∃ (t : Transport) (r : Req) (s : State) (u : State) (x : Sess), inSession 0xC090 t r s x = true ∧ u = served r s ∧ r.payload.length = 8 ∧ seqAge u (fieldAt r.payload 0 4) ≤ 2 ^ 31 ∧ fieldAt r.payload 4 2 ≤ 511 ∧ byteAt r.payload 6 = 0 ∧ fieldAt r.payload 7 1 = 0) ∧
    (∃ (t : Transport) (r : Req) (v : State) (s : State) (u : State) (x : Sess), inSession 0xC090 t r s x = true ∧ u = served r s ∧ x.priv = 0 ∧ r.payload.length = 8 ∧ seqAge u (fieldAt r.payload 0 4) ≤ 2 ^ 31 ∧ fieldAt r.payload 4 2 ≤ 511 ∧ byteAt r.payload 6 = 1 ∧ fieldAt r.payload 7 1 = 0 ∧ v = { u with ev := { u.ev with queue := u.ev.queue.filter (fun e => decide (seqAge u e.1 ≤ seqAge u (fieldAt r.payload 0 4))) } }) ∧
    (∃ (t : Transport) (r : Req) (m : MaskEnt) (s : State) (u : State) (x : Sess), inSession 0xC091 t r s x = true ∧ u = served r s ∧ byteAt r.payload 1 = 1 ∧ maskBad r.payload = false ∧ m = tget {} u.ev.masks (byteAt r.payload 0)) ∧
    (∃ (t : Transport) (r : Req) (s : State) (u : State) (x : Sess), inSession 0xC091 t r s x = true ∧ u = served r s ∧ x.priv = 0 ∧ byteAt r.payload 1 = 0 ∧ maskBad r.payload = false) ∧
    (∃ (t : Transport) (r : Req) (s : State) (u : State) (x : Sess), inSession 0xC0B2 t r s x = true ∧ u = served r s ∧ snapshotAllowed t r s = true ∧ r.payload.length = 8 ∧ (1 ≤ byteAt r.payload 0 ∧ byteAt r.payload 0 ≤ 9) ∧ fieldAt r.payload 1 1 = 0 ∧ fieldAt r.payload 6 2 = 0 ∧ instOk u (byteAt r.payload 0) (fieldAt r.payload 2 2) = true ∧ byteAt r.payload 4 + byteAt r.payload 5 ≤ idxCount (byteAt r.payload 0)) :=
  ⟨⟨.boot, (rq 0xC035 [3, 0, 0, 0]), 3, shState, _, sess0, meets_in _ _ _ _ (by decide), rfl, rfl, by decide, by decide, by decide, by decide, by decide, by decide, by decide, by decide, by decide⟩,
    ⟨.boot, (rq 0xC036 [255, 15, 0, 0]), run1, _, sess0, meets_in _ _ _ _ (by decide), rfl, by decide, by decide, by decide⟩,
    ⟨.boot, (rq 0xC042 ([9, 0] ++ zeros 14)), 9, run3, _, sess0, meets_in _ _ _ _ (by decide), rfl, by decide, by decide, by decide, by decide, by decide, by decide, by decide, by decide⟩,
    ⟨.boot, (rq 0xC042 ([7, 0, 1, 1] ++ zeros 4 ++ leBytes 8 77)), 7, _, run3, _, sess0, meets_in _ _ _ _ (by decide), rfl, rfl, by decide, by decide, by decide, by decide, by decide, by decide, by decide, (by decide), by decide, by decide, by decide, by decide, by decide, rfl⟩,
    ⟨.boot, (rq 0xC043 ([9, 0] ++ zeros 6)), 9, run3, _, sess0, meets_in _ _ _ _ (by decide), rfl, by decide, by decide, by decide, by decide, by decide, by decide, by decide⟩,
    ⟨.boot, (rq 0xC043 ([9, 0, 1, 16] ++ zeros 4)), 9, _, twState, _, sess0, meets_in _ _ _ _ (by decide), rfl, rfl, by decide, by decide, by decide, by decide, by decide, by decide, by decide, by decide, by decide, by decide, by decide, by decide, rfl⟩,
    ⟨.boot, (rq 0xC052 [255, 1, 0, 0]), run1, _, sess0, meets_in _ _ _ _ (by decide), rfl, by decide, by decide, by decide⟩,
    ⟨.boot, (rq 0xC053 [8, 0, 0, 0]), run1, _, sess0, meets_in _ _ _ _ (by decide), rfl, rfl, by decide, by decide, by decide⟩,
    ⟨.boot, (rq 0xC081 [7, 8, 0, 0]), 7, 8, run1, _, sess0, meets_in _ _ _ _ (by decide), rfl, by decide, by decide, by decide, by decide, by decide, by decide, by decide⟩,
    ⟨.boot, (rq 0xC081 [7, 8, 1, 1]), 7, 8, run1, _, sess0, meets_in _ _ _ _ (by decide), rfl, rfl, by decide, by decide, by decide, by decide, by decide, by decide, by decide, by decide, by decide, (by decide)⟩,
    ⟨.boot, (rq 0xC082 [7, 8, 0, 0]), run1, _, sess0, meets_in _ _ _ _ (by decide), rfl, by decide, by decide, by decide, by decide⟩,
    ⟨.boot, (rq 0xC090 [0, 0, 0, 0, 255, 1, 0, 0]), run1, _, sess0, meets_in _ _ _ _ (by decide), rfl, by decide, by decide, by decide, by decide, by decide⟩,
    ⟨.boot, (rq 0xC090 [0, 0, 0, 0, 255, 1, 1, 0]), _, run1, _, sess0, meets_in _ _ _ _ (by decide), rfl, rfl, by decide, by decide, by decide, by decide, by decide, rfl⟩,
    ⟨.boot, (rq 0xC091 ([15, 1] ++ zeros 10)), _, run1, _, sess0, meets_in _ _ _ _ (by decide), rfl, by decide, by decide, rfl⟩,
    ⟨.boot, (rq 0xC091 ([15, 0, 7, 0, 255, 15, 0, 0, 255, 7, 0, 0])), run1, _, sess0, meets_in _ _ _ _ (by decide), rfl, rfl, by decide, by decide⟩,
    ⟨.boot, (rq 0xC0B2 [1, 0, 4, 0, 7, 1, 0, 0]), run1, _, sess0, meets_in _ _ _ _ (by decide), rfl, by decide, by decide, by decide, by decide, by decide, by decide, by decide⟩⟩

/-- A state and operands that meet the hypotheses of every clause of `Obligations.StandardInterfaces`. -/
theorem test_meets_StandardInterfaces :
    (∃ (t : Transport) (s : State), answering s = true ∧ mailboxAgent t = none) ∧
    (∃ (t : Transport) (s : State), answering s = true ∧ mailboxAgent t = none) ∧
    (∃ (t : Transport) (s : State), answering s = true ∧ mailboxAgent t = none) ∧
    (∃ (t : Transport) (limit : Nat) (s : State) (u : State), answering s = true ∧ mailboxAgent t = none ∧ u = { s with proto := { s.proto with fmLimit := limit % 256 } }) ∧
    (∃ (t : Transport) (s : State), answering s = true ∧ mailboxAgent t = none) ∧
    (∃ (t : Transport) (ports : List Nat) (s : State), answering s = true ∧ mailboxAgent t = none ∧ ports.all (fun b => decide (b < 512)) = true) ∧
    (∃ (t : Transport) (vcs : Nat) (s : State), answering s = true ∧ mailboxAgent t = none ∧ (s.cfg.hier vcs).live = true) ∧
    (∃ (t : Transport) (s : State), answering s = true ∧ mailboxAgent t = none) ∧
    (∃ (t : Transport) (s : State), answering s = true ∧ mailboxAgent t = none) ∧
    (∃ (t : Transport) (s : State), answering s = true ∧ mailboxAgent t = none) ∧
    (∃ (t : Transport) (s : State), answering s = true ∧ mailboxAgent t = none) ∧
    (∃ (t : Transport) (s : State), answering s = true ∧ mailboxAgent t = none) ∧
    (∃ (t : Transport) (op : Nat) (s : State), answering s = true ∧ mailboxAgent t = none ∧ fmOpcodes.contains op = false) ∧
    (∃ (t : Transport) (eid : Nat) (s : State) (u : State), answering s = true ∧ (mailboxAgent t = none ∨ firmwareUp s = true) ∧ u = { s with proto := { s.proto with eids := tput 0 s.proto.eids (transportNo t) (eid % 256) } }) ∧
    (∃ (t : Transport) (s : State), answering s = true ∧ (mailboxAgent t = none ∨ firmwareUp s = true)) ∧
    (∃ (t : Transport) (s : State), answering s = true ∧ (mailboxAgent t = none ∨ firmwareUp s = true)) ∧
    (∃ (t : Transport) (s : State), answering s = true ∧ (mailboxAgent t = none ∨ firmwareUp s = true)) ∧
    (∃ (t : Transport) (s : State), answering s = true ∧ (mailboxAgent t = none ∨ firmwareUp s = true)) ∧
    (∃ (t : Transport) (s : State), answering s = true ∧ (t = .i3cA ∨ t = .i3cB)) ∧
    (∃ (grotto : Nat) (s : State), mailboxUp s grotto = true) ∧
    (∃ (grotto : Nat) (s : State), mailboxUp s grotto = true) ∧
    (∃ (grotto : Nat) (s : State), mailboxUp s grotto = true) ∧
    (∃ (grotto : Nat) (s : State), mailboxUp s grotto = true) ∧
    (∃ (grotto : Nat) (s : State), mailboxUp s grotto = true) ∧
    (∃ (grotto : Nat) (s : State), mailboxUp s grotto = true) ∧
    (∃ (grotto : Nat) (s : State), mailboxUp s grotto = true) :=
  ⟨⟨.i3cB, State.reset, by decide, rfl⟩,
    ⟨.i3cB, State.reset, by decide, rfl⟩,
    ⟨.i3cB, State.reset, by decide, rfl⟩,
    ⟨.i3cB, 9, State.reset, _, by decide, rfl, rfl⟩,
    ⟨.i3cB, State.reset, by decide, rfl⟩,
    ⟨.i3cB, [0, 511], State.reset, by decide, rfl, by decide⟩,
    ⟨.i3cB, 2, run3, by decide, rfl, by decide⟩,
    ⟨.i3cB, State.reset, by decide, rfl⟩,
    ⟨.i3cB, State.reset, by decide, rfl⟩,
    ⟨.i3cB, State.reset, by decide, rfl⟩,
    ⟨.i3cB, State.reset, by decide, rfl⟩,
    ⟨.i3cB, State.reset, by decide, rfl⟩,
    ⟨.i3cB, 0x5300, State.reset, by decide, rfl, by decide⟩,
    ⟨.i3cA, 8, State.reset, _, by decide, .inl rfl, rfl⟩,
    ⟨.i3cA, State.reset, by decide, .inl rfl⟩,
    ⟨.i3cA, State.reset, by decide, .inl rfl⟩,
    ⟨.i3cA, State.reset, by decide, .inl rfl⟩,
    ⟨.i3cA, State.reset, by decide, .inl rfl⟩,
    ⟨.i3cB, State.reset, by decide, .inr rfl⟩,
    ⟨3, run3, by decide⟩,
    ⟨3, run3, by decide⟩,
    ⟨3, run3, by decide⟩,
    ⟨3, run3, by decide⟩,
    ⟨3, run3, by decide⟩,
    ⟨3, run3, by decide⟩,
    ⟨3, run3, by decide⟩⟩

end Sys2Proof.Tests
end

section
/-!
PROOFS. The pulse of `TIME_PPS_OUT` (R28): when its command is due, and what it then does.
-/

namespace Sys2Proof.Machine

/-- The switch drives `TIME_PPS_OUT` on this drip: it leads or repeats, and its own count is at a whole second (R28). -/
def drivesPulse (s : State) : Bool :=
  (s.time.ppsRole == 1 || s.time.ppsRole == 3) && s.drip % 800000000 == 0

theorem drivesPulse_iff (s : State) :
    drivesPulse s = true ↔ (s.time.ppsRole = 1 ∨ s.time.ppsRole = 3) ∧ s.time.drip % 800000000 = 0 := by
  simp only [drivesPulse, State.drip, Bool.and_eq_true, Bool.or_eq_true, beq_iff_eq]

theorem exec_ppsOutPulse (s : State) :
    exec .ppsOutPulse s =
      due (drivesPulse s) s { s with pin := { s.pin with ppsOutUntil := some (s.now + 80000) } } := rfl

/-- Settles O15: the command is due exactly when the switch drives the pulse, and otherwise changes nothing. -/
theorem ppsOutPulse : Obligations.PpsOutPulse := by
  unfold Obligations.PpsOutPulse
  intro s
  rw [exec_ppsOutPulse]
  by_cases h : (s.time.ppsRole = 1 ∨ s.time.ppsRole = 3) ∧ s.time.drip % 800000000 = 0
  · rw [if_pos h]
    exact exec_due_true _ _ _ ((drivesPulse_iff s).mpr h)
  · rw [if_neg h]
    exact exec_due_false _ _ _ (Bool.eq_false_iff.mpr (h ∘ (drivesPulse_iff s).mp))

end Sys2Proof.Machine
end

section
/-!
PROOFS. Directory keys (R88): the slice, set index and tag of a key, and the key rebuilt from them.
-/

namespace Sys2Proof.Machine

theorem testBit_bitsOf (v hi lo i : Nat) :
    (bitsOf v hi lo).testBit i = (decide (i < hi + 1 - lo) && v.testBit (lo + i)) := by
  rw [bitsOf, Nat.testBit_mod_two_pow, Nat.testBit_div_two_pow, Nat.add_comm i lo]

/-- A field of a field is a field of the whole, where the inner one reaches high enough. -/
theorem bitsOf_bitsOf (v : Nat) {hi lo h l : Nat} (hh : lo + h ≤ hi) :
    bitsOf (bitsOf v hi lo) h l = bitsOf v (lo + h) (lo + l) := by
  refine Nat.eq_of_testBit_eq fun i => ?_
  have hwidth : lo + h + 1 - (lo + l) = h + 1 - l := by omega
  rw [testBit_bitsOf, testBit_bitsOf, testBit_bitsOf, hwidth, Nat.add_assoc]
  by_cases hin : i < h + 1 - l
  · have hout : l + i < hi + 1 - lo := by omega
    simp only [hout, decide_true, Bool.true_and]
  · simp only [hin, decide_false, Bool.false_and]

/-- K[18:3] from the set index (R88). -/
theorem bitsOf_18_3_eq (k : Nat) : bitsOf k 18 3 = keySet k ^^^ bitsOf k 34 19 :=
  (Nat.xor_xor_cancel_right _ _).symm

/-- K[2:0] from the logical slice (R88). -/
theorem bitsOf_2_0_eq (k : Nat) : bitsOf k 2 0 = keySlice k ^^^ bitsOf k 21 19 ^^^ bitsOf k 40 38 := by
  rw [Nat.xor_right_comm, keySlice, Nat.xor_xor_cancel_right, Nat.xor_xor_cancel_right]

/-- The fields that slice and set index are hashed with all lie inside `TAG`. -/
theorem hashFields_eq_keyTag (k : Nat) :
    bitsOf k 21 19 = bitsOf (keyTag k) 2 0 ∧ bitsOf k 40 38 = bitsOf (keyTag k) 21 19 ∧
      bitsOf k 34 19 = bitsOf (keyTag k) 15 0 :=
  have field (h l : Nat) (hh : 19 + h ≤ 44) : bitsOf k (19 + h) (19 + l) = bitsOf (keyTag k) h l :=
    (bitsOf_bitsOf k hh).symm
  ⟨field 2 0 (by decide), field 21 19 (by decide), field 15 0 (by decide)⟩

theorem key_eq_fields {k : Nat} (hk : k < 2 ^ 45) :
    k = bitsOf k 2 0 + 2 ^ 3 * bitsOf k 18 3 + 2 ^ 19 * keyTag k := by
  simp only [keyTag, bitsOf]
  omega

/-- The key of logical slice `l`, set index `x` and `TAG` `t`: K[2:0] and K[18:3] undo the hash by fields of the tag. -/
def keyOfSplit (l x t : Nat) : Nat :=
  (l ^^^ bitsOf t 2 0 ^^^ bitsOf t 21 19) + 2 ^ 3 * (x ^^^ bitsOf t 15 0) + 2 ^ 19 * t

theorem keyOfSplit_split {k : Nat} (hk : k < 2 ^ 45) :
    keyOfSplit (keySlice k) (keySet k) (keyTag k) = k := by
  obtain ⟨h21, h40, h34⟩ := hashFields_eq_keyTag k
  rw [keyOfSplit, ← h21, ← h40, ← h34, ← bitsOf_2_0_eq, ← bitsOf_18_3_eq, ← key_eq_fields hk]

/-- Settles O26: the values are R88's by definition, and `keyOfSplit` takes them back to the key. -/
theorem directoryKeysSplit : Obligations.DirectoryKeysSplit := by
  unfold Obligations.DirectoryKeysSplit
  refine ⟨fun k => ⟨rfl, rfl, rfl, bitsOf_18_3_eq k, bitsOf_2_0_eq k⟩, fun k j hk hj hslice hset htag => ?_⟩
  calc k = keyOfSplit (keySlice k) (keySet k) (keyTag k) := (keyOfSplit_split hk).symm
    _ = keyOfSplit (keySlice j) (keySet j) (keyTag j) := by rw [hslice, hset, htag]
    _ = j := keyOfSplit_split hj

end Sys2Proof.Machine
end

section
/-!
PROOFS. The check of a guard (R208, R210, R212): when a span passes, what a verdict depends on, and the answer to a refused request.
-/

namespace Sys2Proof.Machine

/-! ## The span check -/

theorem checkPage_eq_none_iff (rules : Tbl Rule) (space need page : Nat) :
    checkPage rules space need page = none ↔
      ∃ e, rules.filter (fun e => covers e.2 space page) = [e] ∧ grants e.2 need = true := by
  unfold checkPage
  generalize rules.filter (fun e => covers e.2 space page) = hits
  match hits with
  | [] => simp
  | [e] => simp
  | e :: _ :: _ => simp

theorem checkPages_eq_pass_iff (rules : Tbl Rule) (space need lo : Nat) (ks : List Nat) :
    checkPages rules space need lo ks = .pass ↔ ∀ k ∈ ks, checkPage rules space need (lo + k) = none := by
  induction ks with
  | nil => simp [checkPages]
  | cons k ks ih =>
    rw [checkPages, List.forall_mem_cons, ← ih]
    cases checkPage rules space need (lo + k) with
    | none => simp
    | some failed =>
      obtain ⟨reason, rule⟩ := failed
      by_cases htwice : reason = 4 <;> simp [htwice]

/-- The pages of the check's loop, counted from the first, are those of the span. -/
theorem forall_mem_range_span_iff (P : Nat → Prop) (lo hi : Nat) :
    (∀ k ∈ List.range (hi + 1 - lo), P (lo + k)) ↔ ∀ page, lo ≤ page → page ≤ hi → P page := by
  constructor
  · intro h page hlo hhi
    have hk := h (page - lo) (List.mem_range.mpr (by omega))
    rwa [Nat.add_sub_cancel' hlo] at hk
  · intro h k hk
    have hlt := List.mem_range.mp hk
    exact h (lo + k) (by omega) (by omega)

theorem spanCheck_open {g : GuardCfg} {space : Nat} (h : closedIn g space = false) (a n need : Nat) :
    spanCheck g false space a n need = .pass := by
  simp [spanCheck, h]

theorem spanCheck_closed_eq_pass_iff {g : GuardCfg} {space : Nat} (h : closedIn g space = true) (a n need : Nat) :
    spanCheck g false space a n need = .pass ↔
      ∀ page, pageLo a ≤ page → page ≤ pageHi a n → checkPage g.rules space need page = none := by
  simp only [spanCheck, h, Bool.not_true, Bool.false_eq_true, if_false]
  rw [checkPages_eq_pass_iff, forall_mem_range_span_iff (fun page => checkPage g.rules space need page = none)]

/-! ## What a verdict depends on -/

/-- What the rule store shows closes the guard: an uncorrectable error of one of its 64 rules (R216). -/
def storeCloses : RuleFault → Bool
  | .uncorrectable i => decide (i < 64)
  | _ => false

theorem ruleFault_of_store_none {c : Checked} (h : c.store = .none) (s : State) : ruleFault s c = s := by
  simp [ruleFault, h]

@[simp] theorem raiseFault_cfg (s : State) (b cause rule space sev : Nat) :
    (raiseFault s b cause rule space sev).cfg = s.cfg := rfl

@[simp] theorem raiseFault_grd (s : State) (b cause rule space sev k : Nat) :
    (raiseFault s b cause rule space sev).grd k = s.grd k := rfl

/-- What a check finds of the rule store leaves the rules as they are, and closes the guard or leaves it as it was. -/
theorem ruleFault_cfg_and_fault (s : State) (c : Checked) :
    (ruleFault s c).cfg = s.cfg ∧
      ((ruleFault s c).grd c.port).fault = ((s.grd c.port).fault || storeCloses c.store) := by
  by_cases hf : (s.grd c.port).fault = true
  · simp [ruleFault, hf]
  · cases hs : c.store with
    | none => simp [ruleFault_of_store_none hs, storeCloses]
    | corrected i => by_cases hi : i < 64 <;> simp [ruleFault, hs, hf, hi, storeCloses]
    | uncorrectable i => by_cases hi : i < 64 <;> simp [ruleFault, hs, hf, hi, storeCloses]

/-- The verdict on a request, after what its check finds of the rule store, depends only on the rules and the guards' state. -/
theorem verdictOf_ruleFault_congr {s t : State} (hcfg : t.cfg = s.cfg) (hguard : t.guard = s.guard) (c : Checked) :
    verdictOf (ruleFault t c) c = verdictOf (ruleFault s c) c := by
  have hgrd : t.grd c.port = s.grd c.port := by rw [State.grd, hguard, State.grd]
  obtain ⟨hcfgT, hfaultT⟩ := ruleFault_cfg_and_fault t c
  obtain ⟨hcfgS, hfaultS⟩ := ruleFault_cfg_and_fault s c
  rw [verdictOf, verdictOf, hcfgT, hfaultT, hcfgS, hfaultS, hcfg, hgrd]

theorem guardCheck_snd_iff (s : State) (c : Checked) :
    (guardCheck s c).2 = true ↔ verdictOf (ruleFault s c) c = .pass := by
  have hcount : verdictOf (ruleFault (countPort s c.port 6 1) c) c = verdictOf (ruleFault s c) c :=
    verdictOf_ruleFault_congr (State.modPrt_cfg ..) (State.modPrt_guard ..) c
  rw [← hcount, guardCheck]
  cases verdictOf (ruleFault (countPort s c.port 6 1) c) c with
  | pass => simp
  | refuse reason page rule start twice => simp

/-! ## Taking a request in (R204, R185) -/

/-- A request is counted at its port, and stamped with its grotto's generation, before its guard checks it. -/
def stampArrival (s : State) (b n : Nat) (p : Pkt) : State :=
  if p.gv then genAdd (rxMsg s b n) p.grotto p.gen else rxMsg s b n

@[simp] theorem stampArrival_cfg (s : State) (b n : Nat) (p : Pkt) : (stampArrival s b n p).cfg = s.cfg := by
  unfold stampArrival
  split <;> rfl

@[simp] theorem stampArrival_guard (s : State) (b n : Nat) (p : Pkt) : (stampArrival s b n p).guard = s.guard := by
  unfold stampArrival
  split <;> rfl

theorem takeIn_refused {s : State} {c : Checked} {p : Pkt} {n : Nat} (g : Nat) (hkind : c.kind ≠ 0)
    (hcredit : creditFor s c.port p = true) (hcheck : (guardCheck (stampArrival s c.port n p) c).2 = false) :
    takeIn s g c p n = refuseReply (guardCheck (stampArrival s c.port n p) c).1 g c.port c.kind p := by
  unfold stampArrival at hcheck ⊢
  simp [takeIn, hkind, hcredit, hcheck]

/-- Settles O43: the loop over the pages passes when each page does, and a request that its guard turns back is answered with the
refusal of its kind. -/
theorem guardChecks : Obligations.GuardChecks := by
  unfold Obligations.GuardChecks
  refine ⟨fun c s hfault hclosed _ => ?_, fun c s hfault hopen => ?_, fun g n c p s hkind hcredit hverdict => ?_,
    fun c s hstore => ruleFault_of_store_none hstore s⟩
  · rw [verdictOf, hfault, spanCheck_closed_eq_pass_iff hclosed]
    simp only [checkPage_eq_none_iff, pageLo, pageHi]
  · rw [verdictOf, hfault]
    exact spanCheck_open hopen _ _ _
  · refine ⟨stampArrival s c.port n p, rfl, takeIn_refused g hkind hcredit ?_⟩
    have hsame : verdictOf (ruleFault (stampArrival s c.port n p) c) c = verdictOf (ruleFault s c) c :=
      verdictOf_ruleFault_congr (stampArrival_cfg ..) (stampArrival_guard ..) c
    rw [Bool.eq_false_iff, Ne, guardCheck_snd_iff, hsame]
    exact hverdict

end Sys2Proof.Machine
end

section
/-!
PROOFS. The tags of the fair stage (R226, R228): the start and finish tag a packet is given, and what an enqueue leaves unchanged.
-/

namespace Sys2Proof.Machine

/-- Tags below half the modulus are never further apart than it, so the later of them modulo 2^48 is the larger (R228). -/
theorem tagMax_eq_max {a b : Nat} (ha : a < 2 ^ 47) (hb : b < 2 ^ 47) : tagMax a b = max a b := by
  rcases le_or_gt b a with hle | hlt
  · have hdiff : (a + 2 ^ 48 - b) % 2 ^ 48 = a - b := by omega
    rw [tagMax, hdiff, if_pos (by omega), max_eq_left hle]
  · have hdiff : (a + 2 ^ 48 - b) % 2 ^ 48 = a + 2 ^ 48 - b := Nat.mod_eq_of_lt (by omega)
    rw [tagMax, hdiff, if_neg (by omega), max_eq_right hlt.le]

/-- The start tag of the next packet of a queue (R226). -/
def startTag (x : Sched) (f : FairQ) : Nat :=
  if f.pkts.isEmpty then tagMax x.v f.fLast else f.fLast

/-- The finish tag of a packet that starts at `st` in a queue of the share (R226). -/
def finishTag (share : Nat) (p : Pkt) (st : Nat) : Nat :=
  (st + (cellCount p * 4194304 + share - 1) / share) % 2 ^ 48

theorem startTag_eq {x : Sched} {f : FairQ} (hv : x.v < 2 ^ 47) (hlast : f.fLast < 2 ^ 47) :
    startTag x f = if f.pkts.isEmpty then max x.v f.fLast else f.fLast := by
  rw [startTag, tagMax_eq_max hv hlast]

/-- A queue after an enqueue to it: the packet stands at its end with its tags, and its finish tag is the last one. -/
theorem tget_fairAdd_self (share q : Nat) (p : Pkt) (x : Sched) {f : FairQ} {st fin : Nat}
    (hf : f = tget {} x.queues q) (hst : st = startTag x f) (hfin : fin = finishTag share p st) :
    tget {} (fairAdd share q p x).queues q =
      { f with pkts := f.pkts ++ [{ pkt := p, s := st, f := fin, seq := x.seq }], fLast := fin } := by
  subst hf hst hfin
  exact tget_tput_self ..

theorem tget_fairAdd_ne (share : Nat) {q k : Nat} (p : Pkt) (x : Sched) (hk : k ≠ q) :
    tget {} (fairAdd share q p x).queues k = tget {} x.queues k :=
  tget_tput_ne _ _ _ hk

/-- Settles O41: below 2^47 the later of V and F_last is the larger, and the write of the queue is read back at its own number alone. -/
theorem fairTags : Obligations.FairTags := by
  unfold Obligations.FairTags
  intro share q p x f _ _ hf hv hlast
  have hst : startTag x f = if f.pkts.isEmpty then max x.v f.fLast else f.fLast := startTag_eq hv hlast
  exact ⟨_, _, rfl, rfl, tget_fairAdd_self share q p x hf hst.symm rfl, fun k hk => tget_fairAdd_ne share p x hk⟩

end Sys2Proof.Machine
end

section
/-!
PROOFS. `VERIFY` (R269): when the check value agrees with the seal's, the rows of the verdict, and the registers that take it.
-/

namespace Sys2Proof.Machine

/-- The check value that stands in `SEAL_IN` agrees with `v`: as a whole, or in 24 bits in a short seal (R268). -/
def sealAgrees (short : Bool) (x : Ctx) (v : Nat) : Bool :=
  if short then decide (x.inLo / 2 ^ 8 % 2 ^ 24 = v % 2 ^ 24)
  else decide (x.inLo / 2 ^ 32 % 2 ^ 32 + x.inHi % 2 ^ 32 * 2 ^ 32 = v)

/-! ## The rows of the verdict (R269) -/

theorem verdict_crcBad (mode a x : Nat) : verdict mode false a x = (2, x) := rfl

theorem verdict_ok (mode x : Nat) : verdict mode true x x = (1, if mode = 0 then (x + 1) % 256 else x) := by
  simp [verdict]

/-- X - 1 modulo 256 is never X, so the row of `OK` does not stand before that of `REPEAT`. -/
theorem verdict_repeat (mode x : Nat) : verdict mode true ((x + 255) % 256) x = (3, x) := by
  have hne : (x + 255) % 256 ≠ x := by omega
  simp [verdict, hne]

theorem verdict_gap (mode : Nat) {a x : Nat} (hne : a ≠ x) (hprev : a ≠ (x + 255) % 256) :
    verdict mode true a x = (4, if mode = 0 then (a + 1) % 256 else x) := by
  simp [verdict, hne, hprev]

/-! ## The registers after `VERIFY` -/

theorem ctxVerify_result (alg mode : Nat) (short : Bool) (x : Ctx) :
    (ctxVerify alg mode short x).result =
      (verdict mode (sealAgrees short x (checkAfter alg x.running (x.inLo % 256))) (x.inLo % 256) x.alive).1 := by
  simp only [ctxVerify, sealAgrees, beq_eq_decide]

theorem ctxVerify_alive (alg mode : Nat) (short : Bool) (x : Ctx) :
    (ctxVerify alg mode short x).alive =
      (verdict mode (sealAgrees short x (checkAfter alg x.running (x.inLo % 256))) (x.inLo % 256) x.alive).2 := by
  simp only [ctxVerify, sealAgrees, beq_eq_decide]

/-- `RESULT` and X take the two parts of the row that the seal's alive byte selects. -/
theorem ctxVerify_of_verdict {alg mode v res alive : Nat} {short same : Bool} {x : Ctx}
    (hv : v = checkAfter alg x.running (x.inLo % 256)) (hsame : same = sealAgrees short x v)
    (hrow : verdict mode same (x.inLo % 256) x.alive = (res, alive)) :
    (ctxVerify alg mode short x).result = res ∧ (ctxVerify alg mode short x).alive = alive := by
  subst hv hsame
  rw [ctxVerify_result, ctxVerify_alive, hrow]
  exact ⟨rfl, rfl⟩

/-- Settles O48: each clause is a row of the verdict, carried to the registers. -/
theorem verifyResults : Obligations.VerifyResults := by
  unfold Obligations.VerifyResults
  refine ⟨?crcBad, ?ok, ?rep, ?gap⟩
  case crcBad =>
    rintro alg mode v short same x - hv hsame rfl
    exact ctxVerify_of_verdict hv hsame (verdict_crcBad ..)
  case ok =>
    rintro alg mode v short same x - hv hsame rfl halive
    refine ctxVerify_of_verdict hv hsame ?_
    rw [halive, verdict_ok]
  case rep =>
    rintro alg mode v short same x - hv hsame rfl hprev
    refine ctxVerify_of_verdict hv hsame ?_
    rw [hprev, verdict_repeat]
  case gap =>
    rintro alg mode v short same x - hv hsame rfl hne hprev
    exact ctxVerify_of_verdict hv hsame (verdict_gap mode hne hprev)

end Sys2Proof.Machine
end

section
/-!
PROOFS. What every step keeps: the command at the front of the queue runs, each command answers a next state, the one-time fuses stay
burnt (R292, R302) and no command touches the queue.
-/

namespace Sys2Proof.Machine

/-- Settles O1: a step is defined by the front of the queue. -/
theorem stepRunsTheFrontCommand : Obligations.StepRunsTheFrontCommand := by
  unfold Obligations.StepRunsTheFrontCommand
  intro c rest s
  rfl

/-! ## Every command answers -/

/-- Settles O6: most meanings are one `next` or one `due`; the others, chapter by chapter, end in one on every branch. -/
theorem everyCommandIsAnswered : Obligations.EveryCommandIsAnswered := by
  unfold Obligations.EveryCommandIsAnswered
  intro c s
  cases c
  case admissionTimeout | columnCrossbarChange | columnDrainEnd | probingEnd | slotBoundary | ackReceived | cellArrival | grantSend |
    kill | notice | passageAdmitEnd | passageDrainEnd | passageTestEnd =>
    dsimp -zeta only [exec, execAdmissionTimeout, execColumnCrossbarChange, execColumnDrainEnd, execProbingEnd, execSlotBoundary,
      execAckReceived, execCellArrival, execGrantSend, execKill, execNotice, execPassageAdmitEnd, execPassageDrainEnd,
      execPassageTestEnd]
    repeat' first | split | extract_lets
    all_goals exact ⟨_, rfl⟩
  case armMessage | beaconMissed | beaconReceived | calibrationEnd | ppsEdge | ppsMissing | refClockLost | refGoodTimer |
    sysRefclkRestored | commitLateCancel | commitShadowsPosted | launch | launchDecide =>
    dsimp -zeta only [exec, execArmMessage, execBeaconMissed, execBeaconReceived, execCalibrationEnd, execPpsEdge, execPpsMissing,
      execRefClockLost, execRefGoodTimer, execSysRefclkRestored, execCommitLateCancel, execCommitShadowsPosted, execLaunch,
      execLaunchDecide]
    repeat' first | split | extract_lets
    all_goals exact ⟨_, rfl⟩
  case biconflict | birsp | discardReport | retry | snoopPathWrite | conversionEnd | conversionStep | fullArraySelfTestEnd |
    migrationEnd | migrationSetCopy | sliceTestEnd =>
    dsimp -zeta only [exec, execBiconflict, execBirsp, execDiscardReport, execRetry, execSnoopPathWrite, execConversionEnd,
      execConversionStep, execFullArraySelfTestEnd, execMigrationEnd, execMigrationSetCopy, execSliceTestEnd]
    repeat' first | split | extract_lets
    all_goals exact ⟨_, rfl⟩
  case devTimeout | deviceAccessComplete | deviceReply | twinWriteComplete | windowRemoveSweepEnd | windowSweepStep | drainEnd |
    drainTimeout =>
    dsimp -zeta only [exec, execDevTimeout, execDeviceAccessComplete, execDeviceReply, execTwinWriteComplete, execWindowRemoveSweepEnd,
      execWindowSweepStep, execDrainEnd, execDrainTimeout, completeAccess]
    repeat' first | split | extract_lets
    all_goals exact ⟨_, rfl⟩
  case bothRestarted | coldResetRelease | heartbeatIntervalEnd | mgmtResetAssert | startingEnd | fuseBit | romInitEnd | verifyEnd |
    sessionIdleTimeout | unsupportedFmApiCommand =>
    dsimp -zeta only [exec, execBothRestarted, execColdResetRelease, execHeartbeatIntervalEnd, execMgmtResetAssert, execStartingEnd,
      execFuseBit, execRomInitEnd, execVerifyEnd, execSessionIdleTimeout, execUnsupportedFmApiCommand]
    repeat' first | split | extract_lets
    all_goals exact ⟨_, rfl⟩
  case busSample | busWarningClear | cooldownEnd | faultTimerClear | guardRestoreEnd | scanLineArrival =>
    dsimp -zeta only [exec, execBusSample, execBusWarningClear, execCooldownEnd, execFaultTimerClear, execGuardRestoreEnd, execScanLineArrival]
    repeat' first | split | extract_lets
    all_goals exact ⟨_, rfl⟩
  case echoDeliveryPick | intDelayExpiry | registerWrite | egressEnqueue | egressPick | ingressDecode =>
    dsimp -zeta only [exec, execEchoDeliveryPick, execIntDelayExpiry, execRegisterWrite, execEgressEnqueue, execEgressPick, execIngressDecode]
    repeat' first | split | extract_lets
    all_goals exact ⟨_, rfl⟩
  case laneRefclkLost | linkStateChange | linkUp | packetAtDownPort | idleTimerExpiry | marginMeasurementEnd | tapPinned =>
    dsimp -zeta only [exec, execLaneRefclkLost, execLinkStateChange, execLinkUp, execPacketAtDownPort, execIdleTimerExpiry,
      execMarginMeasurementEnd, execTapPinned]
    repeat' first | split | extract_lets
    all_goals exact ⟨_, rfl⟩
  case eventRecordArrival | loopbackEnd | counterSweep | counterWrap | lanternFrame | sampleEnd =>
    dsimp -zeta only [exec, execEventRecordArrival, execLoopbackEnd, execCounterSweep, execCounterWrap, execLanternFrame, execSampleEnd]
    repeat' first | split | extract_lets
    all_goals exact ⟨_, rfl⟩
  case galleryLostHoleClose | reseqHoleTimeout | galleryLostDeclare =>
    dsimp -zeta only [exec, execGalleryLostHoleClose, execReseqHoleTimeout, execGalleryLostDeclare]
    repeat' first | split | extract_lets
    all_goals exact ⟨_, rfl⟩
  all_goals exact ⟨_, rfl⟩

/-! ## The fuses and the queue -/

/-- No command but `FUSE_BIT` changes a fuse, and none touches the queue. -/
theorem held_exec {c : Instr} (hc : ∀ readsBack, c ≠ .fuseBit readsBack) (s : State) : held (outState (exec c s) s) = held s := by
  cases c with
  | fuseBit readsBack => exact absurd rfl (hc readsBack)
  | coldResetAssert _ => exact held_execColdResetAssert _ s
  | coldResetRelease _ => exact held_execColdResetRelease _ s
  | mgmtResetAssert => exact held_execMgmtResetAssert s
  | mgmtResetRelease => exact held_execMgmtResetRelease s
  | thermalTrip _ _ => exact held_execThermalTrip _ _ s
  | monitorSample _ _ => exact held_execMonitorSample _ _ s
  | refClockLost _ => exact held_execRefClockLost _ s
  | refGoodTimer _ => exact held_execRefGoodTimer _ s
  | masterSplit _ => exact held_execMasterSplit _ s
  | beaconSend => exact held_execBeaconSend s
  | beaconReceived _ _ _ _ _ => exact held_execBeaconReceived _ _ _ _ _ s
  | beaconMissed _ _ => exact held_execBeaconMissed _ _ s
  | recalibrationStart _ => exact held_execRecalibrationStart _ s
  | calibrationEnd _ _ => exact held_execCalibrationEnd _ _ s
  | armMessage _ _ => exact held_execArmMessage _ _ s
  | launchDecide _ => exact held_execLaunchDecide _ s
  | launch _ => exact held_execLaunch _ s
  | ppsEdge _ => exact held_execPpsEdge _ s
  | ppsMissing => exact held_execPpsMissing s
  | ppsOutPulse => exact held_execPpsOutPulse s
  | slotBoundary _ => exact held_execSlotBoundary _ s
  | rotationBoundary _ => exact held_execRotationBoundary _ s
  | columnCrossbarChange _ _ => exact held_execColumnCrossbarChange _ _ s
  | columnDrainEnd _ _ => exact held_execColumnDrainEnd _ _ s
  | probingEnd _ => exact held_execProbingEnd _ s
  | admissionTimeout _ => exact held_execAdmissionTimeout _ s
  | cellArrival _ _ _ => exact held_execCellArrival _ _ _ s
  | ackTimer _ _ _ => exact held_execAckTimer _ _ _ s
  | ackReceived _ _ _ _ _ => exact held_execAckReceived _ _ _ _ _ s
  | ackTimeout _ _ => exact held_execAckTimeout _ _ s
  | receiveBufferRelease _ _ => exact held_execReceiveBufferRelease _ _ s
  | advert _ _ _ _ _ => exact held_execAdvert _ _ _ _ _ s
  | flow _ _ _ _ => exact held_execFlow _ _ _ _ s
  | grantSend _ _ _ => exact held_execGrantSend _ _ _ s
  | grant _ _ _ _ _ _ => exact held_execGrant _ _ _ _ _ _ s
  | grantExpiry _ _ _ _ => exact held_execGrantExpiry _ _ _ _ s
  | notice _ _ _ => exact held_execNotice _ _ _ s
  | passageError _ _ _ _ => exact held_execPassageError _ _ _ _ s
  | forwardedClockLost _ _ _ => exact held_execForwardedClockLost _ _ _ s
  | kill _ _ => exact held_execKill _ _ s
  | passageDrainEnd _ => exact held_execPassageDrainEnd _ s
  | passageTestEnd _ _ _ _ => exact held_execPassageTestEnd _ _ _ _ s
  | passageAdmitEnd _ _ _ => exact held_execPassageAdmitEnd _ _ _ s
  | reseqHoleTimeout _ _ _ _ => exact held_execReseqHoleTimeout _ _ _ _ s
  | rdShared _ _ _ => exact held_execRdShared _ _ _ s
  | rdAny _ _ _ => exact held_execRdAny _ _ _ s
  | rdOwn _ _ _ => exact held_execRdOwn _ _ _ s
  | invOwn _ _ _ => exact held_execInvOwn _ _ _ s
  | rdCur _ _ _ => exact held_execRdCur _ _ _ s
  | writeReq _ _ _ => exact held_execWriteReq _ _ _ s
  | evict _ _ _ => exact held_execEvict _ _ _ s
  | retry _ _ _ => exact held_execRetry _ _ _ s
  | birsp _ _ _ _ _ => exact held_execBirsp _ _ _ _ _ s
  | biconflict _ _ _ _ => exact held_execBiconflict _ _ _ _ s
  | snoopPathWrite _ _ => exact held_execSnoopPathWrite _ _ s
  | deviceAccessComplete _ _ _ _ => exact held_execDeviceAccessComplete _ _ _ _ s
  | snoopTimerCheck _ _ => exact held_execSnoopTimerCheck _ _ s
  | discardReport _ _ _ _ => exact held_execDiscardReport _ _ _ _ s
  | fenceSweepStep _ _ _ _ => exact held_execFenceSweepStep _ _ _ _ s
  | fenceSweepEnd _ => exact held_execFenceSweepEnd _ s
  | pointerStorePass _ _ => exact held_execPointerStorePass _ _ s
  | fullArraySelfTestEnd _ _ _ => exact held_execFullArraySelfTestEnd _ _ _ s
  | conversionStep _ _ => exact held_execConversionStep _ _ s
  | conversionEnd _ _ => exact held_execConversionEnd _ _ s
  | migrationSetCopy _ => exact held_execMigrationSetCopy _ s
  | migrationEnd _ => exact held_execMigrationEnd _ s
  | eccIntervalEnd _ _ => exact held_execEccIntervalEnd _ _ s
  | sliceTestEnd _ _ _ _ _ => exact held_execSliceTestEnd _ _ _ _ _ s
  | linkUp _ _ => exact held_execLinkUp _ _ s
  | linkDown _ _ => exact held_execLinkDown _ _ s
  | packetAtDownPort _ => exact held_execPacketAtDownPort _ s
  | laneRefclkLost _ => exact held_execLaneRefclkLost _ s
  | laneRefclkGood _ => exact held_execLaneRefclkGood _ s
  | adaptationUpdate _ _ _ => exact held_execAdaptationUpdate _ _ _ s
  | tapPinned _ _ => exact held_execTapPinned _ _ s
  | idleTimerExpiry _ _ => exact held_execIdleTimerExpiry _ _ s
  | lowPowerExitComplete _ _ _ => exact held_execLowPowerExitComplete _ _ _ s
  | partnerMarginRequest _ => exact held_execPartnerMarginRequest _ s
  | marginMeasurementEnd _ _ _ => exact held_execMarginMeasurementEnd _ _ _ s
  | devTimeout _ _ => exact held_execDevTimeout _ _ s
  | ingressDecode _ _ => exact held_execIngressDecode _ _ s
  | guardRestoreEnd _ _ => exact held_execGuardRestoreEnd _ _ s
  | egressEnqueue _ => exact held_execEgressEnqueue _ s
  | egressPick _ _ => exact held_execEgressPick _ _ s
  | gateEntryChange _ => exact held_execGateEntryChange _ s
  | doorbell _ _ _ _ => exact held_execDoorbell _ _ _ _ s
  | echoDeliveryPick _ _ _ => exact held_execEchoDeliveryPick _ _ _ s
  | intDelayExpiry _ _ => exact held_execIntDelayExpiry _ _ s
  | ringWriteAck _ => exact held_execRingWriteAck _ s
  | ringRpWrite _ _ _ => exact held_execRingRpWrite _ _ _ s
  | ringEnWrite _ _ _ => exact held_execRingEnWrite _ _ _ s
  | registerWrite _ _ _ _ _ => exact held_execRegisterWrite _ _ _ _ _ s
  | feed _ _ _ _ => exact held_execFeed _ _ _ _ s
  | startOp _ _ => exact held_execStartOp _ _ s
  | sealOp _ _ _ => exact held_execSealOp _ _ _ s
  | verifyOp _ _ _ => exact held_execVerifyOp _ _ _ s
  | scanOp _ _ => exact held_execScanOp _ _ s
  | scanLineArrival _ _ => exact held_execScanLineArrival _ _ s
  | drainEnd _ _ => exact held_execDrainEnd _ _ s
  | drainTimeout _ _ => exact held_execDrainTimeout _ _ s
  | recallSweepStep _ _ _ _ => exact held_execRecallSweepStep _ _ _ _ s
  | recallSweepEnd _ => exact held_execRecallSweepEnd _ s
  | generationHoldExpiry _ _ => exact held_execGenerationHoldExpiry _ _ s
  | sanitizeEnd _ _ => exact held_execSanitizeEnd _ _ s
  | twinWriteComplete _ _ _ _ => exact held_execTwinWriteComplete _ _ _ _ s
  | resyncBlock _ _ => exact held_execResyncBlock _ _ s
  | resyncEnd _ _ => exact held_execResyncEnd _ _ s
  | windowRemoveSweepEnd _ => exact held_execWindowRemoveSweepEnd _ s
  | slotLoopSample _ _ _ _ => exact held_execSlotLoopSample _ _ _ _ s
  | faultTimerExpiry _ => exact held_execFaultTimerExpiry _ s
  | faultTimerClear _ => exact held_execFaultTimerClear _ s
  | fastTrip _ _ => exact held_execFastTrip _ _ s
  | powerGood _ => exact held_execPowerGood _ s
  | warnLeadEnd _ => exact held_execWarnLeadEnd _ s
  | cooldownEnd _ => exact held_execCooldownEnd _ s
  | presenceDebounced _ => exact held_execPresenceDebounced _ s
  | slotRemoved _ => exact held_execSlotRemoved _ s
  | fetShort _ => exact held_execFetShort _ s
  | busSample _ _ => exact held_execBusSample _ _ s
  | busWarningClear _ => exact held_execBusWarningClear _ s
  | romInitEnd _ _ _ => exact held_execRomInitEnd _ _ _ s
  | receiveTimeout => exact held_execReceiveTimeout s
  | verifyEnd _ => exact held_execVerifyEnd _ s
  | startingEnd => exact held_execStartingEnd s
  | bridgeReadTimeout id => exact held_execBridgeReadTimeout id s
  | heartbeat _ => exact held_execHeartbeat _ s
  | heartbeatIntervalEnd => exact held_execHeartbeatIntervalEnd s
  | clusterSelfReport _ _ => exact held_execClusterSelfReport _ _ s
  | standbyReady _ => exact held_execStandbyReady _ s
  | bothRestarted _ => exact held_execBothRestarted _ s
  | galleryLostDeclare _ => exact held_execGalleryLostDeclare _ s
  | galleryLostHoleClose _ _ _ _ => exact held_execGalleryLostHoleClose _ _ _ _ s
  | eventRecordArrival _ => exact held_execEventRecordArrival _ s
  | eventNotice => exact held_execEventNotice s
  | sessionIdleTimeout _ => exact held_execSessionIdleTimeout _ s
  | commitShadowsPosted => exact held_execCommitShadowsPosted s
  | commitLateCancel => exact held_execCommitLateCancel s
  | lanternFrame => exact held_execLanternFrame s
  | traceRecordAgeDrop => exact held_execTraceRecordAgeDrop s
  | counterSweep => exact held_execCounterSweep s
  | sweepComplete => exact held_execSweepComplete s
  | counterWrap _ _ _ => exact held_execCounterWrap _ _ _ s
  | sampleEnd _ _ _ => exact held_execSampleEnd _ _ _ s
  | loopbackEnd _ _ _ _ => exact held_execLoopbackEnd _ _ _ _ s
  | sessionOpen _ _ => exact held_execSessionOpen _ _ s
  | sessionClose _ _ => exact held_execSessionClose _ _ s
  | mgmtReset _ _ => exact held_execMgmtReset _ _ s
  | getIdentity _ _ => exact held_execGetIdentity _ _ s
  | getEpoch _ _ => exact held_execGetEpoch _ _ s
  | stageBegin _ _ => exact held_execStageBegin _ _ s
  | stageAbort _ _ => exact held_execStageAbort _ _ s
  | commit _ _ => exact held_execCommit _ _ s
  | portConfig _ _ => exact held_execPortConfig _ _ s
  | portState _ _ => exact held_execPortState _ _ s
  | portEnable _ _ => exact held_execPortEnable _ _ s
  | laneEqTableLoad _ _ => exact held_execLaneEqTableLoad _ _ s
  | laneMargin _ _ => exact held_execLaneMargin _ _ s
  | hierCreate _ _ => exact held_execHierCreate _ _ s
  | hierDestroy _ _ => exact held_execHierDestroy _ _ s
  | grottoCreate _ _ => exact held_execGrottoCreate _ _ s
  | grottoBind _ _ => exact held_execGrottoBind _ _ s
  | grottoUnbind _ _ => exact held_execGrottoUnbind _ _ s
  | grottoRecall _ _ => exact held_execGrottoRecall _ _ s
  | grottoState _ _ => exact held_execGrottoState _ _ s
  | windowDefine _ _ => exact held_execWindowDefine _ _ s
  | windowRemove _ _ => exact held_execWindowRemove _ _ s
  | windowSanitize _ _ => exact held_execWindowSanitize _ _ s
  | windowResync _ _ => exact held_execWindowResync _ _ s
  | guardRuleSet _ _ => exact held_execGuardRuleSet _ _ s
  | guardRuleClear _ _ => exact held_execGuardRuleClear _ _ s
  | guardViolationRead _ _ => exact held_execGuardViolationRead _ _ s
  | guardViolationClear _ _ => exact held_execGuardViolationClear _ _ s
  | schedQueueSet _ _ => exact held_execSchedQueueSet _ _ s
  | gateListSet _ _ => exact held_execGateListSet _ _ s
  | policerSet _ _ => exact held_execPolicerSet _ _ s
  | wredProfileSet _ _ => exact held_execWredProfileSet _ _ s
  | echoEndpointSet _ _ => exact held_execEchoEndpointSet _ _ s
  | checkContextAssign _ _ => exact held_execCheckContextAssign _ _ s
  | dirMode _ _ => exact held_execDirMode _ _ s
  | dirSliceTest _ _ => exact held_execDirSliceTest _ _ s
  | dirStats _ _ => exact held_execDirStats _ _ s
  | eventRead _ _ => exact held_execEventRead _ _ s
  | eventMask _ _ => exact held_execEventMask _ _ s
  | columnState _ _ => exact held_execColumnState _ _ s
  | passageTest _ _ => exact held_execPassageTest _ _ s
  | portLoopback _ _ => exact held_execPortLoopback _ _ s
  | slotConfig _ _ => exact held_execSlotConfig _ _ s
  | slotPower _ _ => exact held_execSlotPower _ _ s
  | slotState _ _ => exact held_execSlotState _ _ s
  | traceConfig _ _ => exact held_execTraceConfig _ _ s
  | counterConfig _ _ => exact held_execCounterConfig _ _ s
  | counterSnapshot _ _ => exact held_execCounterSnapshot _ _ s
  | sampleConfig _ _ => exact held_execSampleConfig _ _ s
  | timeConfig _ _ => exact held_execTimeConfig _ _ s
  | timeRead _ _ => exact held_execTimeRead _ _ s
  | fwInfo _ _ => exact held_execFwInfo _ _ s
  | loadBegin _ _ => exact held_execLoadBegin _ _ s
  | loadData _ _ => exact held_execLoadData _ _ s
  | loadEnd _ _ => exact held_execLoadEnd _ _ s
  | identify _ => exact held_execIdentify _ s
  | backgroundOperationStatus _ => exact held_execBackgroundOperationStatus _ s
  | getResponseMessageLimit _ => exact held_execGetResponseMessageLimit _ s
  | setResponseMessageLimit _ _ => exact held_execSetResponseMessageLimit _ _ s
  | identifySwitchDevice _ => exact held_execIdentifySwitchDevice _ s
  | getPhysicalPortState _ _ => exact held_execGetPhysicalPortState _ _ s
  | getVirtualCxlSwitchInfo _ _ => exact held_execGetVirtualCxlSwitchInfo _ _ s
  | physicalPortControl _ => exact held_execPhysicalPortControl _ s
  | sendPpbCxlIoConfigRequest _ => exact held_execSendPpbCxlIoConfigRequest _ s
  | bindVppb _ => exact held_execBindVppb _ s
  | unbindVppb _ => exact held_execUnbindVppb _ s
  | generateAerEvent _ => exact held_execGenerateAerEvent _ s
  | setEndpointId _ _ => exact held_execSetEndpointId _ _ s
  | getEndpointId _ => exact held_execGetEndpointId _ s
  | getMctpVersionSupport _ _ => exact held_execGetMctpVersionSupport _ _ s
  | getMessageTypeSupport _ => exact held_execGetMessageTypeSupport _ s
  | getVendorDefinedMessageSupport _ _ => exact held_execGetVendorDefinedMessageSupport _ _ s
  | identifyMemoryDevice _ => exact held_execIdentifyMemoryDevice _ s
  | getPartitionInfo _ => exact held_execGetPartitionInfo _ s
  | getEventRecords _ _ => exact held_execGetEventRecords _ _ s
  | clearEventRecords _ _ _ => exact held_execClearEventRecords _ _ _ s
  | getEventInterruptPolicy _ => exact held_execGetEventInterruptPolicy _ s
  | setEventInterruptPolicy _ _ => exact held_execSetEventInterruptPolicy _ _ s
  | sysRefclkRestored _ => exact held_execSysRefclkRestored _ s
  | laneRefclkRestored _ => exact held_execLaneRefclkRestored _ s
  | slotPrsntNChange _ _ => exact held_execSlotPrsntNChange _ _ s
  | deviceReply _ _ _ _ => exact held_execDeviceReply _ _ _ _ s
  | undefinedOpcodeRequest _ _ _ => exact held_execUndefinedOpcodeRequest _ _ _ s
  | unsupportedFmApiCommand _ _ => exact held_execUnsupportedFmApiCommand _ _ s
  | unsupportedMailboxCommand _ _ => exact held_execUnsupportedMailboxCommand _ _ s
  | setdasa _ _ => exact held_execSetdasa _ _ s
  | vidCodeValid => exact held_execVidCodeValid s
  | keptImageUncorrectable => exact held_execKeptImageUncorrectable s
  | linkStateChange _ _ _ _ => exact held_execLinkStateChange _ _ _ _ s
  | windowSweepStep _ _ _ _ => exact held_execWindowSweepStep _ _ _ _ s

/-- What a command leaves of the fuses and the queue: all burnt bits, and the queue as it was. -/
theorem exec_keeps_burnt_and_queue {K R : Nat} {s : State} (c : Instr) (h : burnt K R s) :
    burnt K R (outState (exec c s) s) ∧ (outState (exec c s) s).pending = s.pending := by
  obtain ⟨hk, hr⟩ := h
  by_cases hc : ∃ readsBack, c = .fuseBit readsBack
  · obtain ⟨readsBack, rfl⟩ := hc
    obtain ⟨hk', hr', hq⟩ := execFuseBit_burns K R readsBack s hk hr
    exact ⟨⟨hk', hr'⟩, hq⟩
  · obtain ⟨hkey, hroll, hq⟩ := held_parts (held_exec (not_exists.mp hc) s)
    exact ⟨⟨hkey ▸ hk, hroll ▸ hr⟩, hq⟩

theorem burnt_zero (s : State) : burnt 0 0 s :=
  ⟨Nat.zero_and _, Nat.zero_and _⟩

/-- Settles O5: the queue of `exec_keeps_burnt_and_queue`, with no bits to keep. -/
theorem queueIsUntouchedByCommands : Obligations.QueueIsUntouchedByCommands := by
  unfold Obligations.QueueIsUntouchedByCommands
  intro c s t h
  have hkeep := (exec_keeps_burnt_and_queue c (burnt_zero s)).2
  rwa [h] at hkeep

/-- Settles O3: a drip leaves the fuses alone, and a command that runs leaves every burnt bit burnt. -/
theorem fusesStayBurnt : Obligations.FusesStayBurnt := by
  unfold Obligations.FusesStayBurnt
  intro K R s t hs hstep
  rw [step] at hstep
  split at hstep
  case h_1 =>
    obtain ⟨hkey, hroll, -⟩ := held_parts (held_tick s)
    cases hstep
    exact ⟨hkey ▸ hs.1, hroll ▸ hs.2⟩
  case h_2 c rest _ =>
    have hkeep := (exec_keeps_burnt_and_queue (s := { s with pending := rest }) c hs).1
    rwa [hstep] at hkeep

/-- Settles O4: the fuses at reset are the manufactured constants. -/
theorem fusesAtReset : Obligations.FusesAtReset := by
  unfold Obligations.FusesAtReset
  intro K R
  exact Iff.rfl

end Sys2Proof.Machine
end

section
/-!
PROOFS. The rotation (R37): who sends to whom in a slot, and the room a slot's fill leaves (R41).
-/

namespace Sys2Proof.Machine

/-! ## The rotation -/

/-- Every offset is one of 1 to 7, so no slot carries a gallery toward itself. -/
theorem slotOffset_bounds (n c : Nat) : 1 ≤ slotOffset n c ∧ slotOffset n c ≤ 7 := by
  have hmod : (n % 7 + 2 * c) % 7 < 7 := Nat.mod_lt _ (by decide)
  rw [slotOffset]
  omega

/-- 2c runs through four residues modulo 7, so the columns of a slot have different offsets. -/
theorem slotOffset_injective {n c d : Nat} (hc : c < 4) (hd : d < 4) (h : slotOffset n c = slotOffset n d) : c = d := by
  rw [slotOffset, slotOffset] at h
  omega

theorem slotDest_ne (n c : Nat) {i : Nat} (_ : i < 8) : slotDest n c i ≠ i := by
  obtain ⟨hlo, hhi⟩ := slotOffset_bounds n c
  rw [slotDest]
  omega

theorem slotSource_slotDest (n c : Nat) {i : Nat} (hi : i < 8) : slotSource n c (slotDest n c i) = i := by
  obtain ⟨hlo, hhi⟩ := slotOffset_bounds n c
  rw [slotSource, slotDest]
  omega

theorem slotDest_injective_column {n c d i : Nat} (hc : c < 4) (hd : d < 4) (h : slotDest n c i = slotDest n d i) : c = d := by
  obtain ⟨hcLo, hcHi⟩ := slotOffset_bounds n c
  obtain ⟨hdLo, hdHi⟩ := slotOffset_bounds n d
  rw [slotDest, slotDest] at h
  exact slotOffset_injective (n := n) hc hd (by omega)

theorem slotNo_add_rotations (drip k : Nat) : slotNo (drip + 56 * k) % 7 = slotNo drip % 7 := by
  rw [slotNo, slotNo]
  omega

/-- Settles O16: the offsets lie between 1 and 7 and differ between columns, and 56 drips are seven slots. -/
theorem rotationSchedule : Obligations.RotationSchedule := by
  unfold Obligations.RotationSchedule
  refine ⟨fun n c i _ hi => ⟨rfl, slotDest_ne n c hi, Nat.mod_lt _ (by decide), slotSource_slotDest n c hi⟩,
    fun n c d i hc hd hne _ h => hne (slotDest_injective_column hc hd h), slotNo_add_rotations⟩

/-! ## The fill of a slot -/

/-- The places of a slot: those taken and those left. -/
def Fill.places (f : Fill) : Nat :=
  f.placed.length + f.room

theorem places_fillAdd (f : Fill) (x : Gal) (cls : Nat) {cs : List (Cell × Bool)} (h : cs.length ≤ f.room) :
    (fillAdd f x cls cs).places = f.places := by
  simp only [fillAdd, Fill.places, List.length_append]
  omega

theorem fillMax_le_room (f : Fill) (cls lim : Nat) : fillMax f cls lim ≤ f.room :=
  (Nat.min_le_right _ _).trans (Nat.min_le_left _ _)

/-- However the cells of a class are chosen, at most `fillMax` of a queue are taken, which is no more than the room. -/
theorem length_take_fillMax_le (f : Fill) (cls lim : Nat) (q : List Cell) : (q.take (fillMax f cls lim)).length ≤ f.room :=
  (List.length_take_le _ _).trans (fillMax_le_room f cls lim)

theorem places_takeRelay (m cls lim : Nat) (f : Fill) : (takeRelay m cls lim f).places = f.places := by
  rw [takeRelay, places_fillAdd]
  rw [List.length_map]
  exact length_take_fillMax_le ..

theorem places_takeDirect (m cls lim : Nat) (un : List Cell) (f : Fill) : (takeDirect m cls lim un f).places = f.places := by
  rw [takeDirect, places_fillAdd]
  rw [List.length_map]
  exact (List.takeWhile_sublist _).length_le.trans (length_take_fillMax_le ..)

theorem places_takeHeavy (m j cls : Nat) (f : Fill) : (takeHeavy m j cls f).places = f.places := by
  rw [takeHeavy, places_fillAdd]
  rw [List.length_map]
  exact length_take_fillMax_le ..

theorem places_foldl {α : Type} {next : Fill → α → Fill} (h : ∀ f a, (next f a).places = f.places) (l : List α) (f : Fill) :
    (l.foldl next f).places = f.places := by
  induction l generalizing f with
  | nil => rfl
  | cons a l ih => rw [List.foldl_cons, ih, h]

/-- Settles O17: each of the four passes of a fill is a fold of steps that keep the places. -/
theorem slotFillsStayWithinRoom : Obligations.SlotFillsStayWithinRoom := by
  unfold Obligations.SlotFillsStayWithinRoom
  intro g m un f
  change (fillSlot g m un f).places = f.places
  rw [fillSlot, places_foldl, places_foldl, places_foldl, places_foldl]
  case h =>
    intro f cls
    rw [places_takeDirect, places_takeRelay]
  case h =>
    intro f cls
    exact places_takeRelay ..
  case h =>
    intro f cls
    exact places_takeDirect ..
  case h =>
    intro f cls
    exact places_foldl (fun f j => places_takeHeavy m j cls f) _ f

end Sys2Proof.Machine
end

section
/-!
PROOFS. The steps of a vendor request (R314): which step answers it, and the outcome of one that reaches its own work in a session.
-/

namespace Sys2Proof.Machine

/-! ## Steps 1 to 3 -/

section
variable {op : Nat} {t : Transport} {r : Req} {s : State} (allow : Option Nat → Bool) (body : State → Option Nat → Res)

theorem arrives_iff :
    arrives op t r s = true ↔ answering s = true ∧ lengthOk r = true ∧ crcOk op r = true ∧ ungranted s t = false := by
  simp [arrives, and_assoc]

/-- A hierarchy mailbox exists only in `RUNNING` (R308). -/
theorem reachable_of_not_rom_or_not_mailbox (h : inRom s = false ∨ mailboxAgent t = none) :
    (inRom s && (mailboxAgent t).isSome) = false := by
  rcases h with h | h <;> simp [h]

theorem vendor_not_answering (h : answering s = false) : vendor op t r allow body s = s := by
  simp [vendor, h]

theorem vendor_wrong_length (hans : answering s = true) (hreach : inRom s = false ∨ mailboxAgent t = none)
    (hlen : lengthOk r = false) :
    vendor op t r allow body s = { s with proto := { s.proto with discarded := sat 32 (s.proto.discarded + 1) } } := by
  simp [vendor, hans, reachable_of_not_rom_or_not_mailbox hreach, hlen]

theorem vendor_wrong_crc (hans : answering s = true) (hreach : inRom s = false ∨ mailboxAgent t = none)
    (hlen : lengthOk r = true) (hcrc : crcOk op r = false) :
    vendor op t r allow body s = answer s op t r stBadCrc [] := by
  simp [vendor, hans, reachable_of_not_rom_or_not_mailbox hreach, hlen, hcrc]

theorem vendor_ungranted (hans : answering s = true) (hreach : inRom s = false ∨ mailboxAgent t = none)
    (hlen : lengthOk r = true) (hcrc : crcOk op r = true) (hgrant : ungranted s t = true) :
    vendor op t r allow body s = answer s op t r stDenied [] := by
  simp [vendor, hans, reachable_of_not_rom_or_not_mailbox hreach, hlen, hcrc, hgrant]

theorem vendor_in_rom (h : arrives op t r s = true) (hop : opcodes.contains op = true) (hrom : inRom s = true)
    (hbox : mailboxAgent t = none) :
    vendor op t r allow body s =
      if isRomOp op then runRom op t r body (noteLoader op s) else answer s op t r stNotInState [] := by
  obtain ⟨hans, hlen, hcrc, hgrant⟩ := arrives_iff.mp h
  simp only [vendor, hans, hbox, hlen, hcrc, hgrant, hop, hrom, Bool.not_true, Option.isSome_none, Bool.and_false,
    Bool.or_self, Bool.false_eq_true, if_false, if_true]

theorem vendor_while_firmware (h : arrives op t r s = true) (hop : opcodes.contains op = true) (hrom : inRom s = false) :
    vendor op t r allow body s =
      if isLoaderOp op then answer s op t r stNotInState []
      else if r.session == 255 then runFree op t r allow body s
      else runSession op t r allow body s := by
  obtain ⟨hans, hlen, hcrc, hgrant⟩ := arrives_iff.mp h
  simp only [vendor, hans, hlen, hcrc, hgrant, hop, hrom, Bool.not_true, Bool.false_and, Bool.or_self,
    Bool.false_eq_true, if_false]

theorem vendor_free (h : arrives op t r s = true) (hop : opcodes.contains op = true) (hrom : inRom s = false)
    (hload : isLoaderOp op = false) (hsess : r.session = 255) :
    vendor op t r allow body s = runFree op t r allow body s := by
  simp [vendor_while_firmware allow body h hop hrom, hload, hsess]

theorem vendor_session (h : arrives op t r s = true) (hop : opcodes.contains op = true) (hrom : inRom s = false)
    (hload : isLoaderOp op = false) (hsess : r.session ≠ 255) :
    vendor op t r allow body s = runSession op t r allow body s := by
  simp [vendor_while_firmware allow body h hop hrom, hload, hsess]

/-! ## Steps 4 to 6 in a session -/

theorem runFree_not_free (h : isFreeOp op = false) : runFree op t r allow body s = answer s op t r stNoSession [] := by
  simp [runFree, h]

theorem runSession_closed (h : r.session < 8 → s.sess r.session = none) :
    runSession op t r allow body s = answer s op t r stNoSession [] := by
  have hnone : (if r.session < 8 then s.sess r.session else none) = none := by
    split
    · exact h ‹_›
    · rfl
  rw [runSession, hnone]

variable {x : Sess}

theorem runSession_open (hlt : r.session < 8) (hx : s.sess r.session = some x) :
    runSession op t r allow body s =
      if !(x.transport == t) || !(x.eid == r.eid) then answer s op t r stNoSession []
      else if x.busy then answer s op t r stBusy []
      else if r.alive == x.last then answer s op t r stRepeat x.cached
      else if !(r.alive == (x.last + 1) % 256) then
        sendReply s t r.eid (replyBytes op r.session x.last stSequence (replyEpoch s) [])
      else finishSession op t r r.session
        (if !headerOk r then .refuse (served r s) stBadParam
         else if !epochOk (served r s) r then .refuse (served r s) stEpoch
         else if !allow (some x.priv) then .refuse (served r s) stDenied
         else (body (served r s) (some r.session)).journal op (allow (some 1)) r.payload) := by
  rw [runSession, if_pos hlt, hx]
  rfl

@[simp] theorem modSess_proto_epoch (s : State) (n : Nat) (f : Sess → Sess) : (modSess s n f).proto.epoch = s.proto.epoch := by
  unfold modSess
  split <;> rfl

theorem epochOk_served : epochOk (served r s) r = epochOk s r := by
  simp [epochOk, served]

/-- The request comes on the session's transport, from its endpoint, and the session has answered its last command. -/
def inOrder (t : Transport) (r : Req) (x : Sess) : Prop :=
  x.transport = t ∧ x.eid = r.eid ∧ x.busy = false

theorem runSession_in_order (hlt : r.session < 8) (hx : s.sess r.session = some x) (hord : inOrder t r x) :
    runSession op t r allow body s =
      if r.alive == x.last then answer s op t r stRepeat x.cached
      else if !(r.alive == (x.last + 1) % 256) then
        sendReply s t r.eid (replyBytes op r.session x.last stSequence (replyEpoch s) [])
      else finishSession op t r r.session
        (if !headerOk r then .refuse (served r s) stBadParam
         else if !epochOk s r then .refuse (served r s) stEpoch
         else if !allow (some x.priv) then .refuse (served r s) stDenied
         else (body (served r s) (some r.session)).journal op (allow (some 1)) r.payload) := by
  obtain ⟨htrans, heid, hbusy⟩ := hord
  simp [runSession_open allow body hlt hx, htrans, heid, hbusy, epochOk_served]

theorem runSession_next (hlt : r.session < 8) (hx : s.sess r.session = some x) (hord : inOrder t r x)
    (hne : r.alive ≠ x.last) (hnext : r.alive = (x.last + 1) % 256) :
    runSession op t r allow body s = finishSession op t r r.session
      (if !headerOk r then .refuse (served r s) stBadParam
       else if !epochOk s r then .refuse (served r s) stEpoch
       else if !allow (some x.priv) then .refuse (served r s) stDenied
       else (body (served r s) (some r.session)).journal op (allow (some 1)) r.payload) := by
  rw [runSession_in_order allow body hlt hx hord, if_neg (by simpa using hne), if_neg (by simpa using hnext)]

/-! ## A command that reaches its own work in a session -/

theorem inSession_iff :
    inSession op t r s x = true ↔
      (arrives op t r s = true ∧ inRom s = false ∧ opcodes.contains op = true ∧ isLoaderOp op = false) ∧
      (r.session < 8 ∧ s.sess r.session = some x ∧ inOrder t r x) ∧
      (r.alive ≠ x.last ∧ r.alive = (x.last + 1) % 256) ∧ headerOk r = true ∧ epochOk s r = true := by
  simp only [inSession, inOrder, Bool.and_eq_true, Bool.not_eq_true', decide_eq_true_eq, beq_iff_eq, beq_eq_false_iff_ne]
  tauto

theorem vendorCmd_in_session (h : inSession op t r s x = true) :
    vendorCmd op t r allow body s = .next (finishSession op t r r.session
      (if !allow (some x.priv) then .refuse (served r s) stDenied
       else (body (served r s) (some r.session)).journal op (allow (some 1)) r.payload)) := by
  obtain ⟨⟨harr, hrom, hop, hload⟩, ⟨hlt, hx, hord⟩, ⟨hne, hnext⟩, hhead, hepoch⟩ := inSession_iff.mp h
  rw [vendorCmd, vendor_session allow body harr hop hrom hload (by omega), runSession_next allow body hlt hx hord hne hnext]
  simp only [hhead, hepoch, Bool.not_true, Bool.false_eq_true, if_false]

theorem vendorCmd_denied (h : inSession op t r s x = true) (hpriv : allow (some x.priv) = false) :
    vendorCmd op t r allow body s = answered op t r (served r s) stDenied [] := by
  rw [vendorCmd_in_session allow body h, hpriv]
  rfl

theorem vendorCmd_permitted (h : inSession op t r s x = true) (hpriv : allow (some x.priv) = true) :
    vendorCmd op t r allow body s = .next (finishSession op t r r.session
      ((body (served r s) (some r.session)).journal op (allow (some 1)) r.payload)) := by
  rw [vendorCmd_in_session allow body h, hpriv]
  rfl

end

theorem permits_owner_eq_false {p : Nat} (h : p ≠ 0) : permits .owner (some p) = false := by
  simpa [permits] using h

/-! ## The vendor commands of the index (R333) -/

/-- The command runs the steps of R314 under opcode `op`, with a privilege test and work of its own. -/
def RunsVendorSteps (op : Nat) (c : Transport → Req → Instr) : Prop :=
  ∀ t r s, ∃ allow body, exec (c t r) s = .next (vendor op t r allow body s)

/-- The command runs the steps of R314 and is for an `OWNER` alone. -/
def RunsOwnerSteps (op : Nat) (c : Transport → Req → Instr) : Prop :=
  ∀ t r s, ∃ body, exec (c t r) s = vendorCmd op t r (permits .owner) body s

theorem runsVendorSteps_of_mem : ∀ e ∈ vendorCmds, RunsVendorSteps e.1 e.2 := by
  simp only [vendorCmds, List.forall_mem_append, List.forall_mem_cons, List.not_mem_nil, false_implies, implies_true, and_true]
  and_intros
  all_goals exact fun _ _ _ => ⟨_, _, rfl⟩

theorem runsOwnerSteps_of_mem : ∀ e ∈ ownerCmds, RunsOwnerSteps e.1 e.2 := by
  simp only [ownerCmds, List.forall_mem_append, List.forall_mem_cons, List.not_mem_nil, false_implies, implies_true, and_true]
  and_intros
  all_goals exact fun _ _ _ => ⟨_, rfl⟩

theorem opcodes_contains_of_mem_vendorCmds : ∀ e ∈ vendorCmds, opcodes.contains e.1 = true := by
  decide

/-- What the steps answer whatever the command's privilege test and work, the command answers. -/
theorem exec_of_vendor {op : Nat} {c : Transport → Req → Instr} {t : Transport} {r : Req} {s u : State} (hmem : (op, c) ∈ vendorCmds)
    (h : ∀ allow body, vendor op t r allow body s = u) : exec (c t r) s = .next u := by
  obtain ⟨allow, body, hexec⟩ := runsVendorSteps_of_mem _ hmem t r s
  rw [hexec, h]

/-- What `runSession` answers whatever the command's privilege test and work, the command answers. -/
theorem exec_of_runSession {op : Nat} {c : Transport → Req → Instr} {t : Transport} {r : Req} {s u : State} (hmem : (op, c) ∈ vendorCmds)
    (harr : arrives op t r s = true) (hrom : inRom s = false) (hload : isLoaderOp op = false) (hsess : r.session ≠ 255)
    (h : ∀ allow body, runSession op t r allow body s = u) : exec (c t r) s = .next u :=
  exec_of_vendor hmem fun allow body =>
    (vendor_session allow body harr (opcodes_contains_of_mem_vendorCmds _ hmem) hrom hload hsess).trans (h allow body)

/-- Settles O55: each clause is the step of R314 it names. -/
theorem vendorSteps : Obligations.VendorSteps := by
  unfold Obligations.VendorSteps
  refine ⟨?silent, ?length, ?crc, ?grant, ?rom, ?loader, ?free, ?closed, ?elsewhere, ?busy, ?again, ?gap, ?header, ?owner⟩
  case silent =>
    intro op c t r s hmem hans
    exact exec_of_vendor hmem fun allow body => vendor_not_answering allow body hans
  case length =>
    intro op c t r s hmem hans hreach hlen
    exact exec_of_vendor hmem fun allow body => vendor_wrong_length allow body hans hreach hlen
  case crc =>
    intro op c t r s hmem hans hreach hlen hcrc
    exact exec_of_vendor hmem fun allow body => vendor_wrong_crc allow body hans hreach hlen hcrc
  case grant =>
    intro op c t r s hmem hans hrom hlen hcrc hgrant
    exact exec_of_vendor hmem fun allow body => vendor_ungranted allow body hans (.inl hrom) hlen hcrc hgrant
  case rom =>
    intro op c t r s hmem harr hrom hbox hop
    refine exec_of_vendor hmem fun allow body => ?_
    rw [vendor_in_rom allow body harr (opcodes_contains_of_mem_vendorCmds _ hmem) hrom hbox, hop]
    rfl
  case loader =>
    intro op c t r s hmem harr hrom hload
    refine exec_of_vendor hmem fun allow body => ?_
    rw [vendor_while_firmware allow body harr (opcodes_contains_of_mem_vendorCmds _ hmem) hrom, hload]
    rfl
  case free =>
    intro op c t r s hmem harr hrom hload hsess hfree
    refine exec_of_vendor hmem fun allow body => ?_
    rw [vendor_free allow body harr (opcodes_contains_of_mem_vendorCmds _ hmem) hrom hload hsess]
    exact runFree_not_free allow body hfree
  case closed =>
    intro op c t r s hmem harr hrom hload hsess hnone
    exact exec_of_runSession hmem harr hrom hload hsess fun allow body => runSession_closed allow body hnone
  case elsewhere =>
    intro op c t r s x hmem harr hrom hload hlt hx hother
    refine exec_of_runSession hmem harr hrom hload (by omega) fun allow body => ?_
    rw [runSession_open allow body hlt hx, if_pos (by simpa using hother)]
  case busy =>
    intro op c t r s x hmem harr hrom hload hlt hx htrans heid hbusy
    refine exec_of_runSession hmem harr hrom hload (by omega) fun allow body => ?_
    rw [runSession_open allow body hlt hx, if_neg (by simp [htrans, heid]), if_pos hbusy]
  case again =>
    intro op c t r s x hmem harr hrom hload hlt hx htrans heid hbusy halive
    refine exec_of_runSession hmem harr hrom hload (by omega) fun allow body => ?_
    rw [runSession_in_order allow body hlt hx ⟨htrans, heid, hbusy⟩, if_pos (by simpa using halive)]
  case gap =>
    intro op c t r s x hmem harr hrom hload hlt hx htrans heid hbusy hne hgap
    refine exec_of_runSession hmem harr hrom hload (by omega) fun allow body => ?_
    rw [runSession_in_order allow body hlt hx ⟨htrans, heid, hbusy⟩, if_neg (by simpa using hne), if_pos (by simpa using hgap),
      replyEpoch, hrom]
    rfl
  case header =>
    intro op c t r s x hmem harr hrom hload hlt hx htrans heid hbusy hne hnext hbad
    refine exec_of_runSession hmem harr hrom hload (by omega) fun allow body => ?_
    rw [runSession_next allow body hlt hx ⟨htrans, heid, hbusy⟩ hne hnext]
    cases hhead : headerOk r with
    | false => rfl
    | true =>
      have hepoch : epochOk s r = false := hbad.resolve_left (by simp [hhead])
      rw [hepoch]
      rfl
  case owner =>
    intro op c t r s x hmem hin hpriv
    obtain ⟨body, hexec⟩ := runsOwnerSteps_of_mem _ hmem t r s
    rw [hexec]
    exact vendorCmd_denied _ body hin (permits_owner_eq_false hpriv)

end Sys2Proof.Machine
end

section
/-!
PROOFS. Staged commands (R323, R326): what joins a stage and what is refused; the queries of the mixed ones, and `DIR_MODE` (R111).
-/

namespace Sys2Proof.Machine

/-! ## Refusal conditions -/

theorem refusalOf_eq_zero_iff (cs : List (Nat × Bool)) :
    refusalOf cs = 0 ↔ ∀ st ∈ refusalOrder, cs.any (fun c => c.1 == st && c.2) = false := by
  have hzero : 0 ∉ refusalOrder := by decide
  unfold refusalOf
  cases hfind : refusalOrder.find? (fun st => cs.any (fun c => c.1 == st && c.2)) with
  | none => exact iff_of_true rfl fun st hst => Bool.eq_false_iff.mpr (List.find?_eq_none.mp hfind st hst)
  | some st =>
    have hmem := List.mem_of_find?_eq_some hfind
    have hany := List.find?_some hfind
    refine iff_of_false (fun h0 => hzero (h0 ▸ hmem)) fun hall => ?_
    rw [hall st hmem] at hany
    cases hany

theorem refusalOf_append_eq_zero_iff (cs ds : List (Nat × Bool)) :
    refusalOf (cs ++ ds) = 0 ↔ refusalOf cs = 0 ∧ refusalOf ds = 0 := by
  simp only [refusalOf_eq_zero_iff, List.any_append, Bool.or_eq_false_iff]
  exact forall₂_and

@[simp] theorem refusalOf_nil : refusalOf [] = 0 := rfl

/-- A condition that does not hold refuses nothing. -/
@[simp] theorem refusalOf_cons_false (st : Nat) (cs : List (Nat × Bool)) : refusalOf ((st, false) :: cs) = refusalOf cs := by
  simp [refusalOf]

theorem guarded_unrefused {cs : List (Nat × Bool)} (h : refusalOf cs = 0) (s : State) (go : Res) : guarded s cs go = go := by
  unfold guarded
  split
  · rfl
  · contradiction

theorem guarded_refused {cs : List (Nat × Bool)} (h : refusalOf cs ≠ 0) (s : State) (go : Res) :
    guarded s cs go = .reply s (refusalOf cs) [] := by
  unfold guarded
  split
  · contradiction
  · rfl

theorem badLen_eq_false {p : Bytes} {n : Nat} (h : p.length = n) : badLen p n = false := by
  simp [badLen, h]

theorem nonZero_eq_false {p : Bytes} {off n : Nat} (h : fieldAt p off n = 0) : nonZero p off n = false := by
  simp [nonZero, h]

/-! ## Mixed commands: a query is for any session, the rest for an `OWNER` -/

theorem mixed_query {off : Nat} {queries : List Nat} {r : Req} (hlen : off < r.payload.length)
    (hq : byteAt r.payload off ∈ queries) : mixed off queries r = permits .any := by
  simp [mixed, hlen, hq]

theorem mixed_not_query {off : Nat} {queries : List Nat} {r : Req} (hq : byteAt r.payload off ∉ queries) :
    mixed off queries r = permits .owner := by
  simp [mixed, hq]

theorem mixed_owner (off : Nat) (queries : List Nat) (r : Req) : mixed off queries r (some 0) = true := by
  unfold mixed
  split <;> rfl

/-! ## What is journalled -/

theorem journalled_of_not_immediate {op : Nat} {p : Bytes} (h : immediate op p = false) (s : State) : journalled s op p = s := by
  simp [journalled, h]

theorem journal_reply_query (op : Nat) (p : Bytes) (s : State) (st : Nat) (b : Bytes) :
    (Res.reply s st b).journal op true p = .reply s st b := rfl

theorem journal_reply_of_not_immediate {op : Nat} {p : Bytes} (h : immediate op p = false) (query : Bool) (s : State) (st : Nat)
    (b : Bytes) : (Res.reply s st b).journal op query p = .reply s st b := by
  simp [Res.journal, journalled_of_not_immediate h]

section
variable {op : Nat} {t : Transport} {r : Req} {s u : State} {x : Sess} {allow : Option Nat → Bool}
  {body : State → Option Nat → Res} {st : Nat} {b : Bytes}

/-- A query in a session is answered, and not journalled. -/
theorem vendorCmd_query (hin : inSession op t r s x = true) (hallow : allow = permits .any)
    (hbody : body (served r s) (some r.session) = .reply u st b) :
    vendorCmd op t r allow body s = answered op t r u st b := by
  subst hallow
  rw [vendorCmd_permitted _ body hin rfl, hbody]
  rfl

/-- A command that is not journalled is answered as its body says. -/
theorem vendorCmd_not_immediate (hin : inSession op t r s x = true) (hallow : allow (some x.priv) = true)
    (himm : immediate op r.payload = false) (hbody : body (served r s) (some r.session) = .reply u st b) :
    vendorCmd op t r allow body s = answered op t r u st b := by
  rw [vendorCmd_permitted _ body hin hallow, hbody, journal_reply_of_not_immediate himm]
  rfl

/-- A command that acts at once on islands is journalled as it is answered (R342). -/
theorem vendorCmd_journalled (hin : inSession op t r s x = true) (hallow : allow (some x.priv) = true)
    (hquery : allow (some 1) = false) (hst : st = stOk ∨ st = stPending)
    (hbody : body (served r s) (some r.session) = .reply u st b) :
    vendorCmd op t r allow body s = answered op t r (journalled u op r.payload) st b := by
  rw [vendorCmd_permitted _ body hin hallow, hbody, hquery]
  rcases hst with rfl | rfl <;> rfl

end

/-! ## Staged commands -/

theorem immediate_of_mem_stagedForms (p : Bytes) : ∀ e ∈ stagedForms, immediate e.1 p = false := by
  have hnot : ∀ e ∈ stagedForms, islandOps.contains e.1 = false := by decide
  intro e he
  rw [immediate, hnot e he, Bool.false_and]

theorem byteAt_ne_of_asks {p : Bytes} {off q : Nat} (h : asks p (some (off, q)) = false) : byteAt p off ≠ q := by
  simpa [asks] using h

/-- A mixed command that does not ask for its query is a staged command. -/
theorem mixedCmd_eq_stagedCmd {op off q : Nat} {r : Req} (h : asks r.payload (some (off, q)) = false) (t : Transport)
    (query : State → Option Nat → Res) (s : State) :
    vendorCmd op t r (mixed off [q] r)
      (fun u n => if byteAt r.payload off == q then query u n else stageBody op r.payload u n) s = stagedCmd op t r s := by
  have hne := byteAt_ne_of_asks h
  have hbeq : (byteAt r.payload off == q) = false := beq_eq_false_iff_ne.mpr hne
  rw [mixed_not_query (by simpa using hne), hbeq]
  rfl

/-- Each of the 19 staged commands, unless it asks for its query, is `stagedCmd`. -/
theorem exec_eq_stagedCmd : ∀ e ∈ stagedForms, ∀ (t : Transport) (r : Req) (s : State), asks r.payload e.2.2 = false →
    exec (e.2.1 t r) s = stagedCmd e.1 t r s := by
  simp only [stagedForms, List.forall_mem_append, List.forall_mem_cons, List.not_mem_nil, false_implies, implies_true, and_true]
  and_intros
  all_goals intro t r s hasks
  all_goals first
    | rfl
    | exact mixedCmd_eq_stagedCmd hasks t _ s

section
variable {op : Nat} {t : Transport} {r : Req} {s : State} {x : Sess}

theorem stagedCmd_joins (hin : inSession op t r s x = true) (hpriv : x.priv = 0) (himm : immediate op r.payload = false)
    (hgo : refusalOf (stageConds op r.payload r.session (served r s)) = 0) :
    stagedCmd op t r s =
      answered op t r (addStaged (served r s) r.session (stageView (served r s) r.session) op r.payload) stOk [] :=
  vendorCmd_not_immediate hin (by simp [permits, hpriv]) himm (guarded_unrefused hgo _ _)

theorem stagedCmd_refused (hin : inSession op t r s x = true) (hpriv : x.priv = 0) (himm : immediate op r.payload = false)
    (hno : refusalOf (stageConds op r.payload r.session (served r s)) ≠ 0) :
    stagedCmd op t r s =
      answered op t r (served r s) (refusalOf (stageConds op r.payload r.session (served r s))) [] :=
  vendorCmd_not_immediate hin (by simp [permits, hpriv]) himm (guarded_refused hno _ _)

theorem stagedCmd_denied (hin : inSession op t r s x = true) (hpriv : x.priv ≠ 0) :
    stagedCmd op t r s = answered op t r (served r s) stDenied [] :=
  vendorCmd_denied _ _ hin (permits_owner_eq_false hpriv)

end

/-- With an open stage that is not frozen and has room, only a refusal of the command's own or a conflict is left. -/
theorem stageConds_unrefused {op k : Nat} {p : Bytes} {s : State} {cmds : List Staged} (hstage : s.stage k = some cmds)
    (harmed : commitArmedIn s k = false) (hown : refusalOf (stagedConds s k (stageView s k) op p) = 0)
    (helse : stagedElsewhere s k (stageView s k) op p = false) (hcount : cmds.length < 4096)
    (hbytes : stageBytes cmds + p.length ≤ 2097152) : refusalOf (stageConds op p k s) = 0 := by
  have hfull : (decide (4096 ≤ cmds.length) || decide (2097152 < stageBytes cmds + p.length)) = false := by
    simp only [Bool.or_eq_false_iff, decide_eq_false_iff_not]
    omega
  simp [stageConds, refusalOf_append_eq_zero_iff, hstage, harmed, hown, helse, hfull]

section
variable {op : Nat} {c : Transport → Req → Instr} {q : Option (Nat × Nat)} {t : Transport} {r : Req} {s u : State} {x : Sess}

theorem exec_joins_stage (hmem : (op, c, q) ∈ stagedForms) (hin : inSession op t r s x = true) (hasks : asks r.payload q = false)
    (hpriv : x.priv = 0) (hu : u = served r s) (hgo : refusalOf (stageConds op r.payload r.session u) = 0) :
    exec (c t r) s = answered op t r (addStaged u r.session (stageView u r.session) op r.payload) stOk [] := by
  subst hu
  rw [exec_eq_stagedCmd _ hmem t r s hasks]
  exact stagedCmd_joins hin hpriv (immediate_of_mem_stagedForms _ _ hmem) hgo

end

theorem asks_eq_false_of_ne {p : Bytes} {off q : Nat} (h : byteAt p off ≠ q) : asks p (some (off, q)) = false := by
  simpa [asks] using h

/-! ## `DIR_MODE` (R111) -/

theorem dirModeBad_eq_false_length {p : Bytes} (h : dirModeBad p = false) : p.length = 8 := by
  simp only [dirModeBad, badLen, Bool.or_eq_false_iff, decide_eq_false_iff_not, not_not] at h
  tauto

theorem dirModeNow_acts {p : Bytes} {s : State} (hbusy : byteAt p 2 = 0 ∨ commitArmed s = false) (hbad : dirModeBad p = false)
    (hbar : dirModeBarred s (byteAt p 0) (byteAt p 1) (byteAt p 2) = false) :
    dirModeNow p s = .reply (dirModeAct s (byteAt p 0) (byteAt p 1) (byteAt p 2)) (if byteAt p 2 == 0 then stOk else stPending)
      (dirReply (dirModeAct s (byteAt p 0) (byteAt p 1) (byteAt p 2)) (byteAt p 0) (byteAt p 1)) := by
  have hfree : (byteAt p 2 != 0 && commitArmed s) = false := by
    rcases hbusy with h | h <;> simp [h]
  exact guarded_unrefused (by simp [hfree, hbad, hbar]) _ _

section
variable {t : Transport} {r : Req} {s u : State} {x : Sess}

theorem exec_dirMode_staged (hin : inSession 0xC080 t r s x = true) (hpriv : x.priv = 0) (hact : byteAt r.payload 2 = 4)
    (hgo : refusalOf (stageConds 0xC080 r.payload r.session (served r s)) = 0) :
    exec (.dirMode t r) s =
      answered 0xC080 t r (addStaged (served r s) r.session (stageView (served r s) r.session) 0xC080 r.payload) stOk
        (dirReply (served r s) (byteAt r.payload 0) (byteAt r.payload 1)) := by
  refine vendorCmd_not_immediate hin (hpriv ▸ mixed_owner 2 [0] r) (by simp [immediate, hact]) ?_
  simp only [hact, BEq.rfl, if_true, Option.getD_some]
  exact guarded_unrefused hgo _ _

theorem exec_dirMode_query (hin : inSession 0xC080 t r s x = true) (hact : byteAt r.payload 2 = 0)
    (hbad : dirModeBad r.payload = false)
    (hbar : dirModeBarred (served r s) (byteAt r.payload 0) (byteAt r.payload 1) 0 = false) :
    exec (.dirMode t r) s =
      answered 0xC080 t r (dirModeAct (served r s) (byteAt r.payload 0) (byteAt r.payload 1) 0) stOk
        (dirReply (dirModeAct (served r s) (byteAt r.payload 0) (byteAt r.payload 1) 0) (byteAt r.payload 0) (byteAt r.payload 1)) := by
  have hlen := dirModeBad_eq_false_length hbad
  refine vendorCmd_query hin (mixed_query (by omega) (by simp [hact])) ?_
  have hbody := dirModeNow_acts (s := served r s) (.inl hact) hbad (hact.symm ▸ hbar)
  simpa [hact] using hbody

theorem exec_dirMode_acts (hin : inSession 0xC080 t r s x = true) (hpriv : x.priv = 0)
    (hact : 1 ≤ byteAt r.payload 2 ∧ byteAt r.payload 2 < 4) (hbad : dirModeBad r.payload = false)
    (hbar : dirModeBarred (served r s) (byteAt r.payload 0) (byteAt r.payload 1) (byteAt r.payload 2) = false)
    (harmed : commitArmed (served r s) = false) :
    exec (.dirMode t r) s =
      answered 0xC080 t r
        (journalled (dirModeAct (served r s) (byteAt r.payload 0) (byteAt r.payload 1) (byteAt r.payload 2)) 0xC080 r.payload) stPending
        (dirReply (dirModeAct (served r s) (byteAt r.payload 0) (byteAt r.payload 1) (byteAt r.payload 2))
          (byteAt r.payload 0) (byteAt r.payload 1)) := by
  have hne0 : byteAt r.payload 2 ≠ 0 := by omega
  have hne4 : byteAt r.payload 2 ≠ 4 := by omega
  have howner : mixed 2 [0] r = permits .owner := mixed_not_query (by simpa using hne0)
  refine vendorCmd_journalled hin (hpriv ▸ mixed_owner 2 [0] r) (howner ▸ rfl) (.inr rfl) ?_
  have hbody := dirModeNow_acts (s := served r s) (.inr harmed) hbad hbar
  simpa [hne0, hne4] using hbody

end

/-- Settles O57: each staged command is `stagedCmd` unless it asks for its query, and a query answers from its own conditions. -/
theorem stagedCommands : Obligations.StagedCommands := by
  unfold Obligations.StagedCommands
  refine ⟨?joins, ?portConfig, ?hierCreate, ?hierDestroy, ?grottoCreate, ?grottoBind, ?grottoUnbind, ?windowDefine, ?windowRemove,
    ?guardRuleSet, ?guardRuleClear, ?schedQueueSet, ?gateListSet, ?policerSet, ?wredProfileSet, ?echoEndpointSet,
    ?checkContextAssign, ?traceConfig, ?counterConfig, ?sampleConfig, ?refused, ?denied, ?dirStaged, ?dirQuery, ?dirActs,
    ?ruleQuery, ?schedQuery, ?policerQuery, ?profileQuery, ?endpointQuery, ?checkQuery⟩
  case joins =>
    intro op c q t r s u x cmds hmem hin hasks hu hpriv hstage harmed hown helse hcount hbytes
    exact exec_joins_stage hmem hin hasks hpriv hu (stageConds_unrefused hstage harmed hown helse hcount hbytes)
  case refused =>
    intro op c q t r s u x hmem hin hasks hu hpriv hno
    subst hu
    rw [exec_eq_stagedCmd _ hmem t r s hasks]
    exact stagedCmd_refused hin hpriv (immediate_of_mem_stagedForms _ _ hmem) hno
  case denied =>
    intro op c q t r s u x hmem hin hasks hu hpriv
    rw [exec_eq_stagedCmd _ hmem t r s hasks, hu]
    exact stagedCmd_denied hin hpriv
  case guardRuleSet | schedQueueSet | policerSet | wredProfileSet | echoEndpointSet | checkContextAssign =>
    intro t r s u x hin hne hpriv hu hgo
    refine exec_joins_stage ?_ hin (asks_eq_false_of_ne hne) hpriv hu hgo
    simp [stagedForms]
  case dirStaged =>
    intro t r s u x hin hpriv hact hu hgo
    subst hu
    exact exec_dirMode_staged hin hpriv hact hgo
  case dirQuery =>
    intro t r s x hin hact hbad hbar
    exact ⟨_, rfl, exec_dirMode_query hin hact hbad hbar⟩
  case dirActs =>
    intro t r s x hin hpriv hact hbad hbar harmed
    exact ⟨_, rfl, exec_dirMode_acts hin hpriv hact hbad hbar harmed⟩
  case ruleQuery =>
    intro t r s x hin hact hlen hpad hport hrule hflags hpages
    refine vendorCmd_query hin (mixed_query (by omega) (by simp [hact])) ?_
    have hgo : (ruleFormBad r.payload || nonZero r.payload 4 1 || nonZero r.payload 8 16) = false := by
      simp [ruleFormBad, badLen_eq_false hlen, nonZero, hpad, hport, hrule, hact, hflags, hpages]
    simp [hact, ruleQuery, hgo, guarded_unrefused]
  case schedQuery =>
    intro t r s x hin hact hlen hbad hsched
    refine vendorCmd_query hin (mixed_query hlen (by simp [hact])) ?_
    simp [hact, schedQuery, hbad, hsched, guarded_unrefused]
  case policerQuery =>
    intro t r s x hin hact hlen hid hpad
    refine vendorCmd_query hin (mixed_query (by omega) (by simp [hact])) ?_
    simp [hact, badLen_eq_false hlen, Nat.not_lt.mpr hid, nonZero_eq_false hpad, guarded_unrefused]
  case profileQuery =>
    intro t r s x hin hact hlen hid hpad
    refine vendorCmd_query hin (mixed_query (by omega) (by simp [hact])) ?_
    simp [hact, badLen_eq_false hlen, Nat.not_lt.mpr hid, nonZero_eq_false hpad, guarded_unrefused]
  case endpointQuery =>
    intro t r s x hin hact hlen hid hpad
    refine vendorCmd_query hin (mixed_query (by omega) (by simp [hact])) ?_
    simp [hact, badLen_eq_false hlen, Nat.not_lt.mpr hid, nonZero_eq_false hpad, guarded_unrefused]
  case checkQuery =>
    intro t r s x hin hact hlen hid hpad
    refine vendorCmd_query hin (mixed_query (by omega) (by simp [hact])) ?_
    simp [hact, badLen_eq_false hlen, Nat.not_lt.mpr hid, nonZero_eq_false hpad, guarded_unrefused]
  all_goals
    intro t r s u x hin hpriv hu hgo
    refine exec_joins_stage (q := none) ?_ hin rfl hpriv hu hgo
    simp [stagedForms]

end Sys2Proof.Machine
end

section
/-!
PROOFS. Sessions and identity (R319 to R324, R329, R333), `COMMIT` (R325) and the loader (R303 to R305).
-/

namespace Sys2Proof.Machine

/-! ## Requests with `SESSION` FFh, and requests to the ROM -/

section
variable {op : Nat} {t : Transport} {r : Req} {s : State}

theorem freeTurn_iff :
    freeTurn op t r s = true ↔ arrives op t r s = true ∧ inRom s = false ∧ isFreeOp op = true ∧ r.session = 255 ∧
      repeatedOpen s op t r = none ∧ headerOk r = true ∧ epochOk s r = true := by
  simp [freeTurn, and_assoc]

theorem not_loader_of_free (h : isFreeOp op = true) : isLoaderOp op = false := by
  simp only [isFreeOp, isLoaderOp, Bool.or_eq_true, beq_iff_eq] at h ⊢
  rcases h with (((rfl | rfl) | rfl) | rfl) | rfl <;> rfl

theorem opcodes_contains_of_free (h : isFreeOp op = true) : opcodes.contains op = true := by
  simp only [isFreeOp, Bool.or_eq_true, beq_iff_eq] at h
  rcases h with (((rfl | rfl) | rfl) | rfl) | rfl <;> rfl

theorem vendorCmd_free {allow : Option Nat → Bool} (body : State → Option Nat → Res) (h : freeTurn op t r s = true)
    (hallow : allow none = true) : vendorCmd op t r allow body s = .next (finishFree op t r (body s none)) := by
  obtain ⟨harr, hrom, hfree, hsess, hrep, hhead, hepoch⟩ := freeTurn_iff.mp h
  rw [vendorCmd, vendor_free allow body harr (opcodes_contains_of_free hfree) hrom (not_loader_of_free hfree) hsess]
  simp [runFree, hfree, hrep, hhead, hepoch, hallow]

theorem opcodes_contains_of_rom (h : isRomOp op = true) : opcodes.contains op = true := by
  simp only [isRomOp, isLoaderOp, Bool.or_eq_true, beq_iff_eq] at h
  rcases h with (rfl | rfl) | (rfl | rfl) | rfl <;> rfl

/-- What a loader command does to the time of `RECEIVING` touches neither the ROM's contexts nor the epoch. -/
theorem romSess_noteLoader (op : Nat) (s : State) (t : Transport) : romSess (noteLoader op s) t = romSess s t := by
  unfold noteLoader
  split <;> rfl

theorem epochOk_noteLoader (op : Nat) (s : State) (r : Req) : epochOk (noteLoader op s) r = epochOk s r := by
  unfold noteLoader
  split <;> rfl

theorem noteLoader_not_loader (h : isLoaderOp op = false) (s : State) : noteLoader op s = s := by
  simp [noteLoader, h]

theorem noteLoader_receiving (h : isLoaderOp op = true) (hboot : s.mgmt.boot = .receiving) :
    noteLoader op s = { s with mgmt := { s.mgmt with bootAt := s.now } } := by
  simp [noteLoader, h, hboot]

theorem noteLoader_loader (hboot : s.mgmt.boot = .loader) : noteLoader op s = s := by
  simp [noteLoader, hboot]

theorem vendorCmd_rom (allow : Option Nat → Bool) (body : State → Option Nat → Res) (h : romTurn op t r s = true) :
    vendorCmd op t r allow body s = .next (finishRom op t r (body (noteLoader op s) none)) := by
  simp only [romTurn, Bool.and_eq_true, Bool.not_eq_true', Option.isNone_iff_eq_none, beq_iff_eq, and_assoc] at h
  obtain ⟨harr, hrom, hbox, hop, hsess, hwait, hlast, hhead, hzero, hepoch⟩ := h
  rw [vendorCmd, vendor_in_rom allow body harr (opcodes_contains_of_rom hop) hrom hbox, if_pos hop]
  cases hl : (romSess s t).last with
  | none =>
    simp [runRom, romSess_noteLoader, epochOk_noteLoader, hsess, hwait, hl, hhead, hzero, hepoch]
  | some l =>
    simp only [hl, Bool.and_eq_true, beq_iff_eq, Bool.not_eq_true', beq_eq_false_iff_ne] at hlast
    obtain ⟨hnext, hne⟩ := hlast
    simp [runRom, romSess_noteLoader, epochOk_noteLoader, hsess, hwait, hl, hhead, hzero, hepoch, ← hnext, Ne.symm hne]

end

/-! ## `SESSION_OPEN` (R321) -/

/-- No mailbox has its two sessions open already. -/
theorem mailbox_not_full {t : Transport} {s : State} (h : ∀ a, mailboxAgent t = some a → (mailboxSessions s a).length < 2) :
    (match mailboxAgent t with
     | some a => decide (2 ≤ (mailboxSessions s a).length)
     | none => false) = false := by
  cases ha : mailboxAgent t with
  | none => rfl
  | some a => simpa using h a ha

theorem openBody_opens {t : Transport} {r : Req} {s : State} {k : Nat} (hbad : openBad r.payload false = false)
    (hact : byteAt r.payload 0 = 0) (hfree : lowestFree s = some k)
    (hbox : ∀ a, mailboxAgent t = some a → (mailboxSessions s a).length < 2) :
    openBody t r s none =
      (let u := s.setSess k (some
          { transport := t, eid := r.eid, priv := byteAt r.payload 1, idleS := fieldAt r.payload 4 2, tag := fieldAt r.payload 8 8,
            last := r.alive, openAlive := r.alive, lastAt := s.now })
       .opened u k (leBytes 1 k ++ leBytes 1 (byteAt r.payload 1) ++ leBytes 1 (sessionsFree u) ++ zeros 1 ++
         leBytes 2 (fieldAt r.payload 4 2) ++ zeros 2)) := by
  have hfull := mailbox_not_full hbox
  unfold openBody
  simp only [hact, hfree, Option.isNone_some, Bool.false_or, BEq.rfl, Bool.true_and]
  refine guarded_unrefused ?_ _ _
  simp only [Option.isSome_none, hbad]
  exact congrArg (fun b => refusalOf [(stBadParam, false), (stNoResource, b)]) hfull

theorem openBody_grants {t : Transport} {r : Req} {s : State} {n : Nat} (hbad : openBad r.payload true = false)
    (hact : byteAt r.payload 0 = 1) :
    openBody t r s (some n) = .reply { s with proto := { s.proto with
      grants := if s.proto.grants.contains (byteAt r.payload 2) then s.proto.grants else byteAt r.payload 2 :: s.proto.grants } } stOk [] := by
  unfold openBody
  simp only [hact]
  exact guarded_unrefused (by simp [hbad]) _ _

theorem openBody_revokes {t : Transport} {r : Req} {s : State} {n : Nat} (hbad : openBad r.payload true = false)
    (hact : byteAt r.payload 0 = 2) :
    openBody t r s (some n) = (let u := closeMailbox s (byteAt r.payload 2)
      .reply { u with proto := { u.proto with grants := u.proto.grants.filter (· != byteAt r.payload 2) } } stOk []) := by
  unfold openBody
  simp only [hact]
  exact guarded_unrefused (by simp [hbad]) _ _

/-! ## `COMMIT` (R325) -/

theorem commitBody_accepts {p : Bytes} {s : State} {n : Nat} {cmds : List Staged} (harmed : commitArmed s = false)
    (hlaunch : launchBad s p = false) (hstage : s.stage n = some cmds) (hfail : firstFailing s n [] cmds = none)
    (hsure : unsureTouched s cmds = false) : commitBody p s (some n) = acceptCommit s n (fieldAt p 0 8) cmds := by
  simp [commitBody, harmed, hlaunch, hstage, hfail, hsure]

/-- With `LAUNCH_DRIP` 0 the launch drip takes a free value (log 22), otherwise it is the one asked for. -/
theorem acceptCommit_eq (s : State) (n ask : Nat) (cmds : List Staged) :
    ∃ f v w T, (f, v) = (if ask = 0 then draw s else (0, s)) ∧ T = (if ask = 0 then nextLaunch (s.drip + f) else ask) ∧
      w = forEach (touched { v with proto := { v.proto with commit := some { session := n, cmds := cmds, asked := ask, at_ := T } } } cmds)
          { v with proto := { v.proto with commit := some { session := n, cmds := cmds, asked := ask, at_ := T } } }
          (fun w i => postBurst w true i (Config.shadowAt i) (sumOf (fun k => k.payload.length) cmds)) ∧
      acceptCommit s n ask cmds = .reply w stPending (commitReply w 65535 0 T) := by
  by_cases hask : ask = 0
  · refine ⟨(draw s).1, (draw s).2, _, _, (if_pos hask).symm, rfl, rfl, ?_⟩
    simp only [acceptCommit, hask, BEq.rfl, if_true]
    rfl
  · refine ⟨0, s, _, _, (if_neg hask).symm, rfl, rfl, ?_⟩
    simp only [acceptCommit, hask, beq_iff_eq, if_false]

/-! ## The loader (R303 to R305) -/

theorem loadBeginBody_accepts {t : Transport} {r : Req} {s : State} {hd : Bytes} (hboot : s.mgmt.boot = .loader)
    (hlen : r.payload.length = 520) (hpad : fieldAt r.payload 4 4 = 0) (hhd : hd = (r.payload.drop 8).take 512)
    (himg : fieldAt r.payload 0 4 = imageLen hd) (htest : headerTest hd = true) (hfail : headerFail s hd = 0) :
    loadBeginBody t r s = (let u := toBoot s .receiving
      .reply { u with mgmt := { u.mgmt with
        kept := hd, keptValid := false, keptEcc := false, fromKept := false, source := transportNo t, rxTransport := transportNo t
        rxLen := imageLen hd, digest := [] } } stOk []) := by
  subst hhd
  unfold loadBeginBody
  refine guarded_unrefused ?_ _ _
  have hnot : (Boot.loader == Boot.receiving) = false := rfl
  simp [hboot, hnot, badLen_eq_false hlen, nonZero_eq_false hpad, himg, htest, hfail]

theorem loadDataBody_accepts {t : Transport} {r : Req} {s : State} (hboot : s.mgmt.boot = .receiving)
    (hbox : s.mgmt.rxTransport = transportNo t) (hmin : 9 ≤ r.payload.length) (hmax : r.payload.length ≤ 16392)
    (hpad : fieldAt r.payload 4 4 = 0) (hoff : fieldAt r.payload 0 4 = received s)
    (hfit : received s + (r.payload.length - 8) ≤ s.mgmt.rxLen) :
    loadDataBody t r s = .reply { s with mgmt := { s.mgmt with kept := s.mgmt.kept ++ r.payload.drop 8 } } stOk [] := by
  unfold loadDataBody
  refine guarded_unrefused ?_ _ _
  simp [hboot, hbox, Nat.not_lt.mpr hmin, Nat.not_lt.mpr hmax, nonZero_eq_false hpad, hoff, Nat.not_lt.mpr hfit]

theorem loadEndBody_accepts {t : Transport} {r : Req} {s : State} (hboot : s.mgmt.boot = .receiving)
    (hbox : s.mgmt.rxTransport = transportNo t) (hlen : r.payload.length = 4) (hpad : fieldAt r.payload 0 4 = 0)
    (hfull : s.mgmt.rxLen ≤ received s) :
    loadEndBody t r s = (let u := toBoot s .verifying
      .wait { u with mgmt := { u.mgmt with loadEnd := some (t, r), loadDrip := u.drip } }) := by
  unfold loadEndBody
  refine guarded_unrefused ?_ _ _
  simp [hboot, hbox, badLen_eq_false hlen, nonZero_eq_false hpad, Nat.not_lt.mpr hfull]

theorem mgmtResetBody_accepts {t : Transport} {r : Req} {s : State} (hlen : r.payload.length = 4)
    (hword : fieldAt r.payload 0 4 = 0x5453524D) :
    mgmtResetBody t r s = (let u := mgmtReset s
      .wait { u with mgmt := { u.mgmt with resetWait := some (t, r) } }) :=
  guarded_unrefused (by simp [badLen_eq_false hlen, hword]) _ _

/-! ## Requests without a payload -/

theorem badLen_nil_zero : badLen [] 0 = false := rfl

/-- A body that only asks for an empty payload answers it. -/
theorem guarded_emptyPayload {p : Bytes} (h : p = []) (s : State) (go : Res) : guarded s [(stBadParam, badLen p 0)] go = go :=
  guarded_unrefused (by simp [h, badLen_nil_zero]) _ _

/-- An opcode outside the index is `BAD_OPCODE` at step 3 (R333). -/
theorem vendor_bad_opcode {op : Nat} {t : Transport} {r : Req} {s : State} (allow : Option Nat → Bool) (body : State → Option Nat → Res)
    (hop : opcodes.contains op = false) (harr : arrives op t r s = true) (hreach : inRom s = false ∨ mailboxAgent t = none) :
    vendor op t r allow body s = answer s op t r stBadOpcode [] := by
  obtain ⟨hans, hlen, hcrc, hgrant⟩ := arrives_iff.mp harr
  simp only [vendor, hans, reachable_of_not_rom_or_not_mailbox hreach, hlen, hcrc, hgrant, hop, Bool.not_true, Bool.not_false,
    Bool.or_self, Bool.false_eq_true, if_false, if_true]

/-- Settles O56: each command reaches its body in a session, with `SESSION` FFh or from the ROM, and the body accepts it. -/
theorem sessionsAndTheLoader : Obligations.SessionsAndTheLoader := by
  unfold Obligations.SessionsAndTheLoader
  refine ⟨?opens, ?grants, ?revokes, ?closes, ?identity, ?epoch, ?fwInfo, ?identityFree, ?epochFree, ?fwInfoFree, ?identityRom, ?fwInfoRom,
    ?stageBegin, ?stageAbort, ?commit, ?mgmtReset, ?loadBegin, ?loadData, ?loadEnd, ?badOpcode⟩
  case opens =>
    intro t r k s u hfree hbad hact hallow hk hbox hu
    subst hu
    refine (vendorCmd_free (openBody t r) hfree hallow).trans ?_
    rw [openBody_opens hbad hact hk hbox]
  case grants =>
    intro t r s x hin hpriv hbad hact
    exact ⟨_, rfl, vendorCmd_not_immediate hin (by simp [openAllowed, hact, hpriv]) rfl (openBody_grants hbad hact)⟩
  case revokes =>
    intro t r s x hin hpriv hbad hact
    exact ⟨_, rfl, vendorCmd_not_immediate hin (by simp [openAllowed, hact, hpriv]) rfl (openBody_revokes hbad hact)⟩
  case closes | identity | epoch | fwInfo =>
    intro t r s x hin hempty
    exact vendorCmd_query hin rfl (guarded_emptyPayload hempty _ _)
  case identityFree | epochFree | fwInfoFree =>
    intro t r s hfree hempty
    refine (vendorCmd_free _ hfree rfl).trans ?_
    rw [guarded_emptyPayload hempty]
    rfl
  case identityRom | fwInfoRom =>
    intro t r s hrom hempty
    refine (vendorCmd_rom _ _ hrom).trans ?_
    rw [guarded_emptyPayload hempty, noteLoader_not_loader rfl]
  case stageBegin =>
    intro t r s u x hin hpriv hempty hu hstage harmed
    subst hu
    refine vendorCmd_not_immediate hin (by simp [permits, hpriv]) rfl (guarded_unrefused ?_ _ _)
    simp [hempty, badLen_nil_zero, hstage, harmed]
  case stageAbort =>
    intro t r cmds s u x hin hpriv hempty hu hstage harmed
    subst hu
    refine vendorCmd_not_immediate hin (by simp [permits, hpriv]) rfl (guarded_unrefused ?_ _ _)
    simp [hempty, badLen_nil_zero, hstage, harmed]
  case commit =>
    intro t r cmds s u x hin hpriv hu harmed hlaunch hstage hfail hsure
    subst hu
    obtain ⟨f, v, w, T, hdraw, hT, hw, haccept⟩ := acceptCommit_eq (served r s) r.session (fieldAt r.payload 0 8) cmds
    refine ⟨_, f, v, w, T, rfl, hdraw, hT, hw, vendorCmd_not_immediate hin (by simp [permits, hpriv]) rfl ?_⟩
    rw [commitBody_accepts harmed hlaunch hstage hfail hsure, haccept]
  case mgmtReset =>
    intro t r s x hin hpriv hbox hlen hword
    refine ⟨_, rfl, (vendorCmd_permitted _ _ hin (by simp [hpriv, hbox])).trans ?_⟩
    rw [mgmtResetBody_accepts hlen hword]
    rfl
  case loadBegin =>
    intro t r hd s u hrom hboot hlen hpad hhd himg htest hfail hu
    subst hu
    refine (vendorCmd_rom _ _ hrom).trans ?_
    rw [noteLoader_loader hboot, loadBeginBody_accepts hboot hlen hpad hhd himg htest hfail]
  case loadData =>
    intro t r s hrom hboot hbox hmin hmax hpad hoff hfit
    refine (vendorCmd_rom _ _ hrom).trans ?_
    rw [noteLoader_receiving rfl hboot]
    have hbody := loadDataBody_accepts (t := t) (s := { s with mgmt := { s.mgmt with bootAt := s.now } }) hboot hbox hmin hmax hpad hoff hfit
    rw [hbody]
  case loadEnd =>
    intro t r s u hrom hboot hbox hlen hpad hfull hu
    subst hu
    refine (vendorCmd_rom _ _ hrom).trans ?_
    rw [noteLoader_receiving rfl hboot]
    have hbody := loadEndBody_accepts (t := t) (s := { s with mgmt := { s.mgmt with bootAt := s.now } }) hboot hbox hlen hpad hfull
    rw [hbody]
    rfl
  case badOpcode =>
    intro t op r s hop harr hreach
    refine (exec_due_true _ _ _ ?_).trans ?_
    · rw [hop]
      rfl
    · rw [vendor_bad_opcode _ _ hop harr hreach]

end Sys2Proof.Machine
end

section
/-!
PROOFS. Commands of ports, lanes, columns, passages, slots and time in a session: what each body accepts, and what it then does.
-/

namespace Sys2Proof.Machine

/-! ## Ports and lanes -/

theorem portEnableBody_accepts {p : Bytes} {s : State} (hlen : p.length = 4) (hpad : fieldAt p 3 1 = 0)
    (hbundle : isBundle s s.cfg (fieldAt p 0 2) = true) (hen : byteAt p 2 = 0 ∨ byteAt p 2 = 1)
    (hboot : byteAt p 2 = 0 → s.role (fieldAt p 0 2) ≠ 4) (harmed : commitArmed s = false) :
    portEnableBody p s =
      .reply (if byteAt p 2 = 0 then disablePort s (fieldAt p 0 2) else enablePort s (fieldAt p 0 2)) stOk [] := by
  refine (guarded_unrefused ?_ _ _).trans ?_
  · rcases hen with h | h
    · simp [harmed, badLen_eq_false hlen, nonZero_eq_false hpad, hbundle, h, beq_false_of_ne (hboot h)]
    · simp [harmed, badLen_eq_false hlen, nonZero_eq_false hpad, hbundle, h]
  · simp only [beq_iff_eq]

theorem eqLoadBody_accepts {p : Bytes} {s : State} {n : Nat} {es : List Bytes} (hn : n = byteAt p 0) (hrange : 1 ≤ n ∧ n ≤ 16)
    (hlen : p.length = 4 + 48 * n) (hpad : fieldAt p 1 3 = 0) (hes : es = (List.range n).map (eqEntry p))
    (hbad : es.any eqBad = false) (hrep : repeats (es.map eqKey) = false) (harmed : commitArmed s = false) :
    eqLoadBody p s = .reply { s with port := { s.port with
      eq := es.foldl (fun t b => tput none t (eqKey b) (some (eqFrom b))) s.port.eq } } stOk (leBytes 1 n ++ zeros 3) := by
  subst hes hn
  refine (guarded_unrefused ?_ _ _).trans rfl
  simp only [harmed, badLen_eq_false hlen, nonZero_eq_false hpad, Nat.not_lt.mpr hrange.1, Nat.not_lt.mpr hrange.2, hbad, hrep,
    decide_false, Bool.or_self, refusalOf_cons_false, refusalOf_nil]

theorem marginBody_query {p : Bytes} {s : State} (n : Option Nat) (hact : byteAt p 2 = 0) (hbad : marginBad s p = false) :
    marginBody p n s =
      .reply (marginReply s (fieldAt p 0 2) 0 0 0 0).1 stOk (marginReply s (fieldAt p 0 2) 0 0 0 0).2 := by
  refine (guarded_unrefused ?_ _ _).trans ?_
  · simp [hact, hbad]
  · simp only [hact, BEq.rfl, if_true]

theorem marginBody_starts {p : Bytes} {s : State} {lane : Nat} (n : Option Nat) (hact : byteAt p 2 ≠ 0) (hbad : marginBad s p = false)
    (hlane : lane = fieldAt p 0 2) (hL0 : laneInL0 s lane = true) (hrate : 3 ≤ (s.prt (laneBundle s lane)).rate)
    (hfree : (s.lane lane).margin = none) (hpartner : (s.lane lane).partnerMargin = false) :
    marginBody p n s = .wait (s.modLane lane (fun l => { l with
      margin := some { session := n, action := byteAt p 2, eye := byteAt p 3, offset := sfieldAt p 4 1, dwell := byteAt p 5 } })) := by
  subst hlane
  refine (guarded_unrefused ?_ _ _).trans ?_
  · simp [hbad, hL0, Nat.not_lt.mpr hrate, hfree, hpartner]
  · simp only [beq_iff_eq, hact, if_false]

theorem marginBad_eq_false_length {s : State} {p : Bytes} (h : marginBad s p = false) : p.length = 8 := by
  simp only [marginBad, badLen, Bool.or_eq_false_iff, decide_eq_false_iff_not, not_not] at h
  tauto

/-! ## Columns and passages -/

theorem columnBody_query {p : Bytes} {s : State} (hlen : p.length = 4) (hpad : fieldAt p 2 2 = 0) (hc : byteAt p 0 < 4)
    (hact : byteAt p 1 = 0) : columnBody p s = .reply s stOk (columnReply s (byteAt p 0)) := by
  refine (guarded_unrefused ?_ _ _).trans ?_
  · have hc' : ¬ 3 < byteAt p 0 := by omega
    simp [badLen_eq_false hlen, nonZero_eq_false hpad, hact, hc']
  · simp only [hact]

theorem columnBody_drains {p : Bytes} {s : State} {c : Nat} (hlen : p.length = 4) (hpad : fieldAt p 2 2 = 0) (hcol : c = byteAt p 0)
    (hc : c < 4) (hact : byteAt p 1 = 1) (harmed : commitArmed s = false) (hdrain : drainable s c = true)
    (hothers : 3 ≤ ((List.range 4).filter (fun k => k != c && drainable s k)).length) :
    columnBody p s = (
      let v := armFor (s.modCol c (fun y => { y with drainAsked := true })) (.columnDrain c)
        (nextRotation (s.drip + 1024)) (coreIslands s)
      .reply v stPending (columnReply v c)) := by
  subst hcol
  refine (guarded_unrefused ?_ _ _).trans ?_
  · have hc' : ¬ 3 < byteAt p 0 := by omega
    simp [badLen_eq_false hlen, nonZero_eq_false hpad, hact, harmed, hdrain, hc', Nat.not_lt.mpr hothers]
  · simp only [hact]
    rfl

theorem columnBody_admits {p : Bytes} {s : State} {c : Nat} (hlen : p.length = 4) (hpad : fieldAt p 2 2 = 0) (hcol : c = byteAt p 0)
    (hc : c < 4) (hact : byteAt p 1 = 2) (harmed : commitArmed s = false) (hoff : (s.col c).st = .offline) :
    columnBody p s = .reply (startAdmission s c) stPending (columnReply (startAdmission s c) c) := by
  subst hcol
  refine (guarded_unrefused ?_ _ _).trans ?_
  · have hc' : ¬ 3 < byteAt p 0 := by omega
    simp [badLen_eq_false hlen, nonZero_eq_false hpad, hact, harmed, hoff, hc']
  · simp only [hact]

section
variable {q : Bytes} {s : State} {p : Nat} (n : Option Nat) (hlen : q.length = 8) (hpas : p = byteAt q 0) (hp : p < 32)
  (hpad3 : fieldAt q 3 1 = 0) (hpad6 : fieldAt q 6 2 = 0)
include hlen hpas hp hpad3 hpad6

theorem passageBody_query (hact : byteAt q 1 = 0) (hpat : fieldAt q 2 1 = 0) (hblocks : fieldAt q 4 2 = 0) :
    passageBody q n s = .reply s stOk (passageReply s p 0) := by
  subst hpas
  have hpat' : byteAt q 2 = 0 := hpat
  have hp' : ¬ 31 < byteAt q 0 := by omega
  refine (guarded_unrefused ?_ _ _).trans ?_
  · simp [badLen_eq_false hlen, nonZero_eq_false hpad3, nonZero_eq_false hpad6, hact, hpat', hblocks, hp']
  · simp only [hact]

theorem passageBody_drains (hact : byteAt q 1 = 1) (hpat : byteAt q 2 ≤ 1) (hblocks : 1 ≤ fieldAt q 4 2 ∧ fieldAt q 4 2 ≤ 16384)
    (harmed : commitArmed s = false) (hbusy : passageBusy s p = false) (halive : (s.pas p).st = .alive)
    (hothers : 3 ≤ liveWithout s p) :
    passageBody q n s = (
        let v := armFor
          (s.modPas p (fun y => { y with testAsked := some { started := s.now, pattern := byteAt q 2, blocks := fieldAt q 4 2 } }))
          (.passageDrain p) (nextRotation (s.drip + 1024)) (coreIslands s)
        .reply v stPending (passageReply v p 0)) := by
  subst hpas
  have hp' : ¬ 31 < byteAt q 0 := by omega
  have hblocks' : fieldAt q 4 2 ≠ 0 := by omega
  refine (guarded_unrefused ?_ _ _).trans ?_
  · simp [badLen_eq_false hlen, nonZero_eq_false hpad3, nonZero_eq_false hpad6, hact, Nat.not_lt.mpr hpat, beq_false_of_ne hblocks',
      Nat.not_lt.mpr hblocks.2, hp', harmed, hbusy, Nat.not_lt.mpr hothers]
  · simp only [hact, halive, BEq.rfl, if_true]
    rfl

theorem passageBody_tests (hact : byteAt q 1 = 1) (hpat : byteAt q 2 ≤ 1) (hblocks : 1 ≤ fieldAt q 4 2 ∧ fieldAt q 4 2 ≤ 16384)
    (harmed : commitArmed s = false) (hbusy : passageBusy s p = false) (hdead : (s.pas p).st = .dead) :
    passageBody q n s = (
        let v := (allLearn s p).modPas p
          (fun y => { y with st := .testing, op := { started := s.now, pattern := byteAt q 2, blocks := fieldAt q 4 2 } })
        .reply v stPending (passageReply v p 0)) := by
  subst hpas
  have hp' : ¬ 31 < byteAt q 0 := by omega
  have hblocks' : fieldAt q 4 2 ≠ 0 := by omega
  have halive : ((s.pas (byteAt q 0)).st == .alive) = false := by rw [hdead]; rfl
  refine (guarded_unrefused ?_ _ _).trans ?_
  · simp [badLen_eq_false hlen, nonZero_eq_false hpad3, nonZero_eq_false hpad6, hact, Nat.not_lt.mpr hpat, beq_false_of_ne hblocks',
      Nat.not_lt.mpr hblocks.2, hp', harmed, hbusy, halive]
  · simp only [hact, halive, Bool.false_eq_true, if_false]

theorem passageBody_admits (hact : byteAt q 1 = 2) (hpat : fieldAt q 2 1 = 0) (hblocks : fieldAt q 4 2 = 0)
    (harmed : commitArmed s = false) (hbusy : passageBusy s p = false) (hdead : (s.pas p).st = .dead)
    (hcol : (s.col (p % 4)).st = .inUse) (hgal : (s.gal (p / 4)).lost = none) :
    passageBody q n s = .wait (startPassageAdmit s p n) := by
  subst hpas
  have hpat' : byteAt q 2 = 0 := hpat
  have hp' : ¬ 31 < byteAt q 0 := by omega
  refine (guarded_unrefused ?_ _ _).trans ?_
  · simp [badLen_eq_false hlen, nonZero_eq_false hpad3, nonZero_eq_false hpad6, hact, hpat', hblocks, hp', harmed, hbusy, hdead,
      hcol, hgal]
  · simp only [hact]

end

/-! ## Loopback tests -/

section
variable {p : Bytes} {s : State} {b : Nat} (hlen : p.length = 8) (hport : b = fieldAt p 0 2) (hbundle : isBundle s s.cfg b = true)
include hlen hport hbundle

theorem loopbackBody_query (hact : byteAt p 2 = 0) (hpat : fieldAt p 3 1 = 0) (hblocks : fieldAt p 4 4 = 0) :
    loopbackBody p s = .reply (loopReply s b).1 stOk (loopReply s b).2 := by
  subst hport
  have hpat' : byteAt p 3 = 0 := hpat
  refine (guarded_unrefused ?_ _ _).trans ?_
  · simp [hact, badLen_eq_false hlen, hbundle, hpat', hblocks]
  · simp [hact]

theorem loopbackBody_starts (hact : byteAt p 2 = 1 ∨ byteAt p 2 = 2) (hpat : byteAt p 3 ≤ 1)
    (hblocks : 1 ≤ fieldAt p 4 4 ∧ fieldAt p 4 4 ≤ 65535) (harmed : commitArmed s = false) (hidle : (s.loop b).st ≠ 1)
    (hnear : byteAt p 2 = 1 → (s.prt b).enabled = false)
    (hfar : byteAt p 2 = 2 → s.up b = true ∧ s.role b ≠ 4 ∧ inUse s b = false) :
    loopbackBody p s = (let v := startLoop s b (byteAt p 2) (byteAt p 3) (fieldAt p 4 4)
      .reply (loopReply v b).1 stPending (loopReply v b).2) := by
  subst hport
  have hblocks' : fieldAt p 4 4 ≠ 0 := by omega
  refine (guarded_unrefused ?_ _ _).trans ?_
  · rcases hact with h | h
    · simp [h, badLen_eq_false hlen, hbundle, Nat.not_lt.mpr hpat, beq_false_of_ne hblocks', Nat.not_lt.mpr hblocks.2, harmed,
        beq_false_of_ne hidle, hnear h]
    · obtain ⟨hup, hrole, huse⟩ := hfar h
      simp [h, badLen_eq_false hlen, hbundle, Nat.not_lt.mpr hpat, beq_false_of_ne hblocks', Nat.not_lt.mpr hblocks.2, harmed,
        beq_false_of_ne hidle, hup, beq_false_of_ne hrole, huse]
  · rcases hact with h | h <;> simp [h]

theorem loopbackBody_stops (hact : byteAt p 2 = 3) (hpat : byteAt p 3 ≤ 1) (hblocks : fieldAt p 4 4 = 0) (hrun : (s.loop b).st = 1) :
    loopbackBody p s = .reply (loopReply (stopLoop s b) b).1 stOk (loopReply (stopLoop s b) b).2 := by
  subst hport
  refine (guarded_unrefused ?_ _ _).trans ?_
  · simp [hact, badLen_eq_false hlen, hbundle, Nat.not_lt.mpr hpat, hblocks, hrun]
  · simp [hact]

end

/-! ## Slots and time -/

theorem slotBad_eq_false_length {s : State} {p : Bytes} (h : slotBad s p = false) : p.length = 16 := by
  simp only [slotBad, badLen, Bool.or_eq_false_iff, decide_eq_false_iff_not, not_not] at h
  tauto

theorem slotConfigBody_query {p : Bytes} {s : State} (hact : byteAt p 1 = 1) (hbad : slotBad s p = false) :
    slotConfigBody p s = .reply s stOk (slotCfgReply s (byteAt p 0)) := by
  refine (guarded_unrefused ?_ _ _).trans ?_
  · simp [hact, hbad]
  · simp [hact]

theorem slotConfigBody_sets {p : Bytes} {s : State} (hact : byteAt p 1 = 0) (hbad : slotBad s p = false)
    (hst : (s.slot (byteAt p 0)).st = .unconfigured ∨ (s.slot (byteAt p 0)).st = .empty ∨ (s.slot (byteAt p 0)).st = .off ∨
      (s.slot (byteAt p 0)).st = .locked)
    (hfet : (s.slot (byteAt p 0)).fetShort = false ∨ (slotFrom p).enable = true) :
    slotConfigBody p s = .reply (s.modSlot (byteAt p 0) (slotSet s.drip (slotFrom p))) stOk [] := by
  have hfet' : ((s.slot (byteAt p 0)).fetShort && !(slotFrom p).enable) = false := by
    rcases hfet with h | h <;> simp [h]
  refine (guarded_unrefused ?_ _ _).trans ?_
  · rcases hst with h | h | h | h <;> simp [hact, hbad, h, hfet']
  · simp [hact]

theorem slotPowerBody_acts {p : Bytes} {s : State} {n a : Nat} (hlen : p.length = 4) (hslot : n = byteAt p 0) (hn : n ≤ 127)
    (hact : a = byteAt p 1) (ha : a ≤ 3) (hpad : fieldAt p 3 1 = 0) (hlimit : a = 3 → byteAt p 2 ≤ 2)
    (hother : a ≠ 3 → fieldAt p 2 1 = 0) (hstate : slotPowerState (s.slot n) a = false) :
    slotPowerBody p s = .reply (s.modSlot n (slotPowerDo s.drip s.now a (byteAt p 2))) (if a = 1 then stPending else stOk) [] := by
  subst hslot hact
  have hbyte : (if byteAt p 1 == 3 then decide (2 < byteAt p 2) else nonZero p 2 1) = false := by
    by_cases h : byteAt p 1 = 3
    · simp [h, hlimit h]
    · simp [h, nonZero_eq_false (hother h)]
  refine (guarded_unrefused ?_ _ _).trans ?_
  · simp only [badLen_eq_false hlen, Nat.not_lt.mpr hn, Nat.not_lt.mpr ha, nonZero_eq_false hpad, hbyte, hstate, decide_false,
      Bool.or_self, refusalOf_cons_false, refusalOf_nil]
  · simp only [beq_iff_eq]

theorem timeConfigBody_accepts {p : Bytes} {s : State} (hlen : p.length = 16) (hmode : byteAt p 0 ≤ 3) (hrole : byteAt p 1 ≤ 3)
    (hslew : 1 ≤ byteAt p 4 ∧ byteAt p 4 ≤ 100) (hload : byteAt p 5 ≤ 1) (hpad : fieldAt p 6 2 = 0)
    (hvalue : byteAt p 5 = 1 → 2 ≤ byteAt p 1 ∧ fieldAt p 8 8 % 800000000 = 0 ∧ s.drip + 1600000000 ≤ fieldAt p 8 8 ∧
      s.proto.committedOnce = false) (harmed : commitArmed s = false) :
    timeConfigBody p s = .reply (setRefMode { s with time := { s.time with
      ppsRole := byteAt p 1, ppsInDelay := fieldAt p 2 2, slewLimit := byteAt p 4, freqTrim := withinSlew (byteAt p 4) s.time.freqTrim
      load := if byteAt p 5 = 1 then some (fieldAt p 8 8) else s.time.load } } (byteAt p 0)) stOk [] := by
  have hslew' : byteAt p 4 ≠ 0 := by omega
  refine (guarded_unrefused ?_ _ _).trans ?_
  · by_cases h : byteAt p 5 = 1
    · obtain ⟨hlead, hsec, hahead, honce⟩ := hvalue h
      simp [harmed, badLen_eq_false hlen, Nat.not_lt.mpr hmode, Nat.not_lt.mpr hrole, beq_false_of_ne hslew', Nat.not_lt.mpr hslew.2, h,
        nonZero_eq_false hpad, Nat.not_lt.mpr hlead, hsec, Nat.not_lt.mpr hahead, honce]
    · simp [harmed, badLen_eq_false hlen, Nat.not_lt.mpr hmode, Nat.not_lt.mpr hrole, beq_false_of_ne hslew', Nat.not_lt.mpr hslew.2,
        beq_false_of_ne h, Nat.not_lt.mpr hload, nonZero_eq_false hpad]
  · simp only [beq_iff_eq]

theorem timeReadBody_accepts {p : Bytes} {s : State} (hlen : p.length = 2) (hisl : fieldAt p 0 2 ≤ 289 ∨ fieldAt p 0 2 = 65535) :
    timeReadBody p s = .reply s stOk (timeReply s (fieldAt p 0 2)) := by
  refine (guarded_unrefused ?_ _ _).trans rfl
  rcases hisl with h | h
  · simp [badLen_eq_false hlen, Nat.not_lt.mpr h]
  · simp [badLen_eq_false hlen, h]

/-! ## In a session -/

section
variable {op : Nat} {t : Transport} {r : Req} {s u : State} {x : Sess} {body : State → Option Nat → Res} {st : Nat} {b : Bytes}

/-- The query of a mixed command. -/
theorem mixedCmd_query {off q : Nat} (hin : inSession op t r s x = true) (hlen : off < r.payload.length) (hq : byteAt r.payload off = q)
    (hbody : body (served r s) (some r.session) = .reply u st b) :
    vendorCmd op t r (mixed off [q] r) body s = answered op t r u st b :=
  vendorCmd_query hin (mixed_query hlen (by simp [hq])) hbody

/-- The action of a mixed command, in an `OWNER` session. -/
theorem mixedCmd_acts {off q : Nat} (hin : inSession op t r s x = true) (hpriv : x.priv = 0) (hq : byteAt r.payload off ≠ q)
    (hst : st = stOk ∨ st = stPending) (hbody : body (served r s) (some r.session) = .reply u st b) :
    vendorCmd op t r (mixed off [q] r) body s = answered op t r (journalled u op r.payload) st b := by
  have howner : mixed off [q] r = permits .owner := mixed_not_query (by simpa using hq)
  exact vendorCmd_journalled hin (hpriv ▸ mixed_owner off [q] r) (howner ▸ rfl) hst hbody

/-- The action of a mixed command whose reply waits, in an `OWNER` session. -/
theorem mixedCmd_waits {off q : Nat} (hin : inSession op t r s x = true) (hpriv : x.priv = 0) (hq : byteAt r.payload off ≠ q)
    (hbody : body (served r s) (some r.session) = .wait u) :
    vendorCmd op t r (mixed off [q] r) body s = .next (finishSession op t r r.session (.wait (journalled u op r.payload))) := by
  have howner : mixed off [q] r = permits .owner := mixed_not_query (by simpa using hq)
  rw [vendorCmd_permitted _ body hin (hpriv ▸ mixed_owner off [q] r), hbody, howner]
  rfl

/-- A command for an `OWNER` that acts at once. -/
theorem ownerCmd_acts (hin : inSession op t r s x = true) (hpriv : x.priv = 0) (hst : st = stOk ∨ st = stPending)
    (hbody : body (served r s) (some r.session) = .reply u st b) :
    vendorCmd op t r (permits .owner) body s = answered op t r (journalled u op r.payload) st b :=
  vendorCmd_journalled hin (by simp [permits, hpriv]) rfl hst hbody

end

/-- Settles O58: each command runs in the session with its privilege, and its body accepts the payload. -/
theorem portLaneAndSlotCommands : Obligations.PortLaneAndSlotCommands := by
  unfold Obligations.PortLaneAndSlotCommands
  refine ⟨?portState, ?portEnable, ?eqLoad, ?marginQuery, ?marginStarts, ?columnQuery, ?columnDrains, ?columnAdmits, ?passageQuery,
    ?passageDrains, ?passageTests, ?passageAdmits, ?loopQuery, ?loopStarts, ?loopStops, ?slotQuery, ?slotSets, ?slotActs, ?slotState,
    ?timeConfig, ?timeRead⟩
  case portState =>
    intro t r s u x hin hu hlen hpad hport
    subst hu
    refine vendorCmd_query hin rfl (guarded_unrefused ?_ _ _)
    simp [badLen_eq_false hlen, nonZero_eq_false hpad, Nat.not_lt.mpr hport]
  case portEnable =>
    intro t r s u x hin hu hpriv hlen hpad hbundle hen hboot harmed
    subst hu
    exact ownerCmd_acts hin hpriv (.inl rfl) (portEnableBody_accepts hlen hpad hbundle hen hboot harmed)
  case eqLoad =>
    intro t r n es s u x hin hu hpriv hn hrange hlen hpad hes hbad hrep harmed
    subst hu
    exact ownerCmd_acts hin hpriv (.inl rfl) (eqLoadBody_accepts hn hrange hlen hpad hes hbad hrep harmed)
  case marginQuery =>
    intro t r s u x hin hu hact hbad
    subst hu
    have hlen := marginBad_eq_false_length hbad
    exact mixedCmd_query hin (by omega) hact (marginBody_query _ hact hbad)
  case marginStarts =>
    intro t r lane s u x hin hu hpriv hact hbad hlane hL0 hrate hfree hpartner
    subst hu
    exact mixedCmd_waits hin hpriv hact (marginBody_starts _ hact hbad hlane hL0 hrate hfree hpartner)
  case columnQuery =>
    intro t r s u x hin hu hlen hpad hc hact
    subst hu
    exact mixedCmd_query hin (by omega) hact (columnBody_query hlen hpad hc hact)
  case columnDrains =>
    intro t r c v s u x hin hu hpriv hlen hpad hcol hc hact harmed hdrain hothers hv
    subst hu hv
    exact mixedCmd_acts hin hpriv (by omega) (.inr rfl) (columnBody_drains hlen hpad hcol hc hact harmed hdrain hothers)
  case columnAdmits =>
    intro t r c s u x hin hu hpriv hlen hpad hcol hc hact harmed hoff
    subst hu
    exact mixedCmd_acts hin hpriv (by omega) (.inr rfl) (columnBody_admits hlen hpad hcol hc hact harmed hoff)
  case passageQuery =>
    intro t r s u x hin hu hlen hp hact hpat hpad3 hblocks hpad6
    subst hu
    exact mixedCmd_query hin (by omega) hact (passageBody_query _ hlen rfl hp hpad3 hpad6 hact hpat hblocks)
  case passageDrains =>
    intro t r p v s u x hin hu hpriv hlen hpas hp hact hpat hpad3 hblocks hpad6 harmed hbusy halive hothers hv
    subst hu hv
    exact mixedCmd_acts hin hpriv (by omega) (.inr rfl)
      (passageBody_drains _ hlen hpas hp hpad3 hpad6 hact hpat hblocks harmed hbusy halive hothers)
  case passageTests =>
    intro t r p v s u x hin hu hpriv hlen hpas hp hact hpat hpad3 hblocks hpad6 harmed hbusy hdead hv
    subst hu hv
    exact mixedCmd_acts hin hpriv (by omega) (.inr rfl)
      (passageBody_tests _ hlen hpas hp hpad3 hpad6 hact hpat hblocks harmed hbusy hdead)
  case passageAdmits =>
    intro t r p s u x hin hu hpriv hlen hpas hp hact hpat hpad3 hblocks hpad6 harmed hbusy hdead hcol hgal
    subst hu
    exact mixedCmd_waits hin hpriv (by omega)
      (passageBody_admits _ hlen hpas hp hpad3 hpad6 hact hpat hblocks harmed hbusy hdead hcol hgal)
  case loopQuery =>
    intro t r b s u x hin hu hlen hport hbundle hact hpat hblocks
    subst hu
    exact mixedCmd_query hin (by omega) hact (loopbackBody_query hlen hport hbundle hact hpat hblocks)
  case loopStarts =>
    intro t r b v s u x hin hu hpriv hlen hport hbundle hact hpat hblocks harmed hidle hnear hfar hv
    subst hu hv
    exact mixedCmd_acts hin hpriv (by omega) (.inr rfl)
      (loopbackBody_starts hlen hport hbundle hact hpat hblocks harmed hidle hnear hfar)
  case loopStops =>
    intro t r b s u x hin hu hpriv hlen hport hbundle hact hpat hblocks hrun
    subst hu
    exact mixedCmd_acts hin hpriv (by omega) (.inl rfl) (loopbackBody_stops hlen hport hbundle hact hpat hblocks hrun)
  case slotQuery =>
    intro t r s u x hin hu hact hbad
    subst hu
    have hlen := slotBad_eq_false_length hbad
    exact mixedCmd_query hin (by omega) hact (slotConfigBody_query hact hbad)
  case slotSets =>
    intro t r y s u x hin hu hpriv hact hbad hy hst hfet
    subst hu hy
    exact vendorCmd_not_immediate hin (hpriv ▸ mixed_owner 1 [1] r) rfl (slotConfigBody_sets hact hbad hst hfet)
  case slotActs =>
    intro t r n a s u x hin hu hlen hpriv hslot hn hact ha hpad hlimit hother hstate
    subst hu
    have hallow : permits .slot (some x.priv) = true := by
      rcases hpriv with h | h <;> simp [permits, h]
    exact vendorCmd_not_immediate hin hallow rfl (slotPowerBody_acts hlen hslot hn hact ha hpad hlimit hother hstate)
  case slotState =>
    intro t r s u x hin hu hlen hpad hslot
    subst hu
    refine vendorCmd_query hin rfl (guarded_unrefused ?_ _ _)
    simp [badLen_eq_false hlen, nonZero_eq_false hpad, Nat.not_lt.mpr hslot]
  case timeConfig =>
    intro t r s u x hin hu hpriv hlen hmode hrole hslew hload hpad hvalue harmed
    subst hu
    exact vendorCmd_not_immediate hin (by simp [permits, hpriv]) rfl
      (timeConfigBody_accepts hlen hmode hrole hslew hload hpad hvalue harmed)
  case timeRead =>
    intro t r s u x hin hu hlen hisl
    subst hu
    exact vendorCmd_query hin rfl (timeReadBody_accepts hlen hisl)

end Sys2Proof.Machine
end

section
/-!
PROOFS. Commands of grottos, windows, guards, the directory, events and counters in a session.
-/

namespace Sys2Proof.Machine

/-! ## Windows -/

section
variable {p : Bytes} {s : State} {w : Nat} (hpad : fieldAt p 4 4 = 0) (hwin : w = fieldAt p 0 2) (hw : w ≤ 1023)
  (hlive : (s.cfg.win w).live = true)
include hpad hwin hw hlive

theorem sanitiseBody_query (hlen : p.length = 16) (hact : byteAt p 2 = 0) (hpat : byteAt p 3 = 0) (hseed : fieldAt p 8 8 = 0) :
    sanitiseBody p s = .reply s stOk (sanitiseReply s w) := by
  subst hwin
  refine (guarded_unrefused ?_ _ _).trans ?_
  · simp [badLen_eq_false hlen, nonZero_eq_false hpad, nonZero_eq_false hseed, hact, hpat, Nat.not_lt.mpr hw, hlive]
  · simp only [hact, BEq.rfl, if_true]
    rfl

theorem sanitiseBody_starts (hlen : p.length = 16) (hact : byteAt p 2 = 1) (hpat : byteAt p 3 ≤ 1)
    (hseed : byteAt p 3 = 0 → fieldAt p 8 8 = 0) (hexport : (s.cfg.win w).export_ = 65535) (hheld : heldBusy s w = false)
    (hidle : (s.win w).sanSt ≠ 1) (hresync : resyncRuns s w = false) (harmed : commitArmed s = false) :
    sanitiseBody p s = (let v := startSanitise s w (fieldAt p 8 8) none
      .reply v stOk (sanitiseReply v w)) := by
  subst hwin
  have hfixed : (byteAt p 3 == 0 && nonZero p 8 8) = false := by
    by_cases h : byteAt p 3 = 0
    · simp [nonZero_eq_false (hseed h)]
    · simp [beq_false_of_ne h]
  refine (guarded_unrefused ?_ _ _).trans ?_
  · simp [badLen_eq_false hlen, nonZero_eq_false hpad, hfixed, hact, Nat.not_lt.mpr hpat, Nat.not_lt.mpr hw, hlive, hexport, hheld,
      beq_false_of_ne hidle, hresync, harmed]
  · simp [hact]
    rfl

theorem resyncBody_query (hlen : p.length = 8) (hact : byteAt p 2 = 0) (hrate : byteAt p 3 = 0) :
    resyncBody p s = .reply s stOk (resyncReply s w) := by
  subst hwin
  refine (guarded_unrefused ?_ _ _).trans ?_
  · simp [badLen_eq_false hlen, nonZero_eq_false hpad, hact, hrate, Nat.not_lt.mpr hw, hlive]
  · simp only [hact, BEq.rfl, if_true]

theorem resyncBody_starts (hlen : p.length = 8) (hact : byteAt p 2 = 1) (hrate : 1 ≤ byteAt p 3 ∧ byteAt p 3 ≤ 16)
    (htwin : (s.cfg.win w).twinned = true) (hsome : resyncable s w ≠ []) (hresync : resyncRuns s w = false)
    (hidle : (s.win w).sanSt ≠ 1) (harmed : commitArmed s = false) :
    resyncBody p s = (let v := startResync s w (byteAt p 3)
      .reply v stPending (resyncReply v w)) := by
  subst hwin
  have hrate' : byteAt p 3 ≠ 0 := by omega
  have hsome' : (resyncable s (fieldAt p 0 2)).isEmpty = false := by simpa using hsome
  refine (guarded_unrefused ?_ _ _).trans ?_
  · simp [badLen_eq_false hlen, nonZero_eq_false hpad, hact, beq_false_of_ne hrate', Nat.not_lt.mpr hrate.2, Nat.not_lt.mpr hw, hlive,
      htwin, hsome', hresync, beq_false_of_ne hidle, harmed]
  · simp [hact]

end

/-! ## Slices -/

section
variable {p : Bytes} {s : State} {g sl : Nat} (hlen : p.length = 4) (hgal : g = byteAt p 0) (hg : g ≤ 7) (hslice : sl = byteAt p 1)
  (hsl : sl ≤ 8) (hflag : byteAt p 3 ≤ 1)
include hlen hgal hg hslice hsl hflag

theorem sliceTestBody_query (hact : byteAt p 2 = 0) : sliceTestBody p s = .reply s stOk (testReply s g sl) := by
  subst hgal hslice
  refine (guarded_unrefused ?_ _ _).trans ?_
  · simp [badLen_eq_false hlen, hact, Nat.not_lt.mpr hg, Nat.not_lt.mpr hsl, Nat.not_lt.mpr hflag]
  · simp only [hact, BEq.rfl, if_true]

theorem sliceTestBody_starts (hact : byteAt p 2 = 1) (harmed : commitArmed s = false) (hbusy : sliceBusy s g = false)
    (hspare : (s.slice g sl).role = .active → spareOf s g = none → byteAt p 3 = 1) :
    sliceTestBody p s = .reply (startTest s g sl) stPending (testReply (startTest s g sl) g sl) := by
  subst hgal hslice
  have hcan : ((s.slice (byteAt p 0) (byteAt p 1)).role == .active && (spareOf s (byteAt p 0)).isNone && byteAt p 3 == 0) = false := by
    rw [Bool.eq_false_iff]
    intro h
    simp only [Bool.and_eq_true, beq_iff_eq, Option.isNone_iff_eq_none, and_assoc] at h
    obtain ⟨hrole, hnone, hzero⟩ := h
    have hone := hspare hrole hnone
    omega
  refine (guarded_unrefused ?_ _ _).trans ?_
  · simp [badLen_eq_false hlen, hact, Nat.not_lt.mpr hg, Nat.not_lt.mpr hsl, Nat.not_lt.mpr hflag, harmed, hbusy, hcan]
  · simp [hact]

end

/-! ## Events -/

section
variable {p : Bytes} {s : State} (hlen : p.length = 8) (hfrom : seqAge s (fieldAt p 0 4) ≤ 2 ^ 31) (hmax : fieldAt p 4 2 ≤ 511)
  (hpad : fieldAt p 7 1 = 0)
include hlen hfrom hmax hpad

/-- What `EVENT_READ` answers from, by its retire flag. -/
theorem eventReadBody_accepts (hflag : byteAt p 6 ≤ 1) :
    eventReadBody p s = (let v := if byteAt p 6 = 1 then
        { s with ev := { s.ev with queue := s.ev.queue.filter (fun e => decide (seqAge s e.1 ≤ seqAge s (fieldAt p 0 4))) } }
      else s
      .reply v stOk (eventReply v (fieldAt p 0 4) (fieldAt p 4 2))) := by
  refine (guarded_unrefused ?_ _ _).trans ?_
  · simp only [badLen_eq_false hlen, Nat.not_lt.mpr hfrom, Nat.not_lt.mpr hmax, Nat.not_lt.mpr hflag, nonZero_eq_false hpad,
      decide_false, Bool.or_self, refusalOf_cons_false, refusalOf_nil]
  · simp only [beq_iff_eq]

end

theorem maskBad_eq_false_length {p : Bytes} (h : maskBad p = false) : p.length = 12 := by
  simp only [maskBad, badLen, Bool.or_eq_false_iff, decide_eq_false_iff_not, not_not] at h
  tauto

theorem eventMaskBody_query {p : Bytes} {s : State} (hact : byteAt p 1 = 1) (hbad : maskBad p = false) :
    eventMaskBody p s = (let m := tget {} s.ev.masks (byteAt p 0)
      .reply s stOk (leBytes 1 (byteAt p 0) ++ leBytes 1 1 ++ leBytes 1 m.sevMask ++ zeros 1 ++ leBytes 2 m.code ++ leBytes 2 m.lo ++
        leBytes 2 m.hi ++ zeros 6 ++ leBytes 8 m.suppressed)) := by
  refine (guarded_unrefused (by simp [hbad]) _ _).trans ?_
  simp only [hact, BEq.rfl, if_true]

theorem eventMaskBody_sets {p : Bytes} {s : State} (hact : byteAt p 1 = 0) (hbad : maskBad p = false) :
    eventMaskBody p s = (
      let m : MaskEnt := { code := fieldAt p 4 2, sevMask := byteAt p 2, lo := fieldAt p 6 2, hi := fieldAt p 8 2 }
      .reply { s with ev := { s.ev with masks := tput {} s.ev.masks (byteAt p 0) m } } stOk []) := by
  refine (guarded_unrefused (by simp [hbad]) _ _).trans ?_
  simp [hact]

theorem snapshotBody_accepts {p : Bytes} {s : State} (hlen : p.length = 8) (hblock : 1 ≤ byteAt p 0 ∧ byteAt p 0 ≤ 9)
    (hpad1 : fieldAt p 1 1 = 0) (hpad6 : fieldAt p 6 2 = 0) (hinst : instOk s (byteAt p 0) (fieldAt p 2 2) = true)
    (hcount : byteAt p 4 + byteAt p 5 ≤ idxCount (byteAt p 0)) :
    snapshotBody p s = .reply s stOk (snapReply s (byteAt p 0) (fieldAt p 2 2) (byteAt p 4) (byteAt p 5)) := by
  have hblock' : byteAt p 0 ≠ 0 := by omega
  refine (guarded_unrefused ?_ _ _).trans rfl
  simp [badLen_eq_false hlen, beq_false_of_ne hblock', Nat.not_lt.mpr hblock.2, nonZero_eq_false hpad1, nonZero_eq_false hpad6, hinst,
    Nat.not_lt.mpr hcount]

/-- Settles O59: each command runs in the session with its privilege, and its body accepts the payload. -/
theorem memoryDirectoryAndEventCommands : Obligations.MemoryDirectoryAndEventCommands := by
  unfold Obligations.MemoryDirectoryAndEventCommands
  refine ⟨?grottoRecall, ?grottoState, ?sanitiseQuery, ?sanitiseStarts, ?resyncQuery, ?resyncStarts, ?violRead, ?violClear, ?testQuery,
    ?testStarts, ?stats, ?eventsRead, ?eventsRetire, ?maskQuery, ?maskSets, ?snapshot⟩
  case grottoRecall =>
    intro t r n s u x hin hu hpriv hlen hpad hgr hn hlive hbound hshared hcmd harmed
    subst hu hgr
    refine ownerCmd_acts hin hpriv (.inr rfl) (guarded_unrefused ?_ _ _)
    simp [harmed, badLen_eq_false hlen, nonZero_eq_false hpad, Nat.not_lt.mpr hn, hlive, hbound, hshared, hcmd]
  case grottoState =>
    intro t r s u x hin hu hlen hpad hn
    subst hu
    refine vendorCmd_query hin rfl (guarded_unrefused ?_ _ _)
    simp [badLen_eq_false hlen, nonZero_eq_false hpad, Nat.not_lt.mpr hn]
  case sanitiseQuery =>
    intro t r w s u x hin hu hlen hpad hwin hw hlive hact hpat hseed
    subst hu
    exact mixedCmd_query hin (by omega) hact (sanitiseBody_query hpad hwin hw hlive hlen hact hpat hseed)
  case sanitiseStarts =>
    intro t r w v s u x hin hu hpriv hlen hpad hwin hw hlive hact hpat hseed hexport hheld hidle hresync harmed hv
    subst hu hv
    exact mixedCmd_acts hin hpriv (by omega) (.inl rfl)
      (sanitiseBody_starts hpad hwin hw hlive hlen hact hpat hseed hexport hheld hidle hresync harmed)
  case resyncQuery =>
    intro t r w s u x hin hu hlen hpad hwin hw hlive hact hrate
    subst hu
    exact mixedCmd_query hin (by omega) hact (resyncBody_query hpad hwin hw hlive hlen hact hrate)
  case resyncStarts =>
    intro t r w v s u x hin hu hpriv hlen hpad hwin hw hlive hact hrate htwin hsome hresync hidle harmed hv
    subst hu hv
    exact mixedCmd_acts hin hpriv (by omega) (.inr rfl)
      (resyncBody_starts hpad hwin hw hlive hlen hact hrate htwin hsome hresync hidle harmed)
  case violRead =>
    intro t r s u x hin hu hlen hpad hport
    subst hu
    refine vendorCmd_query hin rfl (guarded_unrefused ?_ _ _)
    simp [violBad, badLen_eq_false hlen, nonZero_eq_false hpad, Nat.not_lt.mpr hport]
  case violClear =>
    intro t r s u x hin hu hpriv hlen hpad hport
    subst hu
    refine ownerCmd_acts hin hpriv (.inl rfl) (guarded_unrefused ?_ _ _)
    simp [violBad, badLen_eq_false hlen, nonZero_eq_false hpad, Nat.not_lt.mpr hport]
  case testQuery =>
    intro t r g sl s u x hin hu hlen hgal hg hslice hsl hact hflag
    subst hu
    exact mixedCmd_query hin (by omega) hact (sliceTestBody_query hlen hgal hg hslice hsl hflag hact)
  case testStarts =>
    intro t r g sl s u x hin hu hpriv hlen hgal hg hslice hsl hact hflag harmed hbusy hspare
    subst hu
    exact mixedCmd_acts hin hpriv (by omega) (.inr rfl)
      (sliceTestBody_starts hlen hgal hg hslice hsl hflag hact harmed hbusy hspare)
  case stats =>
    intro t r s u x hin hu hlen hpad hg hsl
    subst hu
    refine vendorCmd_query hin rfl (guarded_unrefused ?_ _ _)
    simp [badLen_eq_false hlen, nonZero_eq_false hpad, Nat.not_lt.mpr hg, Nat.not_lt.mpr hsl]
  case eventsRead =>
    intro t r s u x hin hu hlen hfrom hmax hflag hpad
    subst hu
    have hbody := eventReadBody_accepts hlen hfrom hmax hpad (by omega)
    refine vendorCmd_query hin ?_ (hbody.trans ?_)
    · simp [hlen, hflag]
    · simp [hflag]
  case eventsRetire =>
    intro t r v s u x hin hu hpriv hlen hfrom hmax hflag hpad hv
    subst hu hv
    have hbody := eventReadBody_accepts hlen hfrom hmax hpad (by omega)
    refine vendorCmd_not_immediate hin ?_ rfl (hbody.trans ?_)
    · simp [permits, hlen, hflag, hpriv]
    · simp [hflag]
  case maskQuery =>
    intro t r m s u x hin hu hact hbad hm
    subst hu hm
    have hlen := maskBad_eq_false_length hbad
    exact mixedCmd_query hin (by omega) hact (eventMaskBody_query hact hbad)
  case maskSets =>
    intro t r s u x hin hu hpriv hact hbad
    subst hu
    exact vendorCmd_not_immediate hin (hpriv ▸ mixed_owner 1 [1] r) rfl (eventMaskBody_sets hact hbad)
  case snapshot =>
    intro t r s u x hin hu hallow hlen hblock hpad1 hpad6 hinst hcount
    subst hu
    exact vendorCmd_not_immediate hin hallow rfl (snapshotBody_accepts hlen hblock hpad1 hpad6 hinst hcount)

end Sys2Proof.Machine
end

section
/-!
PROOFS. The standard interfaces: FM API commands (R309, R310), MCTP control messages (R308) and the mailbox of a grotto.
-/

namespace Sys2Proof.Machine

theorem fmUp_of {s : State} {t : Transport} (hans : answering s = true) (hbox : mailboxAgent t = none) : fmUp s t = true := by
  simp [fmUp, hans, hbox]

/-- While the part answers, an FM API command is answered with its values. -/
theorem fmReply_answers {s : State} {t : Transport} (hans : answering s = true) (hbox : mailboxAgent t = none) (op rc : Nat)
    (vals : List Nat) : fmReply s t op rc vals = .next (extReply s 0 (transportNo t) op rc vals) :=
  exec_due_true _ _ _ (fmUp_of hans hbox)

theorem mctpUp_of {s : State} {t : Transport} (hans : answering s = true) (hup : mailboxAgent t = none ∨ firmwareUp s = true) :
    mctpUp s t = true := by
  rcases hup with h | h <;> simp [mctpUp, hans, h]

/-- On a transport that exists, an MCTP control message is answered with its values. -/
theorem mctpReply_answers {s : State} {t : Transport} (hans : answering s = true) (hup : mailboxAgent t = none ∨ firmwareUp s = true)
    (op : Nat) (vals : List Nat) : mctpReply s t op vals = .next (extReply s 1 (transportNo t) op 0 vals) :=
  exec_due_true _ _ _ (mctpUp_of hans hup)

/-- The mailbox of a bound grotto answers, whatever the command left of the state. -/
theorem mailReply_answers {s : State} {grotto : Nat} (hup : mailboxUp s grotto = true) (op rc : Nat) (vals : List Nat) (u : State) :
    mailReply s grotto op rc vals u = .next (extReply u 2 grotto op rc vals) :=
  exec_due_true _ _ _ hup

/-- Settles O60: each command is the reply of its interface, which answers. -/
theorem standardInterfaces : Obligations.StandardInterfaces := by
  unfold Obligations.StandardInterfaces
  refine ⟨?identify, ?background, ?getLimit, ?setLimit, ?switch, ?ports, ?virtual, ?control, ?config, ?bind, ?unbind, ?aer, ?fmOther,
    ?setEid, ?getEid, ?version, ?types, ?vendorSet, ?address, ?memory, ?partition, ?records, ?clearRecords, ?getPolicy, ?setPolicy,
    ?mailOther⟩
  case identify | background | getLimit | switch | control | config | bind | unbind | aer =>
    intro t s hans hbox
    exact fmReply_answers hans hbox _ _ _
  case setLimit =>
    intro t limit s u hans hbox hu
    subst hu
    refine (congrArg (fun v => fmReply v t 4 0 [limit % 256]) (if_pos (fmUp_of hans hbox))).trans ?_
    exact fmReply_answers (by exact hans) hbox _ _ _
  case ports =>
    intro t ports s hans hbox hports
    refine (fmReply_answers hans hbox _ _ _).trans ?_
    rw [if_pos hports, if_pos hports]
  case virtual =>
    intro t vcs s hans hbox hlive
    refine (fmReply_answers hans hbox _ _ _).trans ?_
    rw [if_pos hlive, if_pos hlive]
    rfl
  case fmOther =>
    intro t op s hans hbox hop
    exact (if_neg (by simpa using hop)).trans (fmReply_answers hans hbox _ _ _)
  case setEid =>
    intro t eid s u hans hup hu
    subst hu
    refine (congrArg (fun v => mctpReply v t 1 [eid % 256]) (if_pos (mctpUp_of hans hup))).trans ?_
    exact mctpReply_answers (by exact hans) (by exact hup) _ _
  case getEid =>
    intro t s hans hup
    exact mctpReply_answers hans hup _ _
  case version =>
    intro t msgType s hans hup
    refine (congrArg (fun v => mctpReply v t 4 [msgType, (draw s).1]) (if_pos (mctpUp_of hans hup))).trans ?_
    exact mctpReply_answers (by exact hans) (by exact hup) _ _
  case types =>
    intro t s hans hup
    refine (mctpReply_answers hans hup _ _).trans ?_
    simp only [Option.isNone_iff_eq_none]
  case vendorSet =>
    intro t sel s hans hup
    refine (mctpReply_answers hans hup _ _).trans ?_
    simp only [beq_iff_eq]
  case address =>
    intro t addr s hans ht
    refine exec_due_true _ _ _ ?_
    rcases ht with rfl | rfl <;> simp [hans]
  case memory | partition | getPolicy =>
    intro grotto s hup
    exact mailReply_answers hup _ _ _ _
  case records =>
    intro grotto log s hup
    refine (mailReply_answers hup _ _ _ _).trans ?_
    by_cases h : log = 2 <;> simp [h]
  case clearRecords =>
    intro grotto log handles s hup
    refine (mailReply_answers hup _ _ _ _).trans ?_
    simp only [beq_iff_eq]
  case setPolicy =>
    intro grotto policy s hup
    exact mailReply_answers hup _ _ _ _
  case mailOther =>
    intro grotto op s hup
    exact mailReply_answers hup _ _ _ _

end Sys2Proof.Machine
end

section
/-!
PROOFS. One drip (R14, R26): with nothing under way only the two counts go up, and the latch takes the counters at a sweep's edge.
-/

namespace Sys2Proof.Machine

theorem forEach_fixed {α : Type} {l : List α} {s : State} {f : State → α → State} (h : ∀ a ∈ l, f s a = s) : forEach l s f = s := by
  unfold forEach
  induction l with
  | nil => rfl
  | cons a l ih =>
    rw [List.foldl_cons, h a List.mem_cons_self]
    exact ih fun b hb => h b (List.mem_cons_of_mem _ hb)

/-- What has nothing waiting is not visited. -/
theorem forEach_filter_none {α : Type} {l : List (Nat × α)} {p : Nat × α → Bool} (h : ∀ e ∈ l, p e = false) (s : State)
    (f : State → Nat → State) : forEach ((l.filter p).map (·.1)) s f = s := by
  have hnil : l.filter p = [] := List.filter_eq_nil_iff.mpr fun e he => by simp [h e he]
  rw [hnil]
  rfl

theorem atRest_iff (s : State) :
    atRest s = true ↔
      ((∀ g < 8, tget [] s.cfg.progs g = []) ∧ ∀ p < 32, (s.pas p).xoff = 0) ∧
      (s.mgmt.bridge = [] ∧ (∀ e ∈ s.core.pas, (s.pas e.1).plan = []) ∧
        (∀ e ∈ s.port.ports, e.2.forming = [] ∧ e.2.waiting = [])) ∧
      (∀ e ∈ s.echo.isls, e.2.held = []) ∧ (∀ e ∈ s.core.gals, e.2.outWait = []) ∧ ∀ e ∈ s.sched, e.2.sending = [] := by
  simp only [atRest, Bool.and_eq_true, List.all_eq_true, List.isEmpty_iff, beq_iff_eq, List.mem_range, and_assoc]

/-- No counter has a state to count, and no passage holds a class off. -/
theorem countDrip_at_rest {s : State} (h : atRest s = true) : countDrip s = s := by
  obtain ⟨⟨hprogs, hxoff⟩, -⟩ := (atRest_iff s).mp h
  have hlevels : forEach (List.range 8) s countLevels = s :=
    forEach_fixed fun g hg => by simp [countLevels, hprogs g (List.mem_range.mp hg)]
  rw [countDrip, hlevels]
  exact forEach_fixed fun p hp => by simp [countHeldOff, hxoff p (List.mem_range.mp hp)]

theorem launchDue_without_plan {s : State} {p : Nat} (h : (s.pas p).plan = []) : launchDue s p = s := by
  simp [launchDue, h]

theorem drainBridge_empty {s : State} (h : s.mgmt.bridge = []) : drainBridge s = s := by
  simp [drainBridge, h]

/-- Nothing is carried on. -/
theorem serveDrip_at_rest {s : State} (h : atRest s = true) : serveDrip s = s := by
  obtain ⟨-, ⟨hbridge, hplan, hports⟩, hheld, hout, hsend⟩ := (atRest_iff s).mp h
  have hlaunch : launchAll s = s := forEach_fixed fun p hp => by
    obtain ⟨e, he, rfl⟩ := List.mem_map.mp hp
    exact launchDue_without_plan (hplan e he)
  have hserve : servePorts s = s := forEach_filter_none (fun e he => by simp [hports e he]) _ _
  have hseal : forEach ((s.echo.isls.filter (fun e => !e.2.held.isEmpty)).map (·.1)) s serveHeld = s :=
    forEach_filter_none (fun e he => by simp [hheld e he]) _ _
  have hretry : forEach ((s.core.gals.filter (fun e => !e.2.outWait.isEmpty)).map (·.1)) s retryOut = s :=
    forEach_filter_none (fun e he => by simp [hout e he]) _ _
  rw [serveDrip, drainBridge_empty hbridge, hlaunch, hserve, hseal, hretry]
  exact forEach_filter_none (fun e he => by simp [hsend e he]) _ _

/-- The counts of one more drip (R14). -/
def State.nextDrip (s : State) : State :=
  { s with time := { s.time with drip := (s.time.drip + 1) % 2 ^ 64, elapsed := s.time.elapsed + 1 } }

theorem tick_at_rest {s : State} (hrst : s.mgmt.coldRst = false) (h : atRest s = true) :
    tick s = takeEdge s.nextDrip := by
  have hstill : atRest (takeEdge s.nextDrip) = true := by
    unfold takeEdge
    split <;> exact h
  rw [tick, if_neg (by simp [hrst]), countDrip_at_rest h]
  exact serveDrip_at_rest hstill

theorem step_without_command {s : State} (h : s.pending = []) : step s = .next (tick s) := by
  rw [step, h]

/-- Settles O2: at rest a drip is its counts and the edge of the sweep. -/
theorem stepOnEmptyQueueIsOneDrip : Obligations.StepOnEmptyQueueIsOneDrip := by
  unfold Obligations.StepOnEmptyQueueIsOneDrip
  refine ⟨fun s hq => ?any, fun s hq hrst => ?cold, fun s hq hrst h hoff => ?between, fun s hq hrst h hedge => ?edge⟩
  case any =>
    obtain ⟨hkey, hroll, hpend⟩ := held_parts (held_tick s)
    exact ⟨tick s, step_without_command hq, hpend.trans hq, hkey, hroll⟩
  case cold => rw [step_without_command hq, tick, if_pos hrst]
  case between =>
    rw [step_without_command hq, tick_at_rest hrst h, takeEdge, if_neg]
    · rfl
    · exact fun hedge => hoff (beq_iff_eq.mp hedge)
  case edge =>
    rw [step_without_command hq, tick_at_rest hrst h, takeEdge, if_pos]
    · rfl
    · exact beq_iff_eq.mpr hedge

end Sys2Proof.Machine
end

section
/-!
PROOFS. Cold reset (R293, R385, R390) and the system references (R15, R16).
-/

namespace Sys2Proof.Machine

/-! ## Cold reset -/

theorem exec_coldResetRelease_early {s : State} (bootSel : Nat)
    (h : s.mgmt.coldRst = false ∨ s.pin.thermTripN = false ∨ s.time.refA.good = false ∧ s.time.refB.good = false) :
    exec (.coldResetRelease bootSel) s = .next s := by
  refine if_pos ?_
  rcases h with h | h | ⟨hA, hB⟩ <;> simp [*]

theorem PinSt.thermTripN_eta {p : PinSt} (h : p.thermTripN = true) : { p with thermTripN := true } = p := by
  rw [← h]

theorem PinSt.pwrOk_eta {p : PinSt} (h : p.pwrOk = true) : { p with pwrOk := true } = p := by
  rw [← h]

/-- The held state released with the boot port of `BOOT_SEL`, its pins as given. -/
def releasedWith (s : State) (bootSel : Nat) (p : PinSt) : State :=
  { coldState s with
    mgmt := { (coldState s).mgmt with coldRst := false, bootPort := if bootSel % 2 = 0 then 0 else 256 }
    pin := p }

/-- A release in turn: the held state, its reset ended, on reference A if that is good. -/
theorem exec_coldResetRelease {s : State} (bootSel : Nat) (hrst : s.mgmt.coldRst = true) (htrip : s.pin.thermTripN = true)
    (hgood : s.time.refA.good = true ∨ s.time.refB.good = true) :
    exec (.coldResetRelease bootSel) s =
      (let u := releasedWith s bootSel { (coldState s).pin with pwrOk := true, coldRstN := true, thermTripN := true }
       .next (if s.time.refA.good then u else selectRef u 1)) := by
  have hpin : ({ (coldState s).pin with pwrOk := true, coldRstN := true, thermTripN := true } : PinSt) =
      { (coldState s).pin with pwrOk := true, coldRstN := true } :=
    PinSt.thermTripN_eta (p := { (coldState s).pin with pwrOk := true, coldRstN := true }) htrip
  refine (if_neg ?_).trans ?_
  · rcases hgood with h | h <;> simp [hrst, htrip, h]
  · rw [hpin]
    simp only [beq_iff_eq]
    rfl

/-- A trip with power good: the held state, `THERM_TRIP_N` low. -/
theorem exec_thermalTrip {die temp : Nat} {s : State} (hdie : die ≤ 12) (htemp : 118 ≤ temp) (hpwr : s.pin.pwrOk = true) :
    exec (.thermalTrip die temp) s =
      .next { coldState s with pin := { (coldState s).pin with thermTripN := false, pwrOk := true } } := by
  have hpin : ({ (coldState s).pin with thermTripN := false, pwrOk := true } : PinSt) =
      { (coldState s).pin with thermTripN := false } :=
    PinSt.pwrOk_eta (p := { (coldState s).pin with thermTripN := false }) hpwr
  rw [hpin]
  exact exec_due_true _ _ _ (by simp [hdie, htemp, hpwr])

/-- Settles O8: every clause is the held state, with what its cause drives. -/
theorem coldReset : Obligations.ColdReset := by
  unfold Obligations.ColdReset
  refine ⟨fun s => rfl, fun s => rfl, ?releaseA, ?releaseB, ?early, ?trip, ?cool⟩
  case releaseA =>
    intro bootSel s hrst htrip hA
    exact (exec_coldResetRelease bootSel hrst htrip (.inl hA)).trans (congrArg Host.Outcome.next (if_pos hA))
  case releaseB =>
    intro bootSel s hrst htrip hA hB
    exact (exec_coldResetRelease bootSel hrst htrip (.inr hB)).trans (congrArg Host.Outcome.next (if_neg (by simp [hA])))
  case early =>
    intro bootSel s h
    exact exec_coldResetRelease_early bootSel h
  case trip =>
    intro die temp s hdie htemp hpwr
    rw [exec_thermalTrip hdie htemp hpwr]
    rfl
  case cool =>
    intro die temp s h
    refine exec_due_false _ _ _ ?_
    rcases h with h | h | h
    · simp [Nat.not_le.mpr h]
    · simp [Nat.not_le.mpr h]
    · simp [h]

/-! ## The system references -/

section
variable (s : State) (k : Nat) (f : RefIn → RefIn)

@[simp] theorem modRef_drip : (modRef s k f).drip = s.drip := by
  unfold modRef
  split <;> rfl

@[simp] theorem modRef_sel : (modRef s k f).time.sel = s.time.sel := by
  unfold modRef
  split <;> rfl

@[simp] theorem modRef_holdover : (modRef s k f).time.holdover = s.time.holdover := by
  unfold modRef
  split <;> rfl

@[simp] theorem forced_modRef : forced (modRef s k f) = forced s := by
  unfold modRef
  split <;> rfl

end

/-- Changing one reference leaves the other as it was. -/
theorem refIn_modRef_other {ref : Nat} (h : ref < 2) (s : State) (f : RefIn → RefIn) :
    refIn (modRef s ref f) (1 - ref) = refIn s (1 - ref) := by
  match ref with
  | 0 => rfl
  | 1 => rfl

/-- A reference lost, and reported, before the PLL looks for another. -/
def loseRef (s : State) (ref : Nat) : State :=
  raiseTime (modRef s ref (fun x => { x with good := false })) (1573 + ref) 3 1 65535 s.drip

theorem exec_refClockLost {s : State} {ref : Nat} (href : ref < 2) (hgood : (refIn s ref).good = true) :
    exec (.refClockLost ref) s = .next (
      if s.time.sel ≠ ref ∨ s.time.holdover = true then loseRef s ref
      else if forced s = false ∧ (refIn s (1 - ref)).good = true then selectRef (loseRef s ref) (1 - ref)
      else enterHoldover (loseRef s ref)) := by
  have hother : refIn (loseRef s ref) (1 - ref) = refIn s (1 - ref) := refIn_modRef_other href s _
  have hforced : forced (loseRef s ref) = forced s := forced_modRef s ref _
  have hsel : (loseRef s ref).time.sel = s.time.sel := modRef_sel s ref _
  have hhold : (loseRef s ref).time.holdover = s.time.holdover := modRef_holdover s ref _
  have hexec : exec (.refClockLost ref) s =
      if (loseRef s ref).time.sel != ref || (loseRef s ref).time.holdover then .next (loseRef s ref)
      else if !forced (loseRef s ref) && (refIn (loseRef s ref) (1 - ref)).good then .next (selectRef (loseRef s ref) (1 - ref))
      else .next (enterHoldover (loseRef s ref)) := by
    refine (if_neg (by simp [href, hgood])).trans ?_
    simp only [modRef_drip]
    rfl
  rw [hexec, hsel, hhold, hforced, hother]
  simp only [Bool.or_eq_true, bne_iff_ne, Bool.and_eq_true, Bool.not_eq_true']
  split
  · rfl
  · split <;> rfl

/-- A reference that has been good for a second. -/
theorem exec_refGoodTimer {s : State} {ref : Nat} (href : ref < 2) (hgood : (refIn s ref).good = true)
    (hsince : (refIn s ref).goodSince + 800000000 ≤ s.now) :
    exec (.refGoodTimer ref) s =
      match s.time.refMode with
      | 1 => due (ref == 0 && (s.time.sel == 1 || s.time.holdover)) s (selectRef s 0)
      | 2 => due (ref == 0 && s.time.holdover) s (selectRef s 0)
      | 3 => due (ref == 1 && s.time.holdover) s (selectRef s 1)
      | _ => .next s := by
  refine (if_neg ?_).trans rfl
  simp [href, hgood, Nat.not_lt.mpr hsince]

/-- Settles O10: a loss, by what the PLL finds; a return, by the mode. -/
theorem systemReferences : Obligations.SystemReferences := by
  unfold Obligations.SystemReferences
  refine ⟨?gives, ?holds, ?reported, ?restored, ?reverts, ?returns, ?split⟩
  case gives =>
    intro ref s href hgood hsel hhold hauto hother
    rw [exec_refClockLost href hgood, if_neg (by simp [hsel, hhold]), if_pos ⟨hauto, hother⟩]
    rfl
  case holds =>
    intro ref s href hgood hsel hhold hnone
    rw [exec_refClockLost href hgood, if_neg (by simp [hsel, hhold]), if_neg]
    · rfl
    · rcases hnone with h | h <;> simp [h]
  case reported =>
    intro ref s href hgood hother
    rw [exec_refClockLost href hgood, if_pos hother]
    rfl
  case restored =>
    intro ref s href hlost
    refine (if_neg (by simp [href, hlost])).trans ?_
    simp only [modRef_holdover, forced_modRef]
  case reverts =>
    intro s hgood hsince hmode hoff
    rw [exec_refGoodTimer (ref := 0) (by decide) hgood hsince, hmode]
    refine exec_due_true _ _ _ ?_
    rcases hoff with h | h <;> simp [h]
  case returns =>
    intro ref s href hgood hsince hmode hhold
    rw [exec_refGoodTimer href hgood hsince, hmode]
    match ref with
    | 0 => exact exec_due_true _ _ _ (by simp [hhold])
    | 1 => exact exec_due_true _ _ _ (by simp [hhold])
  case split =>
    intro bad s hbad
    exact exec_due_true _ _ _ (by simp [hbad])

end Sys2Proof.Machine
end

section
/-!
PROOFS. Beacons (R17 to R19) and the recalibration of an unsure island (R20).
-/

namespace Sys2Proof.Machine

/-! ## Beacons -/

theorem poweredDown_beq_false {x : Island} (h : x.st ≠ .poweredDown) : (x.st == .poweredDown) = false :=
  beq_false_of_ne h

theorem not_far_of_beaconGood {beacon at64 : Nat} {crcOk : Bool} {phase : Int} (h : beaconGood beacon at64 crcOk phase = true) :
    crcOk = true ∧ ¬ 16 < phase.natAbs := by
  simp only [beaconGood, Bool.and_eq_true, decide_eq_true_eq] at h
  obtain ⟨⟨⟨hcrc, -⟩, -⟩, hnear⟩ := h
  exact ⟨hcrc, by omega⟩

section
variable {island beacon at64 : Nat} {phase : Int} {s : State} (hwatch : watched island = true)
  (hup : (s.isl island).st ≠ .poweredDown) (hbeacon : beacon % 1024 = 0)
include hwatch hup hbeacon

theorem exec_beaconReceived_good {crcOk : Bool} (hgood : beaconGood beacon at64 crcOk phase = true)
    (hnew : (s.isl island).judged ≤ beacon) :
    exec (.beaconReceived island beacon at64 crcOk phase) s = .next ((s.modIsl island (fun x => { x with phase := sat16 phase })).modIsl
      island (fun x => { x with
        missed := 0, judged := beacon + 1, goodRun := min 16 (x.goodRun + 1)
        slew := if x.st == .sure then x.slew + max (-1) (min 1 phase) else x.slew })) := by
  obtain ⟨rfl, hnear⟩ := not_far_of_beaconGood hgood
  refine (if_neg (by simp [hwatch, poweredDown_beq_false hup, hbeacon])).trans ?_
  refine (if_neg (by simp [hnear])).trans ?_
  exact if_pos (by simp [hgood, hnew])

theorem exec_beaconReceived_far (hfar : 16 < phase.natAbs) :
    exec (.beaconReceived island beacon at64 true phase) s =
      .next (becomeUnsure (s.modIsl island (fun x => { x with phase := sat16 phase })) island) := by
  refine (if_neg (by simp [hwatch, poweredDown_beq_false hup, hbeacon])).trans ?_
  exact if_pos (by simp [hfar])

theorem exec_beaconMissed (hlate : beacon + 32 ≤ s.drip) (hnew : (s.isl island).judged ≤ beacon) :
    exec (.beaconMissed island beacon) s =
      (let u := s.modIsl island (fun x => { x with
        missed := min 8 (x.missed + 1), fails := sat 32 (x.fails + 1), goodRun := runAfterMiss x, judged := beacon + 1 })
       .next (if 8 ≤ (u.isl island).missed then becomeUnsure u island else u)) :=
  if_neg (by simp [hwatch, poweredDown_beq_false hup, hbeacon, Nat.not_lt.mpr hlate, Nat.not_lt.mpr hnew])

end

theorem becomeUnsure_of_running {island : Nat} {s : State} (h : (s.isl island).st = .sure ∨ (s.isl island).st = .calibrating) :
    becomeUnsure s island =
      (let u := s.modIsl island (fun x => { x with st := .unsure, unsure := true, goodRun := 0, since := s.drip })
       unsureEffect (if (s.isl island).unsure then u else raiseTime u 1576 1 (unsureSev island) island s.drip) island) :=
  if_pos (by rcases h with h | h <;> simp [h])

theorem becomeUnsure_of_other {island : Nat} {s : State} (hsure : (s.isl island).st ≠ .sure) (hcal : (s.isl island).st ≠ .calibrating) :
    becomeUnsure s island = s :=
  if_neg (by simp [hsure, hcal])

/-- Settles O11: a copy or a miss is judged once, and an island that was in step leaves it. -/
theorem beacons : Obligations.Beacons := by
  unfold Obligations.Beacons
  refine ⟨?sent, ?good, ?far, ?missed, ?unsure, ?other⟩
  case sent =>
    intro s h
    exact exec_due_true _ _ _ (by simp [h])
  case good =>
    intro island beacon at64 crcOk phase s hwatch hup hbeacon hgood hnew
    exact exec_beaconReceived_good hwatch hup hbeacon hgood hnew
  case far =>
    intro island beacon at64 phase s hwatch hup hbeacon hfar
    exact exec_beaconReceived_far hwatch hup hbeacon hfar
  case missed =>
    intro island beacon s hwatch hup hbeacon hlate hnew
    exact ⟨_, rfl, exec_beaconMissed hwatch hup hbeacon hlate hnew⟩
  case unsure =>
    intro island s h
    exact ⟨_, rfl, becomeUnsure_of_running h⟩
  case other =>
    intro island s hsure hcal
    exact becomeUnsure_of_other hsure hcal

/-! ## Recalibration -/

/-- The island sure again, and reported. -/
def sureAgain (s : State) (island delay : Nat) : State :=
  raiseTime (s.modIsl island (fun x => { x with st := .sure, unsure := false, missed := 0, cal := delay % 65536, since := s.drip }))
    1576 2 0 island s.drip

/-- What the end of a calibration lets go on, by the place of the island. -/
def afterCalibration (s : State) (island : Nat) : State :=
  if island < 248 then
    if island % 31 = 16 then
      let u := s.modGal (island / 31) (fun x => if x.unsureSince.isSome then { x with resumeAt := some s.now } else x)
      forEach ((List.range 4).filter (fun c => pasAlive u (4 * (island / 31) + c))) u (fun v c =>
        sendSb v { type := 5, from_ := island / 31, col := c, dest := 8, body := [7, island / 31, v.drip % 2 ^ 32] })
    else if 27 ≤ island % 31 then
      passageCalCheck (columnCalCheck s (island % 31 - 27)) (4 * (island / 31) + (island % 31 - 27))
    else s
  else if island < 284 then
    let u := columnCalCheck s ((island - 248) / 9)
    if 1 ≤ (island - 248) % 9 then passageCalCheck u (4 * ((island - 248) % 9 - 1) + (island - 248) / 9) else u
  else s

theorem exec_calibrationEnd {island : Nat} {s : State} (delay : Nat) (hwatch : watched island = true)
    (hst : (s.isl island).st = .calibrating) (hfw : firmwareUp s = true) (hready : calReady s island = true) :
    exec (.calibrationEnd island delay) s = .next (afterCalibration (sureAgain s island delay) island) := by
  refine (if_neg (by simp [hwatch, hst, hfw, hready])).trans ?_
  simp only [afterCalibration, beq_iff_eq]
  split
  · split
    · rfl
    · split <;> rfl
  · split <;> rfl

/-- Settles O12: the end of a calibration, by the place of the island. -/
theorem recalibration : Obligations.Recalibration := by
  unfold Obligations.Recalibration
  refine ⟨?start, ?service, ?core, ?passage, ?column, fun i s => rfl, ?run⟩
  case start =>
    intro island s hfw hwatch hfree hst hrun
    exact exec_due_true _ _ _ (by simp [hfw, hwatch, hfree, hst, hrun])
  case service =>
    intro island delay s hwatch hst hfw hready hplace
    rw [exec_calibrationEnd delay hwatch hst hfw hready, afterCalibration]
    rcases hplace with h | ⟨hlt, hcore, hpas⟩
    · rw [if_neg (by omega), if_neg (by omega)]
      rfl
    · rw [if_pos hlt, if_neg hcore, if_neg (by omega)]
      rfl
  case core =>
    intro island delay s hwatch hst hfw hready hlt hcore
    refine ⟨_, rfl, ?_⟩
    rw [exec_calibrationEnd delay hwatch hst hfw hready, afterCalibration, if_pos hlt, if_pos hcore]
    rfl
  case passage =>
    intro island delay s hwatch hst hfw hready hlt hpas
    rw [exec_calibrationEnd delay hwatch hst hfw hready, afterCalibration, if_pos hlt, if_neg (by omega), if_pos hpas]
    rfl
  case column =>
    intro island delay s hwatch hst hfw hready hge hlt
    refine ⟨_, rfl, ?_⟩
    rw [exec_calibrationEnd delay hwatch hst hfw hready, afterCalibration, if_neg (by omega), if_pos hlt]
    rfl
  case run =>
    intro x
    simp only [runAfterMiss, Bool.and_eq_true, beq_iff_eq]

end Sys2Proof.Machine
end

section
/-!
PROOFS. Arming and launching an action (R22, R27, R30), and the follower of `TIME_PPS_IN` (R29, R30).
-/

namespace Sys2Proof.Machine

/-! ## Arming and launching -/

theorem exec_armMessage {arm island : Nat} {a : Arm} {s : State} (ha : armOf s arm = some a) (hmem : a.islands.contains island = true)
    (hnew : a.acked.contains island = false) (hcal : (s.isl island).st ≠ .calibrating) (hdown : (s.isl island).st ≠ .poweredDown) :
    exec (.armMessage arm island) s = .next (if a.at_ ≤ s.drip
        then { s with time := { s.time with refusals := s.time.refusals + 1 } }
        else if a.at_ < s.drip + 512 then s
        else modArm s arm (fun a => { a with acked := a.acked ++ [island] })) := by
  have hexec : exec (.armMessage arm island) s = execArmMessage arm island s := rfl
  rw [hexec, execArmMessage, ha]
  refine (if_neg ?_).trans ?_
  · simp only [hmem, hnew, beq_false_of_ne hcal, beq_false_of_ne hdown, Bool.not_true, Bool.or_self, Bool.false_eq_true,
      not_false_eq_true]
  · split
    · rfl
    · split <;> rfl

theorem exec_launchDecide {arm : Nat} {a : Arm} {s : State} (ha : armOf s arm = some a) (hopen : a.decided = false)
    (htime : a.at_ ≤ s.drip + 512) :
    exec (.launchDecide arm) s =
      .next (if armComplete s a then modArm s arm (fun a => { a with decided := true }) else cancelArm s a) := by
  have hexec : exec (.launchDecide arm) s = execLaunchDecide arm s := rfl
  rw [hexec, execLaunchDecide, ha]
  exact exec_due_true _ _ _ (by simp [hopen, htime])

theorem exec_launch {arm : Nat} {a : Arm} {s : State} (ha : armOf s arm = some a) (hdec : a.decided = true) :
    exec (.launch arm) s =
      if launchHere s a then
        due (inTurn s a) s (perform { s with time := { s.time with arms := removeFirst (fun x => x.id == a.id) s.time.arms } } a.kind)
      else due (decide (a.at_ < s.drip)) s (cancelArm { s with time := { s.time with refusals := s.time.refusals + 1 } } a) := by
  have hexec : exec (.launch arm) s = execLaunch arm s := rfl
  rw [hexec, execLaunch, ha]
  exact if_neg (by simp [hdec])

/-- The master was sure throughout, or the island was, or it has gone unsure only after T - 512. -/
theorem sureBy_iff (i T : Nat) (s : State) :
    sureBy s i T = true ↔ (i = 284 ∨ (s.isl i).st = .sure ∧ (s.isl i).since + 512 ≤ T ∨ (s.isl i).st = .unsure ∧ T < (s.isl i).since + 512) := by
  simp only [sureBy, Bool.or_eq_true, Bool.and_eq_true, beq_iff_eq, decide_eq_true_eq, Bool.not_eq_true', decide_eq_false_iff_not,
    Nat.not_le, or_assoc]

/-- Settles O13: an acknowledgement, the decision, the launch and the refusal of an armed action, and what a load does. -/
theorem arming : Obligations.Arming := by
  unfold Obligations.Arming
  refine ⟨?acknowledge, ?decision, fun i T s => sureBy_iff i T s, ?launches, ?refuses, ?edge, ?skipped, ?load, ?loadLate⟩
  case acknowledge =>
    intro arm island a s ha hmem hnew hcal hdown
    exact exec_armMessage ha hmem hnew hcal hdown
  case decision =>
    intro arm a s ha hopen htime
    exact exec_launchDecide ha hopen htime
  case launches =>
    intro arm a s ha hdec hhere hturn
    rw [exec_launch ha hdec, if_pos hhere]
    exact exec_due_true _ _ _ hturn
  case refuses =>
    intro arm a s ha hdec hhere hpast
    rw [exec_launch ha hdec, if_neg (by simp [hhere])]
    exact exec_due_true _ _ _ (by simp [hpast])
  case edge =>
    intro a s hskip
    simp only [launchHere, hskip, Bool.or_false, beq_eq_decide]
  case skipped =>
    intro a lo hi s hskip hdrip
    simp only [launchHere, hskip, hdrip, BEq.rfl, Bool.true_and, beq_eq_decide]
  case load =>
    intro d s honce
    exact ⟨_, rfl, if_neg (by simp [honce])⟩
  case loadLate =>
    intro d s honce
    exact if_pos honce

/-! ## The follower -/

theorem isFollower_of {s : State} (h : s.time.ppsRole = 2 ∨ s.time.ppsRole = 3) : isFollower s = true := by
  rcases h with h | h <;> simp [isFollower, h]

/-- What a follower measures and trims at an edge. -/
def measured (s : State) (at16 : Nat) : State :=
  { s with time := { s.time with
    ppsError := ppsErr (ppsCount s at16), ppsMissing := 0, ppsHold := false
    ppsAligned := decide ((ppsErr (ppsCount s at16)).natAbs ≤ 32), freqTrim := trimFor s (ppsErr (ppsCount s at16)) } }

theorem exec_ppsEdge {s : State} (at16 : Nat) (hrole : s.time.ppsRole = 2 ∨ s.time.ppsRole = 3) :
    exec (.ppsEdge at16) s =
      match s.time.load with
      | none => .next (measured s at16)
      | some v =>
        let u := { measured s at16 with time := { (measured s at16).time with load := none } }
        if loadStep v (ppsCount s at16) < 1024 || s.proto.committedOnce then
          .next (raiseTime u 1572 7 0 65535 (nextRotation (s.drip + 1024)))
        else .next (armFor u (.timeLoad (loadStep v (ppsCount s at16)).toNat) (nextRotation (s.drip + 1024)) (loadIslands u)) := by
  refine (if_neg (by simp [isFollower_of hrole])).trans ?_
  cases s.time.load <;> rfl

theorem exec_ppsMissing {s : State} (hrole : s.time.ppsRole = 2 ∨ s.time.ppsRole = 3) :
    exec .ppsMissing s =
      (let u := { s with time := { s.time with ppsMissing := s.time.ppsMissing + 1 } }
       if s.time.ppsMissing + 1 == 3 then
         .next (raiseTime { u with time := { u.time with ppsHold := true, ppsAligned := false } } 1575 5 0 65535 u.drip)
       else .next u) :=
  if_neg (by simp [isFollower_of hrole])

/-- Settles O14: an edge is measured before what a pending load asks, and the third missing pulse in a row is the one after two. -/
theorem ppsFollower : Obligations.PpsFollower := by
  unfold Obligations.PpsFollower
  refine ⟨?edge, ?abandons, ?arms, fun e s => rfl, ?missing, ?third⟩
  case edge =>
    intro at16 s hrole hload
    rw [exec_ppsEdge at16 hrole, hload]
    rfl
  case abandons =>
    intro at16 v s hrole hload hno
    refine ⟨_, rfl, ?_⟩
    rw [exec_ppsEdge at16 hrole, hload]
    exact if_pos (by simpa using hno)
  case arms =>
    intro at16 v s hrole hload hstep honce
    refine ⟨_, rfl, ?_⟩
    rw [exec_ppsEdge at16 hrole, hload]
    exact if_neg (by simp [honce, hstep])
  case missing =>
    intro s hrole hnot
    rw [exec_ppsMissing hrole]
    exact if_neg (by simpa using hnot)
  case third =>
    intro s hrole htwo
    rw [exec_ppsMissing hrole, htwo]
    rfl

end Sys2Proof.Machine
end

section
/-!
PROOFS. Slot and rotation boundaries (R39, R41, R44), and columns that leave and return (R45 to R48).
-/

namespace Sys2Proof.Machine

/-! ## Boundaries -/

theorem exec_slotBoundary {g : Nat} {s : State} (bad : List (Nat × Nat)) (hg : g < 8) (hslot : s.drip % 8 = 0)
    (hnew : (s.gal g).lastSlot ≠ some (slotNo s.drip)) (hlost : (s.gal g).lost = none) (hwait : launchWaits s = false) :
    exec (.slotBoundary ⟨g, bad⟩) s =
      (let u := forEach (List.range 4) (if isRotation s.drip then rotateGallery s g else s) (checkProbes g)
       let v := forEach (List.range 4) (u.modGal g (fun x => { x with lastSlot := some (slotNo s.drip) })) (fillPassage g (slotNo s.drip) bad)
       .next (forEach (List.range 4) (v.modGal g (fun x => { x with relayPtr := (x.relayPtr + 1) % 8 })) (advertise g (slotNo s.drip)))) :=
  if_neg (by simp [hg, hslot, hnew, hlost, hwait])

theorem rotateColumn_stopping {g c t : Nat} {s : State} (h : useOf s g c = .stopping t) :
    rotateColumn g s c = if t + 16 ≤ s.now then
      disarm (beginDrain s g c (s.col c).untrusted) (fun k => k == .columnDrain c) else s := by
  rw [rotateColumn, h]

/-- Settles O18: a boundary is served once, when nothing waits to launch on its edge. -/
theorem slotAndRotationBoundaries : Obligations.SlotAndRotationBoundaries := by
  unfold Obligations.SlotAndRotationBoundaries
  refine ⟨?slot, ?rotation, ?column, ?crossbar⟩
  case slot =>
    intro g bad s hg hslot hnew hlost hwait
    exact ⟨_, _, rfl, rfl, exec_slotBoundary bad hg hslot hnew hlost hwait⟩
  case rotation =>
    intro g s hg hrot hlost hwait
    exact ⟨_, rfl, exec_due_true _ _ _ (by simp [hg, hrot, hlost, hwait])⟩
  case column =>
    intro g c t s h
    exact rotateColumn_stopping h
  case crossbar =>
    intro c n agree s hc hdrip hn hnew
    subst hn
    exact ⟨_, rfl, if_neg (by simp [hc, Nat.not_lt.mpr hdrip, Nat.not_le.mpr hnew])⟩

/-! ## Columns -/

theorem exec_columnDrainEnd {g c b : Nat} {s : State} (hg : g < 8) (hc : c < 4) (huse : useOf s g c = .draining b)
    (hend : b + 112 ≤ s.now) :
    exec (.columnDrainEnd g c) s =
      .next (columnOut (replayInto ((setUse s g c .off).modPas (4 * g + c) (fun x => { x with replay := [] })) g (4 * g + c)
        ((s.pas (4 * g + c)).replay)) c (s.drip - (s.now - (b + 112)))) := by
  refine (if_neg (by simp [hg, hc])).trans ?_
  rw [huse]
  exact if_neg (Nat.not_lt.mpr hend)

theorem columnOut_last {c : Nat} {s : State} (at_ : Nat) (hoff : allOff s c = true) (hst : (s.col c).st = .draining) :
    columnOut s c at_ =
      (let u := s.modCol c (fun x => { x with lastCause := (s.col c).outCause, drainAsked := false })
       raiseCol (setColSt u c .offline) c evColumnOffline (s.col c).outCause (colSev (colsInUse u)) at_) :=
  if_pos (by simp [hoff, hst])

theorem columnOut_not_last {c : Nat} {s : State} (at_ : Nat) (h : allOff s c = false ∨ (s.col c).st ≠ .draining) :
    columnOut s c at_ = s :=
  if_neg (by rcases h with h | h <;> simp [h])

theorem exec_probingEnd {c : Nat} {s : State} (hc : c < 4) (hfw : firmwareUp s = true) (hst : (s.col c).st = .probing)
    (hclean : (s.col c).cleanEnd = none) (hend : (s.col c).probeStart + 3584 ≤ s.now) :
    exec (.probingEnd c) s =
      (let u := s.modCol c (fun x => { x with cleanEnd := some s.now })
       .next (if (s.col c).probeBad || probeMissing s c (fun _ => true) || aliveMask s c == 0 then failAdmission s c
         else armFor u (.columnReturn c) (nextRotation (s.drip + 1024)) (coreIslands u))) := by
  refine (if_neg (by simp [hc, hfw, hst, hclean, Nat.not_lt.mpr hend])).trans ?_
  split <;> rfl

/-- Settles O19: the end of a drain, the last gallery's end, and what probing decides. -/
theorem columnsLeaveAndReturn : Obligations.ColumnsLeaveAndReturn := by
  unfold Obligations.ColumnsLeaveAndReturn
  refine ⟨?drained, ?last, ?notLast, ?probed, ?timeout⟩
  case drained =>
    intro g c b s hg hc huse hend
    exact ⟨_, rfl, exec_columnDrainEnd hg hc huse hend⟩
  case last =>
    intro c at_ s hoff hst
    exact ⟨_, rfl, columnOut_last at_ hoff hst⟩
  case notLast =>
    intro c at_ s h
    exact columnOut_not_last at_ h
  case probed =>
    intro c s hc hfw hst hclean hend
    exact exec_probingEnd hc hfw hst hclean hend
  case timeout =>
    intro c t s hc hfw hst hclean hend
    have hexec : exec (.admissionTimeout c) s = execAdmissionTimeout c s := rfl
    rw [hexec, execAdmissionTimeout, hclean]
    exact exec_due_true _ _ _ (by simp [hc, hfw, hst, hend])

end Sys2Proof.Machine
end

section
/-!
PROOFS. Cells, acknowledgements, the receive buffer (R54 to R57), and the sideband words of a passage (R52, R57, R58).
-/

namespace Sys2Proof.Machine

/-! ## Cells that arrive -/

/-- The state in which the next flight of a passage has left the wire and counts for its column. -/
def flightTaken (s : State) (g c : Nat) : State :=
  ({ s with core := { s.core with flights := removeFirst (fun f => f.m == g && f.c == c) s.core.flights } } : State).modCol c
    (fun y => { y with cells := (y.cells + 1) % 2 ^ 64 })

/-- The cell a flight is received as, with the header bits of `mask` inverted. -/
def receivedCell (f : Flight) (mask : Nat) : Cell :=
  if mask % 2 ^ 128 = 0 then f.cell else cellWithHeader f.cell (headerWord f.cell ^^^ (mask % 2 ^ 128))

/-- The header of a flight as received checks, and names the gallery it arrives at. -/
def goodArrival (g : Nat) (f : Flight) (mask : Nat) : Bool :=
  headerGood (headerWord f.cell ^^^ (mask % 2 ^ 128)) && namesGallery (receivedCell f mask) f.i g

section Arrival
variable {g c mask : Nat} {f : Flight} {s : State} (hf : nextFlight s g c = some f) (hat : f.at24 < 24 * s.now + 24)
include hf hat

theorem exec_cellArrival_dead (hdead : (s.pas (4 * g + c)).galDead = true) :
    exec (.cellArrival g c mask) s = .next (flightTaken s g c) := by
  have hexec : exec (.cellArrival g c mask) s = execCellArrival g c mask s := rfl
  rw [hexec, execCellArrival, hf]
  exact (if_neg (Nat.not_le.mpr hat)).trans (if_pos hdead)

theorem exec_cellArrival_live (hlive : (s.pas (4 * g + c)).galDead = false) :
    exec (.cellArrival g c mask) s =
      (let u := flightTaken s g c
       let good := goodArrival g f mask
       let v := if good then u else
         killPassage (u.modGal g (fun x => { x with discarded := (x.discarded + 1) % 2 ^ 64 })) (4 * g + c) 4 0 65535
       if f.cell.pkt.cls == 7 then
         .next (probeArrival (if good then countPas v (4 * g + c) 1 1 else v) f good (receivedCell f mask))
       else if !good then .next v
       else .next (storeRx (streamCell v g c f.i ((headerWord f.cell ^^^ (mask % 2 ^ 128)) / 2 ^ 112 % 65536)) g c f
         (receivedCell f mask))) := by
  have hexec : exec (.cellArrival g c mask) s = execCellArrival g c mask s := rfl
  have hcell : receivedCell f mask =
      if mask % 2 ^ 128 == 0 then f.cell else cellWithHeader f.cell (headerWord f.cell ^^^ (mask % 2 ^ 128)) := by
    simp only [receivedCell, beq_iff_eq]
  have hgal : ¬ ((flightTaken s g c).pas (4 * g + c)).galDead = true := by
    rw [show ((flightTaken s g c).pas (4 * g + c)).galDead = (s.pas (4 * g + c)).galDead from rfl, hlive]
    exact Bool.false_ne_true
  rw [hexec, execCellArrival, hf, goodArrival, hcell]
  refine (if_neg (Nat.not_le.mpr hat)).trans ?_
  refine (if_neg hgal).trans ?_
  rfl

theorem exec_cellArrival_stream (hlive : (s.pas (4 * g + c)).galDead = false) (hcls : f.cell.pkt.cls ≠ 7) :
    exec (.cellArrival g c mask) s = .next (if goodArrival g f mask then
      storeRx (streamCell (flightTaken s g c) g c f.i ((headerWord f.cell ^^^ (mask % 2 ^ 128)) / 2 ^ 112 % 65536)) g c f
        (receivedCell f mask)
      else killPassage ((flightTaken s g c).modGal g (fun x => { x with discarded := (x.discarded + 1) % 2 ^ 64 }))
        (4 * g + c) 4 0 65535) := by
  rw [exec_cellArrival_live hf hat hlive]
  refine (if_neg (by simp [hcls])).trans ?_
  cases goodArrival g f mask <;> simp

theorem exec_cellArrival_probe (hlive : (s.pas (4 * g + c)).galDead = false) (hcls : f.cell.pkt.cls = 7) :
    exec (.cellArrival g c mask) s = .next (if goodArrival g f mask then
      probeArrival (countPas (flightTaken s g c) (4 * g + c) 1 1) f true (receivedCell f mask)
      else probeArrival (killPassage ((flightTaken s g c).modGal g (fun x => { x with discarded := (x.discarded + 1) % 2 ^ 64 }))
        (4 * g + c) 4 0 65535) f false (receivedCell f mask)) := by
  rw [exec_cellArrival_live hf hat hlive]
  refine (if_pos (by simp [hcls])).trans ?_
  cases goodArrival g f mask <;> simp

end Arrival

theorem probeArrival_eq (f : Flight) (good : Bool) (x : Cell) (s : State) :
    probeArrival s f good x =
      if good = true ∧ x.pkt.cls = 7 ∧ x.pkt.srcGal = slotSource f.slot f.c f.m then s else probeFails s f.c := by
  simp only [probeArrival, Bool.and_eq_true, beq_iff_eq, and_assoc]

/-! ## Acknowledgements -/

/-- How many cells of a stream an acknowledgement of number `seq` newly frees. -/
def ackSpan (o : StreamOut) (seq : Nat) : Nat :=
  (seq + 1 + 65536 - o.acked) % 65536

section Ack
variable {g c m seq check : Nat} {s : State} (hg : g < 8) (hc : c < 4) (hm : m < 8)
  (halive : pasAlive s (4 * g + c) = true) (huse : useOf s g c ≠ .off)
include hg hc hm halive huse

theorem exec_ackReceived_out_of_range
    (hn : ackSpan (tget {} (s.pas (4 * g + c)).outs m) seq = 0 ∨
      ((tget {} (s.pas (4 * g + c)).outs m).next + 65536 - (tget {} (s.pas (4 * g + c)).outs m).acked) % 65536 <
        ackSpan (tget {} (s.pas (4 * g + c)).outs m) seq) :
    exec (.ackReceived g c m seq check) s = .next (killPassage (countPas s (4 * g + c) 5 1) (4 * g + c) 6 0 65535) := by
  refine (if_neg (by simp [isPas, hg, hc, hm, halive, huse])).trans ?_
  exact if_pos (by simpa [ackSpan] using hn)

theorem exec_ackReceived_in_range {e : ReplayEnt}
    (hpos : 0 < ackSpan (tget {} (s.pas (4 * g + c)).outs m) seq)
    (hle : ackSpan (tget {} (s.pas (4 * g + c)).outs m) seq ≤
      ((tget {} (s.pas (4 * g + c)).outs m).next + 65536 - (tget {} (s.pas (4 * g + c)).outs m).acked) % 65536)
    (he : (s.pas (4 * g + c)).replay.find? (fun e => e.m == m && e.num == seq % 65536) = some e) :
    exec (.ackReceived g c m seq check) s =
      if e.check != check then .next (killPassage (countPas s (4 * g + c) 5 1) (4 * g + c) 7 0 65535)
      else
        let o := tget {} (s.pas (4 * g + c)).outs m
        let u := (countPas s (4 * g + c) 5 1).modPas (4 * g + c) (fun x => { x with
          replay := x.replay.filter (fun e => !(e.m == m && decide ((e.num + 65536 - o.acked) % 65536 < ackSpan o seq)))
          outs := tput {} x.outs m { o with acked := (seq + 1) % 65536 } })
        .next (u.modGal g (fun y =>
          ((s.pas (4 * g + c)).replay.filter (fun e => e.m == m && decide ((e.num + 65536 - o.acked) % 65536 < ackSpan o seq))).foldl
            (fun y e => freeSent y e.hop2 e.cell) y)) := by
  refine (if_neg (by simp [isPas, hg, hc, hm, halive, huse])).trans ?_
  refine (if_neg (by simp only [ackSpan] at hpos hle; simp [Nat.ne_of_gt hpos, hle])).trans ?_
  rw [he]
  rfl

end Ack

/-! ## The receive buffer -/

theorem exec_receiveBufferRelease {g c : Nat} {s : State} (bad : Bool) (hg : g < 8) (hc : c < 4) (hlost : (s.gal g).lost = none) :
    exec (.receiveBufferRelease g ⟨c, bad⟩) s =
      .next (releaseFrom g (4 * g + c) classOrder (match (if bad then nextClass s g (4 * g + c) else none) with
        | some cls => faultHead s g (4 * g + c) cls
        | none => s)) :=
  exec_due_true _ _ _ (by simp [hg, hc, hlost])

theorem releaseFrom_cons {p cls : Nat} {e : RxCell} {s : State} (g : Nat) (rest : List Nat) (h : classHead (s.pas p) cls = some e) :
    releaseFrom g p (cls :: rest) s = match releaseOf s g e.cell with
      | .waits => releaseFrom g p rest (countRefused s g cls)
      | .relay => storeRelay (takeRx s p cls) g e.cell
      | .discard => takeRx s p cls
      | .go v => releaseCell (takeRx s p cls) g e.cell v := by
  rw [releaseFrom, h] <;> rfl

/-- Settles O20: the cases of an arriving cell, of an acknowledgement, and of the receive buffer. -/
theorem cellsArriveAndAreAcknowledged : Obligations.CellsArriveAndAreAcknowledged := by
  unfold Obligations.CellsArriveAndAreAcknowledged
  refine ⟨?dead, ?stream, ?probe, ?checked, ?timer, ?acked, ?range, ?check, ?timeout, ?release, ?fault, ?noFault, ?order⟩
  case dead =>
    intro g c mask f s hf hat hdead
    exact exec_cellArrival_dead hf hat hdead
  case stream =>
    intro g c mask f s hf hat hlive hcls
    exact ⟨_, rfl, exec_cellArrival_stream hf hat hlive hcls⟩
  case probe =>
    intro g c mask f s hf hat hlive hcls
    exact ⟨_, rfl, exec_cellArrival_probe hf hat hlive hcls⟩
  case checked => exact probeArrival_eq
  case timer =>
    intro g c i s hg hc hi hun hst hend
    exact exec_due_true _ _ _ (by simp [isPas, hg, hc, hi, hun, hst, hend])
  case acked =>
    intro g c m seq check n e o s hg hc hm halive huse ho hn hpos hle he hcheck
    subst hn ho
    exact ⟨_, rfl, (exec_ackReceived_in_range hg hc hm halive huse hpos hle he).trans (if_neg (by simp [hcheck]))⟩
  case range =>
    intro g c m seq check n o s hg hc hm halive huse ho hn hout
    subst hn ho
    exact exec_ackReceived_out_of_range hg hc hm halive huse hout
  case check =>
    intro g c m seq check n e o s hg hc hm halive huse ho hn hpos hle he hcheck
    subst hn ho
    exact (exec_ackReceived_in_range hg hc hm halive huse hpos hle he).trans (if_pos (by simp [hcheck]))
  case timeout =>
    intro g c e s hg hc huse he hat
    have hold : ((s.pas (4 * g + c)).replay.any fun e => decide (e.at24 + 256 * 24 ≤ 24 * s.now)) = true :=
      List.any_eq_true.mpr ⟨e, he, decide_eq_true hat⟩
    exact exec_due_true _ _ _ (by simp only [hold]; simp [isPas, hg, hc, huse])
  case release =>
    intro g c s hg hc hlost
    exact exec_receiveBufferRelease false hg hc hlost
  case fault =>
    intro g c cls s hg hc hlost hcls
    rw [exec_receiveBufferRelease true hg hc hlost, if_pos rfl, hcls]
  case noFault =>
    intro g c s hg hc hlost hcls
    rw [exec_receiveBufferRelease true hg hc hlost, if_pos rfl, hcls]
  case order =>
    intro g p cls rest e s h
    exact releaseFrom_cons g rest h

/-! ## Sideband words -/

theorem exec_grantSend {g c cls : Nat} {s : State} (hg : g < 8) (hc : c < 4) (hcls : cls < 7)
    (halive : pasAlive s (4 * g + c) = true) (hheld : 0 < tget 0 (s.pas (4 * g + c)).heldSince cls)
    (htime : tget 0 (s.pas (4 * g + c)).heldSince cls + 27 ≤ s.now + 1) (hroom : 0 < grantRoom (s.pas (4 * g + c)) cls) :
    exec (.grantSend g c cls) s =
      (let n := slotNo s.drip + 4
       let k := grantRoom (s.pas (4 * g + c)) cls
       .next (sendSb (countPas (s.modPas (4 * g + c) (fun x => { x with
           grantsOut := x.grantsOut ++ [{ peer := slotSource n c g, cls := cls, count := k, slot := n }] })) (4 * g + c) 7 1)
         { type := 4, from_ := g, col := c, dest := slotSource n c g, body := [cls, k, n % 65536] })) :=
  if_neg (by simp [isPas, hg, hc, hcls, halive, Nat.ne_of_gt hheld, Nat.ne_of_gt hroom, Nat.not_lt.mpr htime])

/-- Settles O21: what each sideband word stores, and what a notice teaches. -/
theorem sidebandWords : Obligations.SidebandWords := by
  unfold Obligations.SidebandWords
  refine ⟨?advert, ?flow, ?grant, ?send, ?expiry, ?death, ?untrusted, ?unsure, ?supply, ?sure⟩
  case advert =>
    intro g c m relayOpen xoff s hg hc hm halive
    exact exec_due_true _ _ _ (by simp [isPas, hg, hc, hm, halive])
  case flow =>
    intro g c m xoff s hg hc hm halive
    exact exec_due_true _ _ _ (by simp [isPas, hg, hc, hm, halive])
  case grant =>
    intro g c m cls count slot s hg hc hm hcls hcount halive
    exact exec_due_true _ _ _ (by simp [isPas, hg, hc, hm, hcls, hcount, halive])
  case send =>
    intro g c cls s hg hc hcls halive hheld htime hroom
    exact ⟨_, _, rfl, rfl, exec_grantSend hg hc hcls halive hheld htime hroom⟩
  case expiry =>
    intro g c cls slot s hg hc
    exact exec_due_true _ _ _ (by simp [isPas, hg, hc])
  case death =>
    intro g p s hg hp hst
    exact (if_neg (by simp [hg])).trans (exec_due_true _ _ _ (by simpa [hp] using hst))
  case untrusted =>
    intro g c code s hg hc hcode
    obtain ⟨rfl, h⟩ | ⟨rfl, h⟩ | ⟨rfl, h⟩ := hcode <;>
      exact (if_neg (by simp [hg])).trans (exec_due_true _ _ _ (by simp [hc, h]))
  case unsure =>
    intro g k s hg hk h
    exact (if_neg (by simp [hg])).trans (exec_due_true _ _ _ (by simp [hk, h]))
  case supply =>
    intro g k s hg hk h
    exact (if_neg (by simp [hg])).trans (exec_due_true _ _ _ (by simp [hk, h]))
  case sure =>
    intro g k s hg hk h
    exact (if_neg (by simp [hg])).trans (exec_due_true _ _ _ (by simp [hk, h]))

end Sys2Proof.Machine
end

section
/-!
PROOFS. The death of passages (R59, R60), the end of tests and admissions (R64, R65), and holes in the reorder logic (R72).
-/

namespace Sys2Proof.Machine

/-! ## Death -/

theorem State.modPas_congr {s : State} {p : Nat} {f f' : Pas → Pas} (h : f (s.pas p) = f' (s.pas p)) :
    s.modPas p f = s.modPas p f' := by
  simp only [State.modPas, tmod]
  rw [show f (tget {} s.core.pas p) = f' (tget {} s.core.pas p) from h]

/-- A live passage without an accepted test, recorded as dead: its cause, its drip, and the lane its detecting end names. -/
def recordDeath (s : State) (p cause endp lane : Nat) : State :=
  disarm (s.modPas p (fun x => { x with
    st := .dead, testAsked := none, lastCause := cause, deathDrip := s.drip, noticed := 0
    errOut := if endp = 1 ∧ lane < 256 then 2 ^ lane else 0
    errIn := if endp = 0 ∧ lane < 256 then 2 ^ lane else 0 })) (fun k => k == .passageDrain p)

/-- The ends that a death concerns discard, and the detecting end sends `KILL`. -/
def endsDie (u : State) (p endp : Nat) : State :=
  if endp = 1 then sendKill (endDies u p 1) p 1 else if endp = 0 then sendKill (endDies u p 0) p 0 else endDies (endDies u p 0) p 1

/-- What follows once a death is recorded: the ends discard, `KILL` is sent, and the death is reported and noticed. -/
def spreadDeath (u : State) (p cause endp lane : Nat) : State :=
  let v := if endp == 1 then u else endDies u p 0
  let v := if endp == 0 then v else endDies v p 1
  let v := if endp < 2 then sendKill v p endp else v
  let v := raisePas v p cause endp lane (pasSev (livePas v (p / 4))) v.drip
  let v := noteNoPas (noticeDeath v p endp) (p / 4)
  if endp == 1 then v else learnDeath v (p / 4) p

theorem spreadDeath_eq {endp : Nat} (u : State) (p cause lane : Nat) (hendp : endp < 3) :
    spreadDeath u p cause endp lane =
      (let v := endsDie u p endp
       let w := noteNoPas (noticeDeath (raisePas v p cause endp lane (pasSev (livePas v (p / 4))) v.drip) p endp) (p / 4)
       if endp = 1 then w else learnDeath w (p / 4) p) := by
  obtain rfl | rfl | rfl : endp = 0 ∨ endp = 1 ∨ endp = 2 := by omega
  all_goals simp [spreadDeath, endsDie]

theorem killPassage_alive {p : Nat} {s : State} (cause endp lane : Nat) (hst : (s.pas p).st = .alive)
    (htest : (s.pas p).testAsked = none) :
    killPassage s p cause endp lane = spreadDeath (recordDeath s p cause endp lane) p cause endp lane := by
  have hrecord : recordDeath s p cause endp lane = disarm (s.modPas p (fun x => { x with
      st := if x.testAsked.isSome then .testing else .dead
      op := match x.testAsked with
        | some o => { o with started := s.now }
        | none => x.op
      testAsked := none
      lastCause := cause, deathDrip := s.drip, noticed := 0
      errOut := if endp == 1 then (if lane < 256 then 2 ^ lane else 0) else 0
      errIn := if endp == 0 then (if lane < 256 then 2 ^ lane else 0) else 0 })) (fun k => k == .passageDrain p) := by
    rw [recordDeath]
    congr 1
    refine State.modPas_congr ?_
    simp only [htest, ite_and, beq_iff_eq]
    rfl
  rw [hrecord, killPassage, hst]
  rfl

theorem killPassage_not_live {p : Nat} {s : State} (cause endp lane : Nat)
    (h : (s.pas p).st = .dead ∨ (s.pas p).st = .testing ∨ (s.pas p).st = .admitting) : killPassage s p cause endp lane = s := by
  rw [killPassage]
  rcases h with h | h | h <;> rw [h] <;> rfl

/-- Settles O22: what kills a passage, and what its death does. -/
theorem passagesDie : Obligations.PassagesDie := by
  unfold Obligations.PassagesDie
  refine ⟨?error, ?clock, ?drained, ?death, ?again, ?kill, ?discard⟩
  case error =>
    intro p endp cause lane s hp hendp hcause
    exact exec_due_true _ _ _ (by rcases hcause with rfl | rfl | rfl | rfl <;> simp [hp, hendp])
  case clock =>
    intro p endp lane s hp hendp
    exact exec_due_true _ _ _ (by simp [hp, hendp])
  case drained =>
    intro p b s hp hst hend
    have hexec : exec (.passageDrainEnd p) s = execPassageDrainEnd p s := rfl
    rw [hexec, execPassageDrainEnd, hst]
    exact exec_due_true _ _ _ (by simp [hp, hend])
  case death =>
    intro p cause endp lane s hendp hst htest
    exact ⟨_, _, _, rfl, rfl, rfl, (killPassage_alive cause endp lane hst htest).trans (spreadDeath_eq _ p cause lane hendp)⟩
  case again =>
    intro p cause endp lane s h
    exact killPassage_not_live cause endp lane h
  case kill =>
    intro p endp s hp hendp hst
    refine ⟨_, rfl, (if_neg (by rcases hst with h | h <;> simp [hp, hendp, h])).trans ?_⟩
    simp only [beq_iff_eq]
  case discard =>
    intro p endp s
    exact ⟨_, rfl, rfl⟩

/-! ## Tests and admissions -/

theorem exec_passageTestEnd {p : Nat} {s : State} (errors outMask inMask : Nat) (hp : p < 32) (hst : (s.pas p).st = .testing)
    (hover : (s.pas p).op.blocks * 65536 * 66 ≤ (s.now - (s.pas p).op.started) * 125) :
    exec (.passageTestEnd p errors outMask inMask) s =
      (let u := s.modPas p (fun x => { x with
         st := .dead, testErrors := sat 32 errors, errOut := outMask % 2 ^ 256, errIn := inMask % 2 ^ 256, op := {} })
       let v := raisePas u p 12 2 65535 0 u.drip
       .next (if (v.col (p % 4)).st = .calibrating ∧ (v.gal (p / 4)).lost = none then startPart (p % 4) v (p / 4) else v)) := by
  refine (if_neg (by simp [hp, hst, testOver, hover])).trans ?_
  simp only [Bool.and_eq_true, beq_iff_eq, Option.isNone_iff_eq_none]

/-- The state in which a passage holds the error count its admission reported. -/
def withTestErrors (s : State) (p errors : Nat) : State :=
  s.modPas p (fun x => { x with testErrors := sat 32 errors })

section AdmitEnd
variable {p : Nat} {s : State} (result errors : Nat) (hp : p < 32) (hfw : firmwareUp s = true)
include hp hfw

theorem exec_passageAdmitEnd_forColumn (hst : (s.pas p).st = .admitting) (hcol : (s.pas p).op.forColumn = true) :
    exec (.passageAdmitEnd p result errors) s =
      (let u := withTestErrors s p errors
       .next (if result = 0 ∧ errors = 0 ∧ admitOver u p = false then
           columnCalCheck ((revive u p).modPas p (fun x => { x with op := {} })) (p % 4)
         else columnCalCheck (failPart u p) (p % 4))) := by
  refine (if_neg (by simp [hp, hfw])).trans ((if_pos (by simp [hst])).trans ((if_pos hcol).trans ?_))
  rw [← withTestErrors]
  generalize withTestErrors s p errors = u
  by_cases hok : result = 0 ∧ errors = 0 ∧ admitOver u p = false
  · obtain ⟨hres, herr, hover⟩ := hok
    exact (if_neg (by simp [hres, herr, hover])).trans (congrArg _ (if_pos ⟨hres, herr, hover⟩).symm)
  · have hbad : (!(result == 0) || !(errors == 0) || admitOver u p) = true := by
      simpa [imp_iff_not_or, or_assoc] using hok
    exact (if_pos hbad).trans (congrArg _ (if_neg hok).symm)

theorem exec_passageAdmitEnd_alone (hst : (s.pas p).st = .admitting) (hcol : (s.pas p).op.forColumn = false) :
    exec (.passageAdmitEnd p result errors) s =
      (let u := withTestErrors s p errors
       .next (if result ≠ 0 then failPassageAdmit u p (result % 256)
         else if errors ≠ 0 then failPassageAdmit u p 1
         else if admitOver u p = true then failPassageAdmit u p 9
         else u)) := by
  refine (if_neg (by simp [hp, hfw])).trans ((if_pos (by simp [hst])).trans ((if_neg (by simp [hcol])).trans ?_))
  rw [← withTestErrors]
  generalize withTestErrors s p errors = u
  by_cases hres : result = 0
  · by_cases herr : errors = 0
    · simp only [hres, herr, ne_eq, not_true, if_false]
      refine (if_neg (by simp)).trans ?_
      split <;> rfl
    · simp [hres, herr]
  · simp [hres]

theorem exec_passageAdmitEnd_returned (hst : (s.pas p).st ≠ .admitting) (hret : (s.pas p).op.returned = true) :
    exec (.passageAdmitEnd p result errors) s =
      .next ((answerAdmit s p (if pasAlive s p then 0 else (s.pas p).lastCause)).modPas p (fun x => { x with op := {} })) :=
  (if_neg (by simp [hp, hfw])).trans ((if_neg (by simp [hst])).trans (if_pos hret))

end AdmitEnd

/-- Settles O23: the end of a test, and of an admission with or without its column. -/
theorem passageTestAndAdmissionEnd : Obligations.PassageTestAndAdmissionEnd := by
  unfold Obligations.PassageTestAndAdmissionEnd
  refine ⟨?tested, ?part, ?alone, ?late, ?returned⟩
  case tested =>
    intro p errors outMask inMask s hp hst hover
    exact ⟨_, _, rfl, rfl, exec_passageTestEnd errors outMask inMask hp hst hover⟩
  case part =>
    intro p result errors s hp hfw hst hcol
    exact ⟨_, rfl, exec_passageAdmitEnd_forColumn result errors hp hfw hst hcol⟩
  case alone =>
    intro p result errors s hp hfw hst hcol
    exact ⟨_, rfl, exec_passageAdmitEnd_alone result errors hp hfw hst hcol⟩
  case late => exact fun _ _ => rfl
  case returned =>
    intro p result errors s hp hfw hst hret
    exact exec_passageAdmitEnd_returned result errors hp hfw hst hret

/-! ## Holes -/

section Hole
variable {g srcGal srcPort : Nat} {s : State} (hg : g < 8) (hsg : srcGal < 8) (hsp : srcPort < 64)
include hg hsg hsp

theorem exec_reseqHoleTimeout {cls drip opened : Nat} (hcls : cls < 7)
    (hhole : (tget {} (s.gal g).flows (flowKey srcGal srcPort cls)).hole = some (drip, opened)) (hend : opened + 1600 ≤ s.now) :
    exec (.reseqHoleTimeout g srcGal srcPort cls) s =
      (let k := flowKey srcGal srcPort cls
       let fl := tget {} (s.gal g).flows k
       if cls == 6 then
         let r := skipFlow s g k
         .next (echoDrop (forEach (packetsOf r.2.length r.2) r.1 (fun s e => forgetPacket s g e.1)) g 6 none none)
       else if fl.reported then .next s
       else
         .next (raise (s.modGal g (fun x => { x with flows := tput {} x.flows k { fl with reported := true } }))
           (1260 + g) evReseqHole 2 (coreIsl g)
           (evData (leBytes 1 cls ++ leBytes 1 srcGal ++ leBytes 1 srcPort ++ leBytes 1 0 ++ leBytes 2 fl.e ++
             leBytes 2 (sat 16 fl.held.length)) drip))) := by
  have hexec : exec (.reseqHoleTimeout g srcGal srcPort cls) s = execReseqHoleTimeout g srcGal srcPort cls s := rfl
  have hopen : (if g < 8 && srcGal < 8 && srcPort < 64 && cls < 7 then (tget {} (s.gal g).flows (flowKey srcGal srcPort cls)).hole
      else none) = some (drip, opened) := (if_pos (by simp [hg, hsg, hsp, hcls])).trans hhole
  rw [hexec, execReseqHoleTimeout, hopen]
  exact if_neg (Nat.not_lt.mpr hend)

theorem exec_galleryLostHoleClose {cls drip opened : Nat} (hcls : cls < 6)
    (hhole : (tget {} (s.gal g).flows (flowKey srcGal srcPort cls)).hole = some (drip, opened)) (hend : opened + 1600 ≤ s.now)
    (hlost : lostLongAgo s = true) :
    exec (.galleryLostHoleClose g srcGal srcPort cls) s =
      (let k := flowKey srcGal srcPort cls
       let old := tget {} (s.gal g).flows k
       let r := skipFlow s g k
       .next (forEach (packetsOf r.2.length r.2) r.1 (fun u e =>
         deliver (u.modGal g (fun x => { x with admitted := tput 0 x.admitted (admKey e.1) 0 })) g
           { e.1.pkt with bad := true, data := zeroMissing e.1.pkt e.2,
                          stage := if old.started && (match old.part.head? with | some h => pktSeq h == pktSeq e.1 | none => false)
                            then .ended else .whole }))) := by
  have hexec : exec (.galleryLostHoleClose g srcGal srcPort cls) s = execGalleryLostHoleClose g srcGal srcPort cls s := rfl
  have hopen : (if g < 8 && srcGal < 8 && srcPort < 64 && cls < 6 then (tget {} (s.gal g).flows (flowKey srcGal srcPort cls)).hole
      else none) = some (drip, opened) := (if_pos (by simp [hg, hsg, hsp, hcls])).trans hhole
  rw [hexec, execGalleryLostHoleClose, hopen]
  exact if_neg (by simp [Nat.not_lt.mpr hend, hlost])

end Hole

/-- Settles O24: a hole of Echo is skipped, another reported once, and one left by a lost gallery closed. -/
theorem reorderHoles : Obligations.ReorderHoles := by
  unfold Obligations.ReorderHoles
  refine ⟨?echo, ?report, ?close⟩
  case echo =>
    intro g srcGal srcPort at_ drip s hg hsg hsp hhole hend
    exact exec_reseqHoleTimeout hg hsg hsp (by decide) hhole hend
  case report =>
    intro g srcGal srcPort cls at_ drip fl s hg hsg hsp hcls hfl hhole hend
    subst hfl
    refine ⟨_, rfl, (exec_reseqHoleTimeout hg hsg hsp (Nat.lt_succ_of_lt hcls) hhole hend).trans ?_⟩
    refine (if_neg (by simp [Nat.ne_of_lt hcls])).trans ?_
    split <;> rfl
  case close =>
    intro g srcGal srcPort cls at_ drip s hg hsg hsp hcls hhole hend hlost
    exact exec_galleryLostHoleClose hg hsg hsp hcls hhole hend hlost

end Sys2Proof.Machine
end

section
/-!
PROOFS. The cycles of a directory slice: lookups and retries (R114, R118), answers to snoops (R116, R119), snoop timers, reports
of discarded replies and the sweep of a fence (R122 to R125).
-/

namespace Sys2Proof.Machine

/-! ## Lookups -/

theorem exec_lookupCmd (k : ReqKind) (g sl : Nat) (f : LookupFault) (s : State) :
    exec (lookupCmd k g sl f) s = .next (intakeLookup k g sl f s) := by
  cases k <;> rfl

theorem intakeLookup_taken {k : ReqKind} {g sl : Nat} {r : SliceReq} {s : State} (f : LookupFault) (hmay : mayLook s g sl = true)
    (hretry : retryTurn (s.slice g sl) = false) (hnext : nextIntake (s.slice g sl) = some r) (hkind : r.kind = k) :
    intakeLookup k g sl f s =
      (let u := s.modSlice g sl (fun x => takeIntake x r)
       let v := lookup u g sl r none f
       if (u.fence r.agent).on then fencedReply (freeEg u g (localOf (keyPort g r.key)) 0 r.cells) g sl r
       else match routeAway u g sl { r with cells := 0 } with
         | some w => freeEg w g (localOf (keyPort g r.key)) 0 r.cells
         | none => if v.2 = 2 then v.1 else freeEg v.1 g (localOf (keyPort g r.key)) 0 r.cells) := by
  rw [intakeLookup, hnext]
  refine (if_neg (by simp [hmay, hretry])).trans ((if_neg (by simp [hkind])).trans ?_)
  simp only [beq_iff_eq] <;> rfl

theorem intakeLookup_other {k : ReqKind} {g sl : Nat} {s : State} (f : LookupFault)
    (h : ∀ r, nextIntake (s.slice g sl) = some r → r.kind ≠ k) : intakeLookup k g sl f s = s := by
  rw [intakeLookup]
  cases hnext : nextIntake (s.slice g sl) with
  | none => exact ite_self _
  | some r => simp [h r hnext]

theorem exec_retry {g sl : Nat} {e : RetryEnt} {s : State} (f : LookupFault) (hmay : mayLook s g sl = true)
    (hretry : retryTurn (s.slice g sl) = true) (hnext : nextRetry (s.slice g sl) = some e) :
    exec (.retry g sl f) s =
      (let u := s.modSlice g sl (fun x => { x with retryRun := x.retryRun + 1 })
       .next (if (u.fence e.req.agent).on then fencedReply (retryDone u g sl e) g sl e.req
         else match routeAway u g sl e.req with
           | some v => retryDone v g sl e
           | none => (lookup u g sl e.req (some e) f).1)) := by
  refine (if_neg (by simp [hmay, hretry])).trans ?_
  rw [hnext]
  generalize s.modSlice g sl (fun x => { x with retryRun := x.retryRun + 1 }) = u
  simp only
  split
  · rfl
  · cases routeAway u g sl e.req <;> rfl

/-- Settles O27: each request type is looked up alike, and a retry as an intake request is. -/
theorem sliceLookups : Obligations.SliceLookups := by
  unfold Obligations.SliceLookups
  have lookupTaken {k : ReqKind} {g sl : Nat} {f : LookupFault} {r : SliceReq} {s : State} (hmay : mayLook s g sl = true)
      (hretry : retryTurn (s.slice g sl) = false) (hnext : nextIntake (s.slice g sl) = some r) (hkind : r.kind = k) :=
    (exec_lookupCmd k g sl f s).trans (congrArg Host.Outcome.next (intakeLookup_taken f hmay hretry hnext hkind))
  refine ⟨?rdShared, ?rdAny, ?rdOwn, ?invOwn, ?rdCur, ?write, ?evict, ?other, ?retry⟩
  case other =>
    intro k g sl f s h
    rw [exec_lookupCmd, intakeLookup_other f h]
  case retry =>
    intro g sl f e s hmay hretry hnext
    exact ⟨_, rfl, exec_retry f hmay hretry hnext⟩
  all_goals
    intro g sl f r s hmay hretry hnext hkind
    exact ⟨_, _, rfl, rfl, lookupTaken hmay hretry hnext hkind⟩

/-! ## Answers to snoops -/

section Answers
variable {g sl agent key : Nat} {s : State} (hg : g < 8) (hsl : sl < 9)
include hg hsl

theorem exec_birsp_owed {rsp : BiRsp} (f : LookupFault)
    (hans : (s.slice g sl).answers.contains { agent := agent, key := key, rsp := some rsp } = true)
    (hout : snoopOut (takeAnswer s g sl { agent := agent, key := key, rsp := some rsp }) g sl key agent = true) :
    exec (.birsp g sl agent key ⟨rsp, f⟩) s =
      .next (progress (applyFault (modTxn (takeAnswer s g sl { agent := agent, key := key, rsp := some rsp }) g sl key (fun t => { t with
        snoops := replaceFirst (fun n => n.agent == agent && n.answer.isNone) (fun n => { n with answer := some rsp }) t.snoops }))
        g sl key agent key f) g sl key) :=
  (if_neg (by simp only [hans]; simp [hg, hsl])).trans (if_neg (by simp [hout]))

theorem exec_birsp_stray {rsp : BiRsp} (f : LookupFault)
    (hans : (s.slice g sl).answers.contains { agent := agent, key := key, rsp := some rsp } = true)
    (hout : snoopOut (takeAnswer s g sl { agent := agent, key := key, rsp := some rsp }) g sl key agent = false) :
    exec (.birsp g sl agent key ⟨rsp, f⟩) s =
      .next (countStray (takeAnswer s g sl { agent := agent, key := key, rsp := some rsp }) g sl true) :=
  (if_neg (by simp only [hans]; simp [hg, hsl])).trans (if_pos (by simp [hout]))

section Conflict
variable (hans : (s.slice g sl).answers.contains { agent := agent, key := key, rsp := none } = true)
  (hpath : onPath s g sl key agent = false)
include hans hpath

theorem exec_biconflict_stray (hout : snoopOut (takeAnswer s g sl { agent := agent, key := key, rsp := none }) g sl key agent = false) :
    exec (.biconflict g sl agent key) s =
      .next (sendAckMsg (countStray (takeAnswer s g sl { agent := agent, key := key, rsp := none }) g sl true) g key agent) :=
  (if_neg (by simp only [hans]; simp [hg, hsl, hpath])).trans (if_pos (by simp [hout]))

theorem exec_biconflict_owed (hout : snoopOut (takeAnswer s g sl { agent := agent, key := key, rsp := none }) g sl key agent = true) :
    exec (.biconflict g sl agent key) s =
      .next ((ackAfter (takeAnswer s g sl { agent := agent, key := key, rsp := none }) g sl key agent).getD
        (sendAckMsg (takeAnswer s g sl { agent := agent, key := key, rsp := none }) g key agent)) := by
  refine (if_neg (by simp only [hans]; simp [hg, hsl, hpath])).trans ((if_neg (by simp [hout])).trans ?_)
  split <;> simp [*]

end Conflict

end Answers

theorem exec_snoopPathWrite {g sl : Nat} {r : SliceReq} {rs : List SliceReq} {s : State} (h : (s.slice g sl).snoopPath = r :: rs) :
    exec (.snoopPathWrite g sl) s =
      (let u := freeEg (s.modSlice g sl (fun x => { x with snoopPath := rs })) g (localOf (keyPort g r.key)) 0 r.cells
       .next (progress (
         if r.kind = .evict then sliceReply u g sl r .cmp none false
         else match entryOf u g sl r.key with
           | none => earlyWrite u g sl r
           | some e => match e.txn with
             | none => earlyWrite u g sl r
             | some t => if r.beforeSnoop then earlyWrite u g sl r else captureWrite u g sl e t r) g sl r.key)) := by
  have hexec : exec (.snoopPathWrite g sl) s = execSnoopPathWrite g sl s := rfl
  rw [hexec, execSnoopPathWrite, h]
  simp only [beq_iff_eq] <;> rfl

/-- Settles O29: an answer to a snoop that is out, or to none, and the head of the snoop-answer path. -/
theorem snoopAnswers : Obligations.SnoopAnswers := by
  unfold Obligations.SnoopAnswers
  refine ⟨?answered, ?stray, ?notThere, ?conflictStray, ?conflict, ?conflictWaits, ?path⟩
  case answered =>
    intro g sl agent key rsp f s u hg hsl hans hu hout
    subst hu
    exact exec_birsp_owed hg hsl f hans hout
  case stray =>
    intro g sl agent key rsp f s u hg hsl hans hu hout
    subst hu
    exact exec_birsp_stray hg hsl f hans hout
  case notThere =>
    intro g sl agent key rsp f s hans
    exact if_pos (by simp only [hans]; simp)
  case conflictStray =>
    intro g sl agent key s u hg hsl hans hpath hu hout
    subst hu
    exact exec_biconflict_stray hg hsl hans hpath hout
  case conflict =>
    intro g sl agent key s u hg hsl hans hpath hu hout
    subst hu
    exact exec_biconflict_owed hg hsl hans hpath hout
  case conflictWaits =>
    intro g sl agent key s h
    exact if_pos (by rcases h with h | h <;> simp only [h] <;> simp)
  case path =>
    intro g sl r rs s h
    exact ⟨_, rfl, exec_snoopPathWrite h⟩

/-! ## Lost snoops, reports and fences -/

theorem declareLost_fenced {g sl k : Nat} {n : Snoop} {s : State} (hout : snoopOut s g sl k n.agent = true)
    (hon : ((loseSnoop s g sl k n.agent).1.fence n.agent).on = true) :
    declareLost s g sl k n =
      (let u := fenceAgent (loseSnoop s g sl k n.agent).1 n.agent 2
       progress (if (loseSnoop s g sl k n.agent).2 then u.modFence n.agent (fun f => { f with poisoned := sat 16 (f.poisoned + 1) })
         else u) g sl k) := by
  refine (if_neg (by simp [hout])).trans ?_
  simp only [if_pos hon]

theorem declareLost_reported {g sl k : Nat} {n : Snoop} {s : State} (hout : snoopOut s g sl k n.agent = true)
    (hon : ((loseSnoop s g sl k n.agent).1.fence n.agent).on = false) :
    declareLost s g sl k n =
      (let u := fenceAgent (raiseSlice (loseSnoop s g sl k n.agent).1 g sl evBiTimeout 3
         (leBytes 1 n.agent ++ leBytes 1 (snoopCode n.kind) ++ leBytes 1 (bit (loseSnoop s g sl k n.agent).2) ++
           leBytes 1 (((entryOf s g sl k).map (·.way)).getD 255) ++ leBytes 2 (keySet k)) n.sentDrip) n.agent 2
       progress (if (loseSnoop s g sl k n.agent).2 then u.modFence n.agent (fun f => { f with poisoned := sat 16 (f.poisoned + 1) })
         else u) g sl k) := by
  refine (if_neg (by simp [hout])).trans ?_
  simp only [hon, Bool.false_eq_true, if_false]

theorem exec_discardReport {g sl agent key : Nat} {s : State}
    (h : s.dir.reports.contains { g := g, sl := sl, agent := agent, key := key } = true) :
    exec (.discardReport g sl agent key) s =
      (let u := { s with dir := { s.dir with reports := s.dir.reports.erase { g := g, sl := sl, agent := agent, key := key } } }
       let home := ((homeEntry u g key).map (·.1)).getD sl
       .next (if ((entryOf u g home key).bind (·.txn)).isSome then modTxn u g home key (fun t => { t with undo := agent :: t.undo })
         else undoGrant u g home key agent)) := by
  refine (if_neg (by simp only [h]; simp)).trans ?_
  cases hhome : homeEntry { s with dir := { s.dir with reports := s.dir.reports.erase { g := g, sl := sl, agent := agent, key := key } } } g key
  all_goals
    simp only [hhome, Option.map_none, Option.map_some, Option.getD_none, Option.getD_some]
    split <;> simp [*]

/-- Settles O30: what a timer declares lost, what a report undoes, and what the sweep of a fence does and ends with. -/
theorem snoopTimersReportsAndFences : Obligations.SnoopTimersReportsAndFences := by
  unfold Obligations.SnoopTimersReportsAndFences
  refine ⟨?timer, ?fenced, ?lost, ?report, ?sweep, ?swept⟩
  case timer =>
    intro g sl s hg hsl hdrip
    have hexec : exec (.snoopTimerCheck g sl) s = .next (forEach (lateSnoops s g sl) s (fun u e => declareLost u g sl e.1 e.2)) :=
      exec_due_true _ _ _ (by simp [hg, hsl, hdrip])
    exact ⟨hexec, fun hnone => hexec.trans (by rw [hnone]; rfl)⟩
  case fenced =>
    intro g sl k n s hout hon
    exact ⟨_, rfl, declareLost_fenced hout hon⟩
  case lost =>
    intro g sl k n s hout hon
    exact ⟨_, rfl, declareLost_reported hout hon⟩
  case report =>
    intro g sl agent key rep s hrep h
    subst hrep
    exact ⟨_, _, rfl, rfl, exec_discardReport h⟩
  case sweep =>
    intro g sl agent set s hon hsweep hact hmay
    exact ⟨_, rfl, exec_due_true _ _ _ (by simp only [hact, hmay]; simp [hon, hsweep])⟩
  case swept =>
    intro agent s hon hsweep hdone
    exact ⟨_, _, rfl, rfl, exec_due_true _ _ _ (by simp only [hdone]; simp [hon, hsweep])⟩

end Sys2Proof.Machine
end

section
/-!
PROOFS. Self-tests, conversions and migrations of slices (R104 to R109, R112).
-/

namespace Sys2Proof.Machine

/-! ## Self-tests -/

theorem exec_fullArraySelfTestEnd {g sl : Nat} {s : State} (pass : Bool) (hg : g < 8) (hsl : sl < 9)
    (hmode : (s.slice g sl).mode = .pointer) (htested : (s.slice g sl).fullTested = false) (hcause : (s.slice g sl).modeCause = 1) :
    exec (.fullArraySelfTestEnd g sl pass) s =
      (let u := s.modSlice g sl (fun x => { x with fullTested := true, fullPassed := pass })
       .next (if pass then startConv u g sl (.toFull 0) 1
         else if (s.slice g sl).role = .spare then
           raiseSpared (u.modSlice g sl (fun x => { x with role := .failed, change := s.drip })) g sl .spare .failed none 5 none false
         else if (spareFree u g).isSome then startMigration u g sl 5
         else raiseMode (u.modSlice g sl (fun x => { x with modeCause := 3 })) g sl true 3)) := by
  refine (if_neg (by simp [isSlice, hg, hsl, hmode, htested, hcause])).trans ?_
  generalize hu : s.modSlice g sl (fun x => { x with fullTested := true, fullPassed := pass }) = u
  have hdrip : u.drip = s.drip := by rw [← hu]; rfl
  simp only [beq_iff_eq, hdrip]
  repeat' split
  all_goals rfl

theorem exec_sliceTestEnd_testing {g sl : Nat} {s : State} (pass : Bool) (arr addr : Nat) (hg : g < 8) (hsl : sl < 9)
    (hrole : (s.slice g sl).role = .testing) :
    exec (.sliceTestEnd g sl pass arr addr) s =
      .next (raiseSpared ((testResult s g sl pass arr addr).modSlice g sl (fun y => { y with
        role := if pass then .spare else .failed, change := s.drip, mode := if pass then .full else y.mode })) g sl .testing
        (if pass then .spare else .failed) none 4 none pass) :=
  (if_neg (by simp [isSlice, hg, hsl])).trans (if_pos (by simp [hrole]))

theorem exec_sliceTestEnd_pointer {g sl : Nat} {s : State} (pass : Bool) (arr addr : Nat) (hg : g < 8) (hsl : sl < 9)
    (hrole : (s.slice g sl).role = .active) (hpend : (s.slice g sl).testPending = true) (hmode : (s.slice g sl).mode = .pointer) :
    exec (.sliceTestEnd g sl pass arr addr) s =
      (let u := if pass then startConv (testResult s g sl pass arr addr) g sl (.toFull 0) 2
         else (testResult s g sl pass arr addr).modSlice g sl (fun y => { y with modeCause := 3 })
       .next (raiseSpared u g sl .active .active (logicalOf u g sl) 4 none pass)) :=
  (if_neg (by simp [isSlice, hg, hsl])).trans ((if_neg (by simp [hrole])).trans (if_pos (by simp [hpend, hmode])))

/-- Settles O31: what the end of each test makes of its slice. -/
theorem sliceSelfTests : Obligations.SliceSelfTests := by
  unfold Obligations.SliceSelfTests
  refine ⟨?pointer, ?full, ?testing, ?inPointer, ?interval, ?conversion⟩
  case pointer =>
    intro g sl s hg hsl hmode
    exact exec_due_true _ _ _ (by simp [isSlice, hg, hsl, hmode])
  case full =>
    intro g sl pass s hg hsl hmode htested hcause
    exact ⟨_, rfl, exec_fullArraySelfTestEnd pass hg hsl hmode htested hcause⟩
  case testing =>
    intro g sl arr addr pass s hg hsl hrole
    exact exec_sliceTestEnd_testing pass arr addr hg hsl hrole
  case inPointer =>
    intro g sl arr addr pass s hg hsl hrole hpend hmode
    exact ⟨_, rfl, exec_sliceTestEnd_pointer pass arr addr hg hsl hrole hpend hmode⟩
  case interval =>
    intro g sl s hg hsl
    refine (exec_due_true _ _ _ (by simp [isSlice, hg, hsl])).trans ?_
    simp only [freshInterval, beq_iff_eq]
  case conversion => exact fun _ _ _ _ _ => ⟨_, rfl, rfl⟩

/-! ## Conversions -/

section Conversion
variable {g sl n : Nat} {s : State} (hg : g < 8) (hsl : sl < 9)
include hg hsl

theorem convAt_toFull (hmode : (s.slice g sl).mode = .toFull n) :
    (if isSlice g sl then convAt (s.slice g sl) else none) = some (true, n) :=
  (if_pos (by simp [isSlice, hg, hsl])).trans (by rw [convAt, hmode])

theorem convAt_toPointer (hmode : (s.slice g sl).mode = .toPointer n) :
    (if isSlice g sl then convAt (s.slice g sl) else none) = some (false, n) :=
  (if_pos (by simp [isSlice, hg, hsl])).trans (by rw [convAt, hmode])

theorem exec_conversionStep_toFull (hmode : (s.slice g sl).mode = .toFull n) (hn : n < 16384)
    (hidle : (convSource s g sl n true).any isBusy = false) :
    exec (.conversionStep g sl) s =
      .next (convNext (moveToFull s g sl n) g sl n (.toFull (n + 1)) ((convSource s g sl n true).map (·.key))) := by
  have hexec : exec (.conversionStep g sl) s = execConversionStep g sl s := rfl
  rw [hexec, execConversionStep, convAt_toFull hg hsl hmode]
  exact if_neg (by simp only [hidle]; simp [hn])

theorem exec_conversionStep_toPointer (hmode : (s.slice g sl).mode = .toPointer n) (hn : n < 16384)
    (hidle : (convSource s g sl n false).any isBusy = false) :
    exec (.conversionStep g sl) s =
      (let out := ((convSource s g sl n false).foldr moveInsert []).drop 8
       let v := s.modSlice g sl (fun x => { x with evictedByConv := x.evictedByConv + out.length })
       .next (if (convSource s g sl n false).length ≤ 8
         then convNext (moveToPtr s g sl n) g sl n (.toPointer (n + 1)) ((convSource s g sl n false).map (·.key))
         else forEach out v (fun s e => progress (startEvict s g sl e .convert none (evictTargets s g e)) g sl e.key))) := by
  have hexec : exec (.conversionStep g sl) s = execConversionStep g sl s := rfl
  rw [hexec, execConversionStep, convAt_toPointer hg hsl hmode]
  refine (if_neg (by simp only [hidle]; simp [hn])).trans ((if_neg Bool.false_ne_true).trans ?_)
  split <;> rfl

theorem exec_conversionEnd_toFull (hmode : (s.slice g sl).mode = .toFull n) (hleft : convLeft s g sl n true = false) :
    exec (.conversionEnd g sl) s =
      (let u := (raiseMode (s.modSlice g sl (fun x => { x with mode := .full, change := s.drip })) g sl false
         (s.slice g sl).modeCause).modSlice g sl (fun x => { x with intake := x.held ++ x.intake, held := [] })
       .next (if (s.slice g sl).testPending then enterPointer u g sl 2 else u)) := by
  have hexec : exec (.conversionEnd g sl) s = execConversionEnd g sl s := rfl
  rw [hexec, execConversionEnd, convAt_toFull hg hsl hmode]
  exact if_neg (by simp [hleft])

theorem exec_conversionEnd_toPointer (hmode : (s.slice g sl).mode = .toPointer n) (hleft : convLeft s g sl n false = false) :
    exec (.conversionEnd g sl) s =
      .next ((raiseMode (s.modSlice g sl (fun x => { x with mode := .pointer, change := s.drip })) g sl true
        (s.slice g sl).modeCause).modSlice g sl (fun x => { x with intake := x.held ++ x.intake, held := [] })) := by
  have hexec : exec (.conversionEnd g sl) s = execConversionEnd g sl s := rfl
  rw [hexec, execConversionEnd, convAt_toPointer hg hsl hmode]
  exact if_neg (by simp [hleft])

end Conversion

/-! ## Migrations -/

theorem exec_migrationSetCopy {g : Nat} {m : Mig} {s : State} (hg : g < 8) (hm : tget none s.dir.migs g = some m) (hp : m.p < 65536)
    (hidle : ((entriesAt s g m.src m.p).filter (fun e => keySet e.key == m.p)).any isBusy = false) :
    exec (.migrationSetCopy g) s =
      (let u := modSet (modEntries s g m.src m.p (List.filter (fun e => keySet e.key != m.p))) true (storeKey true g m.dst m.p)
         (fun _ => migEntries s g m.src m.p)
       let v : State := { u with dir := { u.dir with
         blind := tput false (tput false u.dir.blind (sliceNo g m.src * 65536 + m.p) false) (sliceNo g m.dst * 65536 + m.p)
           (tget false u.dir.blind (sliceNo g m.src * 65536 + m.p))
         migs := tput none u.dir.migs g (some { m with p := m.p + 1, held := [] }) } }
       let w := takeRetries (v.slice g m.src) (fun k => keySet k == m.p)
       let i := takeSet m.p w.2
       .next (pinMoving (forEach (migEntries s g m.src m.p)
         ((v.modSlice g m.src (fun _ => i.2)).modSlice g m.dst (fun y => { y with intake := y.intake ++ w.1 ++ m.held ++ i.1 }))
         (fun s e => unpin s g m.dst e.key)) g m.src)) := by
  have hexec : exec (.migrationSetCopy g) s = execMigrationSetCopy g s := rfl
  rw [hexec, execMigrationSetCopy, if_pos hg, hm]
  exact if_neg (by simp only [hidle]; simp [hp])

theorem exec_migrationEnd {g : Nat} {m : Mig} {s : State} (hg : g < 8) (hm : tget none s.dir.migs g = some m)
    (hdone : (allEntries s g m.src).any (fun e => decide (m.p ≤ keySet e.key)) = false) :
    exec (.migrationEnd g) s =
      (let x := s.slice g m.src
       let role : SliceRole := if m.cause = 3 then .spare else if m.cause = 4 then .testing else .failed
       let u := s.modSlice g m.src (fun y => { y with
         role := role, change := s.drip, intake := [], retry := [], paused := [], snoopPath := [], held := []
         testRes := if m.cause = 4 then 3 else y.testRes })
       let v := u.modSlice g m.dst (fun y => { y with
         role := .active, change := s.drip, tie := x.tie
         intake := y.intake ++ x.retry.map (·.req) ++ m.held ++ x.held ++ x.intake, snoopPath := y.snoopPath ++ x.snoopPath })
       let w : State := { v with dir := { v.dir with
         migs := tput none v.dir.migs g none
         map := match logicalOf s g m.src with
           | some l => tput 0 v.dir.map (8 * g + l) (if m.dst = l then 0 else m.dst + 1)
           | none => v.dir.map } }
       .next (raiseSpared w g m.src .active role (logicalOf s g m.src) m.cause (some m.dst) false)) := by
  have hexec : exec (.migrationEnd g) s = execMigrationEnd g s := rfl
  rw [hexec, execMigrationEnd, if_pos hg, hm]
  refine (if_neg (by simp only [hdone]; exact Bool.false_ne_true)).trans ?_
  simp only [beq_iff_eq]
  rfl

/-- Settles O32: the steps and ends of a conversion in either direction, and of a migration. -/
theorem conversionsAndMigrations : Obligations.ConversionsAndMigrations := by
  unfold Obligations.ConversionsAndMigrations
  refine ⟨?toFull, ?toPointer, ?fullEnd, ?pointerEnd, ?copy, ?migrated⟩
  case toFull =>
    intro g sl n s hg hsl hmode hn hidle
    exact exec_conversionStep_toFull hg hsl hmode hn hidle
  case toPointer =>
    intro g sl n s hg hsl hmode hn hidle
    exact ⟨_, _, rfl, rfl, exec_conversionStep_toPointer hg hsl hmode hn hidle⟩
  case fullEnd =>
    intro g sl n s hg hsl hmode hleft
    exact ⟨_, rfl, exec_conversionEnd_toFull hg hsl hmode hleft⟩
  case pointerEnd =>
    intro g sl n s hg hsl hmode hleft
    exact exec_conversionEnd_toPointer hg hsl hmode hleft
  case copy =>
    intro g m s hg hm hp hidle
    exact ⟨_, _, _, _, rfl, rfl, rfl, rfl, exec_migrationSetCopy hg hm hp hidle⟩
  case migrated =>
    intro g m s hg hm hdone
    exact ⟨_, _, _, _, rfl, rfl, rfl, rfl, exec_migrationEnd hg hm hdone⟩

end Sys2Proof.Machine
end

section
/-!
PROOFS. Links that come up and go down (R133, R154, R166, R392), lane references (R134), low-power states and Recovery (R143 to R149).
-/

namespace Sys2Proof.Machine

/-! ## Training -/

theorem refAbsent_iff (b : Nat) (s : State) :
    refAbsent s b = true ↔ clockingOf s b = 0 ∧ ((s.refclk (refOfPort b)).lost = true ∨ (s.refclk (refOfPort b)).good = false) := by
  simp [refAbsent]

/-- The rate a port trains at with a partner. -/
def trainedRate (s : State) (port : Nat) (p : Partner) : Nat :=
  min p.rate (min (advertised s port) p.maxRate)

section Training
variable {port : Nat} {p : Partner} {s : State} (hmay : mayTrain s port = true)
include hmay

theorem exec_linkUp_refAbsent (habs : refAbsent s port = true) :
    exec (.linkUp port p) s = .next (raiseLink s port evLinkDegraded 0x20 1 65535) :=
  (if_neg (by simp [hmay])).trans (if_pos habs)

theorem exec_linkUp_version3 (habs : refAbsent s port = false) (hver : p.version = 3) :
    exec (.linkUp port p) s = .next (holdLink s port 5 p (trainedRate s port p) (trainedLanes (bundleLanes s port) p.lanes)) :=
  (if_neg (by simp [hmay])).trans ((if_neg (by simp [habs])).trans (if_pos (by simp [hver])))

theorem exec_linkUp_mode (habs : refAbsent s port = false) (hver : p.version ≠ 3) :
    exec (.linkUp port p) s = match flitMode (modesOf s port) p.flitModes (trainedRate s port p) with
      | none => .next (raiseLink s port evLinkDegraded 6 2 65535)
      | some f =>
        if protocolsOk s port p then
          .next (bindAll (bringUp s port (trainedRate s port p) (trainedLanes (bundleLanes s port) p.lanes) f p))
        else .next (holdLink s port 6 p (trainedRate s port p) (trainedLanes (bundleLanes s port) p.lanes)) := by
  refine (if_neg (by simp [hmay])).trans ((if_neg (by simp [habs])).trans ((if_neg (by simp [hver])).trans ?_))
  rfl

end Training

/-- Settles O33: each outcome of training. -/
theorem linksComeUp : Obligations.LinksComeUp := by
  unfold Obligations.LinksComeUp
  refine ⟨?comesUp, ?held, ?noRef, ?noMode, ?absent, ?mayNot⟩
  case comesUp =>
    intro port p s hmay habs hver hprot hmode
    obtain ⟨f, hf⟩ := Option.isSome_iff_exists.mp hmode
    have hf' : flitMode (modesOf s port) p.flitModes (trainedRate s port p) = some f := hf
    rw [exec_linkUp_mode hmay habs hver, hf', hf]
    exact if_pos hprot
  case held =>
    intro port p s hmay habs h
    by_cases hver : p.version = 3
    · rw [exec_linkUp_version3 hmay habs hver, if_pos hver]
      rfl
    · obtain ⟨hprot, hmode⟩ := h.resolve_left hver
      obtain ⟨f, hf⟩ := Option.isSome_iff_exists.mp hmode
      have hf' : flitMode (modesOf s port) p.flitModes (trainedRate s port p) = some f := hf
      rw [exec_linkUp_mode hmay habs hver, hf', if_neg hver]
      exact if_neg (by simp [hprot])
  case noRef =>
    intro port p s hmay habs
    exact exec_linkUp_refAbsent hmay habs
  case noMode =>
    intro port p s hmay habs hver hf
    have hf' : flitMode (modesOf s port) p.flitModes (trainedRate s port p) = none := hf
    rw [exec_linkUp_mode hmay habs hver, hf']
  case absent => exact refAbsent_iff
  case mayNot =>
    intro port p s hmay
    exact if_pos (by simp [hmay])

/-! ## Going down -/

theorem exec_packetAtDownPort {port : Nat} {p : Pkt} {ps : List Pkt} {s : State} (hport : port < 512) (hdown : s.up port = false)
    (hhead : egHead s port = p :: ps) (hstage : p.stage ≠ .begun) :
    exec (.packetAtDownPort port) s = .next (bindAll (atDownPort (egPop s port) port p)) := by
  have hexec : exec (.packetAtDownPort port) s = execPacketAtDownPort port s := rfl
  rw [hexec, execPacketAtDownPort, if_pos (by simp [hport, hdown]), hhead]
  exact exec_due_true _ _ _ (by simp [hstage])

theorem atDownPort_dsp {b : Nat} {p : Pkt} {s : State} (hrole : s.role b = 2) (hlate : isLate s b p = false) :
    atDownPort s b p = atDownDsp s b p :=
  (if_neg (by simp [hlate])).trans (by rw [hrole]; rfl)

theorem atDownPort_usp {b : Nat} {p : Pkt} {s : State} (hrole : s.role b = 1) (hlate : isLate s b p = false) :
    atDownPort s b p = atDownUsp s b p :=
  (if_neg (by simp [hlate])).trans (by rw [hrole]; rfl)

/-- Settles O34: a link that goes down, and what becomes of the packets of a down port. -/
theorem linksGoDown : Obligations.LinksGoDown := by
  unfold Obligations.LinksGoDown
  refine ⟨?down, ?packet, ?ioRequest, ?memRequest, ?completion, ?late⟩
  case down =>
    intro port cause s hbundle hup
    refine (exec_due_true _ _ _ (by simp [hbundle, hup])).trans ?_
    simp only [beq_iff_eq]
  case packet =>
    intro port p ps s hport hdown hhead hstage
    exact exec_packetAtDownPort hport hdown hhead hstage
  case ioRequest =>
    intro b p s hrole hlate hkind
    rw [atDownPort_dsp hrole hlate, atDownDsp, hkind]
  case memRequest =>
    intro b p s hrole hlate hkind
    rw [atDownPort_dsp hrole hlate, atDownDsp, hkind]
  case completion =>
    intro b p s hrole hlate hkind
    rw [atDownPort_usp hrole hlate, atDownUsp, hkind]
  case late =>
    intro b p s hlate
    exact if_pos hlate

/-! ## References -/

theorem exec_laneRefclkLost {j : Nat} {s : State} (hj : j < 32) (hgood : (s.refclk j).good = true) :
    exec (.laneRefclkLost j) s =
      (let u := forEach (List.range 32) (s.modRefclk j (fun r => { r with good := false, lost := true }))
         (fun v k => v.modLane (32 * j + k) (fun l => { l with internal := true }))
       .next (forEach (portsOfRef u j) u (fun v b =>
         if clockingOf v b = 0 then
           if v.up b then takeDown v b 0x20 .down
           else if (v.prt b).link = .training ∨ (v.prt b).link = .held then
             raiseLink (setLink v b .training) b evLinkDegraded 0x20 1 65535
           else v
         else raiseLink v b evLinkDegraded 0x20 1 65535))) := by
  refine (if_neg (by simp [hj, hgood])).trans ?_
  simp only [beq_iff_eq, Bool.or_eq_true]

/-- Settles O35: a lane reference is lost, restored, and good for a second. -/
theorem laneReferences : Obligations.LaneReferences := by
  unfold Obligations.LaneReferences
  refine ⟨?lost, ?restored, ?good⟩
  case lost =>
    intro j s hj hgood
    exact ⟨_, rfl, exec_laneRefclkLost hj hgood⟩
  case restored =>
    intro j s hj hlost hgood
    exact exec_due_true _ _ _ (by simp [hj, hlost, hgood])
  case good =>
    intro j s hj hlost hgood htime
    exact exec_due_true _ _ _ (by simp [hj, hlost, hgood, htime])

/-! ## Low power and Recovery -/

theorem exec_idleTimerExpiry {port target : Nat} {l : LinkSt} {s : State} (htarget : lowState target = some l) (hup : s.up port = true)
    (hlink : (s.prt port).link = .l0 ∨ (s.prt port).link = .l0p) (hlp : bitOf (s.cfg.port port).lp target = true)
    (hempty : egressEmpty s port = true) (hidle : (s.prt port).emptySince + (s.cfg.port port).idleUs * 800 ≤ s.now)
    (hl0 : (s.prt port).l0At + (s.cfg.port port).idleUs * 800 ≤ s.now)
    (hmargin : ((lanesOf s port).any (fun k => (s.lane k).margin.isSome || (s.lane k).partnerMargin)) = false)
    (hgate : gateStaged s port = false) :
    exec (.idleTimerExpiry port target) s = .next (enterLow s port l) := by
  have hexec : exec (.idleTimerExpiry port target) s = execIdleTimerExpiry port target s := rfl
  rw [hexec, execIdleTimerExpiry, htarget]
  refine exec_due_true _ _ _ ?_
  simp only [hmargin, hup, hlp, hempty, hgate, hidle, hl0]
  simpa using hlink

theorem enterLow_of_ne_l1 {l : LinkSt} (b : Nat) (s : State) (hl : l ≠ .l1) :
    enterLow s b l = (setLink ((returnRefs (leaveL0 s b) b).modPrt b (fun x => { x with clkreq := false, refloat := true })) b l).modPrt b
      (fun x => { x with exiting := false, narrow := 0 }) := by
  rw [enterLow]
  simp only [beq_false_of_ne hl, Bool.false_eq_true, if_false]

theorem resumeLanes_time (s : State) (b : Nat) (ks : List Nat) : (resumeLanes s b ks).time = s.time :=
  forEach_keep (fun s => s.time) _ _ _ fun _ _ => rfl

theorem replaceFloats_time (s : State) (b : Nat) : (replaceFloats s b).time = s.time :=
  forEach_keep (fun s => s.time) _ _ _ fun _ _ => rfl

theorem exec_lowPowerExitComplete {port rate : Nat} {s : State} (t : Retrain) (hup : s.up port = true)
    (hexit : (s.prt port).exiting = true) :
    exec (.lowPowerExitComplete port rate t) s = .next (if (s.prt port).link = .l0p then
      reachL0 s port ((lanesOf s port).filter (fun k => !laneInL0 s k)) else leaveRecovery s port rate t) := by
  refine (exec_due_true _ _ _ (by simp [hup, hexit])).trans ?_
  simp only [beq_iff_eq]

section LinkState
variable {port rate : Nat} {t : Retrain} {s : State} (hup : s.up port = true)
include hup

theorem exec_linkStateChange_recovery (hlink : (s.prt port).link = .recovery) :
    exec (.linkStateChange port 2 rate t) s = .next (leaveRecovery s port rate t) :=
  (if_neg (by simp [hup])).trans (by rw [hlink])

theorem exec_linkStateChange_l0p (hlink : (s.prt port).link = .l0p) :
    exec (.linkStateChange port 2 rate t) s = .next (s.modPrt port (fun x => { x with exiting := true })) :=
  (if_neg (by simp [hup])).trans (by rw [hlink])

theorem exec_linkStateChange_l0 (hlink : (s.prt port).link = .l0) : exec (.linkStateChange port 2 rate t) s = .next s :=
  (if_neg (by simp [hup])).trans (by rw [hlink])

theorem exec_linkStateChange_low (hlink : (s.prt port).link = .l1 ∨ (s.prt port).link = .l11 ∨ (s.prt port).link = .l12) :
    exec (.linkStateChange port 2 rate t) s = .next (startExit s port) := by
  refine (if_neg (by simp [hup])).trans ?_
  rcases hlink with h | h | h <;> rw [h]

end LinkState

theorem leaveRecovery_eq (b rate0 : Nat) (t : Retrain) (s : State) :
    leaveRecovery s b rate0 t =
      (let rate := min rate0 (min (advertised s b) (s.prt b).partner.maxRate)
       let u := s.modPrt b (fun x => { x with
         rate := rate, lanes := trainedLanes (bundleLanes s b) t.lanes
         flit := (flitMode (modesOf s b) x.partner.flitModes rate).getD x.flit })
       let anew := (lanesOf u b).filter (fun k => t.equalised || ((u.lane k).saved.find? (fun e => e.1 == rate)).isNone)
       let v := measureSkew (reachL0 (forEach anew u (fun s k => equalise s b k rate)) b
         ((lanesOf (forEach anew u (fun s k => equalise s b k rate)) b).filter (fun k => !anew.contains k))) b
       if trainedLanes (bundleLanes s b) t.lanes = (s.prt b).lanes ∧ rate = (s.prt b).rate then v
       else raiseReduced v b (trainedLanes (bundleLanes s b) t.lanes) rate (s.prt b).partner) := by
  simp only [leaveRecovery, Bool.and_eq_true, beq_iff_eq]

/-- Settles O36: entering and leaving low power, by the timer and by the partner, and leaving Recovery. -/
theorem lowPowerAndRecovery : Obligations.LowPowerAndRecovery := by
  unfold Obligations.LowPowerAndRecovery
  refine ⟨?idle, ?l1, ?deeper, ?exit, ?reach, ?fromRecovery, ?fromL0p, ?fromL1, ?fromDeeper, ?inL0, ?narrows, ?toL1, ?toL11, ?toL12,
    ?toRecovery, ?other, ?leaves⟩
  case idle =>
    intro port target l s htarget hup hlink hlp hempty hidle hl0 hmargin hgate
    exact exec_idleTimerExpiry htarget hup hlink hlp hempty hidle hl0 hmargin hgate
  case l1 => exact fun _ _ => rfl
  case deeper => exact fun b _ s hl => enterLow_of_ne_l1 b s hl
  case exit =>
    intro port rate t s hup hexit
    exact exec_lowPowerExitComplete t hup hexit
  case reach =>
    intro b ks s
    have hnow : (if (s.prt b).refloat then replaceFloats (resumeLanes s b ks) b else resumeLanes s b ks).now = s.now := by
      split <;> simp only [State.now, replaceFloats_time, resumeLanes_time]
    simp only [reachL0, ← hnow]
  case fromRecovery =>
    intro port rate t s hup hlink
    exact exec_linkStateChange_recovery hup hlink
  case fromL0p =>
    intro port rate t s hup hlink
    exact exec_linkStateChange_l0p hup hlink
  case fromL1 =>
    intro port rate t s hup hlink
    rw [exec_linkStateChange_low hup (.inl hlink), startExit, hlink]
  case fromDeeper =>
    intro port rate t s hup hlink
    rw [exec_linkStateChange_low hup (.inr hlink), startExit]
    rcases hlink with h | h <;> rw [h]
  case inL0 =>
    intro port rate t s hup hlink
    exact exec_linkStateChange_l0 hup hlink
  case narrows =>
    intro port rate t s hup hlink hlp hlanes
    exact (if_neg (by simp [hup])).trans (exec_due_true _ _ _ (by simpa [hlp, hlanes] using hlink))
  case toL1 =>
    intro port rate t s hup hlink hlp
    exact (if_neg (by simp [hup])).trans (exec_due_true _ _ _ (by simpa [hlp] using hlink))
  case toL11 =>
    intro port rate t s hup hlink hlp
    exact (if_neg (by simp [hup])).trans (exec_due_true _ _ _ (by simpa [hlp] using hlink))
  case toL12 =>
    intro port rate t s hup hlink hlp
    exact (if_neg (by simp [hup])).trans (exec_due_true _ _ _ (by simpa [hlp] using hlink))
  case toRecovery =>
    intro port rate t s hup hlink
    exact (if_neg (by simp [hup])).trans (exec_due_true _ _ _ (by simp [hlink]))
  case other =>
    intro port state rate t s h
    by_cases hup : s.up port = true
    · refine (if_neg (by simp [hup])).trans ?_
      split
      any_goals rfl
      all_goals simp [hup] at h
    · exact if_pos (by simp [hup])
  case leaves => exact fun b rate0 t s => ⟨_, _, _, _, rfl, rfl, rfl, rfl, leaveRecovery_eq b rate0 t s⟩

end Sys2Proof.Machine
end

section
/-!
PROOFS. Accesses to devices (R163, R164), messages that arrive at a port (R150, R160, R163, R169), and the restore of a guard (R216).
-/

namespace Sys2Proof.Machine

/-! ## What forming cells and counting a message leave alone -/

/-- The management state and the configuration, which give a port its role. -/
def settings (s : State) : MgmtSt × Cfg :=
  (s.mgmt, s.cfg)

theorem role_of_settings {s t : State} (h : settings t = settings s) (b : Nat) : t.role b = s.role b := by
  obtain ⟨hmgmt, hcfg⟩ := Prod.mk.inj h
  rw [State.role, roleIn, hmgmt, hcfg, State.role, roleIn]

theorem cfg_of_settings {s t : State} (h : settings t = settings s) : t.cfg = s.cfg :=
  (Prod.mk.inj h).2

theorem settings_noteRunIn (s : State) (g port tag proto : Nat) (f : SampRun → SampRun) :
    settings (noteRunIn s g port tag proto f) = settings s := by
  unfold noteRunIn
  simp only
  split <;> rfl

theorem settings_noteRun (s : State) (port tag proto : Nat) (f : SampRun → SampRun) :
    settings (noteRun s port tag proto f) = settings s := by
  unfold noteRun
  split
  · exact settings_noteRunIn s _ _ _ _ _
  · exact forEach_keep settings _ _ _ fun _ _ => settings_noteRunIn _ _ _ _ _ _

theorem settings_notePkt (s : State) (p : Pkt) (f : SampRun → SampRun) : settings (notePkt s p f) = settings s := by
  unfold notePkt
  split
  · exact settings_noteRun s _ _ _ _
  · exact settings_noteRun s _ _ _ _
  · rfl

theorem settings_replyGone (s : State) (p : Pkt) : settings (replyGone s p) = settings s := by
  unfold replyGone
  simp only
  split
  · exact settings_notePkt s p endRun
  · split <;> exact settings_notePkt s p endRun

theorem settings_scanReply (s : State) (p : Pkt) : settings (scanReply s p) = settings s := by
  unfold scanReply
  simp only
  split <;> exact settings_replyGone s p

theorem settings_arrivePort (s : State) (g : Nat) (p : Pkt) : settings (arrivePort s g p) = settings s := by
  unfold arrivePort
  split
  · exact settings_scanReply _ p
  · rfl

theorem settings_formCell (s : State) (g : Nat) (c : Cell) : settings (formCell s g c) = settings s := by
  unfold formCell
  simp only
  repeat' split
  any_goals rfl
  exact settings_arrivePort s g _

theorem settings_formCells (s : State) (b : Nat) (all : Bool) : settings (formCells s b all) = settings s := by
  unfold formCells
  simp only
  split
  · rfl
  · exact forEach_keep settings _ _ _ fun s e => settings_formCell s (galOf b) e.cell

/-! ## Devices -/

/-- The state in which a reply's request is taken off the port's list, and the sampled run of its packet stamped. -/
def replyTaken (s : State) (port id : Nat) (o : DevOut) (n : Nat) : State :=
  notePkt (takeOut (rxMsg s port n) port id) o.pkt (stampRun (takeOut (rxMsg s port n) port id) 4)

theorem cfg_replyTaken (s : State) (port id : Nat) (o : DevOut) (n : Nat) : (replyTaken s port id o n).cfg = s.cfg :=
  cfg_of_settings ((settings_notePkt _ o.pkt _).trans rfl)

section Reply
variable {port id : Nat} {s : State} (c : Cmp) (data : Bytes) (poison : Bool) (hup : s.up port = true) (hrole : (s.cfg.port port).role = 2)
include hup hrole

theorem exec_deviceReply {o : DevOut} (ho : ((rxMsg s port data.length).prt port).outs.find? (fun o => o.id == id) = some o) :
    exec (.deviceReply port id c ⟨data, poison⟩) s =
      (let u := replyTaken s port id o data.length
       if !isType3 s.cfg port then .next (passReply u port o.pkt c data poison)
       else
         let v := u.modPrt port (fun p => { p with slow := false })
         .next (bindAll (requestEnd (if (u.prt port).slow then writePinned v port else v) port id o.pkt true data poison))) := by
  refine (if_neg (by simp [hup, hrole])).trans ?_
  rw [ho]
  simp only [← cfg_replyTaken s port id o data.length]
  rfl

theorem exec_deviceReply_late (ho : ((rxMsg s port data.length).prt port).outs.find? (fun o => o.id == id) = none) :
    exec (.deviceReply port id c ⟨data, poison⟩) s = .next (countLate (rxMsg s port data.length) port) := by
  refine (if_neg (by simp [hup, hrole])).trans ?_
  rw [ho]

end Reply

theorem exec_devTimeout {port id : Nat} {o : DevOut} {s : State} (htype : isType3 s.cfg port = true)
    (ho : (s.prt port).outs.find? (fun o => o.id == id) = some o) (hlate : o.sentAt + devLimit s port ≤ s.now) :
    exec (.devTimeout port id) s =
      .next (bindAll (serveAllTwins (requestEnd (loseDevice (noteTimeout (takeOut s port id) port) port) port id o.pkt false [] false))) := by
  have hexec : exec (.devTimeout port id) s = execDevTimeout port id s := rfl
  rw [hexec, execDevTimeout, if_pos htype, ho]
  exact exec_due_true _ _ _ (decide_eq_true hlate)

theorem exec_deviceAccessComplete {id port : Nat} {o : DevOut} {a : DevAcc} {s : State} (ok : Bool) (data : Bytes) (poison : Bool)
    (ha : accOf s id = some a) (ho : outAt s a.id = some (port, o)) :
    exec (.deviceAccessComplete id ok data poison) s =
      if ok then .next (bindAll (accessEnd (takeOut s port a.id) a true data poison))
      else due (decide (o.sentAt + devLimit s port ≤ s.now)) s
        (bindAll (serveAllTwins (accessEnd (loseDevice (noteTimeout (takeOut s port a.id) port) port) a false data poison))) := by
  have hexec : exec (.deviceAccessComplete id ok data poison) s = execDeviceAccessComplete id ok data poison s := rfl
  rw [hexec, execDeviceAccessComplete, ha]
  simp only [completeAccess, ho]

/-- Settles O38: a device answers, answers nobody, or does not answer in time. -/
theorem deviceAccesses : Obligations.DeviceAccesses := by
  unfold Obligations.DeviceAccesses
  refine ⟨?type3, ?pass, ?late, ?timeout, ?good, ?failed⟩
  case type3 =>
    intro port id c data poison o s hup hrole htype ho
    exact ⟨_, _, rfl, rfl, (exec_deviceReply c data poison hup hrole ho).trans (if_neg (by simp [htype]))⟩
  case pass =>
    intro port id c data poison o s hup hrole htype ho
    exact ⟨_, rfl, (exec_deviceReply c data poison hup hrole ho).trans (if_pos (by simp [htype]))⟩
  case late =>
    intro port id c data poison s hup hrole ho
    exact exec_deviceReply_late c data poison hup hrole ho
  case timeout =>
    intro port id o s htype ho hlate
    exact exec_devTimeout htype ho hlate
  case good =>
    intro id port o data poison a s ha ho
    exact exec_deviceAccessComplete true data poison ha ho
  case failed =>
    intro id port o data poison a s ha ho
    refine (exec_deviceAccessComplete false data poison ha ho).trans ?_
    simp [due]

/-! ## Ingress -/

theorem exec_ingressDecode {port : Nat} {s : State} (q : HostReq) (hbundle : isBundle s s.cfg port = true) (hup : s.up port = true) :
    exec (.ingressDecode port q) s =
      match s.role port with
      | 1 => .next (uspIn (formCells s port true) port q)
      | 2 => .next (if (s.cfg.port port).passAgent == 65535 then devIn (formCells s port true) port q
          else passIn (formCells s port true) port q)
      | 3 => .next (fptIn (formCells s port true) port q)
      | 4 => .next (bootIn (formCells s port true) port q)
      | _ => .next (formCells s port true) := by
  refine (if_neg (by simp [hbundle, hup])).trans ?_
  rw [← role_of_settings (settings_formCells s port true) port, ← cfg_of_settings (settings_formCells s port true)] <;> rfl

theorem fptIn_of_other_peer {b : Nat} {q : HostReq} {s : State}
    (h : q.dpid ≠ (s.cfg.port b).localPbr ∨ q.spid ≠ (s.cfg.port b).peerPbr) : fptIn s b q = countLate (rxMsg s b q.data.length) b :=
  if_pos (by simpa using h)

/-- Settles O39: a message that arrives goes where the role of its port says. -/
theorem ingressByRole : Obligations.IngressByRole := by
  unfold Obligations.IngressByRole
  refine ⟨?usp, ?device, ?pass, ?fpt, ?boot, ?request, ?otherPeer, ?down⟩
  case usp =>
    intro port q s hbundle hup hrole
    rw [exec_ingressDecode q hbundle hup, hrole]
    rfl
  case device =>
    intro port q s hbundle hup hrole hpass
    rw [exec_ingressDecode q hbundle hup, hrole]
    exact congrArg _ (if_pos (by simp [hpass]))
  case pass =>
    intro port q s hbundle hup hrole hpass
    rw [exec_ingressDecode q hbundle hup, hrole]
    exact congrArg _ (if_neg (by simp [hpass]))
  case fpt =>
    intro port q s hbundle hup hrole
    rw [exec_ingressDecode q hbundle hup, hrole]
    rfl
  case boot =>
    intro port q s hbundle hup hrole
    rw [exec_ingressDecode q hbundle hup, hrole]
    rfl
  case request =>
    intro b q s hop
    exact if_pos hop
  case otherPeer =>
    intro b q s h
    exact fptIn_of_other_peer h
  case down =>
    intro port q s hup
    exact if_pos (by simp [hup])

/-! ## Guards -/

theorem ruleFault_corrected {c : Checked} {i : Nat} {s : State} (hfault : (s.grd c.port).fault = false) (hstore : c.store = .corrected i)
    (hi : i < 64) : ruleFault s c = raiseFault s c.port 1 i (tget {} (s.cfg.grd c.port).rules i).space 0 := by
  rw [ruleFault, hstore]
  exact (if_neg (by simp [hfault])).trans (if_pos hi)

theorem ruleFault_uncorrectable {c : Checked} {i : Nat} {s : State} (hfault : (s.grd c.port).fault = false)
    (hstore : c.store = .uncorrectable i) (hi : i < 64) :
    ruleFault s c = raiseFault (s.modGrd c.port (fun g => { g with fault := true, faultAt := s.now })) c.port 2 i
      (tget {} (s.cfg.grd c.port).rules i).space 3 := by
  rw [ruleFault, hstore]
  exact (if_neg (by simp [hfault])).trans (if_pos hi)

/-- Settles O42: a restore from a good or a bad copy, and the two errors of a rule store at a check. -/
theorem guardRestore : Obligations.GuardRestore := by
  unfold Obligations.GuardRestore
  refine ⟨?restored, ?nothing, ?corrected, ?uncorrectable⟩
  case restored =>
    intro port copyOk s hfault hlost hfw
    refine (if_neg (by simp [hfault, hlost, hfw])).trans ?_
    split <;> rfl
  case nothing =>
    intro port copyOk s h
    exact if_pos (by rcases h with h | h | h <;> simp [h])
  case corrected =>
    intro c i s hfault hstore hi
    exact ruleFault_corrected hfault hstore hi
  case uncorrectable =>
    intro c i s hfault hstore hi
    exact ⟨_, rfl, ruleFault_uncorrectable hfault hstore hi⟩

end Sys2Proof.Machine
end

section
/-!
PROOFS. The Echo service (R249, R252 to R254), and the check-value slots (R261, R265, R268, R270).
-/

namespace Sys2Proof.Machine

/-! ## Doorbells -/

/-- A doorbell that is heard: of an endpoint of a homed hierarchy, rung by one of its USPs that is up. -/
theorem exec_doorbell {agent ep win usp : Nat} {s : State} (hagent : agent < 256) (hep : ep < 16) (hwin : win < 4)
    (hhome : homed s agent = true) (husp : (s.cfg.hier agent).usps.contains usp = true) (hup : s.up usp = true) :
    exec (.doorbell agent ep win usp) s = .next (ringDoorbell s (16 * agent + ep) win) :=
  exec_due_true _ _ _ (by simp only [husp]; simp [hagent, hep, hwin, hhome, hup])

section Ring
variable {e w : Nat} {s : State}

theorem ringDoorbell_disabled (hen : epEnabled s e = false) : ringDoorbell s e w = echoDrop s (epHier s e).home 4 (some e) none :=
  if_pos (by simp [hen])

variable (hen : epEnabled s e = true)
include hen

theorem ringDoorbell_bad_header (hgood : headerGoodEcho s (e / 16) (winBytes (s.endp e) w 16) = false) :
    ringDoorbell s e w = echoDrop s (epHier s e).home 2 (some e) none :=
  (if_neg (by simp [hen])).trans (if_pos (by simp [hgood]))

variable (hgood : headerGoodEcho s (e / 16) (winBytes (s.endp e) w 16) = true)
include hgood

theorem ringDoorbell_receiver_disabled (hdst : epEnabled s (fieldAt (winBytes (s.endp e) w 16) 0 2) = false) :
    ringDoorbell s e w = echoDrop s (epHier s e).home 4 (some e) none :=
  (if_neg (by simp [hen])).trans ((if_neg (by simp [hgood])).trans (if_pos (by simp [hdst])))

variable (hdst : epEnabled s (fieldAt (winBytes (s.endp e) w 16) 0 2) = true)
include hdst

theorem ringDoorbell_other_domain (hdom : (s.cfg.endp e).domain ≠ (s.cfg.endp (fieldAt (winBytes (s.endp e) w 16) 0 2)).domain) :
    ringDoorbell s e w = echoDrop s (epHier s e).home 3 (some e) none :=
  (if_neg (by simp [hen])).trans ((if_neg (by simp [hgood])).trans ((if_neg (by simp [hdst])).trans (if_pos (by simp [hdom]))))

variable (hdom : (s.cfg.endp e).domain = (s.cfg.endp (fieldAt (winBytes (s.endp e) w 16) 0 2)).domain)
include hdom

/-- A message that passes every test but the policer's is coloured, and dropped or tried by its colour. -/
theorem ringDoorbell_policed :
    ringDoorbell s e w =
      (let h := winBytes (s.endp e) w 16
       let v := police (s.cfg.endp e) s.now (64 * byteAt h 2) (s.endp e)
       let u := s.modEndp e (fun _ => v.2)
       if v.1 == 2 then echoDrop u (epHier s e).home 1 (some e) none
       else echoTry u (epHier s e).home
         { ep := e, dst := fieldAt h 0 2, prio := byteAt h 3 % 8, slot := if bitOf (byteAt h 3) 3 then some (byteAt h 6) else none,
           msg := spliceAt (spliceAt (winBytes v.2 w (64 * byteAt h 2)) 4 (leBytes 2 e)) 7 (leBytes 1 v.1) }) :=
  (if_neg (by simp [hen])).trans ((if_neg (by simp [hgood])).trans ((if_neg (by simp [hdst])).trans (if_neg (by simp [hdom]))))

end Ring

theorem echoTry_waits {g : Nat} {m : HeldMsg} {s : State}
    (h : (∃ k, m.slot = some k ∧ (s.ctx (m.ep / 16) k).busy = true) ∨ (s.svc g).held.any (fun h => h.ep == m.ep) = true) :
    echoTry s g m = s.modSvc g (fun v => { v with held := v.held ++ [m] }) := by
  refine if_pos ?_
  obtain ⟨k, hslot, hbusy⟩ | hheld := h
  · simp [hslot, hbusy]
  · simp only [hheld, Bool.or_true]

theorem echoTry_unsealed {g : Nat} {m : HeldMsg} {s : State} (hslot : m.slot = none)
    (hheld : (s.svc g).held.any (fun h => h.ep == m.ep) = false) : echoTry s g m = echoSend s m.ep m.dst m.prio m.msg := by
  refine (if_neg (by simp only [hheld]; simp [hslot])).trans ?_
  rw [echoGo, hslot]

theorem echoTry_sealed {g k : Nat} {m : HeldMsg} {s : State} (hslot : m.slot = some k) (hbusy : (s.ctx (m.ep / 16) k).busy = false)
    (hassigned : assigned s (m.ep / 16) k = true) (hheld : (s.svc g).held.any (fun h => h.ep == m.ep) = false) :
    echoTry s g m = echoSend (sealEcho s (m.ep / 16) k m.msg).1 m.ep m.dst m.prio
      (spliceAt m.msg 12 (sealEcho s (m.ep / 16) k m.msg).2) := by
  refine (if_neg (by simp only [hheld]; simp [hslot, hbusy])).trans ?_
  rw [echoGo, hslot]
  exact if_neg (by simp [hassigned])

/-- Settles O44: the tests of a doorbell in order, and what becomes of a message that passes them. -/
theorem echoDoorbell : Obligations.EchoDoorbell := by
  unfold Obligations.EchoDoorbell
  refine ⟨?disabled, ?header, ?receiver, ?domain, ?red, ?coloured, ?waits, ?unsealed, ?sealed, ?homeless⟩
  case disabled =>
    intro agent ep win usp e g h s he hagent hep hwin hhome husp hup hg hh hen
    subst he hg hh
    rw [exec_doorbell hagent hep hwin hhome husp hup, ringDoorbell_disabled hen]
  case header =>
    intro agent ep win usp e g h s he hagent hep hwin hhome husp hup hg hh hen hgood
    subst he hg hh
    rw [exec_doorbell hagent hep hwin hhome husp hup, ringDoorbell_bad_header hen hgood]
  case receiver =>
    intro agent ep win usp e g h s he hagent hep hwin hhome husp hup hg hh hen hgood hdst
    subst he hg hh
    rw [exec_doorbell hagent hep hwin hhome husp hup, ringDoorbell_receiver_disabled hen hgood hdst]
  case domain =>
    intro agent ep win usp e g h s he hagent hep hwin hhome husp hup hg hh hen hgood hdst hdom
    subst he hg hh
    rw [exec_doorbell hagent hep hwin hhome husp hup, ringDoorbell_other_domain hen hgood hdst hdom]
  case red =>
    intro agent ep win usp e g h s he hagent hep hwin hhome husp hup hg hh hen hgood hdst hdom hred
    subst he hg hh
    rw [exec_doorbell hagent hep hwin hhome husp hup, ringDoorbell_policed hen hgood hdst hdom]
    exact congrArg _ (if_pos (by simp [hred]))
  case coloured =>
    intro agent ep win usp e g h s he hagent hep hwin hhome husp hup hg hh hen hgood hdst hdom hcol
    subst he hg hh
    refine ⟨_, _, _, rfl, rfl, ?_⟩
    rw [exec_doorbell hagent hep hwin hhome husp hup, ringDoorbell_policed hen hgood hdst hdom]
    exact congrArg _ (if_neg (by simp [hcol]))
  case waits => exact fun _ _ _ h => echoTry_waits h
  case unsealed => exact fun _ _ _ hslot hheld => echoTry_unsealed hslot hheld
  case sealed => exact fun _ _ _ _ hslot hbusy hassigned hheld => ⟨_, rfl, echoTry_sealed hslot hbusy hassigned hheld⟩
  case homeless =>
    intro agent ep win usp s hhome
    exact exec_due_false _ _ _ (by simp [hhome])

/-! ## Delivery -/

/-- The head of an endpoint's queue is taken, its place in the egress buffer freed, and the pick noted. -/
def headTaken (s : State) (g e : Nat) (m : EchoMsg) (rest : List EchoMsg) : State :=
  (freeEg (s.modEndp e (fun x => { x with queue := rest })) g (localOf (epHier s e).homePort) 6 m.units).modSvc g
    (fun v => { v with lastServed := e, pickedAt := some s.now })

section Pick
variable {g e : Nat} {m : EchoMsg} {rest : List EchoMsg} {s : State} (hg : g < 8) (hlost : (s.gal g).lost = none)
  (hwait : launchWaits s = false) (hpicked : (s.svc g).pickedAt ≠ some s.now) (hpick : pickEcho s g = some e)
  (hqueue : (s.endp e).queue = m :: rest)
include hg hlost hwait hpicked hpick hqueue

theorem exec_echoDeliveryPick :
    exec (.echoDeliveryPick g e m.prio) s =
      (let u := headTaken s g e m rest
       let x := s.endp e
       if !epEnabled u e then .next (echoDrop u g 4 none (some e))
       else if !x.ringEn then .next (echoDrop u g 0x0B none (some e))
       else if ringUnits x - ringUsed x < m.units then .next (echoDrop u g 0x0A none (some e))
       else
         match firstLive u (e / 16) with
         | none => .next (echoDrop u g 0x0C none (some e))
         | some k =>
           if !(u.fn k 1).busMaster then .next (echoDrop u g 0x0C none (some e))
           else .next (deliverEcho u g e k (maxPayload (u.fn k 1)) m)) := by
  have hhead : (if g < 8 && (s.gal g).lost.isNone && !launchWaits s && (s.svc g).pickedAt != some s.now then pickEcho s g else none) =
      some e := (if_pos (by simp [hg, hlost, hwait, hpicked])).trans hpick
  have hexec : exec (.echoDeliveryPick g e m.prio) s = execEchoDeliveryPick g e m.prio s := rfl
  rw [hexec, execEchoDeliveryPick, hhead]
  simp only
  rw [hqueue]
  refine (if_neg (by simp)).trans ?_
  rfl

variable (hen : epEnabled (headTaken s g e m rest) e = true) (hring : (s.endp e).ringEn = true)
  (hroom : m.units ≤ ringUnits (s.endp e) - ringUsed (s.endp e))
include hen hring hroom

theorem exec_echoDeliveryPick_with_room :
    exec (.echoDeliveryPick g e m.prio) s =
      (let u := headTaken s g e m rest
       match firstLive u (e / 16) with
       | none => .next (echoDrop u g 0x0C none (some e))
       | some k =>
         if !(u.fn k 1).busMaster then .next (echoDrop u g 0x0C none (some e))
         else .next (deliverEcho u g e k (maxPayload (u.fn k 1)) m)) :=
  (exec_echoDeliveryPick hg hlost hwait hpicked hpick hqueue).trans
    ((if_neg (by simp [hen])).trans ((if_neg (by simp [hring])).trans (if_neg (Nat.not_lt.mpr hroom))))

end Pick

theorem exec_echoDeliveryPick_other {g e ep prio : Nat} {m : EchoMsg} {rest : List EchoMsg} {s : State}
    (h : pickEcho s g = none ∨ pickEcho s g = some e ∧ (s.endp e).queue = m :: rest ∧ (e ≠ ep ∨ m.prio ≠ prio)) :
    exec (.echoDeliveryPick g ep prio) s = .next s := by
  have hexec : exec (.echoDeliveryPick g ep prio) s = execEchoDeliveryPick g ep prio s := rfl
  rw [hexec, execEchoDeliveryPick]
  obtain hpick | ⟨hpick, hqueue, hother⟩ := h <;> rw [hpick]
  · rw [ite_self]
  · split
    next => rfl
    next k hk =>
      obtain rfl : e = k := by
        split at hk
        · exact Option.some.inj hk
        · exact absurd hk (by simp)
      simp only [hqueue]
      exact if_pos (by simpa using hother)

theorem exec_intDelayExpiry {agent ep t usp : Nat} {s : State} (hep : ep < 16) (hhome : homed s agent = true)
    (hold : (s.endp (16 * agent + ep)).oldest = some t)
    (husp : (if ((s.endp (16 * agent + ep)).via.map s.up).getD false then (s.endp (16 * agent + ep)).via else firstLive s agent) = some usp)
    (hint : (s.endp (16 * agent + ep)).intEn = true) (hdelay : (s.endp (16 * agent + ep)).intDelay ≠ 0)
    (hend : t + 1024 * (s.endp (16 * agent + ep)).intDelay ≤ s.now) :
    exec (.intDelayExpiry agent ep) s = .next (interrupt s (epHier s (16 * agent + ep)).home (16 * agent + ep) usp) := by
  have hexec : exec (.intDelayExpiry agent ep) s = execIntDelayExpiry agent ep s := rfl
  rw [hexec, execIntDelayExpiry]
  simp only [husp]
  rw [hold]
  exact exec_due_true _ _ _ (by simp [hep, hhome, hint, hdelay, hend])

/-- Settles O45: the checks of a picked message in order, the interrupt that was delayed, and the release of an acknowledged one. -/
theorem echoDelivery : Obligations.EchoDelivery := by
  unfold Obligations.EchoDelivery
  refine ⟨?disabled, ?noRing, ?noRoom, ?noUsp, ?delivered, ?other, ?interrupt, ?acked⟩
  case disabled =>
    intro g e m rest s u hg hlost hwait hpicked hpick hqueue hu hen
    subst hu
    exact (exec_echoDeliveryPick hg hlost hwait hpicked hpick hqueue).trans (if_pos (by rw [headTaken, hen]; rfl))
  case noRing =>
    intro g e m rest s u hg hlost hwait hpicked hpick hqueue hu hen hring
    subst hu
    exact (exec_echoDeliveryPick hg hlost hwait hpicked hpick hqueue).trans
      ((if_neg (by rw [headTaken, hen]; exact Bool.false_ne_true)).trans (if_pos (by simp [hring])))
  case noRoom =>
    intro g e m rest s u hg hlost hwait hpicked hpick hqueue hu hen hring hroom
    subst hu
    exact (exec_echoDeliveryPick hg hlost hwait hpicked hpick hqueue).trans
      ((if_neg (by rw [headTaken, hen]; exact Bool.false_ne_true)).trans ((if_neg (by simp [hring])).trans (if_pos hroom)))
  case noUsp =>
    intro g e m rest s u hg hlost hwait hpicked hpick hqueue hu hen hring hroom husp
    subst hu
    rw [exec_echoDeliveryPick_with_room hg hlost hwait hpicked hpick hqueue hen hring hroom, headTaken]
    obtain hnone | ⟨k, hk, hmaster⟩ := husp
    · simp only [hnone]
    · simp only [hk, hmaster]
      rfl
  case delivered =>
    intro g e usp m rest s u hg hlost hwait hpicked hpick hqueue hu hen hring hroom husp hmaster
    subst hu
    rw [exec_echoDeliveryPick_with_room hg hlost hwait hpicked hpick hqueue hen hring hroom, headTaken]
    simp only [husp, hmaster]
    rfl
  case other =>
    intro g e ep prio m rest s h
    exact exec_echoDeliveryPick_other h
  case interrupt =>
    intro agent ep t usp s hep hhome hold husp hint hdelay hend
    exact exec_intDelayExpiry hep hhome hold husp hint hdelay hend
  case acked =>
    intro g s hg
    exact exec_due_true _ _ _ (by simp [hg])

/-! ## Check-value slots -/

theorem slotWrite_idle {a h : Nat} {s : State} (w : SlotWr) (hassigned : assigned s a h = true) (hidle : (s.ctx a h).busy = false) :
    slotWrite s a h w = applyWr s a h w :=
  (if_neg (by simp [hassigned])).trans (if_neg (by simp [hidle]))

section Scan
variable {agent slot : Nat} {s : State} (hbusy : (s.ctx agent slot).busy = true) (hhome : (s.cfg.hier agent).homeless = false)
include hbusy hhome

theorem exec_scanLineArrival_lost :
    exec (.scanLineArrival agent ⟨slot, true⟩) s =
      .next (endScan (s.modCtx agent slot (ctxLost (s.cfg.check agent slot).alg)) agent slot 6) :=
  (if_neg (by simp [hbusy, hhome])).trans (if_pos rfl)

theorem exec_scanLineArrival_unbound (hbound : scanBound s agent (s.ctx agent slot).scanGrotto = false) :
    exec (.scanLineArrival agent ⟨slot, false⟩) s = .next (endScan s agent slot 4) :=
  (if_neg (by simp [hbusy, hhome])).trans ((if_neg Bool.false_ne_true).trans (if_pos (by simp [hbound])))

theorem exec_scanLineArrival_line {i : Nat} {l : ScanLine} (hbound : scanBound s agent (s.ctx agent slot).scanGrotto = true)
    (hline : (s.ctx agent slot).arrived.find? (fun e => e.1 == (s.ctx agent slot).scanNext) = some (i, l)) :
    exec (.scanLineArrival agent ⟨slot, false⟩) s = .next (feedLine s agent slot i l) := by
  refine (if_neg (by simp [hbusy, hhome])).trans ((if_neg Bool.false_ne_true).trans ((if_neg (by simp [hbound])).trans ?_))
  rw [hline]

end Scan

/-- Settles O47: the operations of an idle slot, the writes to a busy one, and the lines and ends of a scan. -/
theorem checkSlots : Obligations.CheckSlots := by
  unfold Obligations.CheckSlots
  refine ⟨?feed, ?start, ?sealed, ?verify, ?fresh, ?scan, ?waits, ?ignored, ?line, ?ends⟩
  case feed =>
    intro agent slot off bytes lost s hassigned hidle
    refine (congrArg Host.Outcome.next (slotWrite_idle _ hassigned hidle)).trans ?_
    cases lost
    · cases [1, 2, 4, 8].contains bytes.length && off % bytes.length == 0 && decide (off + bytes.length ≤ 256) <;> rfl
    · rfl
  case start =>
    intro agent slot lost s hassigned hidle
    refine (congrArg Host.Outcome.next (slotWrite_idle _ hassigned hidle)).trans ?_
    cases lost <;> rfl
  case sealed =>
    intro agent slot short lost s hassigned hidle
    refine (congrArg Host.Outcome.next (slotWrite_idle _ hassigned hidle)).trans ?_
    cases lost <;> rfl
  case verify =>
    intro agent slot short lost s hassigned hidle
    refine (congrArg Host.Outcome.next (slotWrite_idle _ hassigned hidle)).trans ?_
    cases lost <;> rfl
  case fresh => exact fun _ _ => ⟨rfl, rfl⟩
  case scan =>
    intro agent slot s hassigned hidle
    exact congrArg Host.Outcome.next (slotWrite_idle .scan hassigned hidle)
  case waits =>
    intro agent slot w s hassigned hbusy
    exact (if_neg (by simp [hassigned])).trans (if_pos hbusy)
  case ignored =>
    intro agent slot w s hassigned
    exact if_pos (by simp [hassigned])
  case line =>
    intro agent slot i l s hbusy hhome hbound hline
    refine (exec_scanLineArrival_line hbusy hhome hbound hline).trans ?_
    cases l
    case data bs =>
      simp only [feedLine, State.modCtx_self]
      rfl
    all_goals rfl
  case ends =>
    intro agent slot lost s hbusy hhome h
    cases lost
    · exact exec_scanLineArrival_unbound hbusy hhome (h.resolve_left Bool.false_ne_true)
    · exact exec_scanLineArrival_lost hbusy hhome

end Sys2Proof.Machine
end

section
/-!
PROOFS. Drains, recalls and generation holds of grottos (R183 to R188, R201), and the sanitise, twin copies, resync and removal of
windows (R190 to R200).
-/

namespace Sys2Proof.Machine

/-! ## Grottos -/

theorem exec_drainEnd {grotto gen : Nat} {v : LiveGen} {s : State} (hdrain : drainOf s grotto gen = some v) (hcount : v.count = 0)
    (hsweep : v.sweepDone = true) : exec (.drainEnd grotto gen) s = .next (endDrain s grotto v 1) := by
  have hexec : exec (.drainEnd grotto gen) s = execDrainEnd grotto gen s := rfl
  rw [hexec, execDrainEnd, hdrain]
  exact exec_due_true _ _ _ (by simp [hcount, hsweep])

theorem exec_drainTimeout {grotto gen : Nat} {v : LiveGen} {s : State} (hdrain : drainOf s grotto gen = some v)
    (hend : v.deadline ≤ s.now) :
    exec (.drainTimeout grotto gen) s =
      .next (endDrain (s.modGr grotto (fun x => { x with holds := x.holds ++ [(gen, s.now + 16000000)] })) grotto v 2) := by
  have hexec : exec (.drainTimeout grotto gen) s = execDrainTimeout grotto gen s := rfl
  rw [hexec, execDrainTimeout, hdrain]
  exact exec_due_true _ _ _ (decide_eq_true hend)

/-! ## Windows -/

theorem exec_twinWriteComplete {g id copy port : Nat} {o : DevOut} {a : DevAcc} {s : State} (ok : Bool)
    (ha : s.dir.accs.find? (fun a => a.use == .copy g id copy) = some a) (ho : outAt s a.id = some (port, o)) :
    exec (.twinWriteComplete g id copy ok) s =
      if ok then .next (bindAll (accessEnd (takeOut s port a.id) a true [] false))
      else due (decide (o.sentAt + devLimit s port ≤ s.now)) s
        (bindAll (serveAllTwins (accessEnd (loseDevice (noteTimeout (takeOut s port a.id) port) port) a false [] false))) := by
  have hexec : exec (.twinWriteComplete g id copy ok) s = execTwinWriteComplete g id copy ok s := rfl
  rw [hexec, execTwinWriteComplete, ha]
  simp only [completeAccess, ho]

theorem resyncOver_lost {win : Nat} {s : State} (h : ((s.win win).exts.any (fun e => e.2.lost == 1 || e.2.lost == 2)) = true) :
    resyncOver s win = s :=
  if_pos h

theorem resyncOver_whole {win : Nat} {e : Nat × Nat × Nat} {s : State}
    (hwhole : ((s.win win).exts.any (fun e => e.2.lost == 1 || e.2.lost == 2)) = false) (hsome : (s.win win).resynced ≠ [])
    (he : (extents (s.cfg.win win)).find? (fun e => (s.win win).resynced.contains e.1) = some e) :
    resyncOver s win = raise (s.modWin win (fun v => { v with resynced := [] })) (1260 + galOf e.2.1) evTwinResynced 0 (coreIsl (galOf e.2.1))
      (evData (leBytes 1 0 ++ leBytes 1 0 ++ leBytes 2 win ++ leBytes 2 0 ++ leBytes 2 (sat 16 (s.win win).resynced.length)) s.drip) := by
  have hempty : (s.win win).resynced.isEmpty = false := by simpa using hsome
  refine (if_neg (by simp only [hwhole]; exact Bool.false_ne_true)).trans ?_
  simp only [hempty, Bool.false_eq_true, if_false, he, Option.map_some, Option.getD_some]

theorem exec_windowSweepStep {win g sl set : Nat} {r : Removed} {s : State} (hr : removedOf s win = some r)
    (hshared : r.cfg.shared = true) (hact : (activeSlices s).contains (g, sl) = true)
    (hmay : sweepMay (tget 0 r.sweep (sweepKey s g sl)) set (removeHits s r g sl) = true)
    (hidle : (((sweepEntries s g sl set).filter (fun h => inRemoved r g h.2.key)).all (fun h => h.2.txn.isNone)) = true) :
    exec (.windowSweepStep win g sl set) s =
      (let u : State := { s with mem := { s.mem with
         removed := replaceFirst (fun x => x.win == win) (fun _ => { r with sweep := tput 0 r.sweep (sweepKey s g sl) (set + 1) })
           s.mem.removed } }
       .next (forEach ((orphans s r g sl).filter (fun l => keySet l.key == set))
         (forEach ((sweepEntries s g sl set).filter (fun h => inRemoved r g h.2.key)) u (fun v h =>
           progress (startEvict v g h.1 h.2 .removed none (evictTargets v g h.2)) g h.1 h.2.key)) (removeOrphan g sl))) := by
  have hexec : exec (.windowSweepStep win g sl set) s = execWindowSweepStep win g sl set s := rfl
  rw [hexec, execWindowSweepStep, hr]
  exact exec_due_true _ _ _ (by simp only [hshared, hact, hmay, hidle, Bool.and_self])

theorem exec_windowRemoveSweepEnd {win : Nat} {r : Removed} {s : State} (hr : removedOf s win = some r)
    (hswept : ((activeSlices s).all (fun p => (removeHits s r p.1 p.2).isEmpty)) = true)
    (hheld : (s.mem.twins.any (fun e => e.2.any (fun t => t.win == win)) ||
      s.mem.twinWait.any (fun e => e.2.any (fun p => inRemoved r e.1 (keyOf (64 * p.dstGal + p.dstPort) p.addr)))) = false) :
    exec (.windowRemoveSweepEnd win) s = .next (forEach (List.range 8)
      { s with mem := { s.mem with removed := removeFirst (fun x => x.win == win) s.mem.removed } } endBlind) := by
  have hexec : exec (.windowRemoveSweepEnd win) s = execWindowRemoveSweepEnd win s := rfl
  rw [hexec, execWindowRemoveSweepEnd, hr]
  exact exec_due_true _ _ _ (by simp only [hswept, hheld]; rfl)

/-- Settles O49: how each operation of grottos and windows goes on, and when it ends. -/
theorem grottosAndWindows : Obligations.GrottosAndWindows := by
  unfold Obligations.GrottosAndWindows
  refine ⟨?drained, ?timedOut, ?hold, ?recallStep, ?recallLine, ?recallEnd, ?sanitised, ?sanitiseFailed, ?twinGood, ?twinFailed, ?block,
    ?resynced, ?stillLost, ?whole, ?removeStep, ?removed⟩
  case drained =>
    intro grotto gen v s hdrain hcount hsweep
    exact exec_drainEnd hdrain hcount hsweep
  case timedOut =>
    intro grotto gen v s hdrain hend
    exact exec_drainTimeout hdrain hend
  case hold =>
    intro grotto gen s h
    exact exec_due_true _ _ _ h
  case recallStep =>
    intro grotto g sl set es s hon hact hmay hes hidle
    subst hes
    exact ⟨_, rfl, exec_due_true _ _ _ (by simp only [hon, hact, hmay, hidle, Bool.and_self])⟩
  case recallLine => exact fun _ _ _ _ _ => ⟨_, rfl, rfl⟩
  case recallEnd =>
    intro grotto s hon hdone
    exact ⟨_, _, rfl, rfl, exec_due_true _ _ _ (by simp only [hon, hdone, Bool.and_self])⟩
  case sanitised =>
    intro win s hst hwritten
    exact exec_due_true _ _ _ (by simp [hst, hwritten])
  case sanitiseFailed =>
    intro win s hst hgone
    exact exec_due_true _ _ _ (by simp [hst, hgone])
  case twinGood =>
    intro g id copy port o a s ha ho
    exact exec_twinWriteComplete true ha ho
  case twinFailed =>
    intro g id copy port o a s ha ho
    refine (exec_twinWriteComplete false ha ho).trans ?_
    simp [due]
  case block =>
    intro win ext x s hx hon hp hlines
    subst hx
    exact ⟨_, rfl, exec_due_true _ _ _ (by simp [hon, hp, hlines])⟩
  case resynced =>
    intro win ext s hres hp
    exact ⟨_, _, rfl, rfl, exec_due_true _ _ _ (by simp [hres, hp])⟩
  case stillLost =>
    intro win s h
    exact resyncOver_lost h
  case whole =>
    intro win e s hwhole hsome he
    exact resyncOver_whole hwhole hsome he
  case removeStep =>
    intro win g sl set r es s hr hes hshared hact hmay hidle
    subst hes
    exact ⟨_, _, rfl, rfl, exec_windowSweepStep hr hshared hact hmay hidle⟩
  case removed =>
    intro win r s hr hswept hheld
    exact exec_windowRemoveSweepEnd hr hswept hheld

end Sys2Proof.Machine
end

section
/-!
PROOFS. Heartbeats, failures and restarts of the two clusters (R276 to R279, R343 to R346).
-/

namespace Sys2Proof.Machine

theorem exec_startingEnd {s : State} (hboot : s.mgmt.boot = .starting) (hdown : s.mgmt.bothDown = false) (hmgmt : s.mgmt.mgmtRst = false)
    (hcold : s.mgmt.coldRst = false) :
    exec .startingEnd s =
      (let n := if (s.cluster 0).st = .failed then 1 else 0
       let u := startRunning s n
       .next (tryResetReply (endOps (if (u.cluster (1 - n)).st = .failed then u
         else u.modCluster (1 - n) (fun c => { c with st := .standby, beat := true, missed := 0 }))))) := by
  refine (if_neg (by simp [hboot, hdown, hmgmt, hcold])).trans ?_
  simp only [beq_iff_eq]

/-- A cluster that runs has missed its fifth heartbeat in a row. -/
def beatLost (u : State) (n : Nat) : Bool :=
  clusterRuns u n && decide (5 ≤ (u.cluster n).missed)

theorem beatLost_iff (u : State) (n : Nat) : beatLost u n = true ↔ clusterRuns u n = true ∧ 5 ≤ (u.cluster n).missed := by
  simp [beatLost]

theorem exec_heartbeatIntervalEnd {s : State} (hfw : firmwareUp s = true) (hnew : s.drip / 800000 ≠ s.mgmt.hbInterval) :
    exec .heartbeatIntervalEnd s =
      (let u := beatEnd (beatEnd { s with mgmt := { s.mgmt with hbInterval := s.drip / 800000 } } 0) 1
       .next (if beatLost u 0 then (if beatLost u 1 then goDown (noteFailure (noteFailure u 0) 1) else failCluster u 0 1)
         else if beatLost u 1 then failCluster u 1 1 else u)) := by
  refine (if_neg (by simp [hfw, hnew])).trans (congrArg Host.Outcome.next ?_)
  generalize beatEnd (beatEnd { s with mgmt := { s.mgmt with hbInterval := s.drip / 800000 } } 0) 1 = u
  have hlost (n : Nat) : (clusterRuns u n && decide (5 ≤ (u.cluster n).missed)) = beatLost u n := rfl
  simp only [hlost]
  cases beatLost u 0 <;> cases beatLost u 1 <;> rfl

/-- The standby takes the token from cluster `n`: the management plane is reset, and it is the active cluster. -/
def tokenMoved (u : State) (n : Nat) : State :=
  (planeReset { u with mgmt := { u.mgmt with token := 1 - n, starts := sat 16 (u.mgmt.starts + 1) } }).modCluster (1 - n)
    (fun c => { c with st := .active })

section Failure
variable {n : Nat} {s : State} (cause : Nat)

theorem failCluster_of_standby (htoken : n ≠ (noteFailure s n).mgmt.token) :
    failCluster s n cause = raiseTakeover (noteFailure s n) 4 n 0 0 0 (failuresOf (noteFailure s n) n) :=
  if_pos (by simp [htoken])

theorem failCluster_takeover (htoken : n = (noteFailure s n).mgmt.token) (hstandby : ((noteFailure s n).cluster (1 - n)).st = .standby) :
    failCluster s n cause =
      raiseTakeover (endOps (tokenMoved (noteFailure s n) n)) cause n (tokenMoved (noteFailure s n) n).mgmt.closedByReset
        (tokenMoved (noteFailure s n) n).mgmt.journal.length (opsToEnd (tokenMoved (noteFailure s n) n))
        (failuresOf (tokenMoved (noteFailure s n) n) n) := by
  rw [failCluster]
  generalize noteFailure s n = u at htoken hstandby
  exact (if_neg (by simp [← htoken])).trans (if_pos (by simp [hstandby]))

theorem failCluster_last (htoken : n = (noteFailure s n).mgmt.token) (hstandby : ((noteFailure s n).cluster (1 - n)).st ≠ .standby) :
    failCluster s n cause = goDown (noteFailure s n) :=
  (if_neg (by simp [← htoken])).trans (if_neg (by simp [hstandby]))

end Failure

theorem exec_bothRestarted {cluster : Nat} {s : State} (hdown : s.mgmt.bothDown = true) (hmgmt : s.mgmt.mgmtRst = false)
    (hcold : s.mgmt.coldRst = false) (hboot : s.mgmt.boot = .starting) (hcluster : cluster < 2) (hst : (s.cluster cluster).st ≠ .failed) :
    exec (.bothRestarted cluster) s =
      (let u := startRunning s cluster
       .next (tryResetReply
         (raiseTakeover (endOps u) 5 255 u.mgmt.closedByReset u.mgmt.journal.length (opsToEnd u) (failuresOf u cluster)))) :=
  if_neg (by simp [hdown, hmgmt, hcold, hboot, hcluster, hst])

/-- Settles O52: the start of firmware, heartbeats, the failure of either cluster, and restarts. -/
theorem clustersAndFirmware : Obligations.ClustersAndFirmware := by
  unfold Obligations.ClustersAndFirmware
  refine ⟨?started, ?beat, ?interval, ?counted, ?report, ?takeover, ?last, ?standby, ?ready, ?restarted⟩
  case started =>
    intro s hboot hdown hmgmt hcold
    exact ⟨_, _, rfl, rfl, exec_startingEnd hboot hdown hmgmt hcold⟩
  case beat =>
    intro cluster s hcluster hruns hfw
    exact exec_due_true _ _ _ (by simp [hcluster, hruns, hfw])
  case interval =>
    intro s u hfw hnew hu
    subst hu
    rw [exec_heartbeatIntervalEnd hfw hnew]
    simp only [beatLost_iff]
  case counted =>
    intro n s hruns
    exact if_pos hruns
  case report =>
    intro cluster ecc s hcluster hruns hfw
    exact exec_due_true _ _ _ (by simp [hcluster, hruns, hfw])
  case takeover =>
    intro n cause s u hu htoken hstandby
    subst hu
    exact ⟨_, _, rfl, rfl, failCluster_takeover cause htoken hstandby⟩
  case last =>
    intro n cause s u hu htoken hstandby
    subst hu
    exact failCluster_last cause htoken hstandby
  case standby =>
    intro n cause s u hu htoken
    subst hu
    exact failCluster_of_standby cause htoken
  case ready =>
    intro cluster s hcluster hfw htoken hst hkept
    exact ⟨_, rfl, exec_due_true _ _ _ (by simp [hcluster, hfw, htoken, hst, hkept])⟩
  case restarted =>
    intro cluster s hdown hmgmt hcold hboot hcluster hst
    exact ⟨_, rfl, exec_bothRestarted hdown hmgmt hcold hboot hcluster hst⟩

end Sys2Proof.Machine
end

section
/-!
PROOFS. Event records, notices, idle sessions and the arming of a commit (R314, R318, R350 to R353), Lantern frames, counter sweeps,
wraps, samples and loopback tests (R346, R355 to R368).
-/

namespace Sys2Proof.Machine

/-! ## Events -/

theorem exec_eventRecordArrival {i : Nat} {r : EvRec} {s : State} (hr : s.ev.inbound[i]? = some r)
    (hfirst : ((s.ev.inbound.take i).any (fun x => x.source == r.source)) = false) (hdata : dataAhead s (islandDie r.isl) r.drip = false) :
    exec (.eventRecordArrival i) s = .next (arriveEvent { s with ev := { s.ev with inbound := s.ev.inbound.eraseIdx i } } r) := by
  have hexec : exec (.eventRecordArrival i) s = execEventRecordArrival i s := rfl
  rw [hexec, execEventRecordArrival, hr]
  exact exec_due_true _ _ _ (by simp only [hfirst, hdata, Bool.not_false, Bool.and_self])

theorem arriveEvent_suppressed {i : Nat} {r : EvRec} {s : State} (h : suppressor s r = some i) :
    arriveEvent s r = { s with ev := { s.ev with
      masks := tmod {} s.ev.masks i (fun m => { m with suppressed := (m.suppressed + 1) % 2 ^ 64 }) } } := by
  rw [arriveEvent, h]

theorem arriveEvent_unsuppressed {r : EvRec} {s : State} (h : suppressor s r = none) :
    arriveEvent s r =
      if s.ev.queue.length < 4095 then enterQueue s r false
      else if lostOpen s then
        { s with ev := { s.ev with queue := s.ev.queue.dropLast ++ (s.ev.queue.getLast?.map (fun e => (e.1, countLost r e.2))).toList } }
      else enterQueue s (lostRecord s r) true := by
  rw [arriveEvent, h]

/-- The last notice is at least 1 ms old, or there was none. -/
theorem exec_eventNotice {s : State} (hnew : s.ev.newSince = true)
    (hold : s.ev.lastNotice = none ∨ ∃ t, s.ev.lastNotice = some t ∧ t + 800000 ≤ s.now) :
    exec .eventNotice s =
      .next { (draw (draw s).2).2 with ev := { (draw (draw s).2).2.ev with
        newSince := false, lastNotice := some s.now
        notices := s.ev.notices ++
          [{ i3cA := bitOf (draw s).1 0, i3cB := bitOf (draw (draw s).2).1 0, msi := (s.fn s.mgmt.bootPort mgmtFn).msixOn }] } } := by
  refine exec_due_true _ _ _ ?_
  obtain hnone | ⟨t, hsome, htime⟩ := hold
  · simp only [hnew, hnone, Bool.and_self]
  · simp only [hnew, hsome, decide_eq_true htime, Bool.and_self]

theorem exec_sessionIdleTimeout {n : Nat} {x : Sess} {s : State} (hn : n < 8) (hx : s.sess n = some x)
    (hidle : x.lastAt + x.idleS * 800000000 ≤ s.now) : exec (.sessionIdleTimeout n) s = .next (closeSession s n) := by
  have hexec : exec (.sessionIdleTimeout n) s = execSessionIdleTimeout n s := rfl
  rw [hexec, execSessionIdleTimeout, if_pos hn, hx]
  exact exec_due_true _ _ _ (decide_eq_true hidle)

section Commit
variable {c : Commit} {s : State} (hc : s.proto.commit = some c) (hposted : c.posted = false)
include hc hposted

theorem exec_commitShadowsPosted (hfw : firmwareUp s = true) (htime : s.drip + 1024 ≤ c.at_)
    (hlaunch : c.asked ≠ 0 ∨ nextLaunch s.drip = c.at_) (hwrites : writesFor s (touched s c.cmds) = false) :
    exec .commitShadowsPosted s = .next (armCommit s c) := by
  have hexec : exec .commitShadowsPosted s = execCommitShadowsPosted s := rfl
  have hmay : mayPost s c = true := by simpa [mayPost, htime] using hlaunch
  rw [hexec, execCommitShadowsPosted, hc]
  exact exec_due_true _ _ _ (by simp [hposted, hfw, hmay, hwrites])

theorem exec_commitLateCancel (hlate : c.at_ ≤ s.drip + 1024) : exec .commitLateCancel s = .next (endCommit s c 1) := by
  have hexec : exec .commitLateCancel s = execCommitLateCancel s := rfl
  rw [hexec, execCommitLateCancel, hc]
  exact exec_due_true _ _ _ (by simp [hposted, hlate])

end Commit

/-- Settles O53: what becomes of a record that arrives, a notice, an idle session, and a commit that is posted in time or late. -/
theorem eventsNoticesAndCommits : Obligations.EventsNoticesAndCommits := by
  unfold Obligations.EventsNoticesAndCommits
  refine ⟨?arrival, ?entered, ?overflow, ?overflowOpen, ?suppressed, ?notice, ?idle, ?posted, ?late⟩
  case arrival =>
    intro i r s hr hfirst hdata
    exact exec_eventRecordArrival hr hfirst hdata
  case entered =>
    intro r s hnone hroom
    rw [arriveEvent_unsuppressed hnone, if_pos hroom, enterQueue]
  case overflow =>
    intro r s hnone hfull hopen
    rw [arriveEvent_unsuppressed hnone, if_neg (Nat.not_lt.mpr hfull), if_neg (by simp [hopen])]
  case overflowOpen =>
    intro r s hnone hfull hopen
    rw [arriveEvent_unsuppressed hnone, if_neg (Nat.not_lt.mpr hfull), if_pos hopen]
  case suppressed =>
    intro i r s h
    exact arriveEvent_suppressed h
  case notice =>
    intro s hnew hold
    exact ⟨_, _, _, _, rfl, rfl, exec_eventNotice hnew hold⟩
  case idle =>
    intro n x s hn hx hidle
    exact exec_sessionIdleTimeout hn hx hidle
  case posted =>
    intro c s hc hposted hfw htime hlaunch hwrites
    exact exec_commitShadowsPosted hc hposted hfw htime hlaunch hwrites
  case late =>
    intro c s hc hposted hlate
    exact exec_commitLateCancel hc hposted hlate

/-! ## Lantern -/

/-- A state with the scramblers and the bits on the lanes of Lantern as given. -/
def withLine (s : State) (scramblers : Tbl Nat) (line : List LineBlock) : State :=
  { s with lan := { s.lan with scramblers := scramblers }, out := { s.out with lanternLine := line } }

/-- A frame of `n` records is noted as sent, behind its control blocks. -/
def frameSent (v : State) (n : Nat) (frame : Bytes) (control : List Bytes) : State :=
  { v with
    lan := { v.lan with
      traces := v.lan.traces.drop 7, frameSeq := (v.lan.frameSeq + 1) % 2 ^ 32, frames := (v.lan.frames + 1) % 2 ^ 64
      sent := (v.lan.sent + n) % 2 ^ 64, dropped := 0 }
    out := { v.out with lantern := v.out.lantern ++ [frame], lanternCtl := v.out.lanternCtl ++ control } }

/-- A frame of `n` records is noted as sent, with the scramblers and the bits on the lanes as given. -/
def frameRecorded (u : State) (n : Nat) (frame : Bytes) (control : List Bytes) (scramblers : Tbl Nat) (line : List LineBlock) : State :=
  { u with
    lan := { u.lan with
      traces := u.lan.traces.drop 7, frameSeq := (u.lan.frameSeq + 1) % 2 ^ 32, frames := (u.lan.frames + 1) % 2 ^ 64
      sent := (u.lan.sent + n) % 2 ^ 64, dropped := 0, scramblers := scramblers }
    out := { u.out with lantern := u.out.lantern ++ [frame], lanternCtl := u.out.lanternCtl ++ control, lanternLine := line } }

theorem frameSent_withLine (u : State) (n : Nat) (frame : Bytes) (control : List Bytes) (scramblers : Tbl Nat) (line : List LineBlock) :
    frameSent (withLine u scramblers line) n frame control = frameRecorded u n frame control scramblers line := rfl

/-- The control blocks of a frame and then its data blocks go out. -/
def frameOnLine (u : State) (control data : List Bytes) : State :=
  sendBlocks false data (sendBlocks true control u)

theorem frameOnLine_eq (u : State) (control data : List Bytes) :
    frameOnLine u control data =
      withLine u (frameOnLine u control data).lan.scramblers (frameOnLine u control data).out.lanternLine :=
  calc frameOnLine u control data
    _ = withLine (sendBlocks true control u) (frameOnLine u control data).lan.scramblers (frameOnLine u control data).out.lanternLine :=
      sendBlocks_eq false data (sendBlocks true control u)
    _ = _ := congrArg (fun w => withLine w (frameOnLine u control data).lan.scramblers (frameOnLine u control data).out.lanternLine)
      (sendBlocks_eq true control u)

theorem exec_lanternFrame {s : State} (hon : s.cfg.traceOn = true) :
    exec .lanternFrame s =
      (let u := dropAged s
       let recs := (u.lan.traces.take 7).map (·.bytes)
       let v := frameOnLine u (controlBlocks u.lan.frameSeq) (dataBlocks (frameBytes u recs))
       .next (frameRecorded u recs.length (frameBytes u recs) (controlBlocks u.lan.frameSeq) v.lan.scramblers v.out.lanternLine)) := by
  refine (if_neg (by simp [hon])).trans ?_
  simp only [← frameSent_withLine, ← frameOnLine_eq]
  rfl

/-! ## Counters -/

/-- A sweep abandoned before it was complete is counted for each gallery. -/
def sweepAbandoned (s : State) : State :=
  if s.lan.latched.isSome then forEach (List.range 8) s (fun s g => countGal s g 23 1) else s

theorem exec_counterSweep {s : State} (hwait : launchWaits s = false) (hedge : s.drip % s.cfg.sweep = 0) (hhere : latchedHere s = false) :
    exec .counterSweep s =
      .next (forEach ((List.range 8).filter (fun g => ((sweepAbandoned s).gal g).lost.isNone))
        { sweepAbandoned s with
          lan := { (sweepAbandoned s).lan with latched := some ((sweepAbandoned s).drip, edgeValues s, latchBad (sweepAbandoned s)) } }
        (fun v g => postBurst v false (coreIsl g) (Config.snapshotAt g) (Config.snapshotLen g))) :=
  (if_neg (by simp [hwait, hhere])).trans (if_neg (by simp [hedge]))

theorem exec_counterSweep_off_edge {s : State} (hwait : launchWaits s = false) (hedge : s.drip % s.cfg.sweep ≠ 0)
    (hhere : latchedHere s = false) :
    exec .counterSweep s = .next (if sweepMissed s then { s with time := { s.time with refusals := s.time.refusals + 1 } } else s) :=
  (if_neg (by simp [hwait, hhere])).trans (if_pos (by simp [hedge]))

/-- A counter's place in its gallery after it has wrapped. -/
def wrappedProg (p : Prog) (c : ProgCfg) (k skid past : Nat) : Prog :=
  { p with
    wrapped := setBit p.wrapped k, frozen := if c.freezeAll then 255 else p.frozen
    counts := tput 0 p.counts k (if c.freezeAll then min skid past else past) }

theorem exec_counterWrap {g k : Nat} {s : State} (skid : Nat) (hg : g < 8) (hk : k < 8)
    (hwrap : 2 ^ 48 ≤ tget 0 (tget {} s.lan.progs g).counts k) :
    exec (.counterWrap g k skid) s =
      (let p := tget {} s.lan.progs g
       let c := ((tget [] s.cfg.progs g)[k]?).getD {}
       let u : State := { s with lan := { s.lan with
         progs := tput {} s.lan.progs g (wrappedProg p c k skid (tget 0 p.counts k - 2 ^ 48)) } }
       .next (if c.wrapEvent then raiseAt u (tget 0 p.wrapAt k) (1260 + g) evCounterWrap 0 (coreIsl g)
         (evData (leBytes 1 k ++ leBytes 1 c.select ++ leBytes 1 (bit c.freezeAll)) (tget 0 p.wrapAt k)) else u)) :=
  if_neg (by simpa [hg, hk] using hwrap)

theorem exec_sampleEnd {g id port : Nat} {r : SampRun} {s : State}
    (hr : (tget {} s.lan.samps g).flying.find? (fun r => r.id == id && r.port == port && r.ended) = some r) :
    exec (.sampleEnd g id port) s =
      .next (traceSample { s with lan := { s.lan with samps := tput {} s.lan.samps g { tget {} s.lan.samps g with
        flying := (tget {} s.lan.samps g).flying.filter (fun r => !(r.id == id))
        ring := (sampleBytes r :: (tget {} s.lan.samps g).ring).take 32 } } } g (sampleBytes r)) := by
  have hexec : exec (.sampleEnd g id port) s = execSampleEnd g id port s := rfl
  rw [hexec, execSampleEnd, hr]

/-- Settles O54: a frame, aged records, a sweep, a counter that wraps, and the end of a sample and of a loopback test. -/
theorem lanternAndCounters : Obligations.LanternAndCounters := by
  unfold Obligations.LanternAndCounters
  refine ⟨?frame, ?aged, ?sweep, ?late, ?readable, ?wrap, ?sample, ?loopDone, ?loopStopped⟩
  case frame =>
    intro s hon
    exact ⟨_, _, _, rfl, rfl, rfl, exec_lanternFrame hon⟩
  case aged => exact fun _ => ⟨_, rfl, rfl⟩
  case sweep =>
    intro s hwait hedge hhere
    exact ⟨_, rfl, exec_counterSweep hwait hedge hhere⟩
  case late =>
    intro s hwait hedge hhere
    exact exec_counterSweep_off_edge hwait hedge hhere
  case readable =>
    intro s hlatched hbridge
    exact exec_due_true _ _ _ (by simp only [hlatched, hbridge, Bool.and_self])
  case wrap =>
    intro g k skid v p c s hg hk hp hc hv hwrap
    subst hv hc hp
    exact ⟨_, rfl, exec_counterWrap skid hg hk hwrap⟩
  case sample =>
    intro g id port x r s hx hr
    subst hx
    exact ⟨_, rfl, exec_sampleEnd hr⟩
  case loopDone =>
    intro port bits errors s hst hbits
    exact (if_neg (by simp [hst])).trans ((if_neg Bool.false_ne_true).trans (exec_due_true _ _ _ (by simp [hbits])))
  case loopStopped =>
    intro port bits errors s hst hmode
    exact (if_neg (by simp [hst])).trans ((if_pos rfl).trans (exec_due_true _ _ _ (by simp [hmode])))

end Sys2Proof.Machine
end
